-- ==== Sys2Proof/Word.lean ====
section
/-!
DEFINITION. The words of the register map: a register is 32 bits wide (00_scope.md R4), memory
and the link are counted in bytes.
-/
namespace Sys2Proof

/-- One register word (R4). -/
abbrev Word := BitVec 32

/-- One byte. -/
abbrev Byte := BitVec 8

end Sys2Proof
end

