-- ==== Sys2Proof/Syntax.lean ====
section
/-!
DEFINITION. The 210 commands and events of spec/opcode_table.json, one constructor each, with the
operands that their rules name. The table gives no operand fields, so the operands are the
model's reading of each rule (log entry 1).
-/
namespace Sys2Proof

/-- The three accessors of the register map (15_register_map.md R432): host control port and the
two management cores. -/
inductive Who where
  | host | mc0 | mc1
  deriving DecidableEq, Repr

/-- Writer code used in ledger entries and `PLAN_COMMIT_STATUS.WRITER` (R126, R340). -/
def Who.code : Who → Nat
  | .host => 0
  | .mc0 => 1
  | .mc1 => 2

/-- What the analog side gives for one column line of one bank in one row slot (03_converter_fabric.md
R75 to R86): the comparator decisions of the HCG and LCG conversions (bit 14 is the first decision),
whether the line was overdriven, and the reset level in µV. -/
structure Conv where
  bank : Nat
  col : Int
  h : Nat
  l : Nat
  overdriven : Bool
  reset : Int
  deriving DecidableEq, Repr

/-- What a rotation step measures on one slice (R89 to R96): offsets (0.05 LSB) and gains
(1/65 536) of the two halves, the optimum tap positions, whether a raw decision is stuck, and how far its
corrected value lies from 8320 at the 8320 reference level, in 1/256 LSB (R400). -/
structure Meas where
  offset1 : Int
  gain1   : Int
  offset2 : Int
  gain2   : Int
  samp    : Int
  thr     : Int
  stuck   : Bool
  dev     : Nat := 0
  deriving DecidableEq, Repr

/-- The measurements of one group and bank in a step: the target and the other free spare. A
measurement that is absent confirms the values the window holds. -/
structure GroupMeas where
  bank   : Nat
  group  : Nat
  target : Option Meas
  spare  : Option Meas
  deriving DecidableEq, Repr

/-- The raw decisions of one repetition of a test injection on one column (R104). -/
structure TdacConv where
  col : Nat
  rep : Nat
  a   : Nat
  b   : Nat
  deriving DecidableEq, Repr

/-- What the environment keeps from taking when a fuse row is programmed (R420): the bits of each
of the two copies that do not read 1 at the normal and at the tight margin. -/
structure Burn where
  n0 : Nat := 0
  n1 : Nat := 0
  t0 : Nat := 0
  t1 : Nat := 0
  /-- The instant at which this programming step begins (R418); without one, that of the command's end. -/
  at_ : Option Nat := none
  deriving DecidableEq, Repr

/-- How far a flash or fuse operation in progress had come when a reset cut it (R404, R420, R448): whole
sectors programmed, whether the next one was in its erase and what it holds, what the directory copy holds whose
writing it cut, the fuse programming steps made, and the sections that a dump in progress had finished
(R351). -/
structure Cut where
  sectors : Nat := 0
  erasing : Bool := false
  dump    : Nat := 0
  part_   : List Byte := []
  dir     : Option (List Byte) := none
  burns   : List Burn := []
  deriving DecidableEq, Repr

/-- The result of a 1 ms window of an on-die sensor (R367): raw count and temperature in 1/64 °C. -/
structure SensorWin where
  raw  : Nat
  temp : Int
  deriving DecidableEq, Repr

/-- What one pass of an FG_CNV run measures on a slice (R393 to R396): magnitudes of the error at each
tap position (1/100 LSB; a missing position counts as the last one given), whether the sampling
error lies beyond the reach of the tap, whether a raw decision is stuck, and the fitted offset
(0.05 LSB) and gain (1/65 536). -/
structure PassMeas where
  thr    : List Nat := []
  samp   : List Nat := []
  far    : Bool := false
  stuck  : Bool := false
  offset : Int := 0
  gain   : Int := 0
  deriving DecidableEq, Repr

/-- Both passes on one slice, by 41 860·bank + 130·group + position. -/
structure SliceCal where
  slice : Nat
  p0    : PassMeas
  p1    : PassMeas
  deriving DecidableEq, Repr

/-- Both passes on one group reference entry: offsets (0.05 LSB) and gains (1/65 536). -/
structure RefCal where
  entry : Nat
  off0  : Int
  gain0 : Int
  off1  : Int
  gain1 : Int
  deriving DecidableEq, Repr

/-- The corrected value of a slice at a reference level, in 1/256 LSB (R400). -/
structure SliceLevel where
  slice : Nat
  value : Int
  deriving DecidableEq, Repr

/-- What ended a flash operation early (R319, R404): how many sectors were done before it, and whether a
closed flash gate or an error did. -/
structure FlashStop where
  sectors : Nat
  gate    : Bool
  deriving DecidableEq, Repr

/-- The light check of a DARK run (R399), in 1/4096 LSB: the mean HCG working value of the active pixels after
slice correction, and that of the black slots. -/
structure DarkLevel where
  active : Int
  black  : Int
  deriving DecidableEq, Repr

/-- A column in a DARK run (R399): means (1/4096 LSB) and test DAC slopes of both passes. -/
structure ColMeas where
  bank : Nat
  path : Nat
  col  : Int
  m0   : Int
  s0   : Nat
  m1   : Int
  s1   : Nat
  deriving DecidableEq, Repr

/-- A pixel in a DARK run: its mean LCG value after column correction less its column's, in 1/4096
LSB, in both passes. -/
structure PixMeas where
  row : Int
  col : Int
  d0  : Int
  d1  : Int
  deriving DecidableEq, Repr

/-- What the environment decides while a boot step runs (R312 to R316): the instant at which it ends,
whether a device reports an error with its DETAIL, whether the boot ledger shows an uncorrectable
word, rows that the vault sensing reads otherwise than the fuses stand (row, normal, tight) or no
row at all, the datapaths and link engines that fail their self-test, and whether a statistics
engine does. -/
structure BootIn where
  at_    : Nat := 0
  err    : Bool := false
  /-- The DRAM fails the check of a restored training record (R313). -/
  retrain : Bool := false
  detail : Nat := 0
  ecc    : Bool := false
  /-- Single-bit errors of the retained SRAM that its ECC has corrected since the step before (R314, R327). -/
  corrected : Nat := 0
  sense  : List (Nat × Nat × Nat) := []
  dead   : Bool := false
  dps    : List Nat := []
  stats  : Bool := false
  links  : Nat := 0
  /-- The engine that hangs in step TEST (R312): datapaths 0 to 81, statistics engines 82 to 89, link engines 90 to
  93. -/
  hung   : Option Nat := none
  deriving DecidableEq, Repr

/-- Who reads a register, and the bytes of the word that a core asks for (R434): `size` is 1, 2 or 4 bytes from byte
`off` on. -/
structure Reader where
  who  : Who
  off  : Fin 4 := 0
  size : Nat := 4
  deriving DecidableEq, Repr

/-- A transition at the GENLOCK input (R284): its instant, how many nanoseconds the new level holds, and whether it
rises. -/
structure PinEdge where
  at_    : Nat
  heldNs : Nat
  rising : Bool
  deriving DecidableEq, Repr

/-- A lock window of a PLL (R274): the divided VCO frequency that it counts, in kHz, and the count. -/
structure LockCount where
  div   : Nat
  count : Nat
  deriving DecidableEq, Repr

/-- The commands and events of the table. Each docstring gives the row and its rule. -/
inductive Instr where
  /-- SUB_FRAME_TICK (R41). The sequencer count reaches the next sub-frame tick; readout of the previous sub-frame starts and SFT-timed changes take effect. -/
  | subFrameTick
  /-- FRAME_TICK (R30). An SFT that is also an FT; every change due at that FT is applied before the frame starting there integrates. -/
  | frameTick
  /-- INTEGRATION_START (R43). The photodiode reset is released in every pixel at START_j after the sub-frame's SFT. -/
  | integrationStart
  /-- GLOBAL_TRANSFER (R39). The transfer sequence ends integration at e and stores the four samples of every pixel. -/
  | globalTransfer
  /-- ROW_SLOT (R75). One row slot of a readout: both banks convert one row each and the datapaths process the delivered conversion words. -/
  | rowSlot (convs : List Conv)
  /-- REFERENCE_SWITCH (R47). At SFT k + t_rd the reference DACs switch to sub-frame k's gain codes and apply the group reference entries. -/
  | referenceSwitch
  /-- READOUT_COMPLETE (R79). The last code of a readout is delivered, and the per-readout counters and eclipse/RDIST events are updated. -/
  | readoutComplete
  /-- ROTATION_EVALUATE (R91). The rotation step results are evaluated after the readout, and the measurement is accepted, rejected, voided or failed. -/
  | rotationEvaluate (meas : List GroupMeas)
  /-- FRAME_COMPLETE (R24). The last sub-frame of a frame is processed and the finished values are written to the frame buffer. -/
  | frameComplete
  /-- STAT_DELIVERY (R195). A completed statistics set is delivered to the window, the link and firmware at one MGTCLK edge. -/
  | statDelivery
  /-- FRAME_HEADER_SEND (R210). A frame or twin header packet starts on a lane of its set. -/
  | frameHeaderSend
  /-- LINE_PACKET_SEND (R212). A line packet starts on the first free lane of its set once its stripe-line is final. -/
  | linePacketSend
  /-- RECON_PACKET_SEND (R189). A reconstructed-image packet starts on the main lane set. -/
  | reconPacketSend
  /-- FRAME_TRAILER_SEND (R213). A frame trailer is sent carrying final status, the digest and the chain hash. -/
  | frameTrailerSend
  /-- STAT_PACKET_SEND (R215). A statistics packet of a delivered set starts on the main lane set. -/
  | statPacketSend
  /-- SEAL_PACKET_SEND (R227). An OPEN or SIGNED seal packet starts on its chain's lane set. -/
  | sealPacketSend
  /-- DUMP_PACKET_SEND (R216). A dump packet of 4096 dump bytes starts on the dump or main lane set. -/
  | dumpPacketSend
  /-- LANE_MARKER_SEND (R201). A lane sends a LANE block after 65 536 blocks or after its assignment changes. -/
  | laneMarkerSend
  /-- SEAL_SIGN_DONE (R226). The crypto engine finishes signing a seal statement, or fails, and the SIGNED packet becomes due. -/
  | sealSignDone (bad : Bool)
  /-- TRAIN_GO (R202). A write of 1 to LNK_CTRL.TRAIN_GO retrains all lanes, or is ignored outside STANDBY and CALIBRATE. -/
  | trainGo (who : Who) (w : Word)
  /-- LANE_OK_WRITE (R202). A write of LNK_LANE_OK bits moves lanes in TRAIN to READY or SPARE. -/
  | laneOkWrite (who : Who) (hi : Bool) (w : Word)
  /-- LANE_FAIL_REQ (R204). A write of LNK_FAIL_REQ bits declares lanes failed. -/
  | laneFailReq (who : Who) (hi : Bool) (w : Word)
  /-- LANE_DRIVER_FAULT (R204). A lane driver detects an open or shorted pair for 10 µs, and the lane is declared failed. -/
  | laneDriverFault (lane : Fin 60) (kind : Nat)
  /-- EQ_WRITE (R203). A write to LNK_EQ_p changes the lane's equaliser, or is refused if the lane is ACTIVE in capture. -/
  | eqWrite (who : Who) (lane : Fin 60) (w : Word)
  /-- LINK_DUMP_GO (R216). A write of 1 to LNK_CTRL.DUMP_GO starts sending dump bytes, or is refused. -/
  | linkDumpGo (who : Who) (w : Word)
  /-- LINK_DUMP_ABORT (R216). A write of 1 to LNK_CTRL.DUMP_ABORT ends a running dump with ABORTED. -/
  | linkDumpAbort (who : Who) (w : Word)
  /-- LINK_DUMP_DONE (R216). All requested dump packets have been sent, and the dump ends DONE. -/
  | linkDumpDone
  /-- LNK_CNT_CLR (R229). A write of 1 to LNK_CTRL.CNT_CLR clears the link counters. -/
  | lnkCntClr (who : Who) (w : Word)
  /-- LOAD_START (R125). A write of 1 to PLAN_LOAD_CTRL.START begins a data-port load of a bank, or is refused. -/
  | loadStart (who : Who) (w : Word)
  /-- LOAD_DATA_WRITE (R125). A write to PLAN_LOAD_DATA appends four image bytes to the loading bank. -/
  | loadDataWrite (who : Who) (data : Word)
  /-- LOAD_FINISH (R125). A write of 1 to PLAN_LOAD_CTRL.FINISH closes the data port and starts CHECKING. -/
  | loadFinish (who : Who) (w : Word)
  /-- LOAD_ABORT (R125). A write of 1 to PLAN_LOAD_CTRL.ABORT discards the load and returns the bank to EMPTY. -/
  | loadAbort (who : Who) (w : Word)
  /-- FLASH_GO (R125). A write of 1 to PLAN_LOAD_CTRL.FLASH_GO starts a load of a plan from boot flash. -/
  | flashGo (who : Who) (w : Word)
  /-- FLASH_HEADER_READ (R125). The 256-byte flash header has been read, and the copy either continues or the bank becomes INVALID. -/
  | flashHeaderRead (err : Bool)
  /-- FLASH_COPY_DONE (R125). IMAGE_SIZE bytes have been copied from flash, or a read error occurred, and checking starts. -/
  | flashCopyDone (err : Bool)
  /-- PLAN_CHECK_DONE (R124). All checks and signature verification of CHECKING end, and the bank becomes READY or INVALID. -/
  | planCheckDone
  /-- COMMIT_GO (R126). A write of 1 to PLAN_COMMIT_CTRL.GO requests a NEXT, FRAME or TIME commit, which becomes pending, refused or PAST. -/
  | commitGo (who : Who) (w : Word)
  /-- COMMIT_CANCEL (R130). A write of 1 to PLAN_COMMIT_CTRL.CANCEL cancels the pending commit, or sets CANCEL_LATE. -/
  | commitCancel (who : Who) (w : Word)
  /-- RIG_COMMIT_GO (R135). A write of 1 to PLAN_RIG_CTRL.GO sends a rig commit message to each target, or is refused. -/
  | rigCommitGo (who : Who) (w : Word)
  /-- RIG_COMMIT_CANCEL (R137). A write of 1 to PLAN_RIG_CTRL.CANCEL sends a cancel to every acknowledged, unfinished target. -/
  | rigCommitCancel (who : Who) (w : Word)
  /-- RIG_COMMIT (R136). A target receives a RIG_COMMIT message, treats it as a local TIME commit and answers with RIG_ACK. -/
  | rigCommit (port : Nat) (body : List Byte)
  /-- RIG_ACK (R137). The originator receives a RIG_ACK and sets the target's ACK or NAK bit. -/
  | rigAck (port : Nat) (body : List Byte)
  /-- RIG_DONE (R137). The originator receives a RIG_DONE and sets the target's DONE or FAIL bit. -/
  | rigDone (port : Nat) (body : List Byte)
  /-- RIG_CANCEL (R137). A target receives RIG_CANCEL and applies the cancel rule to its pending commit. -/
  | rigCancel (port : Nat) (body : List Byte)
  /-- RIG_COMMIT_TIMEOUT (R137). A target's acknowledgement or completion is missing 10 ms after GO or the instant, and the target is timed out. -/
  | rigCommitTimeout
  /-- SOFT_TRIG (R55). A write of 1 to TMG_CTRL.SOFT_TRIG acts as a trigger when SOFT_TRIG is the burst source. -/
  | softTrig (who : Who) (w : Word)
  /-- TRIG_EDGE (R55). A recognised edge on the TRIG input is accepted as a trigger, or ignored and counted as missed. -/
  | trigEdge (edge : Nat)
  /-- REALIGN (R54). A write of 1 to TMG_CTRL.REALIGN arms a grid restart at the next GENLOCK edge while IDLE. -/
  | realign (who : Who) (w : Word)
  /-- PRESET_LOAD (R59). A write of 1 to TMG_CTRL.PRESET_LOAD gives the next integrating frame the preset number. -/
  | presetLoad (who : Who) (w : Word)
  /-- TMG_CNT_CLR (R71). A write of 1 to TMG_CTRL.CNT_CLR clears the trigger and settling counters. -/
  | tmgCntClr (who : Who) (w : Word)
  /-- GENLOCK_EDGE (R284). A qualified GENLOCK edge updates the period and phase measurements. -/
  | genlockEdge (edge : PinEdge)
  /-- SEQUENCER_START (R53). With a plan live and PLL1 locked, the sequencer places its first FT at the phase event and enters IDLE. -/
  | sequencerStart
  /-- LIVE_GO (R67). A write of 1 to TMG_LIVE_CTRL.GO snapshots the staging entries into a pending live set after checking them. -/
  | liveGo (who : Who) (w : Word)
  /-- LIVE_COPY (R67). A write of 1 to TMG_LIVE_CTRL.COPY copies the entries in force into the staging registers. -/
  | liveCopy (who : Who) (w : Word)
  /-- RETIRE_GO (R100). A write of 1 to CNV_CTRL.RETIRE_GO requests retirement of the named slice. -/
  | retireGo (who : Who) (w : Word)
  /-- TDAC_GO (R103). A write of 1 to CNV_CTRL.TDAC_GO requests a test DAC injection, or is refused. -/
  | tdacGo (who : Who) (w : Word)
  /-- TDAC_INJECTION_START (R103). A requested injection starts in a blanking that fits it, or at once with no grid. -/
  | tdacInjectionStart
  /-- TDAC_INJECTION_DONE (R104). An injection completes and the per-column mean codes are written. -/
  | tdacInjectionDone (convs : List TdacConv)
  /-- CNV_CNT_CLR (R107). A write of 1 to CNV_CTRL.CNT_CLR clears the rotation counters. -/
  | cnvCntClr (who : Who) (w : Word)
  /-- SLICE_WINDOW_WRITE (R109). A write to a slice-correction window word is held, applied or refused by mode. -/
  | sliceWindowWrite (who : Who) (off : Nat) (v : Word)
  /-- SLICE_WORD0_READ (R109). A read of word 0 of a slice entry latches word 1 for the next access. -/
  | sliceWord0Read (r : Reader) (slice : Nat)
  /-- TAKEOVER_GO (R163). A firmware write of 1 to STR_CTRL.TAKEOVER_GO schedules a spare takeover of a stripe. -/
  | takeoverGo (who : Who) (w : Word)
  /-- RESTORE_GO (R163). A firmware write of 1 to STR_CTRL.RESTORE_GO schedules the return of a stripe to its home datapath. -/
  | restoreGo (who : Who) (w : Word)
  /-- TEST_GO (R167). A write of 1 to STR_CTRL.TEST_GO starts a 2 ms self-test of a datapath, or is refused. -/
  | testGo (who : Who) (w : Word)
  /-- DATAPATH_FAULT (R162). A datapath detects a parity or other fault, marks lines DAMAGED and may schedule a takeover. -/
  | datapathFault (dp : Fin 82) (kind : Nat)
  /-- SELFTEST_DONE (R167). A datapath self-test ends and the datapath passes or becomes FAILED. -/
  | selftestDone (pass : Bool)
  /-- SPARE_SELFTEST (R167). An idle spare datapath runs its periodic self-test every 4 s. -/
  | spareSelftest (dp : Nat) (pass : Bool)
  /-- STAT_HOLD_WRITE (R196). A write to STR_STAT_CTRL.HOLD freezes or releases the statistics window. -/
  | statHoldWrite (who : Who) (w : Word)
  /-- CENTROID_FRAME_READ (R197). A read of STR_CENT_FRAME freezes the other centroid registers until STR_CENT_FRAC is read. -/
  | centroidFrameRead (r : Reader)
  /-- LINKINFO_SEND (R233). An UP or TRAIN port sends a LINKINFO block every 10 µs. -/
  | linkinfoSend (port : Nat)
  /-- LINKINFO (R233). A LINKINFO block is received on a port and its peer fields are recorded. -/
  | linkinfo (port peerPort peerAddr : Nat) (valid : Bool) (serial : Nat)
  /-- PORT_UP (R233). A TRAIN port that has held block lock and LINKINFO for 100 µs goes UP. -/
  | portUp (port : Nat)
  /-- PORT_DOWN (R245). A port loses block lock or LINKINFO past its timeout and goes DOWN, and routes are switched. -/
  | portDown (port : Nat) (lockLost : Bool)
  /-- FABRIC_FRAME_SEND (R236). The next fabric frame starts on an egress port by class priority. -/
  | fabricFrameSend (port : Nat)
  /-- FABRIC_FRAME_FORWARD (R235). A received fabric frame not for local delivery is forwarded, or discarded. -/
  | fabricFrameForward (port : Nat) (body : List Byte)
  /-- ACK (R237). An ACK control block confirms a hop-acknowledged frame. -/
  | ack (port cls fseq : Nat)
  /-- NAK (R237). A NAK control block causes the frame to be sent again. -/
  | nak (port cls fseq : Nat)
  /-- HOP_ACK_TIMEOUT (R237). No ACK 20 µs after a control or bulk frame, and the frame is repeated or discarded. -/
  | hopAckTimeout (port : Nat)
  /-- PROBE (R240). A PROBE is re-sent on the next port of its path or answered with REPORT. -/
  | probe (port : Nat) (body : List Byte)
  /-- REPORT (R240). A REPORT travels back and, at the root, adds a device or a link to the graph. -/
  | report (port : Nat) (body : List Byte)
  /-- PROBE_TIMEOUT (R240). A probe without a REPORT after 100 µs is resent, or abandoned. -/
  | probeTimeout
  /-- ASSIGN (R243). A device applies its address, routes and tree ports and answers ASSIGN_ACK. -/
  | assign (port : Nat) (body : List Byte)
  /-- ASSIGN_ACK (R244). The root records an ASSIGN_ACK from a device. -/
  | assignAck (port : Nat) (body : List Byte)
  /-- LINK_EVENT (R245). The root removes or adds a link and recomputes tables. -/
  | linkEvent (port : Nat) (body : List Byte)
  /-- PARTITION (R246). A device learns it is cut off from the root and sets PARTITIONED. -/
  | partition (port : Nat) (body : List Byte)
  /-- DISC_GO (R240). A write of 1 to FAB_CTRL.DISC_GO makes the device elected root and starts discovery. -/
  | discGo (who : Who) (w : Word)
  /-- YIELD (R241). A write of 1 to FAB_CTRL.YIELD makes a root give up its role. -/
  | yield (who : Who) (w : Word)
  /-- FIRMWARE_CONTROL_MESSAGE (R239). A control message with MSG 0x0100–0x01FF is delivered to MC1 unchanged. -/
  | firmwareControlMessage (port : Nat) (body : List Byte)
  /-- EVENT_SUMMARY (R347). A received EVENT_SUMMARY is stored in the rig-summary window, or discarded. -/
  | eventSummary (port : Nat) (body : List Byte)
  /-- PROXY_FRAGMENT (R249). A proxy fragment is admitted, queued, forwarded or discarded. -/
  | proxyFragment (port : Nat) (body : List Byte)
  /-- BULK_WRITE (R304). A BULK_WRITE message is written into the bulk window, or rejected. -/
  | bulkWrite (port : Nat) (body : List Byte)
  /-- BULK_END (R304). A BULK_END from the accepted source sets DONE and is handed to MC0. -/
  | bulkEnd (port : Nat) (body : List Byte)
  /-- BULK_WINDOW_OPEN (R304). Setting SYS_BULK_CTRL.EN checks the bulk window and opens it, or clears EN. -/
  | bulkWindowOpen (who : Who) (w : Word)
  /-- TB_INC_WRITE (R254). A write of TIME_TBk_INC_LO applies the increment pair, or refuses it. -/
  | tbIncWrite (who : Who) (tb : Fin 4) (w : Word)
  /-- STEP_GO (R254). A write of 1 to STEP_GO adds the signed step to the time base. -/
  | stepGo (who : Who) (tb : Fin 4) (w : Word)
  /-- SET_GO (R254). A write of 1 to SET_GO loads the time base from the SET registers. -/
  | setGo (who : Who) (tb : Fin 4) (w : Word)
  /-- TB_RUN_WRITE (R253). A write of TIME_TBk_CTRL.RUN starts or stops a time base. -/
  | tbRunWrite (who : Who) (tb : Fin 4) (w : Word)
  /-- TB_SEC_LO_READ (R254). A read of TIME_TBk_SEC_LO latches the whole time-base value. -/
  | tbSecLoRead (r : Reader) (tb : Fin 4)
  /-- SYNC (R259). A PTP Sync is time-stamped, corrected or stored, forwarded and delivered to MC1. -/
  | sync (port : Nat) (body : List Byte)
  /-- FOLLOW_UP (R260). A Follow_Up is corrected from its pending entry and forwarded. -/
  | followUp (port : Nat) (body : List Byte)
  /-- PTP_GENERAL_MESSAGE (R257). An Announce, Signaling or Management message is forwarded unchanged and delivered to MC1. -/
  | ptpGeneralMessage (port : Nat) (body : List Byte)
  /-- DELAY_REQ (R257). A Delay_Req or Delay_Resp is discarded and counted. -/
  | delayReq (port : Nat) (body : List Byte)
  /-- PDELAY_REQ_SEND (R261). A port sends a Pdelay_Req every 2^PD_LOG s for each enabled domain. -/
  | pdelayReqSend (port domain : Nat)
  /-- PDELAY_REQ (R261). A received Pdelay_Req is answered in hardware. -/
  | pdelayReq (port : Nat) (body : List Byte)
  /-- PDELAY_RESP (R261). A received Pdelay_Resp contributes to a peer-delay exchange. -/
  | pdelayResp (port : Nat) (body : List Byte)
  /-- PDELAY_RESP_FOLLOW_UP (R261). A Pdelay_Resp_Follow_Up completes an exchange and updates meanLinkDelay. -/
  | pdelayRespFollowUp (port : Nat) (body : List Byte)
  /-- PDELAY_TIMEOUT (R261). An exchange incomplete at the next request counts as a failure. -/
  | pdelayTimeout (port domain : Nat)
  /-- PENDING_ENTRY_EVICT (R260). A two-step pending entry older than 1 s is evicted. -/
  | pendingEntryEvict
  /-- DOMAIN_LOST_TIMEOUT (R262). No Sync for LOST_N intervals, and the domain becomes LOST. -/
  | domainLostTimeout (domain : Nat)
  /-- XCHK_SAMPLE (R265). TB0 − TB1 is sampled when TB0 passes a whole second. -/
  | xchkSample
  /-- ARM_GO (R266). A write of 1 to TIME_TPOi_CTRL.ARM_GO snapshots and arms a pulse generator. -/
  | armGo (who : Who) (tpo : Fin 8) (w : Word)
  /-- DISARM (R266). A write of 1 to TIME_TPOi_CTRL.DISARM stops a pulse generator. -/
  | disarm (who : Who) (tpo : Fin 8) (w : Word)
  /-- TPO_FIRE (R266). A pulse generator's time base reaches its instant and an edge fires. -/
  | tpoFire (tpo : Fin 8)
  /-- CAPTURE_EDGE (R268). An active edge on TRIG, GENLOCK or SYNC_IN is time-stamped into the capture queue. -/
  | captureEdge (input : Fin 3) (edge : Nat) (falling : Bool)
  /-- CAPTURE_POP (R268). A read of TIME_CAPx_POP removes the oldest entry and latches its fields. -/
  | capturePop (r : Reader) (input : Fin 3)
  /-- CAPTURE_CLEAR (R268). A write of 1 to TIME_CAPx_CTRL.CLR empties the capture queue. -/
  | captureClear (who : Who) (input : Fin 3) (w : Word)
  /-- REFCLK_MONITOR_WINDOW (R273). A 1024-cycle OSC50 window ends and the REFCLK count is judged. -/
  | refclkMonitorWindow (edges : Nat)
  /-- REFCLK_EDGE_TIMEOUT (R273). No REFCLK edge for 50 OSC50 cycles, and REFCLK is declared lost. -/
  | refclkEdgeTimeout (lastEdge : Nat)
  /-- PLL_LOCK_WINDOW (R275). A PLL lock-counter window ends, and the PLL may lock or lose lock. -/
  | pllLockWindow (pll : Fin 18) (win : LockCount)
  /-- PLL_ACQ_SLOW (R275). A PLL spends 20 ms in ACQUIRE without lock, and ACQ_SLOW is set. -/
  | pllAcqSlow (pll : Fin 18)
  /-- PLL1_ENABLE_WRITE (R276). A firmware write of CLK_CTRL.PLL1_EN enables or disables PLL1. -/
  | pll1EnableWrite (who : Who) (w : Word)
  /-- LPLL_ENABLE_WRITE (R281). A firmware write of CLK_LPLL_EN enables or disables link PLLs. -/
  | lpllEnableWrite (who : Who) (w : Word)
  /-- WRITE (R291). A host control port WRITE transaction writes words from the given address. -/
  | write (addr : Word) (data : List Word) (part : Bool)
  /-- READ (R292). A host control port READ transaction returns a token and data words. -/
  | read (addr : Word) (n : Nat) (part : Bool)
  /-- STATUS (R293). A host control port STATUS transaction returns the status byte. -/
  | status
  /-- UNKNOWN_OP (R294). A transaction with an unknown opcode is ignored and flagged. -/
  | unknownOp (op : Byte)
  /-- REGISTER_WRITE (R5). A write to a register with no behaviour of its own acts per field type. -/
  | registerWrite (who : Who) (aper : Nat) (addr : Word) (size : Nat) (v : Word)
  /-- DRAM_WINDOW_WRITE (R12). A write through a DRAM window is applied or ignored by region and mode. -/
  | dramWindowWrite (who : Who) (aper : Nat) (off : Nat) (size : Nat) (v : Word)
  /-- MODE_REQUEST (R298). A write of SYS_MODE_REQ with GO requests a mode, which is accepted, pended or refused. -/
  | modeRequest (who : Who) (w : Word)
  /-- SERVICE_UNLOCK (R300). A write to SYS_SERVICE.UNLOCK sets or clears service permission. -/
  | serviceUnlock (who : Who) (w : Word)
  /-- FW_UPDATE (R319). Mailbox command that writes a verified firmware image into the inactive slot. -/
  | fwUpdate (who : Who) (addr len : Word) (flags : Word)
  /-- FW_ACTIVATE (R320). Mailbox command that makes a verified VALID slot ACTIVE. -/
  | fwActivate (who : Who) (slot : Word)
  /-- CORE_RESTART (R324). Mailbox command that reloads one core's section while the rest keeps running. -/
  | coreRestart (who : Who) (core slot : Word)
  /-- STRIPE_TAKEOVER (R301). Mailbox command by which MC0 writes a stripe takeover. -/
  | stripeTakeover (who : Who) (stripe : Word)
  /-- STRIPE_RESTORE (R301). Mailbox command by which MC0 writes a stripe restore. -/
  | stripeRestore (who : Who) (stripe : Word)
  /-- STRIPE_TEST (R301). Mailbox command by which MC0 starts a datapath self-test. -/
  | stripeTest (who : Who) (dp : Word)
  /-- SAVE_MAPS (R301). Mailbox command that saves the slice window and maps to the calibration store. -/
  | saveMaps (who : Who)
  /-- RECOVER_WRITE (R317). Boot-ROM mailbox command that programs a recovery image into a slot. -/
  | recoverWrite (who : Who) (slot len : Word)
  /-- RECOVERY_DATA_WRITE (R317). A write to SYS_RCV_DATA appends four recovery image bytes. -/
  | recoveryDataWrite (who : Who) (data : Word)
  /-- MBOX_DONE (R301). MC0 posts a mailbox result, clears BUSY and sets MBOX_DONE. -/
  | mboxDone (stop : Option FlashStop)
  /-- RESTART_TALLY_GRACE_END (R325). 500 ms after a core restart command, its tallies stop counting as received. -/
  | restartTallyGraceEnd (core : Nat)
  /-- ALARM_FIFO_READ (R302). A read of SYS_ALARM_FIFO removes and returns the oldest alarm event. -/
  | alarmFifoRead (r : Reader)
  /-- ALARM_ACK_NONE (R302). A SYS_ALARM_ACK write with ACTION NONE acknowledges an alarm without action. -/
  | alarmAckNone (who : Who) (unit : Nat)
  /-- ALARM_ACK_TAKEOVER (R302). A SYS_ALARM_ACK write with ACTION TAKEOVER acts as a stripe takeover command. -/
  | alarmAckTakeover (who : Who) (unit : Nat)
  /-- ALARM_ACK_RETIRE (R302). A SYS_ALARM_ACK write with ACTION RETIRE acts as a slice retire command. -/
  | alarmAckRetire (who : Who) (unit : Nat)
  /-- ALARM_ACK_FAIL_LANE (R302). A SYS_ALARM_ACK write with ACTION FAIL_LANE declares a lane failed. -/
  | alarmAckFailLane (who : Who) (unit : Nat)
  /-- POWER_ON_RESET (R305). Supply rise causes a power-on reset that clears all state. -/
  | powerOnReset
  /-- SUPPLY_TRIP (R443). A rail leaves its monitor band for more than 2 µs and a power-on reset follows. -/
  | supplyTrip (outNs backNs : Nat) (cut : Cut)
  /-- PIN_RESET (R305). RESET_N held low for at least 1 µs causes a warm reset. -/
  | pinReset (lowNs : Nat) (cut : Cut)
  /-- HOST_RESET (R305). A host write of 0xA5C3 to SYS_RESET_CTRL.KEY causes a warm reset. -/
  | hostReset (w : Word) (cut : Cut)
  /-- FIRMWARE_RESET (R305). A firmware write of 0xA5C3 to SYS_RESET_CTRL.KEY causes a warm reset. -/
  | firmwareReset (mc1 : Bool) (w : Word) (cut : Cut)
  /-- RESET_RELEASE (R306). The reset hold ends, straps are sampled and MC0 starts the boot ROM in BOOT. -/
  | resetRelease (straps : Nat) (root : Bool)
  /-- BOOT_STEP (R312). A boot step finishes with an outcome and the next step, variant or fallback follows. -/
  | bootStep (b : BootIn)
  /-- DEBUG_HALT (R335). A debugger halts a core and the watchdog counts freeze. -/
  | debugHalt (core : Nat)
  /-- DEBUG_RELEASE (R335). A debugger releases a core and the watchdog counts resume. -/
  | debugRelease (core : Nat)
  /-- WDT_START (R329). A write of 1 to WDT_CTRL.START starts the watchdog. -/
  | wdtStart (who : Who) (w : Word)
  /-- WDT_LOCK (R330). A write of 1 to WDT_CTRL.LOCK sets the watchdog block lock. -/
  | wdtLock (who : Who) (w : Word)
  /-- WDT_TALLY (R331). A write to WDT_TALLY counts tallies, flags duplicates or raises an early fault. -/
  | wdtTally (who : Who) (w : Word)
  /-- WDT_WINDOW_OPEN (R328). The period count reaches c_open and the tally window opens. -/
  | wdtWindowOpen
  /-- WDT_PERIOD_END (R332). In the expiry cycle the tallies are checked, and a new period starts or the watchdog expires. -/
  | wdtPeriodEnd
  /-- WDT_HARD_TIMER_END (R334). The hard timer ends and the watchdog warm reset follows. -/
  | wdtHardTimerEnd (cut : Cut)
  /-- EVL_ACK (R344). A write to EVL_ACK acknowledges ledger entries, or sets ACK_ERR. -/
  | evlAck (who : Who) (w : Word)
  /-- EVL_FW_ENTRY (R344). A write to EVL_FW_ENTRY enters a firmware event in the ledger. -/
  | evlFwEntry (who : Who) (w : Word)
  /-- EVL_HOLDOFF_END (R345). The EVL interrupt holdoff ends and the request is reasserted if still due. -/
  | evlHoldoffEnd
  /-- EVENT_SUMMARY_SEND (R346). The device sends an EVENT_SUMMARY periodically or after a new fault. -/
  | eventSummarySend
  /-- INCIDENT_DUMP_GO (R348). A firmware write of 1 to EVL_DUMP_CTRL.GO starts an incident dump. -/
  | incidentDumpGo (who : Who) (w : Word)
  /-- INCIDENT_DUMP_COMPLETE (R351). The dump engine finishes writing a slot and marks it VALID. -/
  | incidentDumpComplete
  /-- MON_OUTPUT (R356). The monitor filter produces an output that is accumulated, invalidated or overranged. -/
  | monOutput (raw : Int)
  /-- MON_CONFIG_WRITE (R364). A write to MON_SEL or MON_FILT restarts the filter, or is refused. -/
  | monConfigWrite (who : Who) (filt : Bool) (w : Word)
  /-- MON_ACC_CLR (R361). A write to MON_ACC_CLR clears the selected channel accumulators. -/
  | monAccClr (who : Who) (w : Word)
  /-- ACC_CLR_ALL (R361). A write of 1 to MON_CTRL.ACC_CLR_ALL clears every channel accumulator. -/
  | accClrAll (who : Who) (w : Word)
  /-- MON_SUM_LO_READ (R361). A read of MON_CHc_SUM_LO latches the channel's other fields. -/
  | monSumLoRead (r : Reader) (ch : Fin 32)
  /-- MON_CAL_GO (R362). A write of 1 to MON_CTRL.CAL_GO starts a monitor self-calibration. -/
  | monCalGo (who : Who) (w : Word)
  /-- MON_CAL_DONE (R362). A monitor self-calibration ends ACCEPTED or REJECTED. -/
  | monCalDone (runs : List (Int × Int × Int × Int)) (ch7 : Int)
  /-- THM_EXT_SCAN (R363). The periodic external temperature scan interrupts the selected channel. -/
  | thmExtScan
  /-- THM_EXT_SCAN_END (R363). The external scan ends, readings update and the channel resumes. -/
  | thmExtScanEnd (phases : List (List Int))
  /-- THM_SENSOR_WINDOW (R368). A 1 ms sensor window ends and readings, conditions, state and gates are updated. -/
  | thmSensorWindow (wins : List SensorWin)
  /-- THM_GRACE_END (R374). The grace timer ends and the thermal block goes to PENDING. -/
  | thmGraceEnd
  /-- THM_CRIT_TIMER_END (R374). The CRIT timer ends and the device enters SAFE with cause THERMAL. -/
  | thmCritTimerEnd
  /-- THM_PERSIST_TIMER_END (R374). The persist timer ends and the device enters SAFE with cause THERMAL. -/
  | thmPersistTimerEnd
  /-- THM_RELEASE_TIMER_END (R374). The release timer ends and the thermal block goes to RELEASING. -/
  | thmReleaseTimerEnd
  /-- ALERT_PIN_RELEASE (R377). THERM_ALERT_N is released 100 ms after assertion, once its states are left. -/
  | alertPinRelease
  /-- THM_LOCK (R382). A write of 1 to THM_CTRL.LOCK freezes the RWL thermal fields. -/
  | thmLock (who : Who) (w : Word)
  /-- THRESHOLD_WRITE (R372). A write to THM_THR_i is applied if the thresholds stay ordered, or is ignored. -/
  | thresholdWrite (who : Who) (sensor : Fin 68) (w : Word)
  /-- GRANT (R388). A write of 1 to CAL_CTRL.GRANT grants a requested or deferred FG_CNV run. -/
  | grant (who : Who) (w : Word)
  /-- DEFER (R388). A write of 1 to CAL_CTRL.DEFER defers an FG_CNV run, up to 60 s from the request. -/
  | defer_ (who : Who) (w : Word)
  /-- RUN_GO (R386). A write of 1 to CAL_CTRL.RUN_GO requests the kinds in CAL_RUN_MASK. -/
  | runGo (who : Who) (w : Word)
  /-- CAL_ANSWER_TIMEOUT (R388). The answer timer ends and the request counts as granted. -/
  | calAnswerTimeout
  /-- CAL_DEFER_END (R388). The deferred start or the 60 s bound is reached and the run becomes GRANTED. -/
  | calDeferEnd
  /-- CAL_HOLDOFF_END (R384). The 10 s holdoff after a rejected or aborted run ends. -/
  | calHoldoffEnd
  /-- CAL_CLOCK_TIMEOUT (R385). PLL1 not locked within 1 s of CALIBRATE, and the run ends ABORTED. -/
  | calClockTimeout
  /-- FG_CNV_PASSES_DONE (R396). The two FG_CNV passes complete, and the run is accepted or rejected. -/
  | fgCnvPassesDone (slices : List SliceCal) (refs : List RefCal) (spur rms : List SliceLevel)
  /-- CAL_EQ_EYE_WRITE (R397). A write to CAL_EQ_EYE reports a lane's eye width for the current step. -/
  | calEqEyeWrite (who : Who) (w : Word)
  /-- STEP_DONE (R397). A write of 1 to CAL_EQ_CTRL.STEP_DONE ends a LINK_EQ trial step. -/
  | stepDone (who : Who) (w : Word)
  /-- CAL_EQ_STEP_TIMEOUT (R397). No STEP_DONE within 100 ms, and the LINK_EQ run ends REJECTED. -/
  | calEqStepTimeout
  /-- DARK_RUN_DONE (R399). A DARK run completes, and the maps are written or the run is rejected. -/
  | darkRunDone (light : DarkLevel) (cols : List ColMeas) (pix : List PixMeas)
  /-- CAL_SAVE_DONE (R404). A calibration store save completes, or fails. -/
  | calSaveDone (stop : Option FlashStop)
  /-- MINT (R419). Vault command that ORs data into a fuse row. -/
  | mint (who : Who) (row : Nat) (lo hi : Word)
  /-- FINALISE (R422). Vault command that computes and burns a region's finalise digest. -/
  | finalise (who : Who) (region : Nat)
  /-- CLOSE (R422). Vault command that burns the CLOSE bit of POLICY or CUSTOMER. -/
  | close_ (who : Who) (region : Nat)
  /-- REVOKE (R422). Vault command that burns a slot's revocation bit. -/
  | revoke (who : Who) (slot : Nat)
  /-- VAULT_CMD_DONE (R420). A vault command finishes programming and verification, with its result. -/
  | vaultCmdDone (burns : List Burn)
  /-- VAULT_LOCK_SET (R415). A write to VLT_LOCK_SET sets the POLICY or CUSTOMER lock. -/
  | vaultLockSet (who : Who) (w : Word)
  /-- SHADOW_OVERRIDE_WRITE (R423). A write to a VENDOR shadow word overrides a trim, or is ignored. -/
  | shadowOverrideWrite (who : Who) (word : Nat) (w : Word)
  /-- IDK_LOAD (R428). A write of 1 to SEC_CTRL.IDK_LOAD starts loading the identity key blob. -/
  | idkLoad (who : Who) (w : Word)
  /-- IDK_LOAD_DONE (R428). Key unwrap and checks finish, and the identity key is available or failed. -/
  | idkLoadDone
  /-- ATT_GO (R429). A write of 1 to SEC_CTRL.ATT_GO snapshots and queues an attestation report. -/
  | attGo (who : Who) (w : Word)
  /-- ATT_DONE (R429). The attestation report is signed and written. -/
  | attDone (bad : Bool)
  /-- CLOSE_GO (R225). A write of 1 to SEC_SEAL_CTRL.CLOSE_GO ends the open segments of both chains. -/
  | closeGo (who : Who) (w : Word)
  /-- ASSIGN_TIMEOUT (R244). At the root, an ASSIGN attempt whose ASSIGN_ACK has not arrived times out; the ASSIGN is sent again, and after 8 attempts DISC_FAIL is set and the tables already sent are kept. -/
  | assignTimeout
  deriving DecidableEq, Repr

end Sys2Proof
end

