-- ==== Sys2Proof/Config.lean ====
section
/-!
DEFINITION. What one part fixes and what the manual leaves open. A constant without a body is a
free value: nothing in Lean can evaluate it, so a statement holds whatever it is.
-/
namespace Sys2Proof.Config

/-- Time units per second: 691.2 GHz is a common multiple of every clock of the manual
(09_clocks_genlock.md R271), so each period is a whole number of units. -/
def tuPerSec : Nat := 691200000000

/-- Time units per microsecond. -/
def tuPerUs : Nat := 691200

/-- SEQCLK period, 10 ns (R41, R271). -/
def seqTU : Nat := 6912

/-- 1/256 of a SEQCLK cycle, the fraction in which P is held (R41). -/
def fracTU : Nat := 27

/-- From the end of a row slot to the delivery of its last code, 580 ns (R79). -/
def deliverTU : Nat := 400896

/-- MGTCLK period on PLL0, 400 MHz (R271). -/
def mgtTU : Nat := 1728

/-- OSC50 period at its nominal 50 MHz (R271). -/
def oscTU : Nat := 13824

/-- REFCLK period for the strap value, R272: 24, 27 or 48 MHz. The reserved value has no period
and is given the 24 MHz one; REFCLK then counts as lost (R272), so the period is never used. -/
def refTU (strap : Nat) : Nat :=
  if strap = 1 then 25600 else if strap = 2 then 14400 else 28800

/-- REFCLK frequency in kHz for the strap value (R272). -/
def refKHz (strap : Nat) : Nat :=
  if strap = 1 then 27000 else if strap = 2 then 48000 else 24000

/-- The random number generator of the crypto engine: draw `n` gives 256 bits (free value, log
entry 5). -/
opaque randomBits : Nat → Nat

/-- The fixed limits of the die-2 drivers and the match of the transfer sequence with R39, for the
body of a SEQ section: 0 when all hold, otherwise 1 more than the section offset of the record at
fault. The manual does not give the encoding of the body (R114; free value, log entry 8). -/
opaque seqFault : (section_ : List Byte) → Nat

/-- A value that the manual does not state, by the number of its log entry and the operands it
depends on (free value, log entry 10). -/
opaque openValue : (entry : Nat) → (operands : List Int) → Nat

end Sys2Proof.Config
end

