-- ==== Sys2Proof/Machine/Parts/Base.lean ====
section
/-!
DEFINITION. Modes, severities and interrupt sources shared by every block.
-/
namespace Sys2Proof.Machine

/-- Major mode (01_architecture.md R17). -/
inductive Mode where
  | boot | standby | monitor | capture | calibrate | safe
  deriving DecidableEq, Repr

/-- Code in `SYS_MODE_STATUS.CURRENT` (R326). -/
def Mode.code : Mode → Nat
  | .boot => 0 | .standby => 1 | .monitor => 2 | .capture => 3 | .calibrate => 4 | .safe => 5

/-- SAFE causes (R318, R326). -/
inductive SafeCause where
  | tjMax | thermal | refclk | boot
  deriving DecidableEq, Repr

/-- Code in `SYS_MODE_STATUS.SAFE_CAUSE` (R326). -/
def SafeCause.code : SafeCause → Nat
  | .tjMax => 1 | .thermal => 2 | .refclk => 3 | .boot => 4

/-- Severity of a ledger event (R339). -/
inductive Sev where
  | info | warn | fault
  deriving DecidableEq, Repr

/-- SEV code (R339). -/
def Sev.code : Sev → Nat
  | .info => 0 | .warn => 1 | .fault => 2

/-- Ledger class = bit of `SYS_INT_SRC` (R326, R340). -/
def clsSYS : Nat := 0
def clsCLK : Nat := 1
def clsPLAN : Nat := 2
def clsTMG : Nat := 3
def clsCNV : Nat := 4
def clsSTR : Nat := 5
def clsSTAT : Nat := 6
def clsLNK : Nat := 7
def clsFAB : Nat := 8
def clsTIME : Nat := 9
def clsMON : Nat := 10
def clsTHM : Nat := 11
def clsWDT : Nat := 12
def clsEVL : Nat := 13
def clsCAL : Nat := 14
def clsVLT : Nat := 15
def clsSEC : Nat := 16

end Sys2Proof.Machine
end

