-- ==== Sys2Proof/Machine/Parts/Cal.lean ====
section
/-!
DEFINITION. State of the calibration engine (13_calibration.md). Kinds are numbered as
`CAL_STATUS.KIND`: 1 FG_CNV, 2 LINK_EQ, 3 MON, 4 DARK.
-/
namespace Sys2Proof.Machine

/-- States of the FG_CNV handshake (R388). -/
inductive CalState where
  | idle | requested | deferred | granted | running | saving
  deriving DecidableEq, Repr

/-- Their code. -/
def CalState.code : CalState → Nat
  | .idle => 0 | .requested => 1 | .deferred => 2 | .granted => 3 | .running => 4 | .saving => 5

/-- One lane of a LINK_EQ run (R397): settings before the run, the trim in progress, the result of
the first pass, and the eye reported last. -/
structure EqLane where
  old    : Nat
  cur    : List Nat
  /-- Trial setting of the tap in step, the best position and score so far, and the direction:
  0 the start, 1 upward, 2 downward, 3 done. -/
  trial  : Nat := 0
  best   : Nat := 0
  score  : Nat := 0
  dir    : Nat := 0
  pass0  : List Nat := []
  report : Option Nat := none
  eye    : Nat := 0
  deriving DecidableEq, Repr

/-- A LINK_EQ run (R397, R398). -/
structure EqRun where
  pass   : Nat := 0
  tap    : Nat := 0
  lanes  : List (Nat × EqLane) := []
  /-- Instant of STEP_READY. -/
  ready  : Nat := 0
  steps  : Nat := 0
  deriving DecidableEq, Repr

/-- The CAL block. -/
structure Cal where
  state   : CalState := .idle
  forced  : Bool := false
  tReq    : Nat := 0
  /-- Instant at which the answer or deferral timer ends (R388). -/
  timer   : Option Nat := none
  /-- Instant of the grant, and FT m of R389 once it has passed. -/
  granted : Nat := 0
  ftM     : Option Nat := none
  /-- Start of the FG_CNV run, and the instant at which its passes completed (R390). -/
  start   : Nat := 0
  passed  : Option Nat := none
  /-- Tj_ana at the start of the run. -/
  tj0     : Option Int := none
  /-- What the passes measured (R394), and the corrected values at the 8320 level and at zero input (R400); the
  run judges them at its end (R396). -/
  slices  : List SliceCal := []
  refs    : List RefCal := []
  spur    : List SliceLevel := []
  rms     : List SliceLevel := []
  /-- Holdoff of R384: instant until which the rule raises nothing. -/
  holdoff : Option Nat := none
  tref    : Int := 0
  trefValid : Bool := false
  /-- Result fields of `CAL_RESULT`. -/
  resFg   : Nat := 0
  resEq   : Nat := 0
  resMon  : Nat := 0
  resDark : Nat := 0
  cause   : Nat := 0
  resDis  : Nat := 0
  /-- Kinds accepted and waiting, MON, DARK and LINK_EQ (R386). -/
  queue   : List Nat := []
  /-- A MON run (R383) started by this block, its start; a DARK run, its start; a LINK_EQ run. -/
  monRun  : Option Nat := none
  darkRun : Option Nat := none
  eqRun   : Option EqRun := none
  /-- A CALIBRATE run list is in progress (R387), for the boot calibration (R385), and a run of it
  was accepted. -/
  inList  : Bool := false
  /-- Kinds of the run list that have not ended (R387). -/
  list    : List Nat := []
  bootList : Bool := false
  anyOk   : Bool := false
  /-- Instant by which PLL1 must be LOCKED (R385). -/
  clockBy : Option Nat := none
  /-- A save runs (R404): for the mailbox when true. -/
  saveMbox : Bool := false
  /-- Quality registers (R400, R406). -/
  qCnv    : Nat := 0
  qRot    : Nat := 0
  qEq     : Nat := 0
  qMon    : Nat := 0
  qDark   : Nat := 0
  /-- `CAL_EQ_STATUS` after a run. -/
  eqTap   : Nat := 0
  eqSteps : Nat := 0
  /-- Calibration store (R401 to R405). -/
  unsaved : Bool := false
  gen     : Nat := 0
  defOk   : Bool := false
  lcgOk   : Bool := false
  storeQ  : Nat := 0
  storeSeq : Nat := 0
  deriving DecidableEq, Repr

end Sys2Proof.Machine
end

