-- ==== Sys2Proof/Machine/Parts/Clk.lean ====
section
/-!
DEFINITION. State of the clock block (09_clocks_genlock.md R271 to R288).
-/
namespace Sys2Proof.Machine

/-- PLL state (R275). -/
inductive PllState where
  | off | acquire | locked | hold
  deriving DecidableEq, Repr

/-- STATE code (R288). -/
def PllState.code : PllState → Nat
  | .off => 0 | .acquire => 1 | .locked => 2 | .hold => 3

/-- A window that made a PLL LOCKED or unlocked it, until its MGTCLK cycle is over (R283): the cycle, whether it set
the interrupt bit, and LOSS_CNT before it. -/
structure PllMove where
  cycle : Nat
  fresh : Bool
  loss  : Nat
  deriving DecidableEq, Repr

/-- One PLL (R274, R275). -/
structure Pll where
  state   : PllState := .off
  acqSlow : Bool := false
  /-- Deviation of the last window in ppm (R274). -/
  dev     : Int := 0
  lossCnt : Nat := 0
  /-- Consecutive windows within 100 ppm while in ACQUIRE. -/
  good    : Nat := 0
  /-- The window in progress at entry to ACQUIRE has not ended (R275). -/
  skip    : Bool := false
  /-- The last window while LOCKED was beyond 100 ppm. -/
  bad     : Bool := false
  /-- Instant of entry to ACQUIRE (R275, 20 ms). -/
  since   : Nat := 0
  /-- Instant at which its last lock window ended (R274). -/
  winAt   : Nat := 0
  /-- This stay in ACQUIRE has already lasted 20 ms (R275). -/
  told    : Bool := false
  /-- The window that last made it LOCKED or unlocked it (R283). -/
  moved   : Option PllMove := none
  deriving DecidableEq, Repr

/-- Source of a domain (R271, R277). -/
inductive ClkSrc where
  | pll | ref | osc
  deriving DecidableEq, Repr

/-- The CLK block. PLLs are numbered 0 PLL0, 1 PLL1, 2+q link PLL q. -/
structure Clk where
  /-- Strap value sampled at reset release (R272). -/
  strap    : Nat := 0
  /-- REFCLK declared present (R273). -/
  refOk    : Bool := false
  /-- REFCLK declared lost since it was last present, or since reset (R273). -/
  refLost  : Bool := false
  /-- Consecutive monitor windows within 5 % and beyond 5 % (R273). -/
  refGood  : Nat := 0
  refBad   : Nat := 0
  /-- `CLK_REF_MEAS.KHZ`. -/
  refKHz   : Nat := 0
  plls     : List (Nat × Pll) := []
  /-- Source of the PLL0 and PLL1 domains. -/
  src0     : ClkSrc := .osc
  src1     : ClkSrc := .osc
  /-- MGTCLK cycles are counted: cycle `mgtN` began at instant `mgtT`, and each lasts `mgtPer`
  (R6, R277, R279). -/
  mgtT     : Nat := 0
  mgtN     : Nat := 0
  mgtPer   : Nat := 13824
  /-- Instant at which PLL1 last entered LOCKED (R62). -/
  lock1    : Nat := 0
  /-- Instant of a SEQCLK edge since PLL1 last locked or was last aligned (R285). -/
  seqOrg   : Nat := 0
  aligned  : Bool := false
  stretch  : Nat := 0
  alignCnt : Nat := 0
  /-- Last qualified GENLOCK edge since PLL1 last locked (R284). -/
  glLast   : Option Nat := none
  /-- Last GENLOCK edge seen, for `TMG_STATUS.GL_PRESENT`. -/
  glSeen   : Option Nat := none
  glPeriod : Nat := 0
  glValid  : Bool := false
  deriving DecidableEq, Repr

end Sys2Proof.Machine
end

