-- ==== Sys2Proof/Machine/Parts/Cnv.lean ====
section
/-!
DEFINITION. State of the column converter fabric (03_converter_fabric.md R72 to R109).
-/
namespace Sys2Proof.Machine

/-- A slice-correction entry (R108). OFFSET and GAIN are held as their raw field values; AGE is the
group's step count less `acc`. -/
structure SliceEnt where
  offset : Nat := 0
  samp   : Nat := 0x20
  thr    : Nat := 0x10
  valid  : Bool := false
  failed : Bool := false
  gain   : Nat := 0
  sub    : Nat := 0xFF
  acc    : Nat := 0
  /-- Its last measurement failed (R97). -/
  bad    : Bool := false
  /-- Distance of its corrected value from 8320 at the 8320 reference level when rotation measured it last, in
  1/256 LSB (R400). -/
  dev    : Nat := 0
  deriving DecidableEq, Repr

/-- Rotation state of a group and bank (R94). -/
inductive RotState where
  | rotate | retry | hold | stopped
  deriving DecidableEq, Repr

/-- Rotation of one group and bank (R89 to R94), by key 322·bank + group. -/
structure Grp where
  state   : RotState := .rotate
  /-- Position whose turn it is, 0 to 127. -/
  pos     : Nat := 0
  /-- Active targets since the last step that targeted the free spare (R93). -/
  since   : Nat := 0
  /-- This step targets the free spare. -/
  spare   : Bool := false
  /-- A step is in progress. -/
  active  : Bool := false
  standin : Option Nat := none
  /-- Step count (R93). -/
  cnt     : Nat := 0
  /-- Conversions of the step so far, and the indices of those discarded (R92). -/
  conv    : Nat := 0
  disc    : List Nat := []
  /-- A readout of the step was SETTLING. -/
  settle  : Bool := false
  /-- The target was measured: the turn passes to the next one at the next SFT (R90, R94). -/
  ended   : Bool := false
  /-- A cycle was completed since the last increment of `CNV_ROT_CYCLES`. -/
  cycled  : Bool := false
  deriving DecidableEq, Repr

/-- A substitution that awaits its FT (R98, R100). -/
structure PendSub where
  key    : Nat
  pos    : Nat
  /-- Spare that serves the position from now on; none: by the rules of R98. -/
  spare  : Option Nat
  /-- The retire command retires under R99. -/
  force  : Bool := false
  /-- Instant of the RETIRE_GO; none for a declared failure. -/
  req    : Option Nat := none
  /-- Instant of the declaration. -/
  at_    : Nat := 0
  deriving DecidableEq, Repr

/-- A test injection (R103 to R105). -/
structure Tdac where
  ctrl  : Nat
  mask  : Nat
  tries : Nat := 0
  /-- Start instant while it runs. -/
  run   : Option Nat := none
  deriving DecidableEq, Repr

/-- What the fabric delivered in one row slot (R78): the conversions given, the groups with RDIST by
key 322·bank + group, and the eclipsed pixels as (bank, column). -/
structure SlotData where
  slot  : Nat
  convs : List Conv
  dist  : List Nat
  ecl   : List (Nat × Int)
  deriving DecidableEq, Repr

/-- The CNV block. -/
structure Cnv where
  /-- Slice entries by 41 860·bank + 130·group + position. -/
  slices   : List (Nat × SliceEnt) := []
  /-- Entries as they apply to the current readout (R30, R90, R109). -/
  now      : List (Nat × SliceEnt) := []
  grps     : List (Nat × Grp) := []
  /-- Group reference table by entry number (R108). -/
  gref     : List (Nat × Nat) := []
  /-- Entries that the reference DACs hold since their last switch (R82). -/
  grefNow  : List (Nat × Nat) := []
  /-- `CNV_CTRL.ROT_EN` and `CNV_ECLIPSE` as they apply since the last SFT (R86, R88). -/
  rotOn    : Bool := true
  ecl      : Nat := 0x132
  steps    : Nat := 0
  voids    : Nat := 0
  rejects  : Nat := 0
  cycles   : Nat := 0
  subs     : List PendSub := []
  failLast : Nat := 0
  retireResult : Nat := 0
  /-- Counts of the last completed readout, and those of the readout in progress (R87). -/
  ovrH     : Nat := 0
  ovrL     : Nat := 0
  eclCnt   : Nat := 0
  rdistCnt : Nat := 0
  runH     : Nat := 0
  runL     : Nat := 0
  runEcl   : Nat := 0
  runRdist : Nat := 0
  /-- Groups overdriven in the previous row slot (R85), by key. -/
  dist     : List Nat := []
  /-- Row slots delivered in the current readout, oldest first (R78, R86, R92). -/
  slots    : List SlotData := []
  /-- The readout that the step in progress is over is SETTLING (R92). -/
  settling : Bool := false
  /-- The steps of this interval are not yet evaluated (R88, R91). -/
  evalDue  : Bool := false
  /-- Row slot that contained a stretched SEQCLK cycle (R286). -/
  stretch  : Option Nat := none
  tdac     : Option Tdac := none
  tdacDone : Bool := false
  tdacResult : Nat := 0
  tdacReps : Nat := 0
  tdacA    : Nat := 0
  tdacB    : Nat := 0
  tdacRes  : List (Nat × Nat) := []
  /-- Words 0 held for the host port, MC0 and MC1 (R109, R436), by entry. -/
  held0    : List (Nat × Nat) := []
  held1    : List (Nat × Nat) := []
  held2    : List (Nat × Nat) := []
  /-- Word 1 latched for the next access of each accessor. -/
  latch0   : Option (Nat × Nat) := none
  latch1   : Option (Nat × Nat) := none
  latch2   : Option (Nat × Nat) := none
  /-- Entries that window writes changed in MGTCLK cycle `winCycle` (R95). -/
  winEnts  : List Nat := []
  winCycle : Nat := 0
  /-- Gain codes changed at the last switch, and its instant (R103). -/
  gainMoved : Bool := false
  switchAt : Nat := 0
  deriving DecidableEq, Repr

end Sys2Proof.Machine
end

