-- ==== Sys2Proof/Machine/Parts/Evl.lean ====
section
/-!
DEFINITION. State of the event ledger, the rig summaries and the incident dump engine
(11_supervision.md R339 to R354).
-/
namespace Sys2Proof.Machine

/-- An event as a block raises it, before it is entered in the ledger (R339, R340). -/
structure Event where
  sev    : Sev
  cls    : Nat
  code   : Nat
  unit   : Nat := 0
  detail : Nat := 0
  cont   : List Byte := []
  deriving DecidableEq, Repr

/-- A primary ledger entry (R339). -/
structure LedgerRec where
  time   : Nat
  sev    : Sev
  cls    : Nat
  code   : Nat
  unit   : Nat
  rep    : Nat
  merged : Bool
  ext    : Bool
  detail : Nat
  deriving DecidableEq, Repr

/-- One 16-byte slot of the ring: a primary entry or the data of a continuation (R339). -/
inductive LedgerSlot where
  | prim (r : LedgerRec)
  | cont (bytes : List Byte)
  deriving DecidableEq, Repr

/-- What started a dump (R350 TRIGGER). -/
inductive DumpTrigger where
  | mc0 | mc1 | watchdog
  deriving DecidableEq, Repr

/-- A dump in progress (R348 to R351). -/
structure DumpRun where
  slot    : Nat
  trigger : DumpTrigger
  arg     : Nat
  seq     : Nat
  time    : Nat
  /-- `WDT_NMI` when a start was ignored during this dump, or at the start (R348). -/
  nmi     : Nat
  /-- MGTCLK cycle of the start (R351). -/
  start   : Nat
  /-- Header bytes 0x0C to 0x13, the mode and header bytes 0x20 to 0x33 at the start (R350). -/
  pre     : List Byte
  mode    : Nat
  post    : List Byte
  /-- `SYS_CORE_STATUS.MC0` at the start (R350). -/
  core0   : Nat
  deriving DecidableEq, Repr

/-- Result of the last dump (R354 `EVL_DUMP_STATUS`). -/
inductive DumpResult where
  | none | done | noDram
  deriving DecidableEq, Repr

/-- What entering events changes: the ring, its counts and the newest FAULT (R339 to R341). -/
structure LedgerBase where
  ring       : List (Nat × LedgerSlot) := []
  head       : Nat := 0
  used       : Nat := 0
  totalFault : Nat := 0
  totalWarn  : Nat := 0
  lastFault  : Option Nat := none
  faultId    : Nat := 0
  drops      : List (Nat × Nat) := []
  deriving DecidableEq, Repr

/-- The EVL block (R339 to R354). -/
structure Evl where
  /-- The ring of 1024 slots, by index; a slot never written is absent. -/
  ring       : List (Nat × LedgerSlot) := []
  head       : Nat := 0
  used       : Nat := 0
  ackErr     : Bool := false
  intStatus  : Word := 0
  totalFault : Nat := 0
  totalWarn  : Nat := 0
  /-- Index of the newest FAULT entry (R354 `EVL_LAST_FAULT`). -/
  lastFault  : Option Nat := none
  /-- CLASS, CODE and UNIT of the newest FAULT entry, as a summary carries them (R346). -/
  faultId    : Nat := 0
  /-- `EVL_DROP_c` by class. -/
  drops      : List (Nat × Nat) := []
  /-- Events raised in the current MGTCLK cycle, not yet entered (R343). -/
  staged     : List Event := []
  /-- MGTCLK cycle of the last events entered with its TIME, those events, and the ledger before them
  (R343, R344). -/
  cycle      : Nat := 0
  cycleTime  : Nat := 0
  past       : List Event := []
  before     : LedgerBase := {}
  /-- The interrupt request as it stood after the last command (R345). -/
  req        : Bool := false
  /-- Holdoff: MGTCLK cycle of its start and of its end (R345). -/
  hold       : Option (Nat × Nat) := none
  /-- `EVL_FW_DETAIL`, one register per core (R354). -/
  fwDetail0  : Word := 0
  fwDetail1  : Word := 0
  /-- Instants of the last summary and of the last periodic one, and whether a new FAULT awaits one
  (R346). -/
  sumLast    : Option Nat := none
  sumPer     : Option Nat := none
  sumFault   : Bool := false
  /-- Summaries received, window bytes from 0x0038_6000 (R347). -/
  rigSum     : List Host.Cell := []
  dump       : Option DumpRun := none
  dumpResult : DumpResult := .none
  dumpSlot   : Nat := 0
  dumpSecs   : Nat := 0
  deriving DecidableEq, Repr

end Sys2Proof.Machine
end

