-- ==== Sys2Proof/Machine/Bits.lean ====
section
/-!
DEFINITION. Bit fields of words, little-endian byte order (00_scope.md R3, R4), signed fields,
saturating counters and rounding helpers.
-/
namespace Sys2Proof.Machine

/-- Bit `i` of a natural number. -/
def bit (n i : Nat) : Bool := n.testBit i

/-- Field of `w` bits of `n` whose lowest bit is `lo` (R3). -/
def field (n lo w : Nat) : Nat := (n >>> lo) % 2 ^ w

/-- `n` with the `w`-bit field at `lo` replaced by `v`. -/
def setField (n lo w v : Nat) : Nat :=
  n - (field n lo w) * 2 ^ lo + (v % 2 ^ w) * 2 ^ lo

/-- 1 for true, 0 for false. -/
def b2n (b : Bool) : Nat := if b then 1 else 0

/-- The value `v` placed at bit `lo`. -/
def at_ (v lo : Nat) : Nat := v * 2 ^ lo

/-- A flag placed at bit `lo`. -/
def flag (b : Bool) (lo : Nat) : Nat := if b then 2 ^ lo else 0

/-- Field of a register word. -/
def wfield (w : Word) (lo n : Nat) : Nat := field w.toNat lo n

/-- Bit of a register word. -/
def wbit (w : Word) (i : Nat) : Bool := w.toNat.testBit i

/-- A word from a natural number, modulo 2^32. -/
def mkWord (n : Nat) : Word := BitVec.ofNat 32 n

/-- The `w`-bit two's-complement reading of `n`. -/
def sext (n w : Nat) : Int :=
  let m := n % 2 ^ w
  if m < 2 ^ (w - 1) then (m : Int) else (m : Int) - (2 ^ w : Nat)

/-- The `w`-bit two's-complement writing of `i`. -/
def unsext (i : Int) (w : Nat) : Nat := (i % (2 ^ w : Nat)).toNat

/-- Clamp an integer to a range. -/
def clampI (lo hi i : Int) : Int := if i < lo then lo else if hi < i then hi else i

/-- A counter of `w` bits that saturates. -/
def satAdd (n k w : Nat) : Nat := min (n + k) (2 ^ w - 1)

/-- A counter of `w` bits that wraps. -/
def wrapAdd (n k w : Nat) : Nat := (n + k) % 2 ^ w

/-- Division rounded to nearest, halves upward. -/
def divRound (a b : Int) : Int := if b = 0 then 0 else (2 * a + b) / (2 * b)

/-- Division of naturals rounded up. -/
def divUp (a b : Nat) : Nat := if b = 0 then 0 else (a + b - 1) / b

/-- Byte `i` (0 the least significant) of `n`. -/
def byteOf (n i : Nat) : Byte := BitVec.ofNat 8 (n >>> (8 * i))

/-- `k` little-endian bytes of `n` (R4). -/
def leBytes (n : Nat) : Nat → List Byte
  | 0 => []
  | k + 1 => BitVec.ofNat 8 n :: leBytes (n / 256) k

/-- `k` big-endian bytes of `n`. -/
def beBytes (n k : Nat) : List Byte := (leBytes n k).reverse

/-- The natural number of little-endian bytes. -/
def ofLE : List Byte → Nat
  | [] => 0
  | b :: bs => b.toNat + 256 * ofLE bs

/-- The natural number of big-endian bytes. -/
def ofBE (l : List Byte) : Nat := ofLE l.reverse

/-- Set bits of `n` among bits 0 to `k`-1, ascending. -/
def bitsOf (n k : Nat) : List Nat := (List.range k).filter (fun i => n.testBit i)

/-- Number of set bits of `n` among bits 0 to `k`-1. -/
def popcount (n k : Nat) : Nat := (bitsOf n k).length

/-- Bitmask of a list of bit numbers. -/
def maskOf (l : List Nat) : Nat := l.foldl (fun a i => a ||| 2 ^ i) 0

end Sys2Proof.Machine
end

