-- ==== Sys2Proof/Machine/Ratio.lean ====
section
/-!
DEFINITION. Exact rational values in lowest terms, for the arithmetic that the manual defines
without rounding (05_stripe_merge.md R144, 06_shaping_colour_statistics.md R172, R182).
-/
namespace Sys2Proof.Machine

/-- A rational number in lowest terms with a positive denominator. -/
structure Q where
  num : Int := 0
  den : Nat := 1
  deriving DecidableEq, Repr

namespace Q

/-- `n / d` in lowest terms; 0 when `d` is 0. -/
def mk2 (n : Int) (d : Nat) : Q :=
  if d = 0 then { num := 0, den := 1 }
  else { num := n / (Nat.gcd n.natAbs d : Int), den := d / Nat.gcd n.natAbs d }

/-- An integer. -/
def int (n : Int) : Q := { num := n, den := 1 }

def add (a b : Q) : Q := mk2 (a.num * b.den + b.num * a.den) (a.den * b.den)

def neg (a : Q) : Q := { a with num := -a.num }

def sub (a b : Q) : Q := a.add b.neg

def mul (a b : Q) : Q := mk2 (a.num * b.num) (a.den * b.den)

/-- Divided by a positive natural number. -/
def divN (a : Q) (n : Nat) : Q := mk2 a.num (a.den * n)

def le (a b : Q) : Bool := a.num * b.den ≤ b.num * a.den

def lt (a b : Q) : Bool := a.num * b.den < b.num * a.den

def abs (a : Q) : Q := { a with num := a.num.natAbs }

/-- Held to a range. -/
def hold (lo hi a : Q) : Q := if a.lt lo then lo else if hi.lt a then hi else a

/-- Rounded to the nearest integer, ties away from zero. -/
def round (a : Q) : Int :=
  let m := (2 * a.num.natAbs + a.den) / (2 * a.den)
  if a.num < 0 then -(m : Int) else m

/-- Rounded down. -/
def floor (a : Q) : Int := a.num / a.den

/-- Sum of a list. -/
def sum (l : List Q) : Q := l.foldl add (int 0)

end Q

end Sys2Proof.Machine
end

