-- ==== Sys2Proof/Machine/Parts/Time.lean ====
section
/-!
DEFINITION. State of the time bases, the PTP domains and ports, the pulse generators and the
capture units (08_rig_fabric_and_time.md R253 to R268).
-/
namespace Sys2Proof.Machine

/-- Source of TB0 or TB1 (R264). -/
inductive TbSource where
  | own | follow | holdover
  deriving DecidableEq, Repr

/-- Its code. -/
def TbSource.code : TbSource → Nat
  | .own => 0 | .follow => 1 | .holdover => 2

/-- A time base (R253). Its value counts 2^-32 ns; between changes it is a line: `val` at MGTCLK
cycle `at_`, `eff` per cycle after it and `before` per cycle before it. -/
structure TimeBase where
  run    : Bool := false
  val    : Nat := 0
  at_    : Nat := 0
  /-- Increment in use (R264), in 2^-32 ns per 2.5 ns cycle. -/
  inc    : Nat := 0x280000000
  /-- What one MGTCLK cycle adds, bypass factor included (R255). -/
  eff    : Nat := 0x280000000 * 8
  before : Nat := 0x280000000 * 8
  /-- The last accepted pair of INC_HI and INC_LO (R254). -/
  prog   : Nat := 0x280000000
  src    : TbSource := .own
  /-- Latched values of the host port, MC0 and MC1 (R254, R436). -/
  latch0 : Nat := 0
  latch1 : Nat := 0
  latch2 : Nat := 0
  deriving DecidableEq, Repr

/-- Domain state (R263). -/
inductive DomState where
  | disabled | unqualified | qualified | disqualified | lost
  deriving DecidableEq, Repr

/-- Its code. -/
def DomState.code : DomState → Nat
  | .disabled => 0 | .unqualified => 1 | .qualified => 2 | .disqualified => 3 | .lost => 4

/-- A PTP domain (R256 to R263). Path measures are in 2^-16 ns. -/
structure Domain where
  state    : DomState := .disabled
  suspect  : Bool := false
  disqLeft : Nat := 0
  inPort   : Nat := 0
  /-- Mean of the previous complete interval since the last step (R262), and `R_ref` as the register
  shows it. -/
  ref      : Option Q := none
  refReg   : Q := {}
  last     : Int := 0
  disqCnt  : Nat := 0
  e2e      : Nat := 0
  fuUnmatched : Nat := 0
  /-- Syncs and sum of p in the interval that runs (R262). -/
  cnt      : Nat := 0
  sum      : Int := 0
  /-- MGTCLK cycle of the last accepted Sync, or of the entry to UNQUALIFIED before one (R262). -/
  lastSync : Nat := 0
  deriving DecidableEq, Repr

/-- Peer delay of one port and domain (R261). -/
structure PDelay where
  seq     : Nat := 0
  /-- Exchange in progress: t1, then t2, t3, t4 in 2^-16 ns as they are learnt. -/
  t1      : Option Int := none
  t2      : Option Int := none
  t3      : Option Int := none
  t4      : Option Int := none
  /-- Turnaround of a one-step response. -/
  turn    : Option Int := none
  /-- MGTCLK cycle of the last request. -/
  lastReq : Option Nat := none
  /-- Results of the last exchanges, newest first, at most 8. -/
  hist    : List Q := []
  /-- (t1, t3) of the last exchanges, newest first, at most 9. -/
  pairs   : List (Int × Int) := []
  mean    : Int := 0
  ratio   : Int := 0
  good    : Nat := 0
  consec  : Nat := 0
  fails   : Nat := 0
  valid   : Bool := false
  deriving DecidableEq, Repr

/-- A pending entry of a two-step Sync at an egress port (R260); `at_` is an MGTCLK cycle. -/
structure PtpPend where
  port   : Nat
  domain : Nat
  seq    : Nat
  src    : List Byte
  val    : Int
  at_    : Nat
  deriving DecidableEq, Repr

/-- What the hardware delivers to MC1 with a PTP message (R257, R262): the message, its stamp in
2^-16 ns, the path measure, the domain's state and the marks SUSPECT and BYPASS. -/
structure PtpDelivery where
  msg     : List Byte
  stamp   : Int
  path    : Int
  state   : DomState
  suspect : Bool
  bypass  : Bool
  deriving DecidableEq, Repr

/-- A pulse generator (R266, R267). Instants in 2^-32 ns of its time base. -/
structure Tpo where
  armed   : Bool := false
  start   : Nat := 0
  per     : Nat := 0
  width   : Nat := 0
  /-- Index of the next edge. -/
  m       : Nat := 0
  late    : Bool := false
  fired   : Bool := false
  /-- A past instant: the one-shot fires by this MGTCLK cycle (R267). -/
  lateAt  : Option Nat := none
  missed  : Nat := 0
  count   : Nat := 0
  /-- The last pulse of generators 0 to 3: its two edges in time units. -/
  pulse   : Option (Nat × Nat) := none
  deriving DecidableEq, Repr

/-- A capture entry: value in 2^-16 ns and the edge (R268). -/
structure CapEntry where
  val     : Nat
  falling : Bool
  deriving DecidableEq, Repr

/-- A capture unit (R268) with the popped entry each accessor holds (R436). -/
structure Cap where
  queue : List CapEntry := []
  ovf   : Nat := 0
  pop0  : Option CapEntry := none
  pop1  : Option CapEntry := none
  pop2  : Option CapEntry := none
  deriving DecidableEq, Repr

/-- The TIME block. -/
structure TimeBlk where
  tbs   : List (Nat × TimeBase) := []
  dom0  : Domain := {}
  dom1  : Domain := {}
  /-- Peer delay by 2·port + domain. -/
  pd    : List (Nat × PDelay) := []
  /-- Pending entries, oldest first. -/
  pend  : List PtpPend := []
  /-- PTP messages and stamps handed to MC1, oldest first (R257, R259). -/
  toMc1 : List PtpDelivery := []
  tpos  : List (Nat × Tpo) := []
  cap0  : Cap := {}
  cap1  : Cap := {}
  cap2  : Cap := {}
  /-- Last sample of TB0 − TB1 in 2^-32 ns (R265). -/
  xchk  : Int := 0
  xchkValid : Bool := false
  deriving DecidableEq, Repr

end Sys2Proof.Machine
end

