-- ==== Sys2Proof/Machine/Parts/Fab.lean ====
section
/-!
DEFINITION. State of the Cogon fabric: ports, queues, tables, discovery and proxies
(08_rig_fabric_and_time.md R231 to R252). Intervals are held in MGTCLK cycles (R279).
-/
namespace Sys2Proof.Machine

/-- Port states (R233). -/
inductive PortState where
  | down | train | up
  deriving DecidableEq, Repr

/-- Their code (R269). -/
def PortState.code : PortState → Nat
  | .down => 0 | .train => 1 | .up => 2

/-- What the hardware does to a time-class frame as it leaves a port (R259 to R261). Stamps are in
tenths of 2^-16 ns. -/
inductive PtpWork where
  /-- Sent as it is. -/
  | plain
  /-- A Sync in transit: domain, ingress stamp and MGTCLK cycle, and link delay with asymmetry. -/
  | sync (d : Nat) (tin : Int) (cyc : Nat) (link : Int)
  /-- A Sync that this device originates. -/
  | ownSync (d : Nat)
  /-- A Follow_Up in transit, with the value of its pending entry where that was evicted while it waited (R260). -/
  | followUp (d : Nat) (val : Option Int)
  | pdReq (d : Nat)
  /-- A Pdelay_Resp with the ingress stamp t2 of its request. -/
  | pdResp (d : Nat) (oneStep : Bool) (t2 : Int)
  deriving DecidableEq, Repr

/-- A fabric frame in an egress queue: its body without hop fields and CRC filled in, its class, the
attempts left (control), and the time-stamp work. -/
structure FabTx where
  cls   : Nat
  body  : List Byte
  tries : Nat := 8
  work  : PtpWork := .plain
  deriving DecidableEq, Repr

/-- A control or bulk frame that awaits its ACK (R237). -/
structure Unacked where
  tx    : FabTx
  fseq  : Nat
  /-- MGTCLK cycle in which it ended; none while it waits to be sent again. -/
  ended : Option Nat
  deriving DecidableEq, Repr

/-- Proxy admitted to the queue of one source at an egress port (R249). -/
structure ProxyQ where
  source : Nat
  pseq   : Nat
  /-- Fragments still to arrive, and those that wait, oldest first. -/
  toCome : Nat
  frags  : List (List Byte)
  deriving DecidableEq, Repr

/-- Fields of a LINKINFO block (R232): the sender's port, rig address with its valid bit, and the low 40
bits of its serial number. -/
structure Peer where
  port   : Nat := 0
  addr   : Nat := 0
  valid  : Bool := false
  serial : Nat := 0
  deriving DecidableEq, Repr

/-- The FSEQ values that a port has accepted in a class (R237): every one before `next`, and those of `ahead`. -/
structure SeqSeen where
  next  : Nat := 0
  ahead : List Nat := []
  deriving DecidableEq, Repr

/-- A fabric port (R231 to R233). -/
structure FabPort where
  state    : PortState := .down
  /-- Cycle from which LINKINFO has arrived without a gap (R233). -/
  since    : Option Nat := none
  lastInfo : Option Nat := none
  infoSent : Option Nat := none
  /-- Bytes of the last LINKINFO block sent (R232). -/
  infoBlock : List Byte := []
  /-- What the last LINKINFO received carries; the peer fields take it when the port goes UP (R233). -/
  heard    : Peer := {}
  /-- Peer fields (R269). -/
  peer     : Peer := {}
  downCnt  : Nat := 0
  crcCnt   : Nat := 0
  /-- Instant from which the transmitter is free, and the last frame it sent. -/
  freeAt   : Nat := 0
  sent     : List Byte := []
  /-- Class and FSEQ of the last ACK or NAK block sent. -/
  lastAck  : Option (Bool × Nat × Nat) := none
  timeQ    : List FabTx := []
  ctlQ     : List FabTx := []
  bulkQ    : List FabTx := []
  proxies  : List ProxyQ := []
  /-- Fragments dropped with their refused proxy: source and PSEQ (R249). -/
  lastSrc  : Nat := 63
  ctlSeq   : Nat := 0
  bulkSeq  : Nat := 0
  unacked  : List Unacked := []
  /-- FSEQ values accepted in the classes control and bulk (R237). -/
  seenCtl  : SeqSeen := {}
  seenBulk : SeqSeen := {}
  deriving DecidableEq, Repr

/-- A route (R243, R269); port 3 is none. -/
structure Route where
  prim   : Nat := 3
  alt    : Nat := 3
  active : Nat := 3
  reach  : Bool := false
  hops   : Nat := 0
  deriving DecidableEq, Repr

/-- Role of the device (R269). -/
inductive FabRole where
  | none | member | root
  deriving DecidableEq, Repr

/-- Its code. -/
def FabRole.code : FabRole → Nat
  | .none => 0 | .member => 1 | .root => 2

/-- A device in the root's graph (R240, R242). Links are (port, neighbour's serial, its port). -/
structure DiscNode where
  serial : Nat
  /-- Address it reported, and the one it is given. -/
  had    : Option Nat
  addr   : Option Nat := none
  /-- Port states it reported, 2 bits each. -/
  ports  : Nat
  links  : List (Nat × Nat × Nat) := []
  deriving DecidableEq, Repr

/-- A probe that awaits its REPORT (R240). -/
structure Probe where
  path  : List Nat
  /-- Serial number and port it explores from. -/
  from_ : Nat
  port  : Nat
  tries : Nat
  at_   : Nat
  deriving DecidableEq, Repr

/-- Discovery and the tables of the root (R240 to R244). -/
structure Disc where
  busy   : Bool := false
  fresh  : Bool := false
  nodes  : List DiscNode := []
  /-- Ports still to explore: serial number and port, in breadth-first order. -/
  todo   : List (Nat × Nat) := []
  probe  : Option Probe := none
  /-- Addresses whose ASSIGN is still to be acknowledged; the first has been sent `tries` times. -/
  assign : List Nat := []
  tries  : Nat := 0
  failed : Bool := false
  deriving DecidableEq, Repr

/-- A proxy that arrives at a sink, per source (R251). -/
structure ProxyRx where
  source : Nat
  pseq   : Nat
  next   : Nat
  frags  : Nat
  good   : Bool
  deriving DecidableEq, Repr

/-- The FAB block. -/
structure Fab where
  /-- Firmware has started the fabric since the last reset (R238). -/
  started  : Bool := false
  port0    : FabPort := {}
  port1    : FabPort := {}
  port2    : FabPort := {}
  role     : FabRole := .none
  /-- Rank of R240: 2 elected, 1 strapped, 0 none. -/
  rank     : Nat := 0
  addr     : Option Nat := none
  rootAddr : Nat := 0
  gen      : Nat := 0
  tree     : Nat := 0
  parent   : Nat := 3
  partitioned : Bool := false
  routes   : List (Nat × Route) := []
  /-- Addresses and serial numbers of the root's map. -/
  map      : List (Nat × Nat) := []
  disc     : Disc := {}
  /-- Next MID, and the last 64 accepted from each source, newest first (R237). -/
  mid      : Nat := 0
  mids     : List (Nat × List Nat) := []
  ttlDrop  : Nat := 0
  ctlLost  : Nat := 0
  noRoute  : Nat := 0
  modeDrop : Nat := 0
  /-- Bases in force and the result of their check (R252). -/
  prxBase  : Nat := 0x8B000000
  fwdBase  : Nat := 0xCB000000
  cfgErr   : Bool := false
  /-- Counts of source a: dropped and received. -/
  prxDrop  : List (Nat × Nat) := []
  prxRecv  : List (Nat × Nat) := []
  rx       : List ProxyRx := []
  /-- Control messages for MC1 and BULK_END messages for MC0, oldest first (R239, R304). -/
  toMc1    : List (List Byte) := []
  toMc0    : List (List Byte) := []
  deriving DecidableEq, Repr

end Sys2Proof.Machine
end

