-- ==== Sys2Proof/Machine/Parts/Plan.lean ====
section
/-!
DEFINITION. Plans as the device expands them, and the state of the PLAN block (04_plans.md).
-/
namespace Sys2Proof.Machine

/-- One schedule entry (R116). -/
structure Entry where
  start  : Nat := 0
  len    : Nat := 0
  hcg    : Nat := 0
  lcg    : Nat := 0
  weight : Nat := 0
  deriving DecidableEq, Repr

/-- A schedule, SCHED or THROT (R116, R117). P is held in 1/256 SEQCLK cycles (R41). -/
structure Sched where
  s         : Nat := 1
  startMode : Nat := 0
  phaseSrc  : Nat := 0
  trigSrc   : Nat := 0
  tpoSel    : Nat := 0
  bracket   : Bool := false
  trigLevel : Bool := false
  twin      : Bool := false
  twinJ     : Nat := 0
  rowslot   : Nat := 60
  burstLen  : Nat := 0
  sfpInt    : Nat := 0
  sfpFrac   : Nat := 0
  entries   : List Entry := []
  deriving DecidableEq, Repr

/-- The readout window (R115). -/
structure Win where
  first : Nat := 0
  last  : Nat := 0
  bin   : Bool := false
  mask  : Nat := 0
  deriving DecidableEq, Repr

/-- Statistics setup (R119). -/
structure StatCfg where
  histSrc   : List Nat := []
  histMap   : List Nat := []
  histShift : List Nat := []
  clipLevel : Nat := 0
  point     : Nat := 0
  deriving DecidableEq, Repr

/-- Output section (R120). -/
structure OutCfg where
  format     : Nat := 0
  twinFormat : Nat := 0
  proxy      : Nat := 0
  proxyDiv   : Nat := 1
  mainLanes  : Nat := 0
  twinLanes  : Nat := 0
  deriving DecidableEq, Repr

/-- A plan as the device expands it from a bank (R110 to R122). The graph is a list of
(stage, mode) pairs; the DPPARAM records are kept as (type, bytes). -/
structure Plan where
  id       : Nat := 0
  variant  : Nat := 0
  signed   : Bool := false
  dramLoad : Nat := 0
  linkLoad : Nat := 0
  sched    : Sched := {}
  throt    : Sched := {}
  win      : Win := {}
  graph    : List (Nat × Nat) := []
  stat     : StatCfg := {}
  out      : OutCfg := {}
  dp       : List (Nat × List Byte) := []
  deriving DecidableEq, Repr

/-- What is in force for a frame: the plan, its schedule after live sets, and whether that is
the throttle variant (R50, R70, R131). -/
structure InForce where
  bank  : Nat := 0
  plan  : Plan := {}
  sched : Sched := {}
  throttled : Bool := false
  deriving DecidableEq, Repr

/-- Bank states (R123). -/
inductive BankState where
  | empty | loading | checking | ready | invalid | live | draining
  deriving DecidableEq, Repr

/-- Their code. -/
def BankState.code : BankState → Nat
  | .empty => 0 | .loading => 1 | .checking => 2 | .ready => 3 | .invalid => 4 | .live => 5
  | .draining => 6

/-- How a bank is being loaded (R125). -/
inductive LoadKind where
  | port | flashHeader (off : Nat) | flashCopy (off : Nat)
  deriving DecidableEq, Repr

/-- One plan bank (R123). -/
structure Bank where
  state   : BankState := .empty
  kind    : LoadKind := .port
  cause   : Nat := 0
  signed  : Bool := false
  keySlot : Nat := 0
  errofs  : Nat := 0
  /-- Bytes received. -/
  count   : Nat := 0
  /-- The image bytes received, first byte first (at most 4 MiB). -/
  data    : List Byte := []
  /-- The expanded plan once READY. -/
  plan    : Plan := {}
  deriving DecidableEq, Repr

/-- Timing of a commit (R126). -/
inductive CommitWhen where
  | next | frame (f : Nat) | time (tb sec ns : Nat)
  deriving DecidableEq, Repr

/-- A pending commit (R126, R127). -/
structure Commit where
  bank  : Nat
  when_ : CommitWhen
  /-- Commit write instant. -/
  w     : Nat
  /-- Rig address of the originator when it came as a rig commit (R136). -/
  origin : Option Nat := none
  deriving DecidableEq, Repr

/-- Originator state of a rig commit (R137). -/
inductive RigState where
  | idle | waitAck | waitDone | complete | timeout | refused
  deriving DecidableEq, Repr

/-- Its code. -/
def RigState.code : RigState → Nat
  | .idle => 0 | .waitAck => 1 | .waitDone => 2 | .complete => 3 | .timeout => 4 | .refused => 5

/-- Rig commit at the originator (R135 to R137). Masks are 64 bits, bit a for rig address a. -/
structure Rig where
  state   : RigState := .idle
  targets : Nat := 0
  ack     : Nat := 0
  nak     : Nat := 0
  done    : Nat := 0
  fail    : Nat := 0
  timedOut : Bool := false
  /-- A rig commit is in progress; its acknowledgements are still awaited. -/
  run     : Bool := false
  wait    : Bool := false
  /-- MGTCLK cycle of the GO write. -/
  goAt    : Nat := 0
  tb      : Nat := 0
  sec     : Nat := 0
  ns      : Nat := 0
  deriving DecidableEq, Repr

/-- A rig timeout (R137): its MGTCLK cycle, whether acknowledgements were due, the rig commit before it
and `RIG_DONE` before it. An answer of the same cycle still counts (R9). -/
structure RigLapse where
  at_ : Nat
  ack : Bool
  rig : Rig
  int : Bool
  deriving DecidableEq, Repr

/-- A rig answer that a target owes: the acknowledgement or the completion (R136). -/
structure RigAnswer where
  origin : Nat
  done   : Bool
  result : Nat
  cause  : Nat
  epoch  : Nat
  first  : Nat
  deriving DecidableEq, Repr

/-- The PLAN block. -/
structure PlanBlk where
  bankA    : Bank := {}
  bankB    : Bank := {}
  /-- Bank that is LIVE. -/
  live     : Option Nat := none
  epoch    : Nat := 0
  commit   : Option Commit := none
  result   : Nat := 0
  cause    : Nat := 0
  cancelLate : Bool := false
  writer   : Nat := 0
  firstValid : Bool := false
  first    : Nat := 0
  /-- A commit was applied and its first frame has not started (R129). -/
  awaitFirst : Bool := false
  /-- Bytes received by the current or last load. -/
  loadCount : Nat := 0
  rig      : Rig := {}
  /-- The last rig timeout (R9, R137). -/
  rigLapse : Option RigLapse := none
  /-- Target side: acknowledgements and completions that wait for the fabric, oldest first
  (R136). -/
  rigOut   : List RigAnswer := []
  deriving DecidableEq, Repr

end Sys2Proof.Machine
end

