-- ==== Sys2Proof/Machine/Sparse.lean ====
section
/-!
DEFINITION. Sparse tables: a list of (key, value) pairs in one canonical form, keys strictly
rising, no entry equal to what an unlisted key reads as. Memory, the register file and the big
arrays of the device are all held so; equal tables are equal lists.
-/
namespace Sys2Proof.Machine

variable {α : Type}

/-- Value at key `k`; an unlisted key reads as `d k`. -/
def sget (d : Nat → α) : List (Nat × α) → Nat → α
  | [], k => d k
  | (j, v) :: r, k => if k = j then v else sget d r k

/-- Remove key `k`. -/
def sdel : List (Nat × α) → Nat → List (Nat × α)
  | [], _ => []
  | (j, v) :: r, k => if k = j then sdel r k else (j, v) :: sdel r k

/-- Insert or replace key `k`, keeping the order. -/
def sins : List (Nat × α) → Nat → α → List (Nat × α)
  | [], k, x => [(k, x)]
  | (j, v) :: r, k, x =>
    if k = j then (k, x) :: r else if k < j then (k, x) :: (j, v) :: r else (j, v) :: sins r k x

/-- Write `x` at key `k`; writing what an unlisted key reads as removes the entry. -/
def sput [DecidableEq α] (d : Nat → α) (l : List (Nat × α)) (k : Nat) (x : α) : List (Nat × α) :=
  if x = d k then sdel l k else sins l k x

/-- Every key of the table is above `k`. -/
def sabove (k : Nat) (l : List (Nat × α)) : Bool := l.all (fun p => k < p.1)

/-- The canonical form. -/
def swf [DecidableEq α] (d : Nat → α) : List (Nat × α) → Bool
  | [] => true
  | (j, v) :: r => sabove j r && (v != d j) && swf d r

/-- Change the value at a key by a function. -/
def smod [DecidableEq α] (d : Nat → α) (l : List (Nat × α)) (k : Nat) (f : α → α) :
    List (Nat × α) := sput d l k (f (sget d l k))

/-! ### Byte memories -/

/-- What a byte that nothing has written reads as. DRAM, retained SRAM and buffers: zero
(DESIGN CHOICE for DRAM, log entry 3). -/
def zeroByte (_ : Nat) : Byte := 0

/-- A byte memory. -/
abbrev Memory := List Host.Cell

/-- The canonical form of a byte memory. -/
def Memory.wf (m : Memory) : Bool := swf zeroByte m

/-- Read one byte. -/
def rdByte (m : Memory) (a : Nat) : Byte := sget zeroByte m a

/-- Write one byte. -/
def wrByte (m : Memory) (a : Nat) (b : Byte) : Memory := sput zeroByte m a b

/-- Read `n` consecutive bytes. -/
def rdBytes (m : Memory) (a : Nat) : Nat → List Byte
  | 0 => []
  | n + 1 => rdByte m a :: rdBytes m (a + 1) n

/-- Write consecutive bytes. -/
def wrBytes (m : Memory) (a : Nat) : List Byte → Memory
  | [] => m
  | b :: bs => wrBytes (wrByte m a b) (a + 1) bs

/-- The cells of consecutive bytes from address `a`; zero bytes are not listed. -/
def spanCells (a : Nat) : List Byte → Memory
  | [] => []
  | b :: bs => if b = 0 then spanCells (a + 1) bs else (a, b) :: spanCells (a + 1) bs

/-- The memory with everything from `a` to `a + n - 1` zero. -/
def wipe (m : Memory) (a n : Nat) : Memory := m.filter fun c => !(decide (a ≤ c.1) && decide (c.1 < a + n))

/-- Write a long run of bytes in one piece. -/
def wrSpan (m : Memory) (a : Nat) (l : List Byte) : Memory :=
  m.filter (fun c => decide (c.1 < a)) ++ spanCells a l ++ m.filter (fun c => decide (a + l.length ≤ c.1))

/-- Read a little-endian number of `n` bytes (R4). -/
def rdLE (m : Memory) (a n : Nat) : Nat := ofLE (rdBytes m a n)

/-- Write a little-endian number of `n` bytes (R4). -/
def wrLE (m : Memory) (a n v : Nat) : Memory := wrBytes m a (leBytes v n)

/-- Read a 32-bit word. -/
def rdWord (m : Memory) (a : Nat) : Word := mkWord (rdLE m a 4)

/-- Write a 32-bit word. -/
def wrWord (m : Memory) (a : Nat) (v : Word) : Memory := wrLE m a 4 v.toNat

end Sys2Proof.Machine
end

