-- ==== Sys2Proof/Machine/Parts/Str.lean ====
section
/-!
DEFINITION. State of the stripe datapaths, the statistics hand-off, the proxy and the latched
centroid (05_stripe_merge.md R140 to R170, 06_shaping_colour_statistics.md R171 to R197).
-/
namespace Sys2Proof.Machine

/-- Datapath states (R164). -/
inductive DpState where
  | home | idle | serving | failed | testing | standby
  deriving DecidableEq, Repr

/-- Their code (R170). -/
def DpState.code : DpState → Nat
  | .home => 0 | .idle => 1 | .serving => 2 | .failed => 3 | .testing => 4 | .standby => 5

/-- A physical datapath (R140, R164, R170, R197). The plain counters hold the last completed
readout or frame; those named run count the one in progress. -/
structure Datapath where
  state    : DpState := .home
  /-- The state a self-test came from (R164). -/
  back     : DpState := .home
  /-- Stripe served; 127 none. -/
  stripe   : Nat := 127
  testPass : Bool := false
  fault    : Nat := 0
  warn     : Nat := 0
  /-- Its stripe-lines carry STRIPE_FAIL (R166). -/
  failing  : Bool := false
  excl     : Nat := 0
  defs     : Nat := 0
  unres    : Nat := 0
  clips    : Nat := 0
  runExcl  : Nat := 0
  runDefs  : Nat := 0
  runUnres : Nat := 0
  runClips : Nat := 0
  abandoned : Nat := 0
  held     : Nat := 0
  brk      : Nat := 0
  runHeld  : Nat := 0
  runBrk   : Nat := 0
  /-- `STR_BLK_TH`, `TL`, `BH`, `BL` words. -/
  blkTH    : Nat := 0
  blkTL    : Nat := 0
  blkBH    : Nat := 0
  blkBL    : Nat := 0
  deriving DecidableEq, Repr

/-- Black state of a stripe, bank, path and gain code (R145, R146). -/
structure Black where
  l    : Q := { num := 256, den := 1 }
  /-- The gain code has been used since the last event of R146. -/
  used : Bool := false
  deriving DecidableEq, Repr

/-- Black offset Δ of the readout in progress and its hold flag (R145). -/
structure Clamp where
  delta : Q := {}
  hold  : Bool := false
  deriving DecidableEq, Repr

/-- A scheduled takeover or restore (R163). -/
structure Take where
  stripe  : Nat
  restore : Bool
  fault   : Bool
  at_     : Nat
  deriving DecidableEq, Repr

/-- A takeover or restore whose old datapath finishes its readout (R164, R165). -/
structure Switch where
  stripe  : Nat
  old     : Nat
  new_    : Nat
  restore : Bool
  deriving DecidableEq, Repr

/-- What accumulates for one stripe-line of a frame before binning (R161, R173, R175). -/
structure LineInfo where
  /-- Initialised mark (R175). -/
  init   : Bool := false
  /-- Sideband bytes 0 and 1 without CLIP. -/
  b0     : Nat := 0
  b1     : Nat := 0
  groups : Nat := 0
  /-- Columns of the stripe with a substituted path. -/
  defs   : List Nat := []
  /-- Columns whose running value was held (R172). -/
  held   : List Nat := []
  deriving DecidableEq, Repr

/-- A finished value with its clip flag; for PASS also the code pair of R159. -/
structure FinPx where
  v    : Int
  clip : Bool
  pair : Nat := 0
  deriving DecidableEq, Repr

/-- A statistics set (R195): identity and the bytes of records and histograms in window order. -/
structure StatSet where
  frame  : Nat
  epoch  : Nat
  seq    : Nat
  sflags : Nat
  zones  : List Byte
  hists  : List Byte
  deriving DecidableEq, Repr

/-- Centroid registers (R197). -/
structure CentReg where
  frame : Nat := 0
  sec   : Nat := 0
  /-- Nanoseconds with NONE and NO_TIME in bits 30 and 31. -/
  ns    : Nat := 0
  frac  : Nat := 0
  deriving DecidableEq, Repr

/-- The STR block. -/
structure Str where
  dps       : List (Nat × Datapath) := []
  /-- Datapath that serves each stripe, where it is not the home datapath (R170). -/
  map       : List (Nat × Nat) := []
  /-- Black states by ((2·stripe + bank)·2 + path)·8 + gain code. -/
  black     : List (Nat × Black) := []
  /-- Δ of the readout in progress by (2·stripe + bank)·2 + path. -/
  clamps    : List (Nat × Clamp) := []
  /-- Active slots of the current readout that the datapaths have processed (R141). -/
  done      : Nat := 0
  takes     : List Take := []
  /-- A change of R146 took effect at an FT: every black state is in first use again from the next
  SFT. -/
  fresh     : Bool := false
  switches  : List Switch := []
  cmdResult : Nat := 0
  /-- Commanded self-test: datapath and start (R167). -/
  test      : Option (Nat × Nat) := none
  /-- Instants of the last spare self-tests (R167). -/
  spare80   : Nat := 0
  spare81   : Nat := 0
  /-- The maps region as the datapaths read it since the last FT (R13). -/
  maps      : List Host.Cell := []
  /-- Contents of the three frame regions are to be reinitialised (R14). -/
  reinit    : Bool := false
  /-- Set shown in the window and the newest set delivered (R195, R196). -/
  shown     : Option StatSet := none
  newest    : Option StatSet := none
  statSeq   : Nat := 0
  missed    : Nat := 0
  /-- MGTCLK cycle of the last writes of HOLD, and HOLD before them (R196). -/
  held      : Option (Nat × Bool) := none
  cent      : CentReg := {}
  frozen0   : Option CentReg := none
  frozen1   : Option CentReg := none
  frozen2   : Option CentReg := none
  /-- Bases in force and the result of their check (R190). -/
  proxyBase : Nat := 0x83E00000
  reconBase : Nat := 0x85E00000
  cfgErr    : Bool := false
  /-- Proxy sequence number, slot and validity of the last proxy, and counts (R187, R197). -/
  proxySeq  : Nat := 0
  proxySlot : Nat := 0
  proxyOk   : Bool := false
  proxyDmg  : Nat := 0
  proxyFrame : Nat := 0
  deriving DecidableEq, Repr

end Sys2Proof.Machine
end

