-- ==== Sys2Proof/Machine/Parts/Lnk.lean ====
section
/-!
DEFINITION. State of the Frond link, the frames in flight and the seal (07_frond_output.md,
01_architecture.md R18 to R31).
-/
namespace Sys2Proof.Machine

/-- Lane states (R202). -/
inductive LaneState where
  | off | train | ready | active | spare | failed
  deriving DecidableEq, Repr

/-- Their code (R229). -/
def LaneState.code : LaneState → Nat
  | .off => 0 | .train => 1 | .ready => 2 | .active => 3 | .spare => 4 | .failed => 5

/-- A packet on a lane: what it carries and when its last block ends. -/
structure Flight where
  /-- Packet type of R209. -/
  type   : Nat
  stream : Nat
  frame  : Nat
  /-- Lane set that started it. -/
  set    : Nat
  endAt  : Nat
  body   : List Byte
  deriving DecidableEq, Repr

/-- A physical lane (R198, R202). -/
structure Lane where
  state   : LaneState := .off
  logical : Option Nat := none
  /-- 0 main, 1 twin, 2 dump, 3 none. -/
  set     : Nat := 3
  cause   : Nat := 0
  /-- The driver detects a fault now: 2 open pair, 3 shorted pair, 0 none. -/
  fault   : Nat := 0
  marks   : Nat := 0
  /-- A LANE block is due as the first block after a change (R201). -/
  markDue : Bool := false
  /-- Instant of the last LANE block (R201), and the instant from which the lane is free. -/
  markAt  : Nat := 0
  freeAt  : Nat := 0
  flight  : Option Flight := none
  /-- It failed or went OFF while it carried packets, and no spare took its place (R206, R281). -/
  short   : Bool := false
  /-- Scrambler state (R199; at reset DESIGN CHOICE 0, log entry 48), and the instant up to which the
  blocks sent have run through it. -/
  scr     : Nat := 0
  scrAt   : Nat := 0
  /-- 66-bit blocks of the last packet, LANE block or training pattern, as they left the lane. -/
  sent    : List Nat := []
  deriving DecidableEq, Repr

/-- A failed ACTIVE lane that waits for its remap FT (R205). -/
structure RemapDue where
  lane  : Nat
  /-- Declared by a register write: first FT at least 64 µs after the instant; otherwise the
  first FT at or after the next SFT after the instant. -/
  byReq : Bool
  at_   : Nat
  deriving DecidableEq, Repr

/-- Emission of one image of a frame on one stream (R219, R220). -/
structure Emit where
  /-- The header body as emitted (R223). -/
  hdr      : Option (List Byte) := none
  /-- Lines started so far in the order of R22. -/
  sent     : Nat := 0
  lost     : Nat := 0
  clipTotal : Nat := 0
  defTotal : Nat := 0
  recon    : Nat := 0
  /-- An emission deadline was reached: no further line starts (R220). -/
  cut      : Bool := false
  trailer  : Bool := false
  damaged  : Bool := false
  /-- A packet other than a line packet was lost in flight (R211 LOST). -/
  lostAny  : Bool := false
  /-- Segment, index and length of R210, and flags SEALED, UNSIGNED and CHAIN_START of R211. -/
  seg      : Nat := 0
  segIdx   : Nat := 0
  segLen   : Nat := 0
  sealBits : Nat := 0
  /-- Number of the seal chain that the image belongs to (R224). -/
  chain    : Option Nat := none
  /-- What the stripe hashers have absorbed of it, by stripe (R222). -/
  absorbed : List (Nat × List Byte) := []
  deriving DecidableEq, Repr

/-- A frame in flight (R21, R131). -/
structure Frame where
  num      : Nat
  epoch    : Nat
  cfg      : InForce
  /-- Instant of FT n and its unrounded position. -/
  ft       : Nat
  /-- tb(FT n) of the frame header, 12 bytes. -/
  stamp    : List Byte
  /-- Value of `CENT_TB` at FT n in 2^-32 ns; none while it did not run (R178). -/
  tbv      : Option Nat := none
  /-- CAPTURE was in force at FT n, so the frame is emitted. -/
  capture  : Bool
  /-- A calibration frame (R391). -/
  calib    : Bool := false
  settle   : Nat := 0
  damaged  : Bool := false
  /-- SFTs since FT n; and since FT n+1 and FT n+2, once those occurred (R131). -/
  sftAge   : Nat := 0
  age1     : Option Nat := none
  age2     : Option Nat := none
  /-- Active slots of the last sub-frame whose values are final; for the twin those of the
  designated sub-frame. -/
  rows     : Nat := 0
  twinRows : Nat := 0
  /-- Stripe-lines before digital binning, by 80·row index + stripe: their flags and their finished
  values, for the frame and for the twin image. -/
  lines     : List (Nat × LineInfo) := []
  twinLines : List (Nat × LineInfo) := []
  fins      : List (Nat × List FinPx) := []
  twinFins  : List (Nat × List FinPx) := []
  /-- The maps region, the bases of the monitor ring and of the reconstruction buffer, and the result of their
  check, as they stood at FT n: no later change reaches the frame (R13, R30, R190). -/
  maps      : List Host.Cell := []
  proxyBase : Nat := 0x83E00000
  reconBase : Nat := 0x85E00000
  cfgErr    : Bool := false
  /-- State of this frame's proxy: 0 none, 1 in progress, 2 ended DAMAGED, 3 ended VALID (R187). -/
  proxy     : Nat := 0
  proxySlot : Nat := 0
  complete : Bool := false
  statDone : Bool := false
  /-- Its reconstructed image is in the buffer (R189). -/
  recon    : Bool := false
  /-- Physical lanes that carry its streams, as they stood at FT n (R30, R131). -/
  lanes0   : Nat := 0
  lanes1   : Nat := 0
  main     : Emit := {}
  twin     : Emit := {}
  deriving DecidableEq, Repr

/-- Result of a link dump (R229). -/
inductive LinkDumpResult where
  | none | busy | done | aborted | refused
  deriving DecidableEq, Repr

/-- Its code. -/
def LinkDumpResult.code : LinkDumpResult → Nat
  | .none => 0 | .busy => 1 | .done => 2 | .aborted => 3 | .refused => 4

/-- A statistics set on its way to the link (R215). -/
structure StatQueue where
  frame  : Nat
  epoch  : Nat
  seq    : Nat
  sflags : Nat
  next   : Nat
  /-- Physical lanes of its frame (R131). -/
  lanes  : Nat
  data   : List Byte
  deriving DecidableEq, Repr

/-- The LNK block. -/
structure Lnk where
  lanes    : List (Nat × Lane) := []
  remaps   : List RemapDue := []
  /-- Next SEQ of the main, twin and dump sets (R207). -/
  seqMain  : Nat := 0
  seqTwin  : Nat := 0
  seqDump  : Nat := 0
  /-- Last SEQ started (R229). -/
  lastMain : Nat := 0
  lastTwin : Nat := 0
  framesSent : Nat := 0
  framesDamaged : Nat := 0
  lostPkts : Nat := 0
  statDropped : Nat := 0
  /-- A dump is being sent (R216), and the result of the last request. -/
  dumpOn   : Bool := false
  dumpRes  : LinkDumpResult := .none
  dumpOff  : Nat := 0
  dumpLen  : Nat := 0
  dumpSent : Nat := 0
  /-- A dump in STANDBY runs on lanes of its own. -/
  dumpOwn  : Bool := false
  stat     : Option StatQueue := none
  deriving DecidableEq, Repr

/-- A seal chain (R223 to R226). -/
structure Chain where
  open_   : Bool := false
  /-- Number of the chain among those opened since reset, and its stream. -/
  no      : Nat := 0
  twin    : Bool := false
  id      : List Byte := []
  segment : Nat := 0
  lastFrame : Nat := 0
  /-- Frames chained in the open segment, its effective length once it is fixed, its first frame,
  `H_BEFORE` and whether a frame of it is DAMAGED. -/
  placed  : Bool := false
  count   : Nat := 0
  lEff    : Nat := 0
  firstFrame : Nat := 0
  before  : List Byte := []
  segDamaged : Bool := false
  /-- H_prev of the next frame: H of the last frame chained, H_o before the first; and H of the last frame
  chained alone, as the registers show it (R230). -/
  head    : List Byte := []
  shown   : List Byte := []
  /-- The open record has been formed: the chain's first frame has started. -/
  begun   : Bool := false
  /-- A frame of the chain has sent its header. -/
  started : Bool := false
  /-- CLOSE_GO: the segment ends after the frame whose trailer is next (R225). -/
  endSeg  : Bool := false
  /-- The chain closes after the trailer of this frame (R224). -/
  closeAfter : Option Nat := none
  lastStamp : List Byte := []
  /-- Physical lanes that carried the chain's last frame (R227). -/
  lanes   : Nat := 0
  deriving DecidableEq, Repr

/-- A statement that waits for the crypto engine (R226): its chain and whether the identity key was
available when the segment ended (R228). -/
structure Statement where
  stream : Nat
  chain  : Nat
  id     : List Byte
  segment : Nat
  frames : Nat
  first  : Nat
  last   : Nat
  close  : Bool
  damaged : Bool
  head   : List Byte
  before : List Byte
  stamp  : List Byte
  lanes  : Nat
  avail  : Bool
  /-- SAFE was entered before it was signed: it is readable only through the SEC registers (R227). -/
  regsOnly : Bool := false
  deriving DecidableEq, Repr

/-- A seal packet that is due (R227). -/
structure SealPkt where
  stream  : Nat
  subtype : Nat
  status  : Nat
  frame   : Nat
  lanes   : Nat
  payload : List Byte
  deriving DecidableEq, Repr

/-- The seal part of the SEC block. -/
structure Seal where
  /-- The last chain opened on each stream, and older ones whose last frame is not yet sent (R224). -/
  main    : Chain := {}
  twin    : Chain := {}
  closing : List Chain := []
  /-- Chains opened since reset. -/
  opened  : Nat := 0
  /-- Statements that await their signature, oldest first. -/
  queue   : List Statement := []
  /-- Seal packets that are due, oldest first. -/
  due     : List SealPkt := []
  /-- Most recent statement and signature (R230). -/
  stmt    : List Byte := []
  sig     : List Byte := []
  sigSeq  : Nat := 0
  sigSeqEnd : Nat := 0
  /-- Segments sent without a signature (R230). -/
  unsigned_ : Nat := 0
  /-- The identity key is usable for signing (R428). -/
  avail   : Bool := false
  deriving DecidableEq, Repr

end Sys2Proof.Machine
end

