-- ==== Sys2Proof/Machine/Parts/Mon.lean ====
section
/-!
DEFINITION. State of the monitor converter and of the thermal block (12_thermal_and_monitor.md).
-/
namespace Sys2Proof.Machine

/-- Accumulator of one channel (R360). -/
structure MonAcc where
  sum   : Int := 0
  count : Nat := 0
  min_  : Option Int := none
  max_  : Option Int := none
  full  : Bool := false
  invalid : Nat := 0
  ovr   : Nat := 0
  deriving DecidableEq, Repr

/-- How an output of the monitor converter counts (R358 to R360). -/
inductive MonKind where
  | invalid | over | valid
  deriving DecidableEq, Repr

/-- The last output of a channel, with its MGTCLK cycle (R361). -/
structure MonLanding where
  at_  : Nat
  ch   : Nat
  kind : MonKind
  code : Int
  /-- Interrupt status before it. -/
  int  : Nat
  deriving DecidableEq, Repr

/-- The MON block. -/
structure Mon where
  /-- Selection in force: the words of `MON_SEL` and `MON_FILT` (R362 holds a new one back). -/
  sel     : Nat := 0x1003
  filt    : Nat := 0x47D006
  /-- Decimation in force, and whether the converter runs (R357). -/
  dec     : Nat := 32000
  valid   : Bool := true
  noFrame : Bool := false
  /-- Outputs still to be marked invalid (R358). -/
  skip    : Nat := 0
  /-- The converter has begun a conversion since reset, so that CH names a channel (log entry 41). -/
  begun   : Bool := false
  /-- MGTCLK cycle of the last output or restart (R356). -/
  from_   : Nat := 0
  accs    : List (Nat × MonAcc) := []
  /-- The output that landed last; a clear of its cycle acts before it (R361). -/
  landed  : Option MonLanding := none
  /-- Accumulators latched by a read of SUM_LO, per channel and accessor: key 3·channel + accessor
  (R361, R436). -/
  latched : List (Nat × MonAcc) := []
  ovrCnt  : Nat := 0
  /-- Cycle of the start of the self-calibration that runs (R362). -/
  calFrom : Option Nat := none
  calResult : Nat := 0
  uncal   : Bool := true
  /-- The external scan runs, since this cycle; and the cycle of the last scan's start (R363). -/
  scan    : Option Nat := none
  lastScan : Nat := 0
  deriving DecidableEq, Repr

/-- A temperature sensor (R366 to R372). Temperatures are in 1/64 °C. -/
structure Sensor where
  res   : Option Int := none
  raw   : Nat := 0
  same  : Nat := 0
  hist  : List Int := []
  temp  : Option Int := none
  /-- Changes of the reading: window and reading, newest first. -/
  chg   : List (Nat × Int) := []
  cause : Nat := 0
  warn  : Bool := false
  throt : Bool := false
  crit  : Bool := false
  rise  : Bool := false
  /-- External diode: the last scan gave less than 20 mV (R369). -/
  low   : Bool := false
  deriving DecidableEq, Repr

/-- Thermal states (R373). -/
inductive ThmState where
  | normal | warm | alert | pending | enforced | releasing | safe
  deriving DecidableEq, Repr

/-- Their code. -/
def ThmState.code : ThmState → Nat
  | .normal => 0 | .warm => 1 | .alert => 2 | .pending => 3 | .enforced => 4 | .releasing => 5
  | .safe => 6

/-- The THM block. -/
structure Thm where
  /-- Windows that have ended since the release of reset (R367). -/
  windows  : Nat := 0
  sensors  : List (Nat × Sensor) := []
  state    : ThmState := .normal
  /-- Instant of entry to the state (R373). -/
  entry    : Nat := 0
  enforced : Bool := false
  condW    : Bool := false
  /-- W from valid sensors. -/
  condWv   : Bool := false
  condT    : Bool := false
  condTv   : Bool := false
  condC    : Bool := false
  condX    : Bool := false
  condZ    : Bool := false
  tjMax    : Option (Int × Nat) := none
  tjMin    : Option (Int × Nat) := none
  tjAna    : Option Int := none
  mintGate : Bool := false
  flashGate : Bool := false
  hot      : Nat := 0
  lock     : Bool := false
  /-- Instants at which the running timers end (R374). -/
  grace    : Option Nat := none
  critEnd  : Option Nat := none
  persist  : Option Nat := none
  release  : Option Nat := none
  /-- THERM_ALERT_N is driven low, since this instant (R377). -/
  pinLow   : Bool := false
  pinAt    : Nat := 0
  deriving DecidableEq, Repr

end Sys2Proof.Machine
end

