-- ==== Sys2Proof/Machine/Parts/Sys.lean ====
section
/-!
DEFINITION. State of the SYS block, the management cores, boot, resets and the host control port
(10_management_and_boot.md).
-/
namespace Sys2Proof.Machine

/-- `SYS_CORE_STATUS` codes (R326). -/
inductive CoreState where
  | run | halted | restarting | stopped
  deriving DecidableEq, Repr

/-- Its code. -/
def CoreState.code : CoreState → Nat
  | .run => 0 | .halted => 1 | .restarting => 2 | .stopped => 3

/-- Where the part is in its reset life (R305, R306, R446). -/
inductive ResetPhase where
  /-- Held in reset until the instant, power-on or warm. -/
  | held (until_ : Nat) (powerOn : Bool)
  /-- Released. -/
  | run
  deriving DecidableEq, Repr

/-- State of a flash slot (R309). -/
inductive SlotState where
  | empty | writing | valid | bad
  deriving DecidableEq, Repr

/-- Its code. -/
def SlotState.code : SlotState → Nat
  | .empty => 0 | .writing => 1 | .valid => 2 | .bad => 3

/-- Mailbox result codes (R301). -/
inductive MboxResult where
  | none | ok | busy | mode | permit | arg | signature | flash | temp | iface | sealing | loading
  deriving DecidableEq, Repr

/-- Its code. -/
def MboxResult.code : MboxResult → Nat
  | .none => 0 | .ok => 1 | .busy => 2 | .mode => 3 | .permit => 4 | .arg => 5
  | .signature => 6 | .flash => 7 | .temp => 8 | .iface => 9 | .sealing => 10 | .loading => 11

/-- The mailbox command that runs (R301). -/
inductive MboxRun where
  | fwUpdate (addr len : Nat) (activate : Bool) (slot : Nat)
  | fwActivate (slot : Nat)
  | coreRestart (core slot : Nat)
  | stripe (op : Nat)
  | saveMaps
  | recover (slot len got : Nat)
  /-- A command refused at once; its result is posted by MBOX_DONE. -/
  | refused (r : MboxResult)
  /-- An opcode that R301 does not list. -/
  | unknown
  deriving DecidableEq, Repr

/-- Directory in use, as read by boot (R309). -/
structure Directory where
  copy    : Nat := 0
  seq     : Nat := 0
  active  : Nat := 0
  stateA  : SlotState := .empty
  stateB  : SlotState := .empty
  pflags  : Nat := 0
  defPlan : Nat := 0
  deriving DecidableEq, Repr

/-- The boot sequence (R312 to R317). -/
structure Boot where
  /-- Step in progress or last reached, 1 to 14; 0 before the first; and its start. -/
  step        : Nat := 0
  since       : Nat := 0
  variant     : Nat := 0
  /-- Boot has ended in DONE or in SAFE. -/
  ended       : Bool := false
  /-- Step 4 has used variant 1 in this boot (R316). -/
  switched    : Bool := false
  /-- Slot that step 4 verifies (R312). -/
  slot        : Nat := 0
  /-- Slots were switched: steps from 5 on run with variant 0 (R316). -/
  forced      : Bool := false
  /-- Entries written by this boot (R314). -/
  entries     : Nat := 0
  slotFallback : Bool := false
  dramLow     : Bool := false
  calDefault  : Bool := false
  defectEmpty : Bool := false
  engineSpared : Bool := false
  monUncal    : Bool := false
  fabricOff   : Bool := false
  ledgerLost  : Bool := false
  recovery    : Bool := false
  eraseDeferred : Bool := false
  /-- DRAM trained in this boot (R348). -/
  dramReady   : Bool := false
  /-- Training patterns lie in 0xED00_0000 to 0xEDFF_FFFF, until step CAL (R313). -/
  patterns    : Bool := false
  /-- The boot calibration is due (R385). -/
  calDue      : Bool := false
  /-- The default plan is to be committed after the boot calibration (R309). -/
  commitDue   : Bool := false
  deriving DecidableEq, Repr

/-- The SYS block. -/
structure Sys where
  phase      : ResetPhase := .run
  /-- Instant up to which `RESET_N` was last said to be low (R447). -/
  pinRise    : Nat := 0
  /-- End of the MGTCLK cycle in which the warm reset in force was triggered (R307). -/
  trigEnd    : Nat := 0
  /-- Instant of the release of the most recent reset. -/
  release    : Nat := 0
  mode       : Mode := .boot
  /-- Pending mode request and the instant of its write (R298). -/
  pendMode   : Option (Mode × Nat) := none
  refuse     : Nat := 0
  safeCause  : Nat := 0
  /-- SAFE causes present and not yet cleared, bits 0 to 3 (R318). -/
  safeActive : Nat := 0
  permit     : Bool := false
  portErr    : Nat := 0
  portErrCnt : Nat := 0
  /-- Causes of `SYS_RESET_CAUSE` (R307). -/
  causeBits  : Nat := 1
  causeLast  : Nat := 0
  core0      : CoreState := .run
  core1      : CoreState := .stopped
  restarts0  : Nat := 0
  restarts1  : Nat := 0
  /-- IFACE of the section each core runs (R324). -/
  iface0     : Nat := 0
  iface1     : Nat := 0
  slot0      : Nat := 0
  slot1      : Nat := 0
  /-- Digest of the section each core runs, and the key slot that verified its image (R429). -/
  dig0       : List Byte := List.replicate 32 0
  dig1       : List Byte := List.replicate 32 0
  key0       : Nat := 0
  key1       : Nat := 0
  /-- Instant until which a restarting core's tallies count as received (R325). -/
  grace0     : Option Nat := none
  grace1     : Option Nat := none
  boot       : Boot := {}
  dir        : Directory := {}
  mbox       : Option MboxRun := none
  mboxOp     : Nat := 0
  /-- RESULT code; an opcode that the manual does not list leaves an open value (log entry 29). -/
  mboxResult : Nat := 0
  mboxRes0   : Nat := 0
  mboxRes1   : Nat := 0
  updBusy    : Bool := false
  /-- The flash write gate has closed since the last operation that writes boot flash began (R319, R380, R404). -/
  updShut    : Bool := false
  /-- `SYS_ALARM_FIFO`, oldest first (R302). -/
  alarms     : List Nat := []
  alarmOvf   : Nat := 0
  bulkDone   : Bool := false
  bulkCfgErr : Bool := false
  bulkRej    : Nat := 0
  bulkBytes  : Nat := 0
  /-- Saved DRAM training record (R313). -/
  training   : Option Nat := none
  /-- Words returned by the last READ, and the last STATUS byte (R291 to R293). -/
  portOut    : List Word := []
  /-- Ready tokens of the last READ: the numbers of the words they come before (R292). -/
  portTokens : List Nat := []
  statusOut  : Option Byte := none
  /-- What the last read with a side effect returned to each core (R436). -/
  coreRead0  : Word := 0
  coreRead1  : Word := 0
  /-- The strap as sampled at the release of reset (R240, R451): ROOT; `Clk.strap` holds REFSEL. -/
  pinRoot    : Bool := false
  /-- Debugger halts in effect (R335). -/
  dbg0       : Bool := false
  dbg1       : Bool := false
  deriving DecidableEq, Repr

/-- The part itself (15_register_map.md R437): stepping code and mosaic variant. -/
structure Part where
  stepping : Nat := 0x4101
  /-- True on the RZF-2010-F. -/
  fern     : Bool := false
  deriving DecidableEq, Repr

end Sys2Proof.Machine
end

