-- ==== Sys2Proof/Machine/Parts/Tmg.lean ====
section
/-!
DEFINITION. State of the sequencer and the TMG block (02_array_and_exposure.md).
-/
namespace Sys2Proof.Machine

/-- Sequencer state (R61). -/
inductive SeqState where
  | stopped | idle | armed | running | drain
  deriving DecidableEq, Repr

/-- Its code. -/
def SeqState.code : SeqState → Nat
  | .stopped => 0 | .idle => 1 | .armed => 2 | .running => 3 | .drain => 4

/-- A sub-frame in flight: the frame it belongs to, its index and its marks (R48). -/
structure SubRef where
  frame    : Nat
  j        : Nat
  settling : Bool := false
  /-- Its transfer was omitted (R48), so the storage keeps the former samples. -/
  omitted  : Bool := false
  /-- Integration has started, has ended with its transfer. -/
  started  : Bool := false
  moved    : Bool := false
  /-- A calibration readout, not image data (R390). -/
  calib    : Bool := false
  deriving DecidableEq, Repr

/-- A pending live set (R67, R69). -/
structure LiveSet where
  entries : List Entry
  mask    : Nat
  /-- Target frame when AT_FRAME was 1. -/
  target  : Option Nat
  /-- GO instant. -/
  go      : Nat
  deriving DecidableEq, Repr

/-- The TMG block. -/
structure Tmg where
  seq      : SeqState := .stopped
  /-- Unrounded position of the most recent SFT, in time units (R41). -/
  pos      : Nat := 0
  /-- The first tick of a newly placed grid has not occurred: the next SFT is at `pos` itself. -/
  fresh    : Bool := false
  /-- Sub-frame index of the interval that began at the most recent SFT. -/
  j        : Nat := 0
  /-- Sub-frames per frame and period (in time units) of the running grid. -/
  s        : Nat := 1
  p        : Nat := 0
  /-- What is in force for the frame whose FT was most recent (R50, R71). -/
  cur      : Option InForce := none
  /-- Number the next integrating frame will carry, and number of the last one (R59). -/
  nNext    : Nat := 0
  nLast    : Nat := 0
  /-- The sub-frame that integrates, or the next one to, is the first since the sequencer started
  (R48). -/
  firstSub : Bool := true
  /-- Frames of the burst still to start after the current one (R56). -/
  burstLeft : Nat := 0
  /-- Drain: SFTs still to pass before the drain deadline (R57); counted from DRAIN entry. -/
  drainLeft : Nat := 0
  /-- Instant of the drain deadline once it has passed with frames still to restart (R132). -/
  drainEnd : Option Nat := none
  /-- Edges of SOFT_TRIG writes that a tick comes before (R55). -/
  softs    : List Nat := []
  /-- A trigger was accepted; its FT is the next tick (R55). -/
  trigFT   : Bool := false
  /-- A REALIGN write waits for its edge: instant of the write (R54). -/
  realign  : Option Nat := none
  /-- Sub-frames: of the present interval, the last one transferred into storage, being read (R21,
  R39). -/
  integ    : Option SubRef := none
  stored   : Option SubRef := none
  reading  : Option SubRef := none
  /-- Slots of the current readout already converted (R64). -/
  slot     : Nat := 0
  /-- Instant at which the current or last readout ends (R42), and whether it is running. -/
  rdEnd    : Nat := 0
  /-- Gain codes the reference DACs hold, H and L (R47, R48). -/
  dacH     : Nat := 0
  dacL     : Nat := 0
  /-- The switch of R47 of the current interval has been made. -/
  switched : Bool := false
  accepted : Nat := 0
  missed   : Nat := 0
  glErr    : Int := 0
  glSat    : Bool := false
  glMeas   : Bool := false
  settleCnt : Nat := 0
  live     : Option LiveSet := none
  liveResult : Nat := 0
  liveBad  : Nat := 0
  liveFrame : Nat := 0
  /-- A set was applied and no frame has used it yet (R70). -/
  liveAwait : Bool := false
  /-- Instant of the FT most recently ticked. -/
  lastFT   : Nat := 0
  deriving DecidableEq, Repr

end Sys2Proof.Machine
end

