-- ==== Sys2Proof/Machine/Parts/Vlt.lean ====
section
/-!
DEFINITION. State of the vault and of the crypto engine (14_vault_and_security.md).
-/
namespace Sys2Proof.Machine

/-- A physical row of fuses (R407): the 64 bits that each of the two copies reads at the normal and
at the tight margin. -/
structure FuseRow where
  n0 : Nat := 0
  n1 : Nat := 0
  t0 : Nat := 0
  t1 : Nat := 0
  deriving DecidableEq, Repr

/-- Region states (R414). -/
inductive RegionState where
  | blank | open_ | good | fail
  deriving DecidableEq, Repr

/-- Their code in `VLT_REGION` (R430). -/
def RegionState.code : RegionState → Nat
  | .blank => 0 | .open_ => 1 | .good => 2 | .fail => 3

/-- A vault command in progress (R418 to R422): the rows still to program with their targets, and the changes of
the mint gate since its start with their instants, newest first. -/
structure VaultRun where
  op    : Nat
  arg   : Nat
  rows  : List (Nat × Nat)
  gates : List (Nat × Bool) := []
  deriving DecidableEq, Repr

/-- A write of `VLT_CMD` (R418): its MGTCLK cycle, its writer, whether it started a command or else with which
result it was refused, and the data registers before it. -/
structure VaultTurn where
  cycle   : Nat
  by_     : Who
  started : Bool
  result  : Nat
  dataLo  : Nat
  dataHi  : Nat
  deriving DecidableEq, Repr

/-- The components of the identity private key (R428). -/
structure RsaKey where
  p    : Nat := 0
  q    : Nat := 0
  dP   : Nat := 0
  dQ   : Nat := 0
  qInv : Nat := 0
  deriving DecidableEq, Repr

/-- An attestation report that waits for its signature (R429). -/
structure Report where
  bytes  : List Byte
  /-- Segments whose statements were queued before it: chain identifier and segment number. -/
  behind : List (List Byte × Nat)
  /-- A plan was being verified when it was queued, and still is. -/
  check  : Bool
  deriving DecidableEq, Repr

/-- The VLT block and the SEC block without the seal. -/
structure Vlt where
  /-- Fuses: logical rows 0 to 255, spares at 256 + s, redirection entries at 272 + s. They outlive
  every reset. -/
  fuses  : List (Nat × FuseRow) := []
  /-- Shadows filled in this boot. -/
  sensed : Bool := false
  /-- No row sensed at all (R412). -/
  dead   : Bool := false
  /-- Shadows of the logical rows: the 64-bit values in use since the last sensing (R410). -/
  shadow : List (Nat × Nat) := []
  /-- Marginal rows, 256 bits, and marginal redirection entries, 16 bits (R411). -/
  marg   : Nat := 0
  margRedir : Nat := 0
  /-- Redirection entries as sensed. -/
  redir  : List (Nat × Nat) := []
  vendor   : RegionState := .blank
  identity : RegionState := .blank
  keys     : RegionState := .blank
  restricted : Bool := false
  overridden : Bool := false
  /-- Region locks, set by `VLT_LOCK_SET` (R415). -/
  lockPolicy : Bool := false
  lockCustomer : Bool := false
  run      : Option VaultRun := none
  /-- The last writer of `VLT_CMD` by the order of R290 in a cycle, and whether its command started (R418). -/
  turn     : Option VaultTurn := none
  result   : Nat := 0
  redirected : Bool := false
  writer   : Nat := 0
  lastRow  : Nat := 0
  /-- Identity key: the private key in the crypto engine, available, cause of failure, load in progress (R428). -/
  idk      : RsaKey := {}
  idkAvail : Bool := false
  idkCause : Nat := 0
  idkBusy  : Bool := false
  /-- Attestation (R429). -/
  att      : Option Report := none
  attResult : Nat := 0
  attSeq   : Nat := 0
  attSeqEnd : Nat := 0
  attReport : List Byte := []
  attSig   : List Byte := []
  deriving DecidableEq, Repr

end Sys2Proof.Machine
end

