-- ==== Sys2Proof/Machine/Parts/Wdt.lean ====
section
/-!
DEFINITION. State of the watchdog (11_supervision.md R328 to R338, R353).
-/
namespace Sys2Proof.Machine

/-- `WDT_STATUS.STATE` (R336). -/
inductive WdtState where
  | stopped | running | expired
  deriving DecidableEq, Repr

/-- Cause in `WDT_NMI` (R353). -/
inductive NmiCause where
  | none | expiry | early | dup
  deriving DecidableEq, Repr

/-- A held configuration write (R330). -/
inductive WdtHeld where
  | cfg (v : Nat)
  | mask (v : Nat)
  | strict (b : Bool)
  deriving DecidableEq, Repr

/-- A period as it stood when it ended well: what a tally that still falls in its expiry cycle meets (R331,
R333). -/
structure WdtPeriod where
  start    : Nat
  cfg      : Nat
  mask     : Nat
  strict   : Bool
  held     : List (Nat × WdtHeld)
  counted  : Nat
  periods  : Nat
  deriving DecidableEq, Repr

/-- The WDT block beside its plain registers. -/
structure Wdt where
  state    : WdtState := .stopped
  hwStart  : Bool := false
  locked   : Bool := false
  /-- MGTCLK cycle number of cycle 0 of the current period. -/
  start    : Nat := 0
  /-- Configuration in force (R330): `WDT_CFG`, `WDT_MASK`, STRICT. -/
  cfg      : Nat := 0x0F4240
  mask     : Nat := 0x01
  strict   : Bool := false
  /-- Held writes with the MGTCLK cycle of each (R330). -/
  held     : List (Nat × WdtHeld) := []
  /-- Tasks counted this period, bit i (R331). -/
  counted  : Nat := 0
  /-- `WDT_STATUS.DUP` (R333). -/
  dup      : Nat := 0
  periods  : Nat := 0
  nmiCause : NmiCause := .none
  nmiTask  : Nat := 0
  missing  : Nat := 0
  /-- End of the hard timer, MGTCLK cycle number (R334). -/
  hardEnd  : Option Nat := none
  /-- MGTCLK cycle at which the counts froze, and that of the last release (R335). -/
  frozen   : Option Nat := none
  thawed   : Option Nat := none
  /-- The period before; none before the first period has ended (R331). -/
  former   : Option WdtPeriod := none
  deriving DecidableEq, Repr

end Sys2Proof.Machine
end

