-- ==== Sys2Proof/Machine/Addr.lean ====
section
/-!
DEFINITION. Byte addresses of the registers (15_register_map.md R432, R440). An array is named
by its first element.
-/
namespace Sys2Proof.Machine.A

abbrev IDENT_CHIP_ID : Nat := 0x000000
abbrev IDENT_REV : Nat := 0x000004
abbrev SYS_MODE_REQ : Nat := 0x010004
abbrev SYS_MODE_STATUS : Nat := 0x010008
abbrev SYS_RESET_CAUSE : Nat := 0x01000C
abbrev SYS_RESET_CTRL : Nat := 0x010010
abbrev SYS_INT_SRC : Nat := 0x010014
abbrev SYS_INT_HOST_EN : Nat := 0x010018
abbrev SYS_INT_MC0_EN : Nat := 0x01001C
abbrev SYS_INT_MC1_EN : Nat := 0x010020
abbrev SYS_INT_STATUS : Nat := 0x010024
abbrev SYS_INT_EN : Nat := 0x010028
abbrev SYS_PORT_STATUS : Nat := 0x01002C
abbrev SYS_DRAM_APERTURE : Nat := 0x010030
abbrev SYS_SERVICE : Nat := 0x010034
abbrev SYS_BOOT_STATUS : Nat := 0x010038
abbrev SYS_FW_STATUS : Nat := 0x01003C
abbrev SYS_CORE_STATUS : Nat := 0x010040
abbrev SYS_MBOX_CMD : Nat := 0x010050
abbrev SYS_MBOX_ARG0 : Nat := 0x010054
abbrev SYS_MBOX_ARG1 : Nat := 0x010058
abbrev SYS_MBOX_ARG2 : Nat := 0x01005C
abbrev SYS_MBOX_ARG3 : Nat := 0x010060
abbrev SYS_MBOX_STATUS : Nat := 0x010064
abbrev SYS_MBOX_RES0 : Nat := 0x010068
abbrev SYS_MBOX_RES1 : Nat := 0x01006C
abbrev SYS_ALARM_FIFO : Nat := 0x010070
abbrev SYS_ALARM_ACK : Nat := 0x010074
abbrev SYS_ALARM_STATUS : Nat := 0x010078
abbrev SYS_BULK_CTRL : Nat := 0x010080
abbrev SYS_BULK_BASE : Nat := 0x010084
abbrev SYS_BULK_LEN : Nat := 0x010088
abbrev SYS_BULK_STATUS : Nat := 0x01008C
abbrev SYS_RCV_DATA : Nat := 0x010090
abbrev CLK_STATUS : Nat := 0x020000
abbrev CLK_CTRL : Nat := 0x020004
abbrev CLK_INT_STATUS : Nat := 0x020008
abbrev CLK_INT_EN : Nat := 0x02000C
abbrev CLK_PLL0_STATUS : Nat := 0x020010
abbrev CLK_PLL1_STATUS : Nat := 0x020014
abbrev CLK_LPLL_EN : Nat := 0x020018
abbrev CLK_LPLL_LOCK : Nat := 0x02001C
abbrev CLK_REF_MEAS : Nat := 0x020020
abbrev CLK_GL_CTRL : Nat := 0x020024
abbrev CLK_GL_STATUS : Nat := 0x020028
abbrev CLK_GL_PERIOD : Nat := 0x02002C
abbrev CLK_LPLL_STATUS : Nat := 0x020040
abbrev PLAN_STATUS : Nat := 0x030000
abbrev PLAN_EPOCH : Nat := 0x030004
abbrev PLAN_LIVE_ID : Nat := 0x030008
abbrev PLAN_COMMIT_CTRL : Nat := 0x03000C
abbrev PLAN_COMMIT_FRAME : Nat := 0x030010
abbrev PLAN_COMMIT_SEC_HI : Nat := 0x030014
abbrev PLAN_COMMIT_SEC_LO : Nat := 0x030018
abbrev PLAN_COMMIT_NS : Nat := 0x03001C
abbrev PLAN_COMMIT_STATUS : Nat := 0x030020
abbrev PLAN_COMMIT_FIRST : Nat := 0x030024
abbrev PLAN_INT_STATUS : Nat := 0x030028
abbrev PLAN_INT_EN : Nat := 0x03002C
abbrev PLAN_LOAD_CTRL : Nat := 0x030040
abbrev PLAN_LOAD_DATA : Nat := 0x030044
abbrev PLAN_LOAD_COUNT : Nat := 0x030048
abbrev PLAN_FLASH_OFFSET : Nat := 0x03004C
abbrev PLAN_BANK_A_STATUS : Nat := 0x030050
abbrev PLAN_BANK_A_ID : Nat := 0x030054
abbrev PLAN_BANK_A_ERROFS : Nat := 0x030058
abbrev PLAN_BANK_B_STATUS : Nat := 0x030060
abbrev PLAN_BANK_B_ID : Nat := 0x030064
abbrev PLAN_BANK_B_ERROFS : Nat := 0x030068
abbrev PLAN_RIG_CTRL : Nat := 0x030080
abbrev PLAN_RIG_ID : Nat := 0x030084
abbrev PLAN_RIG_STATUS : Nat := 0x030088
abbrev PLAN_RIG_TARGET0 : Nat := 0x030090
abbrev PLAN_RIG_TARGET1 : Nat := 0x030094
abbrev PLAN_RIG_ACK0 : Nat := 0x030098
abbrev PLAN_RIG_ACK1 : Nat := 0x03009C
abbrev PLAN_RIG_NAK0 : Nat := 0x0300A0
abbrev PLAN_RIG_NAK1 : Nat := 0x0300A4
abbrev PLAN_RIG_DONE0 : Nat := 0x0300A8
abbrev PLAN_RIG_DONE1 : Nat := 0x0300AC
abbrev PLAN_RIG_FAIL0 : Nat := 0x0300B0
abbrev PLAN_RIG_FAIL1 : Nat := 0x0300B4
abbrev TMG_STATUS : Nat := 0x040000
abbrev TMG_CTRL : Nat := 0x040004
abbrev TMG_FRAME_NUM : Nat := 0x040008
abbrev TMG_FRAME_PRESET : Nat := 0x04000C
abbrev TMG_SCHED : Nat := 0x040010
abbrev TMG_BURST_LEN : Nat := 0x040014
abbrev TMG_SFP_INT : Nat := 0x040018
abbrev TMG_SFP_FRAC : Nat := 0x04001C
abbrev TMG_ROWSLOT : Nat := 0x040020
abbrev TMG_WIN_ROWS : Nat := 0x040024
abbrev TMG_SLOTS : Nat := 0x040028
abbrev TMG_READOUT : Nat := 0x04002C
abbrev TMG_STRIPE_EN0 : Nat := 0x040030
abbrev TMG_STRIPE_EN1 : Nat := 0x040034
abbrev TMG_STRIPE_EN2 : Nat := 0x040038
abbrev TMG_TRIG_ACCEPTED : Nat := 0x04003C
abbrev TMG_TRIG_MISSED : Nat := 0x040040
abbrev TMG_GL_PHASE : Nat := 0x040044
abbrev TMG_GL_LIMIT : Nat := 0x040048
abbrev TMG_SETTLING_CNT : Nat := 0x04004C
abbrev TMG_INT_STATUS : Nat := 0x040050
abbrev TMG_INT_EN : Nat := 0x040054
abbrev TMG_LIVE_CTRL : Nat := 0x040058
abbrev TMG_LIVE_TARGET : Nat := 0x04005C
abbrev TMG_LIVE_STATUS : Nat := 0x040060
abbrev TMG_LIVE_FRAME : Nat := 0x040064
abbrev TMG_LSTG : Nat := 0x040100
abbrev TMG_ACT : Nat := 0x040200
abbrev CNV_STATUS : Nat := 0x050000
abbrev CNV_CTRL : Nat := 0x050004
abbrev CNV_ROT_CFG : Nat := 0x050008
abbrev CNV_ROT_STEPS : Nat := 0x05000C
abbrev CNV_ROT_VOID : Nat := 0x050010
abbrev CNV_ROT_REJECT : Nat := 0x050014
abbrev CNV_ROT_CYCLES : Nat := 0x050018
abbrev CNV_ECLIPSE : Nat := 0x05001C
abbrev CNV_INT_STATUS : Nat := 0x050020
abbrev CNV_INT_EN : Nat := 0x050024
abbrev CNV_SPARES : Nat := 0x050028
abbrev CNV_FAIL_LAST : Nat := 0x05002C
abbrev CNV_RETIRE : Nat := 0x050030
abbrev CNV_RETIRE_STATUS : Nat := 0x050034
abbrev CNV_OVR_CNT_H : Nat := 0x050038
abbrev CNV_OVR_CNT_L : Nat := 0x05003C
abbrev CNV_ECL_CNT : Nat := 0x050040
abbrev CNV_RDIST_CNT : Nat := 0x050044
abbrev CNV_TDAC_CTRL : Nat := 0x050060
abbrev CNV_TDAC_MASK0 : Nat := 0x050064
abbrev CNV_TDAC_MASK1 : Nat := 0x050068
abbrev CNV_TDAC_STATUS : Nat := 0x05006C
abbrev CNV_TDAC_RES : Nat := 0x050100
abbrev STR_CTRL : Nat := 0x152000
abbrev STR_CMD : Nat := 0x152004
abbrev STR_CMD_STATUS : Nat := 0x152008
abbrev STR_INT_STATUS : Nat := 0x15200C
abbrev STR_INT_EN : Nat := 0x152010
abbrev STR_SPARES : Nat := 0x152014
abbrev STR_ACC_CFG : Nat := 0x152020
abbrev STR_CENT_FRAME : Nat := 0x152024
abbrev STR_CENT_SEC_HI : Nat := 0x152028
abbrev STR_CENT_SEC_LO : Nat := 0x15202C
abbrev STR_CENT_NS : Nat := 0x152030
abbrev STR_CENT_FRAC : Nat := 0x152034
abbrev STR_STAT_CTRL : Nat := 0x152040
abbrev STR_STAT_FRAME : Nat := 0x152044
abbrev STR_STAT_EPOCH : Nat := 0x152048
abbrev STR_STAT_MISSED : Nat := 0x15204C
abbrev STR_PROXY_BASE : Nat := 0x152060
abbrev STR_RECON_BASE : Nat := 0x152064
abbrev STR_PROXY_STATUS : Nat := 0x152068
abbrev STR_PROXY_FRAME : Nat := 0x15206C
abbrev STR_SINT_STATUS : Nat := 0x152080
abbrev STR_SINT_EN : Nat := 0x152084
abbrev STR_MAP : Nat := 0x152100
abbrev LNK_STATUS : Nat := 0x300000
abbrev LNK_CTRL : Nat := 0x300004
abbrev LNK_INT_STATUS : Nat := 0x300008
abbrev LNK_INT_EN : Nat := 0x30000C
abbrev LNK_LANE_OK0 : Nat := 0x300010
abbrev LNK_LANE_OK1 : Nat := 0x300014
abbrev LNK_FAIL_REQ0 : Nat := 0x300018
abbrev LNK_FAIL_REQ1 : Nat := 0x30001C
abbrev LNK_GROUP : Nat := 0x300020
abbrev LNK_MAIN_SEQ : Nat := 0x300030
abbrev LNK_TWIN_SEQ : Nat := 0x300034
abbrev LNK_FRAMES_SENT : Nat := 0x300038
abbrev LNK_FRAMES_DAMAGED : Nat := 0x30003C
abbrev LNK_LOST_PKTS : Nat := 0x300040
abbrev LNK_STAT_DROPPED : Nat := 0x300044
abbrev LNK_DEVICE : Nat := 0x300048
abbrev LNK_DUMP_OFFSET : Nat := 0x300050
abbrev LNK_DUMP_LEN : Nat := 0x300054
abbrev LNK_DUMP_LANES0 : Nat := 0x300058
abbrev LNK_DUMP_LANES1 : Nat := 0x30005C
abbrev LNK_DUMP_STATUS : Nat := 0x300060
abbrev LNK_PHY : Nat := 0x300100
abbrev LNK_EQ : Nat := 0x300200
abbrev FAB_STATUS : Nat := 0x310000
abbrev FAB_CTRL : Nat := 0x310004
abbrev FAB_ADDR : Nat := 0x310008
abbrev FAB_INT_STATUS : Nat := 0x31000C
abbrev FAB_INT_EN : Nat := 0x310010
abbrev FAB_PORT : Nat := 0x310020
abbrev FAB_PRX_CTRL : Nat := 0x310050
abbrev FAB_PRX_BASE : Nat := 0x310054
abbrev FAB_FWD_BASE : Nat := 0x310058
abbrev FAB_PRX_STATUS : Nat := 0x31005C
abbrev FAB_MAP_VALID0 : Nat := 0x310060
abbrev FAB_MAP_VALID1 : Nat := 0x310064
abbrev FAB_ROUTE : Nat := 0x310100
abbrev FAB_PRX_CNT : Nat := 0x310200
abbrev FAB_MAP : Nat := 0x310400
abbrev TIME_STATUS : Nat := 0x320700
abbrev TIME_INT_STATUS : Nat := 0x320704
abbrev TIME_INT_EN : Nat := 0x320708
abbrev TIME_XCHK_NS : Nat := 0x32070C
abbrev TIME_XCHK_FRAC : Nat := 0x320710
abbrev TIME_XCHK_LIMIT : Nat := 0x320714
abbrev MON_CTRL : Nat := 0x330000
abbrev MON_STATUS : Nat := 0x330004
abbrev MON_SEL : Nat := 0x330008
abbrev MON_FILT : Nat := 0x33000C
abbrev MON_ODR : Nat := 0x330010
abbrev MON_TAP : Nat := 0x330014
abbrev MON_INT_STATUS : Nat := 0x330018
abbrev MON_INT_EN : Nat := 0x33001C
abbrev MON_ACC_CLR : Nat := 0x330020
abbrev MON_OVR_CNT : Nat := 0x330024
abbrev MON_CAL : Nat := 0x330040
abbrev MON_CH : Nat := 0x330100
abbrev THM_STATUS : Nat := 0x340000
abbrev THM_CTRL : Nat := 0x340004
abbrev THM_CFG : Nat := 0x340008
abbrev THM_RISE_FLOOR : Nat := 0x34000C
abbrev THM_TJ : Nat := 0x340010
abbrev THM_TJ_MIN : Nat := 0x340014
abbrev THM_TJ_ANA : Nat := 0x340018
abbrev THM_TIMER : Nat := 0x34001C
abbrev THM_INT_STATUS : Nat := 0x340020
abbrev THM_INT_EN : Nat := 0x340024
abbrev THM_MASK0 : Nat := 0x340028
abbrev THM_MASK1 : Nat := 0x34002C
abbrev THM_FAIL0 : Nat := 0x340030
abbrev THM_FAIL1 : Nat := 0x340034
abbrev THM_FAIL_EXT : Nat := 0x340038
abbrev THM_EXT_CFG : Nat := 0x340040
abbrev THM_TD_IDEAL : Nat := 0x340044
abbrev THM_TH1_PARAM : Nat := 0x340048
abbrev THM_TH2_PARAM : Nat := 0x34004C
abbrev THM_S : Nat := 0x340100
abbrev THM_THR : Nat := 0x340400
abbrev WDT_CTRL : Nat := 0x350000
abbrev WDT_CFG : Nat := 0x350004
abbrev WDT_MASK : Nat := 0x350008
abbrev WDT_TALLY : Nat := 0x35000C
abbrev WDT_STATUS : Nat := 0x350010
abbrev WDT_ELAPSED : Nat := 0x350014
abbrev WDT_PERIODS : Nat := 0x350018
abbrev WDT_NMI : Nat := 0x35001C
abbrev WDT_INT_STATUS : Nat := 0x350020
abbrev WDT_INT_EN : Nat := 0x350024
abbrev VLT_STATUS : Nat := 0x360000
abbrev VLT_REGION : Nat := 0x360004
abbrev VLT_LOCK : Nat := 0x360008
abbrev VLT_LOCK_SET : Nat := 0x36000C
abbrev VLT_CMD : Nat := 0x360010
abbrev VLT_CMD_ARG : Nat := 0x360014
abbrev VLT_CMD_DATA_LO : Nat := 0x360018
abbrev VLT_CMD_DATA_HI : Nat := 0x36001C
abbrev VLT_CMD_STATUS : Nat := 0x360020
abbrev VLT_INT_STATUS : Nat := 0x360024
abbrev VLT_INT_EN : Nat := 0x360028
abbrev VLT_SLOTS : Nat := 0x36002C
abbrev VLT_POLICY : Nat := 0x360030
abbrev VLT_OVR_CTRL : Nat := 0x360034
abbrev VLT_MARGINAL : Nat := 0x360040
abbrev VLT_SHADOW : Nat := 0x361000
abbrev SEC_STATUS : Nat := 0x370000
abbrev SEC_CTRL : Nat := 0x370004
abbrev SEC_IDK_ADDR : Nat := 0x370008
abbrev SEC_INT_STATUS : Nat := 0x37000C
abbrev SEC_INT_EN : Nat := 0x370010
abbrev SEC_ATT_NONCE : Nat := 0x370020
abbrev SEC_ATT_STATUS : Nat := 0x370040
abbrev SEC_ATT_SEQ : Nat := 0x370044
abbrev SEC_ATT_SEQ_END : Nat := 0x370048
abbrev SEC_ATT_REPORT : Nat := 0x370100
abbrev SEC_SEAL_CTRL : Nat := 0x370800
abbrev SEC_SEAL_STATUS : Nat := 0x370804
abbrev SEC_SEAL_INT_STATUS : Nat := 0x370808
abbrev SEC_SEAL_INT_EN : Nat := 0x37080C
abbrev SEC_SEAL_CHAIN : Nat := 0x370810
abbrev SEC_SEAL_STMT : Nat := 0x370900
abbrev EVL_STATUS : Nat := 0x380000
abbrev EVL_HEAD : Nat := 0x380004
abbrev EVL_TAIL : Nat := 0x380008
abbrev EVL_ACK : Nat := 0x38000C
abbrev EVL_CTRL : Nat := 0x380010
abbrev EVL_INT_STATUS : Nat := 0x380014
abbrev EVL_INT_EN : Nat := 0x380018
abbrev EVL_TOTAL_FAULT : Nat := 0x38001C
abbrev EVL_TOTAL_WARN : Nat := 0x380020
abbrev EVL_LAST_FAULT : Nat := 0x380024
abbrev EVL_FW_ENTRY : Nat := 0x380028
abbrev EVL_FW_DETAIL : Nat := 0x38002C
abbrev EVL_SUM_CTRL : Nat := 0x380030
abbrev EVL_DUMP_CTRL : Nat := 0x380040
abbrev EVL_DUMP_ARG : Nat := 0x380044
abbrev EVL_DUMP_STATUS : Nat := 0x380048
abbrev EVL_DROP : Nat := 0x380100
abbrev CAL_STATUS : Nat := 0x390000
abbrev CAL_CTRL : Nat := 0x390004
abbrev CAL_CFG : Nat := 0x390008
abbrev CAL_RUN_MASK : Nat := 0x39000C
abbrev CAL_DEFER : Nat := 0x390010
abbrev CAL_TREF : Nat := 0x390014
abbrev CAL_INT_STATUS : Nat := 0x390018
abbrev CAL_INT_EN : Nat := 0x39001C
abbrev CAL_RESULT : Nat := 0x390020
abbrev CAL_EQ_CTRL : Nat := 0x390040
abbrev CAL_EQ_EYE : Nat := 0x390044
abbrev CAL_EQ_STATUS : Nat := 0x390048
abbrev CAL_EQ_LANES0 : Nat := 0x39004C
abbrev CAL_EQ_LANES1 : Nat := 0x390050
abbrev CAL_STORE_STATUS : Nat := 0x390060

end Sys2Proof.Machine.A
end

