-- ==== Sys2Proof/Machine/ResetWords.lean ====
section
/-!
DEFINITION. The non-zero reset words of the registers that the register file stores
(15_register_map.md R441). Registers composed from other state (STATUS words and the like) take
their reset words from that state.
-/
namespace Sys2Proof.Machine

/-- Reset word of a stored register by byte address (R441); every other register resets to 0. -/
def resetNat (a : Nat) : Nat :=
  if a = A.SYS_MODE_REQ then 0x1
  else if a = A.SYS_INT_HOST_EN then 0x1
  else if a = A.SYS_INT_EN then 0x1
  else if a = A.TMG_GL_LIMIT then 0x64
  else if a = A.CNV_CTRL then 0x1
  else if a = A.CNV_ROT_CFG then 0x1005
  else if a = A.CNV_ECLIPSE then 0x132
  else if a = A.STR_CTRL then 0x8
  else if a = A.STR_PROXY_BASE then 0x83E00000
  else if a = A.STR_RECON_BASE then 0x85E00000
  else if a = A.LNK_DEVICE then 0xFF
  else if A.LNK_EQ ≤ a ∧ a < A.LNK_EQ + 240 then 0xA82
  else if a = A.FAB_CTRL then 0x70
  else if a = A.FAB_PRX_BASE then 0x8B000000
  else if a = A.FAB_FWD_BASE then 0xCB000000
  else if a = 0x320000 ∨ a = 0x320040 then 0x8
  else if 0x320000 ≤ a ∧ a < 0x320100 ∧ a % 64 = 0x18 then 0x2
  else if 0x320000 ≤ a ∧ a < 0x320100 ∧ a % 64 = 0x1C then 0x80000000
  else if a = 0x320100 ∨ a = 0x320140 then 0x410DD000 + (a - 0x320100) / 64
  else if a = 0x32010C ∨ a = 0x32014C then 0x32
  else if a = 0x320200 ∨ a = 0x320220 ∨ a = 0x320240 then 0x1000180
  else if 0x320300 ≤ a ∧ a < 0x320500 ∧ a % 64 = 0x24 then 0x64
  else if a = A.TIME_XCHK_LIMIT then 0x3E8
  else if a = A.MON_CTRL then 0x4
  else if a = A.MON_SEL then 0x1003
  else if a = A.MON_FILT then 0x47D006
  else if a = A.THM_CFG then 0x10A288C8
  else if a = A.THM_RISE_FLOOR then 0x3C
  else if a = A.THM_EXT_CFG then 0x1900
  else if a = A.THM_TD_IDEAL then 0x81068106
  else if a = A.THM_TH1_PARAM ∨ a = A.THM_TH2_PARAM then 0x0D6B2710
  else if A.THM_THR ≤ a ∧ a < A.THM_THR + 272 then 0x1E786455
  else if a = A.WDT_CTRL then 0x8
  else if a = A.WDT_CFG then 0xF4240
  else if a = A.WDT_MASK then 0x1
  else if a = A.SEC_SEAL_CTRL then 0x1801
  else if a = A.CAL_CFG then 0x1000A90
  else if a = A.CAL_DEFER then 0x258
  else if a = A.CAL_EQ_CTRL then 0x4D00
  else if a = A.EVL_CTRL then 0xA00
  else if a = A.EVL_SUM_CTRL then 0x640000
  else 0

/-- The same as a register word. -/
def resetWord (a : Nat) : Word := mkWord (resetNat a)

end Sys2Proof.Machine
end

