-- ==== Sys2Proof/Machine/State.lean ====
section
/-!
DEFINITION. The whole state of the block as plain data, the reasons a step can stop, and the
state right after reset (15_register_map.md R441, 10_management_and_boot.md R305).
-/
namespace Sys2Proof.Machine

/-- What happened to registers in the MGTCLK cycle `cycle`, by address: the RWC bits that the device set
(R6), and the place in R290's order of the writer whose value stands. -/
structure Rwc where
  cycle : Nat := 0
  bits  : List (Nat × Nat) := []
  wrote : List (Nat × Nat) := []
  deriving DecidableEq, Repr

/-- The state of the block. Registers that software reads and writes whole are words of `regs`;
everything that moves by itself is a field of its block's part. -/
structure State where
  /-- Commands that wait, first in first out. -/
  pending : List Instr := []
  /-- Device time in units of 1/691.2 GHz. -/
  now     : Nat := 0
  /-- Number of free values drawn so far (log entry 5). -/
  draws   : Nat := 0
  /-- Stored register words by byte address; an unlisted one reads as its reset word. -/
  regs    : List (Nat × Word) := []
  rwc     : Rwc := {}
  /-- The 4 GiB of stacked DRAM (R11). -/
  dram    : Memory := []
  /-- Retained SRAM, offsets 0 to 0x1FFF (R327). -/
  ret     : Memory := []
  /-- Management SRAM of MC0 and MC1, 1.5 MiB each (R289): the section loaded last. -/
  sram0   : Memory := []
  sram1   : Memory := []
  /-- Boot flash, 64 MiB (R308); an unlisted byte reads 0, see log entry 4. -/
  flash   : Memory := []
  part    : Part := {}
  sys     : Sys := {}
  clk     : Clk := {}
  tmg     : Tmg := {}
  plan    : PlanBlk := {}
  cnv     : Cnv := {}
  str     : Str := {}
  time    : TimeBlk := {}
  /-- Frames in flight, oldest first (R131). -/
  frames  : List Frame := []
  lnk     : Lnk := {}
  seals   : Seal := {}
  vlt     : Vlt := {}
  fab     : Fab := {}
  mon     : Mon := {}
  thm     : Thm := {}
  cal     : Cal := {}
  wdt     : Wdt := {}
  evl     : Evl := {}
  deriving DecidableEq, Repr

/-- Reasons the block stops with a fault. The manual gives none: every faulty access is handled
(R294, R433). -/
inductive Fault where
  /-- Never raised; kept so that the interface has a type. Safe. -/
  | none_
  deriving DecidableEq, Repr

/-- Reasons a command is turned away by the model. -/
inductive Refusal where
  /-- The command has no meaning in the model yet. Safe: nothing can be proved about it. -/
  | notModelled (mnemonic : String)
  deriving DecidableEq, Repr

/-- The block right after the release of a power-on reset. -/
def State.reset : State := {}

end Sys2Proof.Machine
end

