-- ==== Sys2Proof/Machine/Ops.lean ====
section
/-!
DEFINITION. Named operations every block uses: the register file, interrupt bits, the clock
counts, raising events and device time.
-/
namespace Sys2Proof.Machine

/-- Outcomes of a command. -/
abbrev Out := Host.Outcome State Fault Refusal

/-! ### Clock counts -/

/-- MGTCLK cycles begun up to instant `t` (R6: counted on whatever clock drives MGTCLK). -/
def Clk.mgtAt (c : Clk) (t : Nat) : Nat := c.mgtN + (t - c.mgtT) / c.mgtPer

/-- MGTCLK cycle now. -/
def State.mgt (s : State) : Nat := s.clk.mgtAt s.now

/-! ### Register file -/

/-- Stored word of a register. -/
def State.reg (s : State) (a : Nat) : Word := sget resetWord s.regs a

/-- Stored word as a number. -/
def State.rn (s : State) (a : Nat) : Nat := (s.reg a).toNat

/-- Field of a stored register (R3). -/
def State.rf (s : State) (a lo w : Nat) : Nat := field (s.rn a) lo w

/-- Bit of a stored register. -/
def State.rb (s : State) (a i : Nat) : Bool := (s.rn a).testBit i

/-- Store a register word. -/
def State.setReg (s : State) (a : Nat) (v : Word) : State :=
  { s with regs := sput resetWord s.regs a v }

/-- Store a number in a register. -/
def State.setRn (s : State) (a n : Nat) : State := s.setReg a (mkWord n)

/-- Set bits of a status register. -/
def State.orReg (s : State) (a mask : Nat) : State := s.setRn a (s.rn a ||| mask)

/-- What happened to registers in the present MGTCLK cycle. -/
def State.rwcNow (s : State) : Rwc := if s.rwc.cycle = s.mgt then s.rwc else { cycle := s.mgt }

/-- RWC bits of `a` that the device has set in this MGTCLK cycle (R6). -/
def State.justSet (s : State) (a : Nat) : Nat := sget (fun _ => 0) s.rwcNow.bits a

/-- The device sets RWC bits of `a` now (R6). -/
def State.note (s : State) (a mask : Nat) : State :=
  { s with rwc := { s.rwcNow with bits := smod (fun _ => 0) s.rwcNow.bits a (· ||| mask) } }

/-- Place of a writer in the order of R290, from 1: host control port, MC1, MC0. -/
def writerRank : Who → Nat
  | .host => 1
  | .mc1 => 2
  | .mc0 => 3

/-- In this MGTCLK cycle a writer that R290 puts after `who` has written register `a`. -/
def State.outranked (s : State) (who : Who) (a : Nat) : Bool :=
  writerRank who < sget (fun _ => 0) s.rwcNow.wrote a

/-- `who` is on record as a writer of register `a` in this MGTCLK cycle. -/
def State.markWriter (s : State) (who : Who) (a : Nat) : State :=
  if s.outranked who a then s
  else { s with rwc := { s.rwcNow with wrote := sput (fun _ => 0) s.rwcNow.wrote a (writerRank who) } }

/-- A write of the stored word `v` to register `a`: in one MGTCLK cycle the value of the writer that
comes last in the order of R290 stands. -/
def State.storeBy (s : State) (who : Who) (a v : Nat) : State :=
  if s.outranked who a then s else (s.setRn a v).markWriter who a

/-- What is left of RWC bits `old` of `a` after a write of `v`: a 1 clears, but not a bit set in the
same cycle (R5, R6). -/
def State.afterClear (s : State) (a old v : Nat) : Nat := old - (old &&& (v - (v &&& s.justSet a)))

/-- Set interrupt status bit `i` of the status register at `a`. -/
def State.setInt (s : State) (a i : Nat) : State := (s.orReg a (2 ^ i)).note a (2 ^ i)

/-- Take interrupt status bit `i` of the status register at `a` back. -/
def State.dropInt (s : State) (a i : Nat) : State := s.setRn a (s.rn a - (s.rn a &&& 2 ^ i))

/-- Clear the RWC bits of `a` that are written as 1 (R5, R6). -/
def State.clrReg (s : State) (a v : Nat) : State := s.setRn a (s.afterClear a (s.rn a) v)

/-! ### Events -/

/-- Raise an event; it is entered in the ledger at the end of the cycle (R343). -/
def State.raise (s : State) (e : Event) : State :=
  { s with evl := { s.evl with staged := s.evl.staged ++ [e] } }

/-- Raise a warning. -/
def State.warn (s : State) (cls code unit detail : Nat) : State :=
  s.raise { sev := .warn, cls := cls, code := code, unit := unit, detail := detail }

/-- Raise a fault. -/
def State.faultEv (s : State) (cls code unit detail : Nat) : State :=
  s.raise { sev := .fault, cls := cls, code := code, unit := unit, detail := detail }

/-- Raise an information event. -/
def State.info (s : State) (cls code unit detail : Nat) : State :=
  s.raise { sev := .info, cls := cls, code := code, unit := unit, detail := detail }

/-- A write ignored or denied under a home rule: warning with code 0x81, the writer in UNIT and
the address in DETAIL (R340). -/
def State.ignored (s : State) (cls : Nat) (who : Who) (addr : Nat) : State :=
  s.warn cls 0x81 who.code addr

/-- A lock violation: warning with code 0x80 (R7, R340). -/
def State.lockViolation (s : State) (cls : Nat) (who : Who) (addr : Nat) : State :=
  s.warn cls 0x80 who.code addr

/-- Set bit `i` of `EVL_INT_STATUS`. -/
def State.setEvlInt (s : State) (i : Nat) : State :=
  { s with evl := { s.evl with intStatus := s.evl.intStatus ||| mkWord (2 ^ i) } }.note A.EVL_INT_STATUS (2 ^ i)

/-! ### Instants -/

/-- Instant at which MGTCLK cycle `n` begins on the present source. -/
def State.mgtInstant (s : State) (n : Nat) : Nat := s.clk.mgtT + (n - s.clk.mgtN) * s.clk.mgtPer

/-- Device time moves on to instant `t` if that is still ahead. -/
def State.goTo (s : State) (t : Nat) : State := { s with now := max s.now t }

/-- Device time moves on to the beginning of MGTCLK cycle `n`. -/
def State.goMgt (s : State) (n : Nat) : State := s.goTo (s.mgtInstant n)

/-- A protocol timer ends at instant `t`: its effect comes when the MGTCLK cycle of its end is over, so that
the event it awaits wins in that cycle (R9; log entry 40). -/
def State.timeUp (s : State) (t : Nat) : State := s.goTo (s.mgtInstant (s.clk.mgtAt t + 1))

/-- The same for a timer that ends in MGTCLK cycle `n`. -/
def State.cycleUp (s : State) (n : Nat) : State := s.goMgt (n + 1)

/-- The first SEQCLK edge at or after instant `t` (R41, R126). -/
def State.seqEdge (s : State) (t : Nat) : Nat :=
  let o := s.clk.seqOrg % Config.seqTU
  if t ≤ o then o else o + divUp (t - o) Config.seqTU * Config.seqTU

/-- Microseconds since the release of the most recent reset, on OSC50 (R339). -/
def State.usSince (s : State) : Nat := (s.now - s.sys.release) / Config.oscTU / 50

/-- 64 µs, the lead of R127, in time units. -/
def us64 : Nat := 64 * Config.tuPerUs

/-- Milliseconds in time units. -/
def ms (n : Nat) : Nat := n * 1000 * Config.tuPerUs

/-- Microseconds in time units. -/
def us (n : Nat) : Nat := n * Config.tuPerUs

/-- State of PLL `i` (0 PLL0, 1 PLL1, 2+q link PLL q). -/
def Clk.pll (c : Clk) (i : Nat) : Pll := sget (fun _ => {}) c.plls i

/-- Replace the state of PLL `i`. -/
def State.setPll (s : State) (i : Nat) (p : Pll) : State :=
  { s with clk := { s.clk with plls := sput (fun _ => {}) s.clk.plls i p } }

/-- PLL `i` is LOCKED. -/
def State.locked (s : State) (i : Nat) : Bool := (s.clk.pll i).state = .locked

/-- A fresh free value (log entry 5). -/
def State.draw (s : State) : Nat × State := (Config.randomBits s.draws, { s with draws := s.draws + 1 })

/-! ### Modes -/

/-- Frames are being captured or monitored. -/
def Mode.capturing : Mode → Bool
  | .monitor | .capture => true
  | _ => false

/-! ### Bank selection -/

/-- Bank 0 or 1. -/
def PlanBlk.bank (p : PlanBlk) (i : Nat) : Bank := if i = 0 then p.bankA else p.bankB

/-- Replace bank 0 or 1. -/
def PlanBlk.setBank (p : PlanBlk) (i : Nat) (b : Bank) : PlanBlk :=
  if i = 0 then { p with bankA := b } else { p with bankB := b }

/-- Replace bank 0 or 1. -/
def State.setBank (s : State) (i : Nat) (b : Bank) : State :=
  { s with plan := s.plan.setBank i b }

end Sys2Proof.Machine
end

