-- ==== Sys2Proof/Machine/BootLedger.lean ====
section
/-!
DEFINITION. The boot ledger in retained SRAM and the choice of variants from it
(10_management_and_boot.md R314, R316, R327).
-/
namespace Sys2Proof.Machine

/-- Entries of the ring (R314). -/
def bootRing : Nat := 252

/-- A boot ledger entry, without BOOT and TIME. -/
structure BootEntry where
  step    : Nat
  variant : Nat
  outcome : Nat
  core    : Nat
  detail  : Nat
  deriving DecidableEq, Repr

/-- Outcomes (R314). -/
def ocStarted : Nat := 0
def ocOk : Nat := 1
def ocFailed : Nat := 2
def ocSkipped : Nat := 3

/-- Write `n` bytes at RET offset `o`. -/
def State.retPut (s : State) (o n v : Nat) : State := { s with ret := wrLE s.ret o n v }

/-- Read `n` bytes at RET offset `o`. -/
def State.retGet (s : State) (o n : Nat) : Nat := rdLE s.ret o n

/-- Write an entry at NEXT; one boot writes at most 64 (R314). -/
def State.bootPut (s : State) (e : BootEntry) : State :=
  if 64 ≤ s.sys.boot.entries then s.retPut 0x0E 2 (s.retGet 0x0E 2 ||| 2)
  else
    let i := s.retGet 8 2
    let o := 0x40 + 16 * i
    let s1 := (((((s.retPut o 4 (s.retGet 4 4)).retPut (o + 4) 1 e.step).retPut (o + 5) 1 e.variant).retPut
      (o + 6) 1 e.outcome).retPut (o + 7) 1 e.core).retPut (o + 8) 4 (s.usSince % 2 ^ 32)
    let s2 := (s1.retPut (o + 12) 4 (e.detail % 2 ^ 32)).retPut 8 2 ((i + 1) % bootRing)
    let s3 := if i + 1 = bootRing then s2.retPut 0x0E 2 (s2.retGet 0x0E 2 ||| 1) else s2
    { s3 with sys := { s3.sys with boot := { s3.sys.boot with entries := s3.sys.boot.entries + 1 } } }

/-- Core that a step runs on (R312, R314). -/
def stepCore (k : Nat) : Nat := if k ≤ 5 then 0 else if k = 11 ∨ k = 12 then 2 else 1

/-- An entry of step `k` in its variant. -/
def State.bootNote (s : State) (k variant outcome detail : Nat) : State :=
  s.bootPut { step := k, variant := variant, outcome := outcome, core := stepCore k, detail := detail }

/-- `RET_STATUS` counts `n` more corrected ECC errors, saturating (R327; log entry 49). -/
def State.eccCount (s : State) (n : Nat) : State :=
  if n = 0 then s else s.retPut 0x1004 2 (satAdd (s.retGet 0x1004 2) n 16)

/-- The ledger cannot be used (R314): a wrong magic or an uncorrectable word. -/
def State.ledgerUnusable (s : State) (ecc : Bool) : Bool := ecc || decide (s.retGet 0 4 ≠ 0x47444C42)

/-- The ledger at the start of a boot (R314): initialised where it cannot be used, then BEGIN, whose
OUTCOME the manual does not state (log entry 10). -/
def State.bootBegin (s : State) (ecc : Bool) (cause : Nat) : State :=
  let lost := s.ledgerUnusable ecc
  let s1 := if lost then
      ({ s with ret := wipe s.ret 0 0x1000 }.retPut 0 4 0x47444C42).retPut 0x0A 2 0xFFFF
    else s
  let s2 := if ecc then s1.retPut 0x1004 4 (s1.retGet 0x1004 4 ||| 2 ^ 16) else s1
  let prev := s2.retGet 0x0A 2
  let s3 := (((s2.retPut 4 4 (wrapAdd (s2.retGet 4 4) 1 32)).retPut 0x0C 2 prev).retPut 0x0A 2
    (s2.retGet 8 2)).retPut 0x0E 2 (s2.retGet 0x0E 2 % 2)
  let s4 := { s3 with sys := { s3.sys with boot := { s3.sys.boot with
    entries := 0, ledgerLost := lost && decide (s3.sys.causeLast ≠ 0) } } }
  s4.bootPut
    { step := 0, variant := 0, outcome := Config.openValue 30 [] % 4, core := 0, detail := cause }

/-- Indices of the previous boot's entries, oldest first. -/
def State.prevIndices (s : State) : List Nat :=
  let a := s.retGet 0x0C 2
  let b := s.retGet 0x0A 2
  if a = 0xFFFF then [] else (List.range ((b + bootRing - a) % bootRing)).map fun i => (a + i) % bootRing

/-- Step, variant and outcome of the previous boot's entries. -/
def State.prevEntries (s : State) : List (Nat × Nat × Nat) :=
  s.prevIndices.map fun i =>
    let o := 0x40 + 16 * i
    (s.retGet (o + 4) 1, s.retGet (o + 5) 1, s.retGet (o + 6) 1)

/-- The last attempt of step `k` in the previous boot, with its outcome; a hang counts as FAILED. -/
def State.lastAttempt (s : State) (k : Nat) : Option (Nat × Nat) :=
  s.prevEntries.foldl (fun (a : Option (Nat × Nat)) e =>
    if e.1 ≠ k then a else some (e.2.1, if e.2.2 = ocStarted then ocFailed else e.2.2)) none

/-- Variant and DETAIL of the last entry of step `k` in the previous boot. -/
def State.lastEntry (s : State) (k : Nat) : Nat × Nat :=
  s.prevIndices.foldl (fun (a : Nat × Nat) i =>
    let o := 0x40 + 16 * i
    if s.retGet (o + 4) 1 = k then (s.retGet (o + 5) 1, s.retGet (o + 12) 4) else a) (0, 0)

/-- The previous boot reached DONE. -/
def State.prevDone (s : State) : Bool := s.prevEntries.any fun e => e.1 = 14 && e.2.2 = ocOk

/-- Steps with a variant 1 (R312). -/
def hasVariant1 (k : Nat) : Bool := [3, 4, 6, 8, 9, 10, 11, 12, 13].contains k

/-- The variant of step `k` (R316); none when the step is exhausted. -/
def State.bootVariant (s : State) (k : Nat) : Option Nat :=
  if s.retGet 0x0C 2 = 0xFFFF ∨ s.prevDone then some 0
  else
    match s.lastAttempt k with
    | none => some 0
    | some (v, oc) =>
      if oc = ocOk ∨ oc = ocSkipped then some v
      else if v = 0 ∧ hasVariant1 k then some 1
      else none

/-- Step 4 used variant 1 in this boot or the previous one (R316). -/
def State.slotsUsed (s : State) : Bool :=
  s.sys.boot.switched || s.prevEntries.any (fun e => e.1 = 4 && e.2.1 = 1)

/-- The boot ends in SAFE for a cause that is no boot step (R17): the step in progress is recorded
FAILED with the cause. -/
def State.bootCause (s : State) (cause : Nat) : State :=
  let b := s.sys.boot
  if b.ended then s
  else
    let s1 := s.bootNote b.step b.variant ocFailed cause
    { s1 with sys := { s1.sys with boot := { s1.sys.boot with ended := true } } }

end Sys2Proof.Machine
end

