-- ==== Sys2Proof/Machine/Numeric.lean ====
section
/-!
DEFINITION. Natural logarithms of positive rationals in fixed point, for the readings that the
manual defines with ln or log10 (12_thermal_and_monitor.md R367, 13_calibration.md R400). Results
are in units of 2^-80, within 2^-60 (log entry 22).
-/
namespace Sys2Proof.Machine

/-- One in the fixed point. -/
def fxOne : Int := 2 ^ 80

/-- Powers of `t` over odd numbers: the terms of the series of atanh from exponent `2k+1` on. -/
def atanhTerms (t2 : Int) : Nat → Nat → Int → Int
  | 0, _, _ => 0
  | n + 1, k, p => p / (2 * k + 1 : Nat) + atanhTerms t2 n (k + 1) (p * t2 / fxOne)

/-- atanh of `a / b` with `0 ≤ a / b ≤ 1/3`. -/
def fxAtanh (a b : Int) : Int :=
  let t := a * fxOne / b
  atanhTerms (t * t / fxOne) 40 0 t

/-- ln 2. -/
def fxLn2 : Int := 2 * fxAtanh 1 3

/-- ln of `n / d` for positive `n` and `d`. -/
def fxLn (n d : Nat) : Int :=
  let e : Int := (Nat.log2 n : Int) - (Nat.log2 d : Int)
  let p : Int := if e < 0 then (n : Int) * 2 ^ (-e).toNat else n
  let q : Int := if e < 0 then d else (d : Int) * 2 ^ e.toNat
  if p < q then (e - 1) * fxLn2 + 2 * fxAtanh (2 * p - q) (2 * p + q)
  else e * fxLn2 + 2 * fxAtanh (p - q) (p + q)

/-- ln 10. -/
def fxLn10 : Int := fxLn 10 1

/-- The nearest integer to `k · log10(n / d)`. -/
def roundLog10 (k n d : Nat) : Int := divRound (k * fxLn n d) fxLn10

end Sys2Proof.Machine
end

