-- ==== Sys2Proof/Machine/Blocks.lean ====
section
/-!
DEFINITION. The blocks of a Frond lane: their formation, the training pattern and the scrambler
(07_frond_output.md R199, R200, R202).
-/
namespace Sys2Proof.Machine

/-- A 66-bit block before scrambling (R199): sync header and eight payload bytes, byte 0 first. -/
structure Block where
  sync    : Nat
  payload : List Byte
  deriving DecidableEq, Repr

/-- A data block. -/
def dataBlock (b : List Byte) : Block := { sync := 1, payload := b }

/-- A control block of a type (R200); bytes not named are 0. -/
def controlBlock (type : Nat) (b : List Byte) : Block :=
  { sync := 2, payload := BitVec.ofNat 8 type :: (b ++ List.replicate (7 - b.length) 0) }

/-- The control blocks of R200. -/
def idleBlock : Block := controlBlock 0x2D []
def trainBlock (p : Nat) : Block := controlBlock 0x4E (beBytes p 1)
def sopBlock (type len : Nat) : Block := controlBlock 0x55 (beBytes type 1 ++ beBytes len 2)
def laneBlock (logical : Option Nat) (p set marks : Nat) : Block :=
  controlBlock 0x66 (beBytes (logical.getD 0x3F) 1 ++ beBytes p 1 ++ beBytes set 1 ++ beBytes marks 4)

/-- The data blocks of `n` times eight bytes. -/
def dataBlocks : Nat → List Byte → List Block
  | 0, _ => []
  | n + 1, b => dataBlock (b.take 8) :: dataBlocks n (b.drop 8)

/-- A packet: its SOP block and its body (R200, R208). -/
def packetBlocks (type : Nat) (body : List Byte) : List Block :=
  sopBlock type body.length :: dataBlocks (body.length / 8) body

/-- Bits of PRBS-31 (x^31 + x^28 + 1) after a state of 31 bits, as the number they spell, first bit lowest,
with the state reached. -/
def prbs31 : Nat → Nat → Nat × Nat
  | 0, s => (0, s)
  | n + 1, s =>
    let b := b2n (s.testBit 30 ^^ s.testBit 27)
    let (v, t) := prbs31 n ((2 * s + b) % 2 ^ 31)
    (b + 2 * v, t)

/-- One period of the training pattern of a lane (R202): a TRAIN block and 63 blocks of PRBS-31, whose state
the manual does not give. -/
def trainPattern (p seed : Nat) : List Block :=
  trainBlock p :: dataBlocks 63 (leBytes (prbs31 (63 * 64) seed).1 (63 * 8))

/-! ### The scrambler (R199) -/

/-- One bit through the scrambler x^58 + x^39 + 1; bit k of the state is the output k + 1 bits ago, so that
bit 0 of the new state is the bit sent. -/
def scrambleBit (s : Nat) (b : Bool) : Nat :=
  (2 * s + b2n (b ^^ s.testBit 38 ^^ s.testBit 57)) % 2 ^ 58

/-- `n` payload bits, lowest first: the state reached and the bits sent. -/
def scrambleBits : Nat → Nat → Nat → Nat × Nat
  | 0, s, _ => (s, 0)
  | n + 1, s, v =>
    let s1 := scrambleBit s (v.testBit 0)
    let (s2, w) := scrambleBits n s1 (v / 2)
    (s2, s1 % 2 + 2 * w)

/-- A block through the scrambler: the state reached and the 66 bits sent, the sync header, which is not
scrambled, in bits 1:0. -/
def scrambleBlock (s : Nat) (b : Block) : Nat × Nat :=
  let (t, w) := scrambleBits 64 s (ofLE b.payload)
  (t, b.sync + 4 * w)

/-- Blocks through the scrambler, whose state runs on across them. -/
def scramble : Nat → List Block → Nat × List Nat
  | s, [] => (s, [])
  | s, b :: r =>
    let (t, w) := scrambleBlock s b
    let (u, ws) := scramble t r
    (u, w :: ws)

/-- An affine map of scrambler states: the images of the bits, and of 0. -/
structure ScrMap where
  cols : List Nat
  base : Nat

/-- Linear part, value and composition (`a` after `b`). -/
def ScrMap.lin (m : ScrMap) (s : Nat) : Nat :=
  ((List.range 58).zip m.cols).foldl (fun a (i, c) => if s.testBit i then a ^^^ c else a) 0

def ScrMap.app (m : ScrMap) (s : Nat) : Nat := m.lin s ^^^ m.base

def ScrMap.comp (a b : ScrMap) : ScrMap := { cols := b.cols.map a.lin, base := a.app b.base }

/-- `n`-fold application. -/
def ScrMap.pow : Nat → Nat → ScrMap → ScrMap
  | 0, _, _ => { cols := (List.range 58).map (2 ^ ·), base := 0 }
  | fuel + 1, n, m =>
    if n = 0 then { cols := (List.range 58).map (2 ^ ·), base := 0 }
    else
      let h := pow fuel (n / 2) (m.comp m)
      if n % 2 = 1 then h.comp m else h

/-- What one IDLE block does to the scrambler. -/
def idleMap : ScrMap :=
  let z := (scrambleBlock 0 idleBlock).1
  { cols := (List.range 58).map fun i => (scrambleBlock (2 ^ i) idleBlock).1 ^^^ z, base := z }

/-- Scrambler state after `n` IDLE blocks: what a lane with nothing to send sends (R200). -/
def idleRun (n s : Nat) : Nat := if n = 0 then s else (ScrMap.pow 64 n idleMap).app s

end Sys2Proof.Machine
end

