-- ==== Sys2Proof/Machine/Hash.lean ====
section
/-!
DEFINITION. CRC-32 (04_plans.md R110), SHA-256 (07_frond_output.md R222), and the verification of
an RSASSA-PSS signature with SHA-256, MGF1 and a 32-byte salt (04_plans.md R121).
-/
namespace Sys2Proof.Machine

/-! ### CRC-32 -/

/-- One bit of the reflected CRC. -/
def crcBit (c : Nat) : Nat := if c % 2 = 1 then (c / 2) ^^^ 0xEDB88320 else c / 2

/-- One byte of the CRC. -/
def crcByte (c : Nat) (b : Byte) : Nat :=
  crcBit (crcBit (crcBit (crcBit (crcBit (crcBit (crcBit (crcBit (c ^^^ b.toNat))))))))

/-- CRC-32, polynomial 0x04C1_1DB7 reflected, initial value and final complement all ones (R110). -/
def crc32 (l : List Byte) : Nat := (l.foldl crcByte 0xFFFFFFFF) ^^^ 0xFFFFFFFF

/-! ### SHA-256 -/

/-- Modulus of the hash words. -/
def w32 : Nat := 4294967296

/-- Rotate right within 32 bits. -/
def rotr (x n : Nat) : Nat := (x >>> n) ||| ((x <<< (32 - n)) % w32)

/-- The 64 round constants, eight words to a row: word `i` is the first 32 bits of the fractional
part of the cube root of prime number `i`. -/
def shaRows : List Nat :=
  [0x428A2F9871374491B5C0FBCFE9B5DBA53956C25B59F111F1923F82A4AB1C5ED5,
   0xD807AA9812835B01243185BE550C7DC372BE5D7480DEB1FE9BDC06A7C19BF174,
   0xE49B69C1EFBE47860FC19DC6240CA1CC2DE92C6F4A7484AA5CB0A9DC76F988DA,
   0x983E5152A831C66DB00327C8BF597FC7C6E00BF3D5A7914706CA635114292967,
   0x27B70A852E1B21384D2C6DFC53380D13650A7354766A0ABB81C2C92E92722C85,
   0xA2BFE8A1A81A664BC24B8B70C76C51A3D192E819D6990624F40E3585106AA070,
   0x19A4C1161E376C082748774C34B0BCB5391C0CB34ED8AA4A5B9CCA4F682E6FF3,
   0x748F82EE78A5636F84C878148CC7020890BEFFFAA4506CEBBEF9A3F7C67178F2]

/-- The eight words packed in a 256-bit number, the first in its top bits. -/
def unpack8 (n : Nat) : List Nat := (List.range 8).map fun i => field n (32 * (7 - i)) 32

/-- The round constants in order. -/
def shaK : List Nat := shaRows.flatMap unpack8

/-- Working variables of the hash. -/
structure ShaSt where
  a : Nat
  b : Nat
  c : Nat
  d : Nat
  e : Nat
  f : Nat
  g : Nat
  h : Nat
  deriving DecidableEq, Repr

/-- The eight words of a list as working variables. -/
def ShaSt.ofWords (l : List Nat) : ShaSt :=
  { a := l.getD 0 0, b := l.getD 1 0, c := l.getD 2 0, d := l.getD 3 0
    e := l.getD 4 0, f := l.getD 5 0, g := l.getD 6 0, h := l.getD 7 0 }

/-- The working variables in order. -/
def ShaSt.words (s : ShaSt) : List Nat := [s.a, s.b, s.c, s.d, s.e, s.f, s.g, s.h]

/-- The hash before the first block: square roots of the first eight primes. -/
def shaInit : ShaSt :=
  ShaSt.ofWords (unpack8 0x6A09E667BB67AE853C6EF372A54FF53A510E527F9B05688C1F83D9AB5BE0CD19)

/-- Exclusive or of a word's rotations by the listed amounts. -/
def xorRots (x : Nat) (l : List Nat) : Nat := l.foldl (fun v n => v ^^^ rotr x n) 0

/-- One round: what enters at the bottom of the register (`top`) and at its middle (`mid`); the other
words move on by one place. -/
def shaRound (s : ShaSt) (k w : Nat) : ShaSt :=
  let pick := s.g ^^^ (s.e &&& (s.f ^^^ s.g))
  let vote := (s.a &&& s.b) ||| (s.c &&& (s.a ||| s.b))
  let mid := k + w + s.h + pick + xorRots s.e [6, 11, 25]
  let top := mid + vote + xorRots s.a [2, 13, 22]
  ShaSt.ofWords [top % w32, s.a, s.b, s.c, (s.d + mid) % w32, s.e, s.f, s.g]

/-- Extend the message schedule: `acc` holds the words so far, newest first; the new word is the sum
of those 16, 15, 7 and 2 places back, the second and the last of them mixed. -/
def shaExtend : Nat → List Nat → List Nat
  | 0, acc => acc
  | n + 1, acc =>
    let far := acc.getD 14 0
    let near := acc.getD 1 0
    let mixed := (xorRots far [7, 18] ^^^ (far / 8)) + (xorRots near [17, 19] ^^^ (near / 1024))
    shaExtend n ((mixed + acc.getD 6 0 + acc.getD 15 0) % w32 :: acc)

/-- The 16 words of a 64-byte block, big-endian. -/
def shaWords : Nat → List Byte → List Nat
  | 0, _ => []
  | n + 1, l => ofBE (l.take 4) :: shaWords n (l.drop 4)

/-- Compress one block: the rounds' result is added word by word. -/
def shaBlock (s : ShaSt) (blk : List Byte) : ShaSt :=
  let ws := (shaExtend 48 (shaWords 16 blk).reverse).reverse
  let r := (shaK.zip ws).foldl (fun st p => shaRound st p.1 p.2) s
  ShaSt.ofWords (List.zipWith (fun x y => (x + y) % w32) s.words r.words)

/-- Compress `n` blocks. -/
def shaBlocks : Nat → ShaSt → List Byte → ShaSt
  | 0, s, _ => s
  | n + 1, s, l => shaBlocks n (shaBlock s (l.take 64)) (l.drop 64)

/-- Padding: a one bit, zeros, and the bit length in 8 big-endian bytes. -/
def shaPad (l : List Byte) : List Byte :=
  let n := l.length
  l ++ (0x80 : Byte) :: List.replicate ((119 - n % 64) % 64) 0 ++ beBytes (8 * n) 8

/-- SHA-256, 32 bytes. -/
def sha256 (l : List Byte) : List Byte :=
  let p := shaPad l
  let s := shaBlocks (p.length / 64) shaInit p
  s.words.flatMap fun x => beBytes x 4

/-- HMAC-SHA-256 with a key of at most 64 bytes (RFC 2104). -/
def hmac256 (key msg : List Byte) : List Byte :=
  let k := key ++ List.replicate (64 - key.length) 0
  sha256 (k.map (· ^^^ 0x5C) ++ sha256 (k.map (· ^^^ 0x36) ++ msg))

/-! ### RSASSA-PSS -/

/-- MGF1 with SHA-256: `k` hash blocks. -/
def mgf1 (seed : List Byte) (k : Nat) : List Byte :=
  (List.range k).flatMap fun i => sha256 (seed ++ beBytes i 4)

/-- Square `n` times modulo `m`. -/
def sqMod : Nat → Nat → Nat → Nat
  | 0, x, _ => x
  | n + 1, x, m => sqMod n (x * x % m) m

/-- `x` to the power 65 537 modulo `m`. -/
def powF4 (x m : Nat) : Nat := sqMod 16 x m * x % m

/-- Bytewise exclusive or. -/
def xorBytes (a b : List Byte) : List Byte := List.zipWith (· ^^^ ·) a b

/-- Verification of an RSA-3072 PSS signature over `msg` (R121): modulus and signature are
big-endian byte strings of 384 bytes, the exponent is 65 537. -/
def pssVerify (modulus sig msg : List Byte) : Bool :=
  let n := ofBE modulus
  let x := ofBE sig
  let em := beBytes (powF4 x n) 384
  let maskedDB := em.take 351
  let h := (em.drop 351).take 32
  let db0 := xorBytes maskedDB (mgf1 h 11)
  let db := (db0.take 1).map (fun b => b &&& 0x7F) ++ db0.drop 1
  let salt := db.drop 319
  n ≠ 0 && x < n && (em.drop 383 == [0xBC]) && (em.take 1).all (fun b => b.toNat < 128) &&
    (db.take 318).all (fun b => b = 0) && ((db.drop 318).take 1 == [1]) &&
    sha256 (List.replicate 8 0 ++ sha256 msg ++ salt) == h

end Sys2Proof.Machine
end

