-- ==== Sys2Proof/Machine/Ledger.lean ====
section
/-!
DEFINITION. Entering events in the ledger: coalescing, admission, merging and dropping
(11_supervision.md R339 to R343), the EVL interrupt request with its holdoff (R345), and the end
of a command's cycle.
-/
namespace Sys2Proof.Machine

/-- Slots of the ring (R339). -/
def ringSize : Nat := 1024

/-- Occupancy below which a severity is admitted (R341). -/
def Sev.limit : Sev → Nat
  | .info => 768
  | .warn => 992
  | .fault => 1024

/-- Interrupt bit of a severity (R354). -/
def Sev.intBit : Sev → Nat
  | .fault => 0
  | .warn => 1
  | .info => 2

/-- The slot at ring index `i`, if it was ever written. -/
def Evl.slot (e : Evl) (i : Nat) : Option LedgerSlot := (e.ring.find? (fun p => p.1 = i)).map (·.2)

/-- Write a slot of the ring. -/
def Evl.setSlot (e : Evl) (i : Nat) (x : LedgerSlot) : Evl :=
  { e with ring := sins e.ring i x }

/-- Index `k` places before the head, modulo the ring (`k` from 1 to 1024). -/
def Evl.back (e : Evl) (k : Nat) : Nat := (e.head + ringSize - k) % ringSize

/-- `EVL_TAIL`: the oldest unacknowledged entry (R344). -/
def Evl.tail (e : Evl) : Nat := (e.head + ringSize - e.used) % ringSize

/-- The newest primary entry among the `n` newest slots that `p` accepts: how far back it lies
and the entry. -/
def Evl.newest (e : Evl) (p : LedgerRec → Bool) (n : Nat) : Option (Nat × LedgerRec) :=
  (List.range n).findSome? fun k =>
    match e.slot (e.back (k + 1)) with
    | some (.prim r) => if p r then some (k + 1, r) else none
    | _ => none

/-- Count a drop of class `c` (R341). -/
def Evl.drop (e : Evl) (c : Nat) : Evl :=
  { e with
    drops := smod (fun _ => 0) e.drops c (fun n => wrapAdd n 1 32)
    intStatus := e.intStatus ||| 0x8 }

/-- Set the status bit of a severity (R354). -/
def Evl.mark (e : Evl) (v : Sev) : Evl := { e with intStatus := e.intStatus ||| mkWord (2 ^ v.intBit) }

/-- Count an occurrence in the totals (R341, R354). -/
def Evl.count (e : Evl) (v : Sev) : Evl :=
  match v with
  | .fault => { e with totalFault := wrapAdd e.totalFault 1 32 }
  | .warn => { e with totalWarn := wrapAdd e.totalWarn 1 32 }
  | .info => e

/-- Write one slot at the head. HIGH is set when U reaches 768 (R354). -/
def Evl.push (e : Evl) (x : LedgerSlot) : Evl :=
  let e1 := e.setSlot e.head x
  { e1 with
    head := (e.head + 1) % ringSize
    used := e.used + 1
    intStatus := if e.used + 1 = 768 then e.intStatus ||| 0x10 else e.intStatus }

/-- Sixteen bytes of a continuation entry. -/
def pad16 (l : List Byte) : List Byte := (l ++ List.replicate 16 0).take 16

/-- Coalesce an event with the newest primary entry (R342): its severity, class, code and unit
are equal, it is unacknowledged, and its count is below 16 383. -/
def Evl.coalesce? (e : Evl) (ev : Event) : Option Evl :=
  match e.newest (fun _ => true) 2 with
  | none => none
  | some (k, r) =>
    if r.sev = ev.sev ∧ r.cls = ev.cls ∧ r.code = ev.code ∧ r.unit = ev.unit ∧ k ≤ e.used ∧
        r.rep < 16383 then
      let i := e.back k
      let e1 := e.setSlot i (.prim { r with rep := r.rep + 1, detail := ev.detail })
      let e2 := if r.ext then e1.setSlot ((i + 1) % ringSize) (.cont (pad16 ev.cont)) else e1
      some (e2.mark ev.sev)
    else none

/-- Merge a fault that finds the ring full (R341). -/
def Evl.mergeFault (e : Evl) (ev : Event) : Evl :=
  let pick :=
    match e.newest (fun r => r.sev = .fault ∧ r.cls = ev.cls) ringSize with
    | some x => some x
    | none => e.newest (fun _ => true) ringSize
  match pick with
  | none => e.mark .fault
  | some (k, r) =>
    (e.setSlot (e.back k)
      (.prim { r with rep := min (r.rep + 1) 16383, detail := ev.detail, merged := true })).mark .fault

/-- Enter a new entry, with its continuation if one more entry would be admitted (R341). -/
def Evl.place (e : Evl) (time : Nat) (ev : Event) : Evl :=
  let withCont := ev.cont ≠ [] ∧ e.used + 1 < ev.sev.limit
  let r : LedgerRec :=
    { time := time, sev := ev.sev, cls := ev.cls, code := ev.code, unit := ev.unit, rep := 0,
      merged := false, ext := withCont, detail := ev.detail }
  let e1 := (e.push (.prim r)).mark ev.sev
  let e2 :=
    if ev.sev = .fault then
      { e1 with lastFault := some e.head, sumFault := true
                faultId := ev.cls % 256 * 2 ^ 24 + ev.code % 256 * 2 ^ 16 + ev.unit % 65536 }
    else e1
  if withCont then e2.push (.cont (pad16 ev.cont)) else e2

/-- Enter one event (R341, R342). -/
def Evl.enter (e : Evl) (time : Nat) (ev : Event) : Evl :=
  let e0 := e.count ev.sev
  match e0.coalesce? ev with
  | some e1 => e1
  | none =>
    if e0.used < ev.sev.limit then e0.place time ev
    else if ev.sev = .fault then e0.mergeFault ev
    else e0.drop ev.cls

/-- Rank of an event among those of one cycle (R343): faults, then warnings, then information;
then class; then code. -/
def Event.rank (e : Event) : Nat := (2 - e.sev.code) * 65536 + e.cls * 256 + e.code

/-- Insert an event in rank order, behind those of equal rank. -/
def insEvent (e : Event) : List Event → List Event
  | [] => [e]
  | x :: r => if e.rank < x.rank then e :: x :: r else x :: insEvent e r

/-- The events of one cycle in the order of R343. -/
def orderEvents (l : List Event) : List Event := l.foldl (fun acc e => insEvent e acc) []

/-- Enter every event of the cycle. -/
def Evl.flush (e : Evl) (time : Nat) : Evl :=
  (orderEvents e.staged).foldl (fun a ev => a.enter time ev) { e with staged := [] }

/-- The part of the ledger that entering events changes. -/
def Evl.base (e : Evl) : LedgerBase :=
  { ring := e.ring, head := e.head, used := e.used, totalFault := e.totalFault
    totalWarn := e.totalWarn, lastFault := e.lastFault, faultId := e.faultId, drops := e.drops }

/-- The ledger with that part replaced. -/
def Evl.withBase (e : Evl) (b : LedgerBase) : Evl :=
  { e with ring := b.ring, head := b.head, used := b.used, totalFault := b.totalFault
           totalWarn := b.totalWarn, lastFault := b.lastFault, faultId := b.faultId, drops := b.drops }

/-- The ledger as it stood before the events of MGTCLK cycle `mgt`: the events of one cycle are entered
together, whatever commands raised them (R343). -/
def Evl.opened (e : Evl) (mgt time : Nat) : Evl :=
  if e.cycle = mgt then e.withBase e.before
  else { e with cycle := mgt, cycleTime := time, past := [], before := e.base }

/-- Enter the staged events of cycle `mgt` with those that the cycle already raised, in the order of
R343. -/
def Evl.close (e : Evl) (mgt time : Nat) : Evl :=
  let o := e.opened mgt time
  let all := o.past ++ e.staged
  Evl.flush { o with staged := all, past := all } o.cycleTime

/-- MGTCLK cycles in `n` ms at 400 MHz (R345). -/
def mgtMs (n : Nat) : Nat := n * 400000

/-- The EVL request after a command (R345): while it is held off it stays low; when it falls, the
holdoff starts; a FAULT bit set during the holdoff shortens it to 1 ms. -/
def Evl.request (e : Evl) (before : Word) (enable holdMs mgt : Nat) : Evl :=
  let want := e.intStatus.toNat &&& enable ≠ 0
  let newFault := e.intStatus.toNat.testBit 0 && !before.toNat.testBit 0
  match e.hold with
  | some (a, b) =>
    { e with req := false, hold := if newFault then some (a, min b (a + mgtMs 1)) else some (a, b) }
  | none =>
    if e.req ∧ ¬ want ∧ holdMs ≠ 0 then
      { e with req := false, hold := some (mgt, mgt + mgtMs holdMs) }
    else { e with req := want }

/-- The EVL block after the staged events are entered; its status word holds what that set. -/
def State.entered (s : State) : Evl :=
  if s.evl.staged = [] then { s.evl with intStatus := 0 }
  else Evl.close { s.evl with intStatus := 0 } s.mgt s.usSince

/-- The end of a command: its events are entered and the EVL request follows. Nothing but the EVL
block and the note of R6 changes. -/
def State.fin (s : State) : State :=
  let e := s.entered
  let e1 := { e with intStatus := s.evl.intStatus ||| e.intStatus }
  let s1 := { s with
    evl := e1.request s.evl.intStatus (s.rn A.EVL_INT_EN) (s.rf A.EVL_CTRL 8 8) s.mgt }
  if e.intStatus = 0 then s1 else s1.note A.EVL_INT_STATUS e.intStatus.toNat

/-- Events of the present MGTCLK cycle that `p` picks did not happen after all: the ledger is put together
again without them (R283). -/
def State.unraise (s : State) (p : Event → Bool) : State :=
  let o := s.evl.opened s.mgt s.usSince
  { s with evl := { o with past := [], staged := (o.past ++ s.evl.staged).filter (!p ·) } }

/-- Events of the present MGTCLK cycle turn out otherwise: the ledger is put together again with them as `f` makes
them (R418). -/
def State.reraise (s : State) (f : Event → Event) : State :=
  let o := s.evl.opened s.mgt s.usSince
  { s with evl := { o with past := [], staged := (o.past ++ s.evl.staged).map f } }

/-- A command that answers a next state. -/
def ok (s : State) : Out := .next s.fin

/-- Bytes of a ledger slot as they lie in the window (R339). -/
def LedgerSlot.bytes : LedgerSlot → List Byte
  | .cont b => pad16 b
  | .prim r =>
    leBytes r.time 6 ++ [BitVec.ofNat 8 (r.sev.code + r.cls * 4), BitVec.ofNat 8 r.code] ++
      leBytes r.unit 2 ++
      leBytes (r.rep % 16384 + flag r.merged 14 + flag r.ext 15) 2 ++ leBytes r.detail 4

/-- Unacknowledged FAULT entries (R346). -/
def Evl.openFaults (e : Evl) : Nat :=
  ((List.range e.used).filter fun k =>
    match e.slot (e.back (k + 1)) with
    | some (.prim r) => r.sev = .fault
    | _ => false).length

end Sys2Proof.Machine
end

