-- ==== Sys2Proof/Machine/TimeBase.lean ====
section
/-!
DEFINITION. The four time bases: their value at an MGTCLK cycle, increments, steps, sets and the
change of MGTCLK source (08_rig_fabric_and_time.md R253 to R255, R264, 09_clocks_genlock.md R279).
-/
namespace Sys2Proof.Machine

/-- 2^32, one nanosecond of a time base. -/
def nsUnit : Nat := 4294967296

/-- One second of a time base. -/
def secUnit : Nat := 1000000000 * nsUnit

/-- A time base wraps after 2^48 seconds (R253). -/
def tbMod : Nat := 2 ^ 48 * secUnit

/-- A value from seconds, nanoseconds and a 32-bit fraction. -/
def tbOf (sec ns frac : Nat) : Nat := sec * secUnit + ns * nsUnit + frac

/-- Seconds of a value. -/
def tbSec (v : Nat) : Nat := v / secUnit

/-- Nanoseconds of a value. -/
def tbNs (v : Nat) : Nat := v % secUnit / nsUnit

/-- Fraction of a value, upper 16 bits (R253). -/
def tbFrac (v : Nat) : Nat := v % nsUnit / 65536

/-- Reset state of time base `k`; only the registers differ between them. -/
def tbReset (_ : Nat) : TimeBase := {}

/-- Time base `k`. -/
def State.tb (s : State) (k : Nat) : TimeBase := sget tbReset s.time.tbs k

/-- Replace time base `k`. -/
def State.setTb (s : State) (k : Nat) (t : TimeBase) : State :=
  { s with time := { s.time with tbs := sput tbReset s.time.tbs k t } }

/-- Address of register `off` of time base `k` (R270). -/
def tbReg (k off : Nat) : Nat := 0x320000 + 0x40 * k + off

/-- Value at MGTCLK cycle `n`. -/
def TimeBase.at (t : TimeBase) (n : Nat) : Nat :=
  if ¬ t.run then t.val
  else if t.at_ ≤ n then (t.val + (n - t.at_) * t.eff) % tbMod
  else (t.val + tbMod - ((t.at_ - n) * t.before) % tbMod) % tbMod

/-- What one MGTCLK cycle adds for increment `inc` on the present source (R255): the increment on
PLL0, times 400 MHz / f in bypass, rounded to 2^-32 ns, times 8 on OSC50. -/
def Clk.effInc (c : Clk) (inc : Nat) : Nat :=
  match c.src0 with
  | .pll => inc
  | .ref => (inc * 400000 * 2 + Config.refKHz c.strap) / (2 * Config.refKHz c.strap)
  | .osc => inc * 8

/-- Value of time base `k` now. -/
def State.tbNow (s : State) (k : Nat) : Nat := (s.tb k).at s.mgt

/-- Value sampled at instant `x`: that of the last MGTCLK edge at or before it (R254). -/
def State.tbAt (s : State) (k x : Nat) : Nat := (s.tb k).at (s.clk.mgtAt x)

/-- Restart the line of a time base at cycle `n` with increment `inc` in use. -/
def State.tbLine (s : State) (k n inc : Nat) : State :=
  let t := s.tb k
  s.setTb k { t with val := t.at n, at_ := n, before := t.eff, inc := inc, eff := s.clk.effInc inc }

/-- First MGTCLK cycle at which the running time base `k` reads at least `v`. -/
def TimeBase.reach (t : TimeBase) (v : Nat) : Nat :=
  if v ≤ t.val then t.at_ else t.at_ + divUp (v - t.val) t.eff

/-- A value in the frame-header encoding (07_frond_output.md R208, R210): big-endian, 6 bytes of
seconds, 4 of nanoseconds, 2 of fraction. -/
def tbBytes (v : Nat) : List Byte := beBytes (tbSec v) 6 ++ beBytes (tbNs v) 4 ++ beBytes (tbFrac v) 2

/-- tb(now) in the frame-header encoding; 0 while the time base is not running (R129, R210). -/
def State.tbStamp (s : State) (k : Nat) : List Byte :=
  if (s.tb k).run then tbBytes (s.tbNow k) else List.replicate 12 0

/-- The source of time base `k` under the domain states (R264). -/
def State.tbSource (s : State) (k : Nat) : TbSource :=
  let dk := if k = 0 then s.time.dom0 else s.time.dom1
  let dj := if k = 0 then s.time.dom1 else s.time.dom0
  let jOwn := dj.state = .qualified
  if 2 ≤ k then .own
  else if dk.state = .qualified ∨ dk.state = .disabled then .own
  else if s.rb (tbReg k 0) 3 ∧ jOwn then .follow
  else .holdover

/-- The increment of time base `k` by its source (R264): a changed one comes into use now. -/
def State.tbIncUse (s : State) (k : Nat) : State :=
  let t := s.tb k
  let inc :=
    match t.src with
    | .own => t.prog
    | .follow => (s.tb (1 - k)).inc
    | .holdover => t.inc
  if inc = t.inc then s else s.tbLine k s.mgt inc

/-- Choose the source of time base `k` again (R264). -/
def State.resourceTb (s : State) (k : Nat) : State :=
  let t := s.tb k
  let src := s.tbSource k
  let s1 :=
    if src = t.src then s
    else
      let s2 := (s.setTb k { t with src := src }).setInt A.TIME_INT_STATUS 2
      if src = .own then
        (s2.setTb k { t with src := src, prog := t.inc }).setRn (tbReg k 0x18) (t.inc / nsUnit)
          |>.setRn (tbReg k 0x1C) (t.inc % nsUnit)
      else s2
  s1.tbIncUse k

/-- Both sources again, after a domain state changed. TB1 is chosen after TB0, and TB0 once more,
so that a follower takes the increment in use of the other. -/
def State.resource (s : State) : State := (s.resourceTb 0).resourceTb 1 |>.resourceTb 0

/-- MGTCLK cycle that a switch of source at instant `t` begins (R6): the cycle in progress ends there,
and one that would begin at `t` anyway is that cycle. -/
def Clk.cutAt (c : Clk) (t : Nat) : Nat := c.mgtN + divUp (t - c.mgtT) c.mgtPer

/-- The MGTCLK source changes now (R6, R255, R277): one cycle ends and the next begins, every time base
keeps its rate, and TIME_INT_STATUS.BYPASS is set. -/
def State.setMgtSource (s : State) (src : ClkSrc) : State :=
  if src = s.clk.src0 then s
  else
    let per :=
      match src with
      | .pll => Config.mgtTU
      | .ref => Config.refTU s.clk.strap
      | .osc => Config.oscTU
    let n := s.clk.cutAt s.now
    let vals := (List.range 4).map fun k => (s.tb k).at n
    let s1 := { s with
      rwc := {}, clk := { s.clk with src0 := src, mgtT := s.now, mgtN := n, mgtPer := per } }
    let s2 := (List.range 4).foldl (fun (a : State) k =>
      let t := a.tb k
      let e := a.clk.effInc t.inc
      a.setTb k { t with val := vals.getD k 0, at_ := n, before := t.eff, eff := e }) s1
    s2.setInt A.TIME_INT_STATUS 9

end Sys2Proof.Machine
end

