-- ==== Sys2Proof/Machine/Watchdog.lean ====
section
/-!
DEFINITION. The watchdog (11_supervision.md R328 to R337): counting, tallies, expiry, the NMI, the
debug freeze and its registers.
-/
namespace Sys2Proof.Machine

/-- Length N of a period in MGTCLK cycles under configuration word `cfg` (R328). -/
def wdtN (cfg : Nat) : Nat := 400 * field cfg 0 22

/-- Cycle at which the window opens (R328). -/
def wdtOpen (cfg : Nat) : Nat := wdtN cfg * field cfg 22 8 / 256

/-- MGTCLK cycle at which the counts stand: frozen while a debugger holds a core (R335). -/
def State.wdtClock (s : State) : Nat :=
  match s.wdt.frozen with
  | some c => min c s.mgt
  | none => if s.wdt.thawed = some s.mgt then s.mgt + 1 else s.mgt

/-- A freeze is in effect: from the cycle after the halt to that of the release (R335). -/
def State.wdtFrozen (s : State) : Bool :=
  (match s.wdt.frozen with | some c => decide (c ≤ s.mgt) | none => false) || s.wdt.thawed = some s.mgt

/-- Cycle of the period, 0 to N-1 (R328). -/
def State.wdtCycle (s : State) : Nat := s.wdtClock - s.wdt.start

/-- Enabled tasks not counted this period (R332). -/
def State.wdtMissing (s : State) : Nat :=
  maskOf ((List.range 8).filter fun i => s.wdt.mask.testBit i && !s.wdt.counted.testBit i)

/-- The tally bits of a core that restarts count as received, those that OWNER assigns to it (R325,
R331). -/
def State.wdtGrace (s : State) : State :=
  let g := fun (i : Nat) => if s.wdt.mask.testBit (8 + i) then s.sys.grace1.isSome else s.sys.grace0.isSome
  let m := maskOf ((List.range 8).filter fun i => s.wdt.mask.testBit i && g i)
  if s.wdt.state = .running then { s with wdt := { s.wdt with counted := s.wdt.counted ||| m } } else s

/-- `WDT_NMI` (R353). -/
def Wdt.nmi (w : Wdt) : Nat :=
  (match w.nmiCause with | .none => 0 | .expiry => 1 | .early => 2 | .dup => 3) +
    at_ w.nmiTask 2 + at_ w.missing 8 + flag w.hardEnd.isSome 31

/-- Base of dump slot `j` (R349). -/
def dumpBase (j : Nat) : Nat := 0xFC000000 + 0x800000 * j

/-- The sections of a dump slot in the order of R350, the header first: offset and size. -/
def dumpSections : List (Nat × Nat) :=
  [(0, 0x1000), (0x1000, 0x10000), (0x11000, 0x2000), (0x13000, 0x200), (0x14000, 0xF0000), (0x104000, 0x53000),
   (0x200000, 0x180000), (0x380000, 0x180000), (0x500000, 0xCA100)]

/-- Directory of a dump header: TYPE from 1, OFFSET, SIZE and CRC-32 of each section; a section not yet
written has CRC 0 (log entry 31). -/
def dumpEntries (crcs : List Nat) : List Byte :=
  dumpSections.zipIdx.flatMap fun x =>
    leBytes (x.2 + 1) 2 ++ leBytes 0 2 ++ leBytes x.1.1 4 ++ leBytes x.1.2 4 ++ leBytes (crcs.getD x.2 0) 4

/-- Header of a dump with `n` sections done (R350). -/
def DumpRun.header (d : DumpRun) (n : Nat) (crcs : List Nat) (complete : Bool) : List Byte :=
  let tr := match d.trigger with | .mc0 => 0 | .mc1 => 1 | .watchdog => 2
  let l := leBytes 0x44495A52 4 ++ leBytes 1 2 ++ [BitVec.ofNat 8 (b2n complete), BitVec.ofNat 8 tr] ++
    leBytes d.seq 4 ++ d.pre ++ leBytes d.nmi 4 ++ leBytes d.time 6 ++
    [BitVec.ofNat 8 d.mode, BitVec.ofNat 8 n] ++ d.post ++ leBytes d.arg 4 ++ leBytes 0 8 ++
    dumpEntries crcs ++ leBytes 0 44
  l ++ leBytes (crc32 l) 4

/-- Start the incident dump (R348, R349): ignored while a dump runs, which then notes `WDT_NMI`;
without DRAM it ends at once with NO_DRAM. The slot's VALID bit clears and the header is written with
STATE WRITING (R351). -/
def State.dumpStart (s : State) (tr : DumpTrigger) : State :=
  match s.evl.dump with
  | some d => { s with evl := { s.evl with dump := some { d with nmi := s.wdt.nmi } } }
  | none =>
    if ¬ s.sys.boot.dramReady then
      { s with evl := { s.evl with dumpResult := .noDram } }.setEvlInt 6
    else
      let w := rdLE s.ret 0x1050 4
      let slot := field w 0 3
      let dumps := satAdd (field w 16 16) 1 16
      let w' := setField w (8 + slot) 1 0
      let pre := rdBytes s.ret 4 4 ++ leBytes (s.sys.causeBits + at_ s.sys.causeLast 8) 4
      let post := leBytes s.plan.epoch 4 ++ leBytes s.tmg.nLast 4 ++ s.tbStamp 0
      let d : DumpRun :=
        { slot := slot, trigger := tr, arg := s.rn A.EVL_DUMP_ARG, seq := dumps, time := s.usSince
          nmi := s.wdt.nmi, start := s.mgt, pre := pre, mode := s.sys.mode.code, post := post
          core0 := if s.sys.dbg0 then 1 else s.sys.core0.code }
      { s with
        ret := wrLE s.ret 0x1050 4 w'
        dram := wrSpan s.dram (dumpBase slot) (d.header 0 [] false)
        evl := { s.evl with dumpSlot := slot, dumpSecs := 0, dump := some d } }

/-- Expiry of the watchdog (R334): the NMI of MC0, `WDT_NMI`, the fault, the dump with AUTO_DUMP,
the hard timer of 2^20 cycles, all in this cycle. -/
def State.wdtExpire (s : State) (cause : NmiCause) (task : Nat) : State :=
  let miss := s.wdtMissing
  let s1 := { s with wdt := { s.wdt with
    state := .expired, nmiCause := cause, nmiTask := task, missing := miss
    hardEnd := some (s.wdtClock + 2 ^ 20) } }
  let s2 := s1.setInt A.WDT_INT_STATUS 1
  let s3 := s2.faultEv clsWDT 0x85 0 s2.wdt.nmi
  if s3.rb A.WDT_CTRL 3 then s3.dumpStart .watchdog else s3

/-- Start of a period at MGTCLK cycle `c`: held writes made at least one cycle before take effect
(R330), and nothing is counted yet; `former` is the period before. -/
def Wdt.begin (w : Wdt) (c : Nat) (former : Option WdtPeriod) : Wdt :=
  let due := w.held.filter fun h => h.1 + 1 ≤ c
  let w1 := due.foldl (fun (a : Wdt) h =>
    match h.2 with
    | .cfg v => { a with cfg := v }
    | .mask v => { a with mask := v }
    | .strict b => { a with strict := b }) w
  { w1 with held := w.held.filter (fun h => ¬ h.1 + 1 ≤ c), start := c, counted := 0, former := former }

/-- Start the watchdog (R329): cycle 0 of the first period is MGTCLK cycle `c`, with the configuration
in force; during a freeze the count stays at 0 until its end (R335). -/
def State.wdtStartAt (s : State) (c : Nat) (hw : Bool) : State :=
  let w := s.wdt.begin c none
  State.wdtGrace { s with wdt := { w with
    state := .running, hwStart := hw, start := match w.frozen with | some f => min f c | none => c } }

/-- The period in progress, as it stands. -/
def Wdt.period (w : Wdt) : WdtPeriod :=
  { start := w.start, cfg := w.cfg, mask := w.mask, strict := w.strict, held := w.held, counted := w.counted
    periods := w.periods }

/-- The period `p` takes the place of the one that would have followed it. -/
def Wdt.backTo (w : Wdt) (p : WdtPeriod) : Wdt :=
  { w with
    start := p.start, cfg := p.cfg, mask := p.mask, strict := p.strict, held := p.held, counted := p.counted
    periods := p.periods, former := none }

/-- A second tally of task `i` in one period (R333): with STRICT in force in that period it expires. -/
def State.wdtDup (s : State) (strict : Bool) (i : Nat) : State :=
  let s1 := (({ s with wdt := { s.wdt with dup := s.wdt.dup ||| 2 ^ i } }).note A.WDT_STATUS
    (2 ^ (16 + i))).setInt A.WDT_INT_STATUS 0
  if strict then s1.wdtExpire .dup i else s1

/-- A tally of task `i` in the expiry cycle of a period `p` that ends well, after that was judged: every enabled
task was counted, so it is a DUP of that period (R331). With STRICT the period expires in this cycle, and no other
one follows (R333, R334). -/
def State.wdtLate (s : State) (p : WdtPeriod) (i : Nat) : State :=
  if ¬ (p.mask.testBit i ∧ p.counted.testBit i) then s
  else if p.strict then State.wdtDup { s with wdt := s.wdt.backTo p } true i
  else s.wdtDup false i

/-- One tally of task `i` in cycle `c` of the period (R331, R333). In the cycle of START no period runs yet. -/
def State.wdtTally1 (s : State) (i : Nat) : State :=
  let w := s.wdt
  let c := s.wdtCycle
  if w.state ≠ .running then s
  else if s.wdtClock < w.start then (match w.former with | some p => s.wdtLate p i | none => s)
  else if ¬ w.mask.testBit i then s
  else if c < wdtOpen w.cfg then s.wdtExpire .early i
  else if w.counted.testBit i then s.wdtDup w.strict i
  else if c + 1 = wdtN w.cfg then s
  else { s with wdt := { w with counted := w.counted ||| 2 ^ i } }

/-- A write of `WDT_TALLY` (R331): the key is checked, then every task of the write tallies. -/
def State.wdtTallyWrite (s : State) (who : Who) (v : Word) : State :=
  if who = .host then s
  else if wfield v 16 16 ≠ 0x7A11 then s.warn clsWDT 0x86 who.code v.toNat
  else (bitsOf (wfield v 0 8) 8).foldl (fun a i => a.wdtTally1 i) s

/-- A write of `WDT_CTRL` by firmware (R329, R330, R7): STRICT and AUTO_DUMP unless locked, START,
then LOCK. -/
def State.wdtCtrlWrite (s : State) (who : Who) (v : Word) : State :=
  let old := s.rn A.WDT_CTRL
  let new := v.toNat &&& 0xA
  let s1 :=
    if s.wdt.locked then
      if new ≠ old &&& 0xA then s.lockViolation clsWDT who A.WDT_CTRL else s
    else
      let s0 := s.setRn A.WDT_CTRL new
      if wbit v 1 ≠ old.testBit 1 then
        { s0 with wdt := { s0.wdt with held := s0.wdt.held ++ [(s0.mgt, .strict (wbit v 1))] } }
      else s0
  let s2 :=
    if wbit v 0 ∧ s1.wdt.state = .stopped then s1.wdtStartAt (s1.mgt + 1) false else s1
  if wbit v 2 then { s2 with wdt := { s2.wdt with locked := true } } else s2

/-- A write of `WDT_CFG` by firmware (R330): a period out of range is ignored with a warning. -/
def State.wdtCfgWrite (s : State) (who : Who) (v : Word) : State :=
  let n := field v.toNat 0 30
  if s.wdt.locked then
    if n ≠ s.rn A.WDT_CFG then s.lockViolation clsWDT who A.WDT_CFG else s
  else if field n 0 22 < 1000 ∨ 4000000 < field n 0 22 then s.ignored clsWDT who A.WDT_CFG
  else
    let s1 := s.setRn A.WDT_CFG n
    { s1 with wdt := { s1.wdt with held := s1.wdt.held ++ [(s1.mgt, .cfg n)] } }

/-- A write of `WDT_MASK` by firmware (R330): one that leaves TALLY_EN at 0 is ignored with a
warning. -/
def State.wdtMaskWrite (s : State) (who : Who) (v : Word) : State :=
  let n := field v.toNat 0 16
  if s.wdt.locked then
    if n ≠ s.rn A.WDT_MASK then s.lockViolation clsWDT who A.WDT_MASK else s
  else if field n 0 8 = 0 then s.ignored clsWDT who A.WDT_MASK
  else
    let s1 := s.setRn A.WDT_MASK n
    { s1 with wdt := { s1.wdt with held := s1.wdt.held ++ [(s1.mgt, .mask n)] } }

/-- A write of `WDT_STATUS`: only the DUP bits are RWC (R353). -/
def State.wdtStatusWrite (s : State) (v : Word) : State :=
  { s with wdt := { s.wdt with dup := s.afterClear A.WDT_STATUS (at_ s.wdt.dup 16) v.toNat / 2 ^ 16 } }

/-- A freeze stops what is due in MGTCLK cycle `n` (R335): one that begins in a later cycle does not, so that a
halt in the cycle of a supervision timer's end comes too late (R9). -/
def Wdt.stops (w : Wdt) (n : Nat) : Bool :=
  match w.frozen with
  | some c => decide (c ≤ n)
  | none => false

/-- The expiry cycle (R332): the tallies decide between a new period and expiry. -/
def State.wdtPeriodEnd (s : State) : State :=
  let n := s.wdt.start + wdtN s.wdt.cfg - 1
  if s.wdt.state ≠ .running ∨ s.wdt.stops n then s
  else
    let s1 := s.goMgt n
    if s1.wdtMissing = 0 then
      let w := s1.wdt.begin (n + 1) (some s1.wdt.period)
      State.wdtGrace { s1 with wdt := { w with periods := wrapAdd w.periods 1 32 } }
    else s1.wdtExpire .expiry 0

/-- The window opens (R328): device time moves on to cycle c_open. -/
def State.wdtWindowOpen (s : State) : State :=
  if s.wdt.state ≠ .running ∨ s.wdt.frozen.isSome then s
  else s.goMgt (s.wdt.start + wdtOpen s.wdt.cfg)

/-- A debugger halts a core (R335): the counts freeze from the cycle after it. -/
def State.wdtFreeze (s : State) : State :=
  if s.wdt.frozen.isSome then s
  else
    let s1 := { s with wdt := { s.wdt with frozen := some (s.mgt + 1) } }
    s1.setInt A.WDT_INT_STATUS 2

/-- The last halt is released (R335): the freeze ends in the cycle after the release. -/
def State.wdtThaw (s : State) : State :=
  match s.wdt.frozen with
  | none => s
  | some c =>
    let d := s.mgt + 1 - c
    { s with wdt := { s.wdt with
      frozen := none, thawed := some s.mgt, start := s.wdt.start + d, hardEnd := s.wdt.hardEnd.map (· + d) } }

/-- `WDT_STATUS` (R353). -/
def State.wdtStatus (s : State) : Nat :=
  let w := s.wdt
  (match w.state with | .stopped => 0 | .running => 1 | .expired => 2) + flag w.hwStart 2 +
    flag w.locked 3 + flag s.wdtFrozen 4 +
    flag (w.state = .running ∧ wdtOpen w.cfg ≤ s.wdtCycle) 5 + at_ w.counted 8 + at_ w.dup 16

/-- `WDT_ELAPSED` (R353). -/
def State.wdtElapsed (s : State) : Nat :=
  if s.wdt.state = .running then s.wdtCycle / 400 else 0

/-- Live WDT registers (R353). -/
def State.wdtRead (s : State) (a : Nat) : Option Nat :=
  if a = A.WDT_TALLY then some 0
  else if a = A.WDT_STATUS then some s.wdtStatus
  else if a = A.WDT_ELAPSED then some s.wdtElapsed
  else if a = A.WDT_PERIODS then some s.wdt.periods
  else if a = A.WDT_NMI then some s.wdt.nmi
  else none

/-- Writes of WDT registers with behaviour of their own (R353). -/
def State.wdtWrite (s : State) (who : Who) (a : Nat) (v : Word) : Option State :=
  if a = A.WDT_CTRL then some (s.wdtCtrlWrite who v)
  else if a = A.WDT_CFG then some (s.wdtCfgWrite who v)
  else if a = A.WDT_MASK then some (s.wdtMaskWrite who v)
  else if a = A.WDT_TALLY then some (s.wdtTallyWrite who v)
  else if a = A.WDT_STATUS then some (s.wdtStatusWrite v)
  else none

end Sys2Proof.Machine
end

