-- ==== Sys2Proof/Machine/EventLedger.lean ====
section
/-!
DEFINITION. Reading, acknowledging and writing the event ledger, the rig summaries and the EVL
registers (11_supervision.md R344 to R347, R354).
-/
namespace Sys2Proof.Machine

/-- The reader that may acknowledge (R344, R354 `EVL_CTRL.ACK_OWNER`). -/
def State.ackOwner (s : State) : Who := if s.rb A.EVL_CTRL 0 then .host else .mc0

/-- A write of `EVL_ACK` (R344): acknowledges up to, not including, the index; the head index
acknowledges everything; too many, or another writer, sets ACK_ERR. It acts before the events of its own MGTCLK
cycle. -/
def State.evlAckWrite (s : State) (who : Who) (v : Word) : State :=
  let e := s.evl.opened s.mgt s.usSince
  let i := wfield v 0 10
  let n := if i = e.head then e.used else (i + ringSize - e.tail) % ringSize
  if who ≠ s.ackOwner ∨ e.used < n then { s with evl := { s.evl with ackErr := true } }.note A.EVL_STATUS (2 ^ 11)
  else
    let a := { e with used := e.used - n, before := { e.before with used := e.used - n } }
    { s with evl := Evl.close { a with staged := s.evl.staged } s.mgt s.usSince }

/-- A write of `EVL_FW_ENTRY` (R344, R354): a firmware event of class 17 (MC0) or 18 (MC1);
severity 3 is ignored. -/
def State.evlFwEntryWrite (s : State) (who : Who) (v : Word) : State :=
  let detail := if who = .mc1 then s.evl.fwDetail1 else s.evl.fwDetail0
  let cls := if who = .mc1 then 18 else 17
  let ev (x : Sev) : Event :=
    { sev := x, cls := cls, code := 0xC0 + wfield v 8 6, unit := wfield v 16 16,
      detail := detail.toNat }
  match wfield v 0 2 with
  | 0 => s.raise (ev .info)
  | 1 => s.raise (ev .warn)
  | 2 => s.raise (ev .fault)
  | _ => s

/-- The holdoff ends (R345): the request is asserted again if a status bit and its enable are
both 1 (`State.fin` sees to it). -/
def State.evlHoldoffEnd (s : State) : State :=
  match s.evl.hold with
  | none => s
  | some (_, b) =>
    let s1 := s.goMgt b
    { s1 with evl := { s1.evl with hold := none } }

/-- `EVL_LAST_FAULT` (R354). -/
def Evl.lastFaultWord (e : Evl) : Nat :=
  match e.lastFault with
  | none => 0
  | some i => i + 2 ^ 31

/-- `EVL_DUMP_STATUS` (R354). -/
def Evl.dumpStatus (e : Evl) : Nat :=
  flag e.dump.isSome 0 + at_ (match e.dumpResult with | .none => 0 | .done => 1 | .noDram => 2) 1 +
    at_ e.dumpSlot 4 + at_ e.dumpSecs 8

/-- A word of the ledger window at byte offset `o` from 0x0038_1000 (R339). -/
def Evl.windowWord (e : Evl) (o : Nat) : Nat :=
  match e.slot (o / 16) with
  | none => 0
  | some x => ofLE ((x.bytes.drop (o % 16)).take 4)

/-- Live EVL registers and windows (R344, R347, R354). `who` selects the firmware detail
register. -/
def State.evlRead (s : State) (who : Who) (a : Nat) : Option Nat :=
  let e := s.evl
  if a = A.EVL_STATUS then some (e.used + flag e.ackErr 11)
  else if a = A.EVL_HEAD then some e.head
  else if a = A.EVL_TAIL then some e.tail
  else if a = A.EVL_ACK ∨ a = A.EVL_FW_ENTRY ∨ a = A.EVL_DUMP_CTRL then some 0
  else if a = A.EVL_INT_STATUS then some e.intStatus.toNat
  else if a = A.EVL_TOTAL_FAULT then some e.totalFault
  else if a = A.EVL_TOTAL_WARN then some e.totalWarn
  else if a = A.EVL_LAST_FAULT then some e.lastFaultWord
  else if a = A.EVL_FW_DETAIL then
    some (if who = .mc1 then e.fwDetail1 else e.fwDetail0).toNat
  else if a = A.EVL_DUMP_STATUS then some e.dumpStatus
  else if A.EVL_DROP ≤ a ∧ a < A.EVL_DROP + 76 then
    some (sget (fun _ => 0) e.drops ((a - A.EVL_DROP) / 4))
  else if 0x381000 ≤ a ∧ a < 0x385000 then some (e.windowWord (a - 0x381000))
  else if 0x386000 ≤ a ∧ a < 0x387000 then some (rdLE e.rigSum (a - 0x386000) 4)
  else none

/-- Writes of EVL registers with behaviour of their own (R344, R354). -/
def State.evlWrite (s : State) (who : Who) (a : Nat) (v : Word) : Option State :=
  if a = A.EVL_STATUS then
    some { s with evl := { s.evl with
      ackErr := (s.afterClear A.EVL_STATUS (flag s.evl.ackErr 11) v.toNat).testBit 11 } }
  else if a = A.EVL_ACK then some (s.evlAckWrite who v)
  else if a = A.EVL_INT_STATUS then
    some { s with evl := { s.evl with
      intStatus := mkWord (s.afterClear A.EVL_INT_STATUS s.evl.intStatus.toNat v.toNat) } }
  else if a = A.EVL_FW_ENTRY then some (s.evlFwEntryWrite who v)
  else if a = A.EVL_FW_DETAIL then
    some (if who = .mc1 then { s with evl := { s.evl with fwDetail1 := v } }
      else { s with evl := { s.evl with fwDetail0 := v } })
  else if a = A.EVL_DUMP_CTRL then
    some (if wbit v 0 then s.dumpStart (if who = .mc1 then .mc1 else .mc0) else s)
  else if (0x381000 ≤ a ∧ a < 0x385000) ∨ (0x386000 ≤ a ∧ a < 0x387000) then
    some (s.ignored clsEVL who a)
  else none

/-- Body of an EVENT_SUMMARY, offsets 0x10 to 0x33 (R346), big-endian (R234). `epoch` and `frame` are
`PLAN_EPOCH` and `TMG_FRAME_NUM`. -/
def State.summaryBody (s : State) (reason : Nat) : List Byte :=
  let e := s.evl
  let drops := ((List.range 19).map fun c => sget (fun _ => 0) e.drops c).sum
  beBytes s.sys.mode.code 1 ++ beBytes s.sys.safeCause 1 ++ beBytes (rdLE s.ret 0x1040 2) 2 ++
    beBytes e.used 2 ++ beBytes e.openFaults 2 ++ beBytes e.totalFault 4 ++
    beBytes e.totalWarn 4 ++ beBytes drops 4 ++ beBytes e.faultId 4 ++ beBytes s.plan.epoch 4 ++
    beBytes s.tmg.nLast 4 ++ beBytes reason 1 ++ beBytes 0 3

/-- A received summary is stored with its arrival count, or discarded (R347). -/
def State.storeSummary (s : State) (src : Nat) (body : List Byte) : State :=
  if s.rb A.EVL_SUM_CTRL 2 then
    let base := 64 * (src % 64)
    let cnt := wrapAdd (rdLE s.evl.rigSum (base + 0x24) 4) 1 32
    let m := wrBytes s.evl.rigSum base ((body ++ List.replicate 36 0).take 36)
    { s with evl := { s.evl with rigSum := wrLE m (base + 0x24) 4 cnt } }.setEvlInt 5
  else s

end Sys2Proof.Machine
end

