-- ==== Sys2Proof/Machine/Lanes.lean ====
section
/-!
DEFINITION. The alarm queue, and the lanes of the Frond link: states, training, failure, remap and
activation (10_management_and_boot.md R302, 07_frond_output.md R198 to R206, 09_clocks_genlock.md
R281).
-/
namespace Sys2Proof.Machine

/-- An alarm-bus event for MC0 (R302): SOURCE, KIND and UNIT; a full queue drops it and counts. -/
def State.alarm (s : State) (src kind unit : Nat) : State :=
  let w := at_ (src % 32) 27 + at_ (kind % 8) 24 + unit % 2 ^ 24
  if s.sys.alarms.length < 64 then
    { s with sys := { s.sys with alarms := s.sys.alarms ++ [w] } }
  else
    ({ s with sys := { s.sys with alarmOvf := satAdd s.sys.alarmOvf 1 16 } }).setInt
      A.SYS_INT_STATUS 6

/-! ### Lanes -/

/-- Group of a physical lane (R198). -/
def laneGroup (p : Nat) : Nat := p / 15

/-- A lane after reset (R198): logical lane 14g+k on physical lane 15g+k, lane 15g+14 the spare. -/
def laneReset (p : Nat) : Lane :=
  { logical := if p % 15 = 14 then none else some (14 * (p / 15) + p % 15) }

/-- Physical lane `p`. -/
def State.lane (s : State) (p : Nat) : Lane := sget laneReset s.lnk.lanes p

/-- Replace lane `p`. -/
def State.setLane (s : State) (p : Nat) (l : Lane) : State :=
  { s with lnk := { s.lnk with lanes := sput laneReset s.lnk.lanes p l } }

/-- A lane takes a logical lane and a set; its first block after a change is a LANE block (R201). -/
def Lane.assign (l : Lane) (logical : Option Nat) (set : Nat) : Lane :=
  { l with logical := logical, set := set
           markDue := l.markDue || decide (logical ≠ l.logical) || decide (set ≠ l.set) }

/-- Time units of `n` blocks, in fifths: a block of 66 bits lasts 4.125 ns. -/
def blockFifths (n : Nat) : Nat := n * 14256

/-- Time units of `n` blocks. -/
def blocksTU (n : Nat) : Nat := divUp (blockFifths n) 5

/-- A lane sends blocks from instant `t` on, after IDLE blocks since its last ones (R199, R200). -/
def Lane.drive (l : Lane) (t : Nat) (bs : List Block) : Lane :=
  let (s, ws) := scramble (idleRun ((t - l.scrAt) * 5 / 14256) l.scr) bs
  let e := t + blocksTU bs.length
  { l with scr := s, scrAt := e, sent := ws, freeAt := e }

/-- A LINK_EQ run holds lane `p` (R397): it sends the training pattern and nothing else, and neither
`LNK_LANE_OK` nor TRAIN_GO changes its state. -/
def State.eqHolds (s : State) (p : Nat) : Bool :=
  match s.cal.eqRun with
  | some r => r.lanes.any (·.1 = p)
  | none => false

/-- A lane begins the training pattern, whose PRBS state is open (log entry 48). -/
def Lane.pattern (l : Lane) (p t : Nat) : Lane := l.drive t (trainPattern p (Config.openValue 48 [p, t]))

/-- A lane leaves the training pattern; what that leaves in its scrambler is open (log entry 48). -/
def Lane.resume (l : Lane) (p t : Nat) : Lane :=
  { l with scr := Config.openValue 48 [p, t, l.scr] % 2 ^ 58, scrAt := t }

/-- Every physical lane. -/
def allLanes : List Nat := List.range 60

/-- A lane carries packets or could (R229 USABLE). -/
def LaneState.usable : LaneState → Bool
  | .ready | .active | .spare => true
  | _ => false

/-- Usable lanes of group `g` (R229). -/
def State.usableLanes (s : State) (g : Nat) : Nat :=
  ((List.range 15).filter fun k => (s.lane (15 * g + k)).state.usable).length

/-- Logical lanes of group `g` that the output section assigns (R120, R229). -/
def OutCfg.assigned (o : OutCfg) (g : Nat) : Nat :=
  popcount (field (o.mainLanes ||| o.twinLanes) (14 * g) 14) 14

/-- The lanes rule of R126 fails: some group has fewer usable lanes than the plan assigns to it. -/
def State.lanesTooFew (s : State) (o : OutCfg) : Bool :=
  (List.range 4).any fun g => s.usableLanes g < o.assigned g

/-- Lane set of a logical lane under an output section: 0 main, 1 twin, 3 none (R120). -/
def OutCfg.setOf (o : OutCfg) (logical : Option Nat) : Nat :=
  match logical with
  | none => 3
  | some i => if o.mainLanes.testBit i then 0 else if o.twinLanes.testBit i then 1 else 3

/-- A packet still in flight on the lane is lost (R204, R214): it is counted, and a line packet
counts against its frame. -/
def State.loseFlight (s : State) (p : Nat) : State :=
  let l := s.lane p
  match l.flight with
  | none => s
  | some f =>
    if f.endAt ≤ s.now then s
    else
      let s1 := s.setLane p { l with flight := none }
      let s2 := { s1 with lnk := { s1.lnk with lostPkts := wrapAdd s1.lnk.lostPkts 1 32 } }
      let hit := fun (e : Emit) =>
        if f.type = 2 ∧ f.stream ≠ 2 then { e with lost := e.lost + 1 } else { e with lostAny := true }
      if f.type = 1 ∨ f.type = 2 then
        { s2 with frames := s2.frames.map fun fr =>
          if fr.num ≠ f.frame then fr
          else if f.stream = 1 then { fr with twin := hit fr.twin }
          else { fr with main := hit fr.main } }
      else s2

/-- Declare physical lane `p` failed (R204): 1 PLL, 2 open pair, 3 shorted pair, 4 declared. -/
def State.failLane (s : State) (p cause : Nat) : State :=
  let l := s.lane p
  if l.state = .off ∨ l.state = .failed then s
  else
    let s1 := s.loseFlight p
    let l1 := s1.lane p
    let s2 := s1.setLane p { l1 with state := .failed, cause := cause }
    let s3 :=
      if l.state = .active then
        { s2 with lnk := { s2.lnk with
          remaps := s2.lnk.remaps ++ [{ lane := p, byReq := cause = 4, at_ := s2.now }] } }
      else s2
    ((s3.setInt A.LNK_INT_STATUS 0).faultEv clsLNK 0x00 p cause).alarm clsLNK 0 p

/-- A remap takes effect (R205), or the lane stays unmapped (R206). -/
def State.remapLane (s : State) (p : Nat) : State :=
  let l := s.lane p
  let sp := 15 * laneGroup p + 14
  let cand := (List.range 15).map (fun k => 15 * laneGroup p + k) |>.find? fun q =>
    (s.lane q).state = .spare
  match cand with
  | some q =>
    let lq := s.lane q
    let s1 := s.setLane q { lq.assign l.logical l.set with state := .active }
    let s2 := s1.setLane p (l.assign none 3)
    (s2.setInt A.LNK_INT_STATUS 1).info clsLNK 0x01 q p
  | none =>
    let s1 := s.setLane p { l.assign l.logical 3 with short := true }
    (s1.setInt A.LNK_INT_STATUS 2).faultEv clsLNK 0x02 p sp

/-- A remap may take effect at the FT of instant `t` (R205): after a register write, at least
64 µs later; after the lane's own fault, at or after the SFT that follows; a declaration in the
same cycle as an SFT counts as after it. -/
def RemapDue.ripe (r : RemapDue) (t : Nat) : Bool :=
  if r.byReq then r.at_ + us64 ≤ t else r.at_ < t

/-- Remaps due at an FT at instant `t` (R30, R205, R206). -/
def State.remapsAtFT (s : State) (t : Nat) : State :=
  let due := s.lnk.remaps.filter (·.ripe t)
  let s1 := { s with lnk := { s.lnk with remaps := s.lnk.remaps.filter (fun r => ¬ r.ripe t) } }
  due.foldl (fun a r => a.remapLane r.lane) s1

/-- While the ticks are not running, a remap takes effect at once (R205). -/
def State.remapsNow (s : State) : State :=
  if s.tmg.seq = .stopped then
    let due := s.lnk.remaps
    let s1 := { s with lnk := { s.lnk with remaps := [] } }
    due.foldl (fun a r => a.remapLane r.lane) s1
  else s

/-- The live plan assigns lanes to sets at an FT (R202). -/
def State.assignLanes (s : State) (o : OutCfg) : State :=
  allLanes.foldl (fun (a : State) p =>
    let l := a.lane p
    let set := o.setOf l.logical
    if l.state = .ready ∧ set ≠ 3 then
      a.setLane p { l.assign l.logical set with state := .active }
    else if l.state = .active ∧ set = 3 then
      a.setLane p { l.assign l.logical 3 with state := .ready }
    else if l.state = .active then a.setLane p (l.assign l.logical set)
    else a) s

/-- The link PLL of lane `p` is LOCKED (R271: quad q holds lanes 4q to 4q+3). -/
def State.laneClocked (s : State) (p : Nat) : Bool := s.locked (2 + p / 4)

/-- Send lane `p` into TRAIN (R202): from OFF, or from FAILED once its fault is no longer
detected, or again from any other state. -/
def State.trainLane (s : State) (p : Nat) : State :=
  let l := s.lane p
  if ¬ s.laneClocked p then s
  else if (l.state = .failed ∧ l.fault ≠ 0) ∨ s.eqHolds p then s
  else
    s.setLane p { (l.assign l.logical 3).pattern p s.now with
      state := .train, flight := none, short := false }

/-- Entry to STANDBY from BOOT or SAFE: every OFF lane goes to TRAIN (R202). -/
def State.trainOffLanes (s : State) : State :=
  allLanes.foldl (fun (a : State) p => if (a.lane p).state = .off then a.trainLane p else a) s

/-- Entry to BOOT or SAFE: every lane goes OFF (R202). -/
def State.lanesOff (s : State) : State :=
  let s1 := allLanes.foldl (fun (a : State) p =>
    let l := a.lane p
    a.setLane p { l with state := .off, set := 3, flight := none, short := false }) s
  { s1 with lnk := { s1.lnk with remaps := [] } }

/-- `LNK_CTRL.TRAIN_GO` (R202): retrains every lane in STANDBY and CALIBRATE; in any other mode it
is ignored with a warning. -/
def State.trainGo (s : State) (who : Who) : State :=
  if s.sys.mode = .standby ∨ s.sys.mode = .calibrate then
    allLanes.foldl (fun (a : State) p => a.trainLane p) s
  else s.ignored clsLNK who A.LNK_CTRL

/-- The receiver declares lock on the lanes of `mask` (R202): a lane in TRAIN becomes READY, or
SPARE if it is unmapped. -/
def State.lanesOk (s : State) (mask : Nat) : State :=
  (bitsOf mask 60).foldl (fun (a : State) p =>
    let l := a.lane p
    if l.state = .train ∧ ¬ a.eqHolds p then
      a.setLane p { l.resume p a.now with
        state := if l.logical.isSome then .ready else .spare, markDue := true }
    else a) s

/-- Lane failures declared by a register write (R204). -/
def State.lanesFailReq (s : State) (mask : Nat) : State :=
  ((bitsOf mask 60).foldl (fun (a : State) p => a.failLane p 4) s).remapsNow

/-- Link PLL `q` leaves LOCKED (R281): the lanes of its quad fail with cause PLL. -/
def State.quadFail (s : State) (q : Nat) : State :=
  (([0, 1, 2, 3].map (4 * q + ·)).foldl (fun (a : State) p => a.failLane p 1) s).remapsNow

/-- Lanes of a mask of physical lanes that can still carry packets. -/
def State.carried (s : State) (lanes : Nat) : List Nat :=
  allLanes.filter fun p =>
    lanes.testBit p && ((s.lane p).state = .active || (s.lane p).state = .ready)

/-- Firmware disables link PLL `q` (R281): its lanes go OFF without a failure; if any was ACTIVE, a
warning is recorded and its set runs short. A seal packet that waits after CAPTURE has ended goes with
its lanes (R227). -/
def State.quadOff (s : State) (q : Nat) : State :=
  let ps := [0, 1, 2, 3].map (4 * q + ·)
  let act := ps.any fun p => (s.lane p).state = .active
  let s1 := ps.foldl (fun (a : State) p =>
    let b := a.loseFlight p
    let l := b.lane p
    b.setLane p { l with state := .off, set := 3, flight := none, short := l.short || l.state = .active }) s
  let due := s1.seals.due.filter fun k => decide (s1.sys.mode = .capture) || !(s1.carried k.lanes).isEmpty
  let s2 := { s1 with seals := { s1.seals with due := due } }
  if act then (s2.setInt A.LNK_INT_STATUS 2).warn clsLNK 2 q 0 else s2

/-- A driver fault held for 10 µs (R204): 2 open pair, 3 shorted pair; 0: the fault is gone. -/
def State.driverFault (s : State) (p kind : Nat) : State :=
  let k := if kind = 0 ∨ kind = 3 then kind else 2
  let s1 := s.setLane p { s.lane p with fault := k }
  if k = 0 then s1 else (s1.failLane p k).remapsNow

/-- A write of `LNK_EQ_p` (R203, R457): refused while the lane is ACTIVE in MONITOR or CAPTURE, or
with PRE + POST above 24. -/
def State.eqWrite (s : State) (p : Nat) (v : Word) : State :=
  if ((s.lane p).state = .active ∧ s.sys.mode.capturing) ∨ 24 < wfield v 0 4 + wfield v 4 5 then
    (s.setInt A.LNK_INT_STATUS 6).warn clsLNK 0x06 p 0
  else s.setRn (A.LNK_EQ + 4 * p) (v.toNat &&& 0xFFF)

/-- `LNK_PHY_p` (R229). -/
def Lane.word (l : Lane) : Nat :=
  l.state.code + at_ (match l.logical with | some i => i | none => 0x3F) 4 + at_ l.set 10 +
    at_ l.cause 12

/-- Groups whose spare is in SPARE state (R229 SPARES_FREE). The reset word 0b100 counts the spares although every
lane is OFF (R229, R441), so one that has not been driven since the reset counts (log entry 41). -/
def State.sparesFree (s : State) : Nat :=
  ((List.range 4).filter fun g => (List.range 15).any fun k =>
    let l := s.lane (15 * g + k)
    l.logical.isNone && (l.state = .spare || (l.state = .off && l.sent = []))).length

/-- A lane set of the live plan runs with an unmapped lane (R206, R229, R281). -/
def State.lanesShort (s : State) : Bool :=
  match s.plan.live, s.tmg.cur with
  | some _, some c => allLanes.any fun p =>
      (s.lane p).short && c.plan.out.setOf (s.lane p).logical ≠ 3
  | _, _ => false

/-- `LNK_GROUP_g` (R229). -/
def State.groupWord (s : State) (g : Nat) : Nat :=
  let assigned := match s.plan.live, s.tmg.cur with
    | some _, some c => c.plan.out.assigned g
    | _, _ => 0
  let sp := (List.range 15).map fun k => s.lane (15 * g + k)
  let spare :=
    if sp.any (fun l => l.logical.isNone && l.state ≠ .failed) then 0
    else if (s.lane (15 * g + 14)).logical.isSome then 1
    else 2
  s.usableLanes g + at_ assigned 4 + at_ spare 8

end Sys2Proof.Machine
end

