-- ==== Sys2Proof/Machine/Geometry.lean ====
section
/-!
DEFINITION. Window, row slots, period limits and schedule entries (02_array_and_exposure.md R35,
R38, R42 to R46, R63 to R65).
-/
namespace Sys2Proof.Machine

/-- P in 1/256 SEQCLK cycle (R41). -/
def Sched.p256 (s : Sched) : Nat := s.sfpInt * 256 + s.sfpFrac

/-- P in time units. -/
def Sched.pTU (s : Sched) : Nat := s.p256 * Config.fracTU

/-- Rows of the top part of the window (R63). -/
def Win.topRows (w : Win) : Nat :=
  if w.first ≤ 5399 then min w.last 5399 + 1 - w.first else 0

/-- Rows of the bottom part of the window (R63). -/
def Win.botRows (w : Win) : Nat :=
  if 5400 ≤ w.last then w.last + 1 - max w.first 5400 else 0

/-- Active row slots of the top bank, halved by 2 × 1 analog binning (R42, R65). -/
def Win.nTop (w : Win) : Nat := if w.bin then w.topRows / 2 else w.topRows

/-- Active row slots of the bottom bank. -/
def Win.nBot (w : Win) : Nat := if w.bin then w.botRows / 2 else w.botRows

/-- N_slot (R42). -/
def Win.nSlot (w : Win) : Nat := 32 + max w.nTop w.nBot

/-- t_rd in SEQCLK cycles (R42). -/
def tRd (w : Win) (s : Sched) : Nat := w.nSlot * s.rowslot

/-- t_rd in time units. -/
def tRdTU (w : Win) (s : Sched) : Nat := tRd w s * Config.seqTU

/-- Enabled stripes of the window, ascending. -/
def Win.stripes (w : Win) : List Nat := bitsOf w.mask 80

/-- A: output rows after analog binning times enabled active columns (R44). -/
def Win.active (w : Win) : Nat := (w.nTop + w.nBot) * (256 * w.stripes.length)

/-- First row of the bottom part. -/
def Win.botFirst (w : Win) : Nat := max w.first 5400

/-- Rows that a bank reads in active slot `j` of its part (R35, R64, R65): one row, or two with
analog binning; none when the bank is idle. -/
def Win.slotRows (w : Win) (bank j : Nat) : List Int :=
  let n := if bank = 0 then w.nTop else w.nBot
  let base := if bank = 0 then w.first else w.botFirst
  if n ≤ j then []
  else if w.bin then
    let r : Nat := base + 4 * (j / 2) + j % 2
    [(r : Int), ((r + 2 : Nat) : Int)]
  else [((base + j : Nat) : Int)]

/-- Row that a bank reads in black slot `b` (R35). -/
def blackRow (bank b : Nat) : Int := if bank = 0 then (b : Int) - 32 else ((10800 + b : Nat) : Int)

/-- The window rules of R38 and R63; the value is the section offset of the field at fault. -/
def Win.fault (w : Win) (fern : Bool) : Option Nat :=
  let m := if fern ∨ w.bin then 4 else 2
  if 10799 < w.first then some 0
  else if 10799 < w.last then some 2
  else if w.last < w.first then some 0
  else if w.first % m ≠ 0 then some 0
  else if w.last % m ≠ m - 1 then some 2
  else if w.bin ∧ fern then some 4
  else if w.mask = 0 then some 6
  else none

/-- The period limits of R44 hold. -/
def periodOk (w : Win) (s : Sched) : Bool :=
  (tRd w s + 2600) * 256 ≤ s.p256 ∧ 25600000000 ≤ 1200 * s.p256 ∧
    w.active * 25600000000 ≤ 63700992000 * s.p256 ∧ s.p256 ≤ 25600000000 ∧
    s.s * s.p256 ≤ 25600000000

/-- The row slot limits of R42 hold. -/
def rowslotOk (s : Sched) : Bool := 60 ≤ s.rowslot ∧ s.rowslot ≤ 200

/-- Least integration end in µs: t_rd + 6 µs rounded up (R43). -/
def endMin (w : Win) (s : Sched) : Nat := divUp (tRd w s + 600) 100

/-- Greatest integration end in µs: P − 20 µs rounded down (R43); none below 20 µs. -/
def endMax (s : Sched) : Nat := if s.p256 < 512000 then 0 else (s.p256 - 512000) / 25600

/-- Shortest length of the first `s` entries (R43). -/
def shortestLen (es : List Entry) (n : Nat) : Nat :=
  (es.take n).foldl (fun a e => min a e.len) (2 ^ 20)

/-- The check of R43 and R46 on one entry of a schedule whose shortest length is `short`. -/
def entryOk (w : Win) (s : Sched) (short : Nat) (e : Entry) : Bool :=
  2 ≤ e.len ∧ endMin w s ≤ e.start + e.len ∧ e.start + e.len ≤ endMax s ∧
    e.len ≤ 4096 * short ∧ e.hcg ≠ 7 ∧ e.lcg ≠ 7

/-- Numbers of the entries among `js` that fail (R43, R46, R68). DESIGN CHOICE (log entry 46): an entry
outside `js` (its mask bit 0) is not judged against a newly shortest entry of the set, though R60 says the
ratio binds every schedule; R68 limits the check to the entries with their mask bit set. -/
def badEntries (w : Win) (s : Sched) (js : List Nat) : List Nat :=
  let short := shortestLen s.entries s.s
  js.filter fun j => j < s.s && !entryOk w s short (s.entries.getD j {})

/-- Digital binning (R181): outputs from `n` inputs with mosaic period `p` and factor `b`. -/
def binned (n p b : Nat) : Nat := if b ≤ 1 then n else p * divUp n (b * p)

/-- Binning factor of a graph (R118): 1, 2 or 3. -/
def Plan.binFactor (pl : Plan) : Nat :=
  match pl.graph.find? (fun x => x.1 = 7) with
  | some (_, m) => m + 1
  | none => 1

/-- Mode of the combine stage (R118). -/
def Plan.combineMode (pl : Plan) : Nat :=
  match pl.graph.find? (fun x => x.1 = 5) with
  | some (_, m) => m
  | none => 0

/-- The graph has stage `k`. -/
def Plan.hasStage (pl : Plan) (k : Nat) : Bool := pl.graph.any (fun x => x.1 = k)

/-- Mosaic period of R181. -/
def Plan.mosaic (pl : Plan) : Nat := if pl.variant = 1 then 4 else 2

/-- Output pixels per stripe (R181). -/
def Plan.pxOut (pl : Plan) : Nat := binned 256 pl.mosaic pl.binFactor

/-- Output rows of the parts, after analog and digital binning. -/
def Plan.topOut (pl : Plan) : Nat := binned pl.win.nTop pl.mosaic pl.binFactor
def Plan.botOut (pl : Plan) : Nat := binned pl.win.nBot pl.mosaic pl.binFactor

/-- Bits per pixel of a format (R217). -/
def formatBits (f : Nat) : Nat := if f = 0 then 24 else if f = 3 then 28 else 16

/-- Bytes of DPPARAM record `k` of the plan, if it holds one (R468). -/
def Plan.record (pl : Plan) (k : Nat) : Option (List Byte) :=
  (pl.dp.find? (fun x => x.1 = k)).map (·.2)

/-- Little-endian field of a DPPARAM record; 0 when the record is absent. -/
def Plan.recField (pl : Plan) (k off n : Nat) : Nat :=
  match pl.record k with
  | some b => ofLE ((b.drop off).take n)
  | none => 0

/-- Planes of a reconstructed image (R185). -/
def Plan.planes (pl : Plan) : Nat := if (pl.recField 9 0 1).testBit 0 then 4 else 3

/-- Block rows of the window for factor `f` (R184). -/
def Plan.blockRows (pl : Plan) (f : Nat) : Nat := divUp pl.win.nTop f + divUp pl.win.nBot f

/-- DRAM bytes per pixel per frame (R33, Budgets). -/
def Plan.dramBytes (pl : Plan) : Nat :=
  (if pl.combineMode = 3 then 7 else 8 * pl.sched.s - 2) + (if pl.sched.twin then 6 else 0)

/-- Computed DRAM load in MB/s, rounded up (R33). -/
def Plan.dramComputed (pl : Plan) : Nat :=
  divUp (pl.dramBytes * pl.win.active * 25600) (pl.sched.s * pl.sched.p256)

/-- Bytes of a line packet on its lane (R221). -/
def lineBytes (px w : Nat) : Nat := 8 + 8 * divUp (52 + divUp (px * w) 8) 8

/-- Bytes per frame of the main set (R221). -/
def Plan.mainBytes (pl : Plan) : Nat :=
  let n := pl.win.stripes.length
  let lines := (pl.topOut + pl.botOut) * n * lineBytes pl.pxOut (formatBits pl.out.format)
  let recon :=
    if pl.out.proxy.testBit 2 then pl.blockRows 4 * n * lineBytes (64 * pl.planes) 10 else 0
  264 + 136 + 552 + 856640 + lines + recon

/-- Bytes per frame of the twin set (R221). -/
def Plan.twinBytes (pl : Plan) : Nat :=
  264 + 136 + 552 +
    (pl.topOut + pl.botOut) * pl.win.stripes.length *
      lineBytes pl.pxOut (formatBits pl.out.twinFormat)

/-- A set's computed load exceeds 15.515 Gbit/s per lane (R33, R221). -/
def setOver (bytes lanes s p256 : Nat) : Bool := 15515 * lanes * s * p256 < 8 * bytes * 25600

end Sys2Proof.Machine
end

