-- ==== Sys2Proof/Machine/PlanImage.lean ====
section
/-!
DEFINITION. Reading and checking a plan image (04_plans.md R110 to R122, R467 to R469).
-/
namespace Sys2Proof.Machine

/-- Little-endian field of `n` bytes at offset `o` of an image. -/
def imgU (d : List Byte) (o n : Nat) : Nat := ofLE ((d.drop o).take n)

/-- Bytes `o` to `o + n - 1` of an image are 0. -/
def imgZero (d : List Byte) (o n : Nat) : Bool := ((d.drop o).take n).all (fun b => b = 0)

/-- A failing check: cause (R139) and ERROFS. -/
abbrev Bad := Option (Nat × Nat)

/-- Fail with cause `c` at offset `o` unless `p` holds. -/
def need (p : Bool) (c o : Nat) : Bad := if p then none else some (c, o)

/-- The first failing check of a list. -/
def firstBad (l : List Bad) : Bad := l.findSome? id

/-- Reserved fields (R467): each (offset, bytes, unused low bits) of the structure `b` at `base`
holds 0 above its low bits; the field is named at fault with cause `c`. -/
def reservedCheck (b : List Byte) (base c : Nat) (l : List (Nat × Nat × Nat)) : Bad :=
  firstBad (l.map fun f => need (imgU b f.1 f.2.1 < 2 ^ f.2.2) c (base + f.1))

/-- A directory entry (R113). -/
structure DirEntry where
  at_  : Nat
  type : Nat
  flags : Nat
  off  : Nat
  size : Nat
  crc  : Nat
  deriving DecidableEq, Repr

/-- Directory entry at offset `e`. -/
def dirEntry (d : List Byte) (e : Nat) : DirEntry :=
  { at_ := e, type := imgU d e 2, flags := imgU d (e + 2) 2, off := imgU d (e + 4) 4,
    size := imgU d (e + 8) 4, crc := imgU d (e + 12) 4 }

/-- Section directory (R113). -/
def sections (d : List Byte) : List DirEntry :=
  (List.range (min (imgU d 0x16 2) 16)).map fun i => dirEntry d (0x100 + 16 * i)

/-- Limits of the size of a section type (R113); none for an unknown type. -/
def sectionSize (t : Nat) : Option (Nat × Nat) :=
  match t with
  | 1 => some (64, 262144)
  | 2 => some (16, 16)
  | 3 => some (224, 224)
  | 4 => some (32, 32)
  | 5 => some (64, 64)
  | 6 => some (64, 64)
  | 7 => some (224, 224)
  | 8 => some (16, 3145728)
  | 0xF0 => some (784, 784)
  | _ => none

/-- Sections of known types; an unknown one that is not CRITICAL is ignored (R113). -/
def knownSections (d : List Byte) : List DirEntry :=
  (sections d).filter fun e => (sectionSize e.type).isSome

/-- Section of type `t`. -/
def sectionOf (d : List Byte) (t : Nat) : Option DirEntry := (sections d).find? (fun e => e.type = t)

/-- Offset of section `t`; 0 when absent. -/
def secOff (d : List Byte) (t : Nat) : Nat := ((sectionOf d t).map (·.off)).getD 0

/-- Bytes of section `t`. -/
def secBytes (d : List Byte) (t : Nat) : List Byte :=
  match sectionOf d t with
  | some e => (d.drop e.off).take e.size
  | none => []

/-- Two byte ranges overlap. -/
def overlap (a n b m : Nat) : Bool := a < b + m ∧ b < a + n

/-- Row 2 of R469: header fields and values (R110, R111). DESIGN CHOICE (log entry 46): where several
fields of one row fail, R469 names none of them as the one reported; here they are tried in offset order
with the reserved bytes last, and every other row in the order its check lists them. -/
def headerCheck (d : List Byte) : Bad :=
  firstBad [
    need (imgU d 0 4 = 0x4C505A52) 1 0,
    need (imgU d 4 2 = 1) 1 4,
    need (imgU d 6 2 = 256) 1 6,
    need (imgU d 8 4 % 16 = 0 ∧ 1024 ≤ imgU d 8 4 ∧ imgU d 8 4 ≤ 4194304) 1 8,
    need (imgU d 0x14 1 ≤ 1) 1 0x14,
    need (imgU d 0x15 1 ≤ 1) 1 0x15,
    need (8 ≤ imgU d 0x16 2 ∧ imgU d 0x16 2 ≤ 16) 1 0x16,
    need (imgU d 0x18 4 ≠ 0) 1 0x18,
    need (imgZero d 0x2C 208) 1 0x2C]

/-- The four header fields that stop a flash copy (R125). -/
def flashHeaderBad (d : List Byte) : Bool :=
  imgU d 0 4 ≠ 0x4C505A52 ∨ imgU d 4 2 ≠ 1 ∨ imgU d 6 2 ≠ 256 ∨ imgU d 8 4 % 16 ≠ 0 ∨
    imgU d 8 4 < 1024 ∨ 4194304 < imgU d 8 4

/-- Row 4: target (R112). -/
def targetCheck (d : List Byte) (part : Part) : Bad :=
  firstBad [
    need (imgU d 0xC 4 = 0x2010) 4 0xC,
    need (imgU d 0x10 2 ≤ part.stepping ∧ part.stepping ≤ imgU d 0x12 2) 4 0x10,
    need (imgU d 0x14 1 = b2n part.fern) 4 0x14]

/-- Layout of one known section after those before it (R110, R113). -/
def sectionBad (d : List Byte) (before : List DirEntry) (e : DirEntry) : Bool :=
  let lim := (sectionSize e.type).getD (0, 0)
  let dirEnd := 0x100 + 16 * imgU d 0x16 2
  e.off % 16 ≠ 0 || e.off < dirEnd || imgU d 8 4 < e.off + e.size ||
    e.size < lim.1 || lim.2 < e.size ||
    before.any fun b => b.type = e.type || overlap b.off b.size e.off e.size

/-- Every section in directory order. Bits 15:1 of SFLAGS are reserved in every entry (R467).
DESIGN CHOICE (log entry 46): a section of an unknown type that is not CRITICAL is ignored wholly: its
place, bounds and CRC are not checked (R110 says every section, R113 says ignored). -/
def sectionsBad (d : List Byte) : List DirEntry → List DirEntry → Bad
  | _, [] => none
  | before, e :: r =>
    if 2 ≤ e.flags then some (3, e.at_ + 2)
    else if (sectionSize e.type).isNone then
      if e.flags.testBit 0 then some (3, e.at_) else sectionsBad d before r
    else if sectionBad d before e then some (3, e.at_)
    else sectionsBad d (e :: before) r

/-- SIG is present exactly when SIGNED, and is the last section (R113). DESIGN CHOICE (log entry 46):
where SIG and the SIGNED flag disagree the ERROFS is SIG's directory entry, or 0x100 where SIG is absent;
and the last section is the one with the greatest offset. -/
def sigPlaceBad (d : List Byte) : Bad :=
  match sectionOf d 0xF0 with
  | none => need (imgU d 0x15 1 = 0) 3 0x100
  | some e =>
    need (imgU d 0x15 1 = 1 ∧ (knownSections d).all (fun x => x.off ≤ e.off)) 3 e.at_

/-- DPPARAM directory entries before the terminating one; none when no entry terminates it
(R468). -/
def dpEntries (b : List Byte) : Nat → Nat → List DirEntry × Bool
  | 0, e => ([], e + 16 ≤ b.length ∧ imgU b e 2 = 0)
  | k + 1, e =>
    if b.length < e + 16 then ([], false)
    else if imgU b e 2 = 0 then ([], true)
    else
      let r := dpEntries b k (e + 16)
      (dirEntry b e :: r.1, r.2)

/-- The DPPARAM directory. -/
def dpDir (d : List Byte) : List DirEntry := (dpEntries (secBytes d 8) 16 0).1

/-- Records in directory order; bits 15:1 of SFLAGS are reserved (R467). DESIGN CHOICE (log entry 46): a
record of an ignored type still has its place, its bounds, its overlap and (as every record) its CRC checked:
R468 ignores its contents and says nothing of its place. -/
def dpRecordsBad (base secLen dirEnd : Nat) : List DirEntry → List DirEntry → Bad
  | _, [] => none
  | before, e :: r =>
    if 2 ≤ e.flags then some (3, base + e.at_ + 2)
    else if e.off % 16 ≠ 0 || e.off < dirEnd || secLen < e.off + e.size ||
        before.any (fun b => overlap b.off b.size e.off e.size) then some (3, base + e.at_)
    else dpRecordsBad base secLen dirEnd (e :: before) r

/-- The DPPARAM directory of R468. -/
def dpDirBad (d : List Byte) : Bad :=
  let b := secBytes d 8
  let base := secOff d 8
  let (es, ended) := dpEntries b 16 0
  let term := 16 * es.length
  firstBad [
    need ended 3 (base + term),
    need (imgZero b term 16) 3 (base + term),
    dpRecordsBad base b.length (term + 16) [] es]

/-- Row 5: section directory and layout; DPPARAM directory. DESIGN CHOICE (log entry 46): ERROFS of a
required section that is absent is 0x100, the first entry (R469 names no entry for it). -/
def sectionCheck (d : List Byte) : Bad :=
  firstBad [
    sectionsBad d [] (sections d),
    need ((List.range 8).all fun i => (sectionOf d (i + 1)).isSome) 3 0x100,
    sigPlaceBad d,
    dpDirBad d]

/-- Row 6: image CRC, section CRCs, record CRCs. -/
def crcCheck (d : List Byte) : Bad :=
  let stop := match sectionOf d 0xF0 with | some e => e.off | none => imgU d 8 4
  let base := secOff d 8
  firstBad
    ([need (crc32 ((d.drop 0x100).take (stop - 0x100)) = imgU d 0x28 4) 2 0x28] ++
    (knownSections d).map (fun e => need (crc32 ((d.drop e.off).take e.size) = e.crc) 2 e.at_) ++
    (dpDir d).map fun e =>
      need (crc32 (((d.drop (base + e.off))).take e.size) = e.crc) 2 (base + e.at_))

/-- Key digest of the SIG section: SHA-256 over MODULUS and EXPONENT (R121). -/
def sigDigest (b : List Byte) : List Byte :=
  sha256 ((b.drop 0x10).take 384 ++ (b.drop 0xC).take 4)

/-- Row 7: signature (R121, R122). `slot` gives the allowed slot of a key digest, `must` is the
plan-signature policy. -/
def signatureCheck (d : List Byte) (slot : List Byte → Option Nat) (must : Bool) : Bad :=
  match sectionOf d 0xF0 with
  | none => need (!must) 5 0x15
  | some e =>
    let b := secBytes d 0xF0
    firstBad [
      reservedCheck b e.off 5 [(1, 11, 0)],
      need (imgU b 0xC 4 = 65537 ∧ (slot (sigDigest b)).isSome ∧
        pssVerify ((b.drop 0x10).take 384) ((b.drop 0x190).take 384) (d.take e.off)) 5 e.off]


/-- Row 8: SEQ (R114). -/
def seqCheck (d : List Byte) : Bad :=
  let b := secBytes d 1
  let o := secOff d 1
  let f := Config.seqFault b
  firstBad [
    need (imgU d 0x10 2 ≤ imgU b 0 2 ∧ imgU b 0 2 ≤ imgU d 0x12 2) 20 o,
    need (1 ≤ imgU b 2 2 ∧ imgU b 2 2 ≤ 4096) 20 (o + 2),
    need (imgU b 4 1 = imgU (secBytes d 3) 7 1) 20 (o + 4),
    need (imgU b 5 1 ≤ 1 ∧ imgU b 5 1 = imgU (secBytes d 2) 4 1 % 2) 20 (o + 5),
    need (imgZero b 6 58) 20 (o + 6),
    need (f = 0) 20 (o + (f - 1))]

/-- The window of the WIN section (R115). -/
def readWin (b : List Byte) : Win :=
  { first := imgU b 0 2, last := imgU b 2 2, bin := (imgU b 4 1).testBit 0, mask := imgU b 6 10 }

/-- Row 9: WIN (R115, R38, R63). -/
def winCheck (d : List Byte) (part : Part) : Bad :=
  let b := secBytes d 2
  let o := secOff d 2
  firstBad [
    need (imgU b 4 1 < 2) 8 (o + 4),
    need (imgU b 5 1 = 0) 8 (o + 5),
    match (readWin b).fault part.fern with
    | none => none
    | some k => some (8, o + k)]

/-- A schedule section (R116). -/
def readSched (b : List Byte) : Sched :=
  { s := imgU b 0 1, startMode := imgU b 1 1, phaseSrc := imgU b 2 1, trigSrc := imgU b 3 1,
    tpoSel := imgU b 4 1, bracket := (imgU b 5 1).testBit 0, trigLevel := (imgU b 5 1).testBit 1,
    twin := (imgU b 5 1).testBit 2, twinJ := imgU b 6 1, rowslot := imgU b 7 1,
    burstLen := imgU b 8 2, sfpInt := imgU b 0xC 4, sfpFrac := imgU b 0x10 1,
    entries := (List.range 12).map fun j =>
      let e := b.drop (0x20 + 16 * j)
      { start := imgU e 0 4, len := imgU e 4 4, hcg := field (imgU e 8 1) 0 3,
        lcg := field (imgU e 8 1) 4 3, weight := imgU e 12 2 } }

/-- Values of a schedule header (R116, R52), with cause `c`. -/
def schedHeadCheck (b : List Byte) (o c : Nat) : Bad :=
  let s := readSched b
  firstBad [
    need (1 ≤ s.s ∧ s.s ≤ 12) c o,
    need (s.startMode ≤ 2) c (o + 1),
    need (s.phaseSrc ≤ 2) c (o + 2),
    need (s.trigSrc ≤ 2) c (o + 3),
    need (s.tpoSel ≤ 7) c (o + 4),
    need (imgU b 5 1 < 8) c (o + 5),
    need (if s.twin then s.twinJ < s.s else s.twinJ = 0) c (o + 6),
    need (if s.startMode = 0 then s.burstLen = 0
      else if s.startMode = 2 then s.burstLen = 1 else 1 ≤ s.burstLen) c (o + 8),
    need (imgZero b 0xA 2) c (o + 0xA),
    need (imgZero b 0x11 15) c (o + 0x11)]

/-- Row slot and period limits (R42, R44), with cause `c`. -/
def timingCheck (w : Win) (s : Sched) (o c : Nat) : Bad :=
  firstBad [need (rowslotOk s) c (o + 7), need (periodOk w s) c (o + 0xC)]

/-- Reserved bits and fields of one schedule entry (R116): (offset, bytes, used low bits). -/
def entryReserved : List (Nat × Nat × Nat) := [(0, 4, 20), (4, 4, 20), (8, 1, 7), (9, 3, 0), (14, 2, 0)]

/-- Schedule entries (R43, R46, R116), with cause `c`. -/
def entriesCheck (w : Win) (b : List Byte) (o c : Nat) : Bad :=
  let s := readSched b
  let bad := badEntries w s (List.range 12)
  firstBad ((List.range 12).map fun j =>
    let e := 0x20 + 16 * j
    firstBad [
      need (j < s.s ∨ imgZero b e 16) c (o + e),
      reservedCheck (b.drop e) (o + e) c entryReserved,
      need (!(imgU b (e + 8) 1).testBit 3) c (o + e + 8),
      need (!bad.contains j) c (o + e)])

/-- Sum of the weights of a schedule. -/
def Sched.weightSum (s : Sched) : Nat := ((s.entries.take s.s).map (·.weight)).sum

/-- Row 13: throttle variant (R117); with S = 1 it repeats the main schedule exactly. -/
def throttleCheck (d : List Byte) : Bad :=
  let w := readWin (secBytes d 2)
  let b := secBytes d 7
  let o := secOff d 7
  let m := readSched (secBytes d 3)
  let t := readSched b
  firstBad [
    need (t.s = max 1 (m.s / 2)) 10 o,
    need (t.startMode = m.startMode) 10 (o + 1),
    need (t.phaseSrc = m.phaseSrc) 10 (o + 2),
    need (t.trigSrc = m.trigSrc) 10 (o + 3),
    need (t.tpoSel = m.tpoSel) 10 (o + 4),
    need (t.bracket = m.bracket ∧ t.trigLevel = m.trigLevel ∧ t.twin = m.twin) 10 (o + 5),
    need (t.rowslot = m.rowslot) 10 (o + 7),
    need (t.burstLen = m.burstLen) 10 (o + 8),
    schedHeadCheck b o 10,
    need (t.s * t.p256 = m.s * m.p256) 10 (o + 0xC),
    need (m.s ≠ 1 ∨ t.entries = m.entries) 10 (o + 0x20),
    timingCheck w t o 10,
    entriesCheck w b o 10,
    need (t.weightSum ≤ m.weightSum + 2 ∧ m.weightSum ≤ t.weightSum + 2) 10 (o + 0x20)]

/-- The graph of a GRAPH section: (stage, mode) up to the first slot with stage 0 (R118). -/
def readGraph (b : List Byte) : List (Nat × Nat) :=
  ((List.range 8).map fun i => (imgU b (4 * i) 1, imgU b (4 * i + 1) 1)).takeWhile (·.1 ≠ 0)

/-- Modes of a stage (R118). -/
def stageMode (st md : Nat) : Bool :=
  if st = 5 then md ≤ 3 else if st = 7 then md = 1 ∨ md = 2 else st ≤ 8 ∧ md = 0

/-- Position of a stage in a graph. -/
def posOf (g : List (Nat × Nat)) (st : Nat) : Option Nat := g.findIdx? (fun x => x.1 = st)

/-- GRAPH rules of R118 against format `fmt`; the value is the number of the slot at fault. DESIGN CHOICE
(log entry 46): a required stage that is absent is reported at slot 0. -/
def graphFault (g : List (Nat × Nat)) (fmt : Nat) : Option Nat :=
  let slot := (List.range g.length).find? fun i =>
    let x := g.getD i (0, 0)
    !stageMode x.1 x.2 || (g.take i).any (fun y => y.1 = x.1)
  match slot with
  | some i => some i
  | none =>
    let p := posOf g
    match p 1, p 2, p 3, p 4, p 5, p 8 with
    | some a, some b, some c, some e, some k, some z =>
      let pass := (g.getD k (0, 0)).2 = 3
      if k < a ∨ k < b ∨ k < c ∨ k < e then some k
      else
        let six :=
          match p 6 with
          | none => if pass then none else some k
          | some i => if pass ∨ i < k then some i else none
        let seven :=
          match p 7, p 6 with
          | none, _ => none
          | some i, some j => if pass ∨ i < j then some i else none
          | some i, none => some i
        let last := if z + 1 = g.length then none else some z
        let mode := if (g.getD k (0, 0)).2 = fmt then none else some k
        [six, seven, last, mode].findSome? id
    | _, _, _, _, _, _ => some 0

/-- The OUT section (R120). -/
def readOut (b : List Byte) : OutCfg :=
  { format := imgU b 0 1, twinFormat := imgU b 1 1, proxy := imgU b 2 1, proxyDiv := imgU b 3 1,
    mainLanes := imgU b 4 8, twinLanes := imgU b 0xC 8 }

/-- OUT rules (R120), with section offset `o`. -/
def outCheck (b : List Byte) (o : Nat) (twin : Bool) : Bad :=
  let c := readOut b
  firstBad [
    need (c.format ≤ 3) 9 o,
    need (if twin then c.twinFormat = c.format ∧ c.twinFormat ≤ 2 else c.twinFormat = 0) 9 (o + 1),
    need (c.proxy < 8 ∧ field c.proxy 0 2 ≠ 3) 9 (o + 2),
    need (1 ≤ c.proxyDiv ∧ c.proxyDiv ≤ 16) 9 (o + 3),
    need (c.mainLanes ≠ 0 ∧ c.mainLanes < 2 ^ 56) 9 (o + 4),
    need (c.twinLanes < 2 ^ 56 ∧ c.mainLanes &&& c.twinLanes = 0 ∧
      (if twin then c.twinLanes ≠ 0 else c.twinLanes = 0)) 9 (o + 0xC),
    need (imgZero b 0x14 44) 9 (o + 0x14)]

/-- Row 14: GRAPH, format and S (R25), OUT. DESIGN CHOICE (log entry 46): `MODE` of the slot whose
`STAGE` 0 ends the list is not checked; R118 asks only every later slot to be 0. -/
def formatCheck (d : List Byte) : Bad :=
  let g := secBytes d 4
  let go := secOff d 4
  let ob := secBytes d 6
  let s := readSched (secBytes d 3)
  let graph := readGraph g
  firstBad [
    reservedCheck g go 9 ((List.range 8).map fun i => (4 * i + 2, 2, 0)),
    reservedCheck g go 9 (((List.range 8).filter (graph.length < ·)).map fun i => (4 * i, 4, 0)),
    match graphFault graph (imgU ob 0 1) with | some i => some (9, go + 4 * i) | none => none,
    need (imgU ob 0 1 ≠ 3 ∨ s.s = 1) 9 (secOff d 6),
    outCheck ob (secOff d 6) s.twin]

/-- Sizes of the DPPARAM records of defined type (R160, R169, R176, R186, R218). -/
def recSize (t : Nat) : Option Nat :=
  match t with
  | 1 => some 16
  | 3 => some 16
  | 4 => some 16
  | 5 => some 128
  | 6 => some 16
  | 8 => some 16
  | 9 => some 176
  | _ => none

/-- Reserved fields and bits of a record of type `t`: (offset, bytes, used low bits) (R160, R169,
R176, R186, R218). -/
def recReserved (t : Nat) : List (Nat × Nat × Nat) :=
  match t with
  | 1 => [(0, 1, 1), (4, 12, 0)]
  | 3 => [(0, 1, 2), (1, 15, 0)]
  | 4 => [(0, 1, 1), (2, 14, 0)]
  | 5 => [(4, 4, 0), (0x63, 1, 0)] ++ (List.range 7).map (fun g => (0x40 + 4 * g, 4, 24)) ++
      (List.range 7).map fun g => (0x64 + 4 * g, 4, 24)
  | 6 => [(0, 1, 0), (3, 13, 0)]
  | 8 => [(1, 15, 0)]
  | 9 => [(0, 1, 1), (2, 2, 0), (4, 4, 24)] ++ (List.range 65).map (fun i => (0x20 + 2 * i, 2, 10)) ++
      [(0xA2, 14, 0)]
  | _ => []

/-- Black clamp, column and defect records (R169). -/
def rec134Ok (t : Nat) (b : List Byte) : Bool :=
  if t = 1 then imgU b 1 1 ≤ 7 ∧ 1 ≤ imgU b 2 2 ∧ imgU b 2 2 ≤ 1024
  else t = 3 || (1 ≤ imgU b 1 1 ∧ imgU b 1 1 ≤ 3)

/-- Combine record (R160). -/
def rec5Ok (b : List Byte) : Bool :=
  let ped := imgU b 0 4
  ped ≤ 65535 && (List.range 7).all fun g =>
    let kh := imgU b (0x08 + 4 * g) 4
    let kl := imgU b (0x24 + 4 * g) 4
    let tlo := imgU b (0x40 + 4 * g) 4
    let bw := imgU b (0x5C + g) 1
    let sat := imgU b (0x64 + 4 * g) 4
    0 < kh && 0 < kl && 4 ≤ bw && bw ≤ 20 &&
      (tlo + 2 ^ bw) * 65536 ≤ kh * 15000 && sat ≤ 16777215 - ped

/-- Colour record (R186). -/
def rec9Ok (b : List Byte) (fern : Bool) : Bool :=
  (fern || imgU b 0 1 = 0) && imgU b 1 1 ≤ 15 && (fern || imgZero b 0x1A 6) &&
    (List.range 64).all fun i => imgU b (0x20 + 2 * i) 2 ≤ imgU b (0x22 + 2 * i) 2

/-- Contents of a record of defined type, its reserved fields apart. -/
def recOk (t : Nat) (b : List Byte) (fern bracket : Bool) : Bool :=
  if t = 5 then rec5Ok b
  else if t = 6 then
    imgU b 1 1 ≤ 12 ∧ (bracket ∨ imgU b 1 1 = 0) ∧ imgU b 2 1 ≤ 3
  else if t = 8 then imgU b 0 1 ≤ 8
  else if t = 9 then rec9Ok b fern
  else rec134Ok t b

/-- One record after those before it (R468). -/
def recBad (d : List Byte) (fern bracket : Bool) : List Nat → List DirEntry → Bad
  | _, [] => none
  | seen, e :: r =>
    let at_ := secOff d 8 + e.off
    match recSize e.type with
    | none =>
      if e.type = 2 ∨ e.type = 7 ∨ e.flags.testBit 0 then some (21, at_)
      else recBad d fern bracket seen r
    | some n =>
      let b := (d.drop at_).take e.size
      let bad := firstBad [
        need (!seen.contains e.type && e.size = n) 21 at_,
        reservedCheck b at_ 21 (recReserved e.type),
        need (recOk e.type b fern bracket) 21 at_]
      match bad with
      | some x => some x
      | none => recBad d fern bracket (e.type :: seen) r

/-- Row 15: DPPARAM records. DESIGN CHOICE (log entry 46): where a required record is absent the ERROFS
is the start of the DPPARAM section. -/
def recordCheck (d : List Byte) (part : Part) : Bad :=
  let s := readSched (secBytes d 3)
  let g := readGraph (secBytes d 4)
  let o := readOut (secBytes d 6)
  let has := fun t => (dpDir d).any (fun e => e.type = t)
  let stage := fun t => g.any (fun x => x.1 = t)
  firstBad [
    recBad d part.fern s.bracket [] (dpDir d),
    need (has 5 ∧ ([1, 3, 4, 6].all fun t => !stage t || has t) ∧
      (has 8 ∨ (o.format ≠ 1 ∧ o.format ≠ 2)) ∧ (has 9 ∨ o.proxy = 0)) 21 (secOff d 8)]

/-- Row 16: STAT (R119). -/
def statCheck (d : List Byte) (part : Part) : Bad :=
  let b := secBytes d 5
  let o := secOff d 5
  firstBad [
    need ((List.range 4).all fun h => imgU b h 1 ≤ 3 ∨ (part.fern ∧ imgU b h 1 = 4)) 22 o,
    need ((List.range 4).all fun h => imgU b (4 + h) 1 ≤ 1) 22 (o + 4),
    need ((List.range 4).all fun h =>
      if imgU b (4 + h) 1 = 1 then imgU b (8 + h) 1 = 0 else imgU b (8 + h) 1 ≤ 14) 22 (o + 8),
    need (imgU b 0xC 4 < 2 ^ 24) 22 (o + 0xC),
    need (imgU b 0x10 1 = 0 ∨ (imgU b 0x10 1 = 1 ∧ (readSched (secBytes d 3)).twin)) 22 (o + 0x10),
    need (imgZero b 0x11 47) 22 (o + 0x11)]

/-- The plan that a checked image holds. -/
def readPlan (d : List Byte) : Plan :=
  let b := secBytes d 5
  let p : Plan :=
    { id := imgU d 0x18 4, variant := imgU d 0x14 1, signed := imgU d 0x15 1 = 1,
      dramLoad := imgU d 0x20 4, linkLoad := imgU d 0x24 4, sched := readSched (secBytes d 3),
      throt := readSched (secBytes d 7), win := readWin (secBytes d 2),
      graph := readGraph (secBytes d 4),
      stat := { histSrc := (List.range 4).map fun h => imgU b h 1
                histMap := (List.range 4).map fun h => imgU b (4 + h) 1
                histShift := (List.range 4).map fun h => imgU b (8 + h) 1
                clipLevel := imgU b 0xC 4, point := imgU b 0x10 1 }
      out := readOut (secBytes d 6)
      dp := (dpDir d).filterMap fun e =>
        if (recSize e.type).isSome then
          some (e.type, (d.drop (secOff d 8 + e.off)).take e.size)
        else none }
  { p with dramLoad := max p.dramLoad p.dramComputed }

/-- Row 17: DRAM load (R33). -/
def dramCheck (p : Plan) : Bad := need (p.dramLoad ≤ 576000) 11 0x20

/-- Row 18: link load (R33, R221). -/
def linkCheck (p : Plan) : Bad :=
  let m := popcount p.out.mainLanes 56
  let t := popcount p.out.twinLanes 56
  need (!setOver p.mainBytes m p.sched.s p.sched.p256 &&
    (!p.sched.twin || !setOver p.twinBytes t p.sched.s p.sched.p256) &&
    p.linkLoad ≤ 15515 * (m + t)) 12 0x24

/-- Rows 1 to 7 of R469: the image's form, CRCs and signature. -/
def formCheck (d : List Byte) (count : Nat) (part : Part) (slot : List Byte → Option Nat) (must : Bool) : Bad :=
  firstBad [
    need (count = imgU d 8 4) 1 8,
    headerCheck d,
    need (crc32 (d.take 0xFC) = imgU d 0xFC 4) 2 0xFC,
    targetCheck d part,
    sectionCheck d,
    crcCheck d,
    signatureCheck d slot must]

/-- Slot of the key under which the signature of an image verified; the signature of every image with a SIG section is
verified, whatever other check fails (R122). -/
def verifiedSlot (d : List Byte) (slot : List Byte → Option Nat) : Option Nat :=
  if (sectionOf d 0xF0).isSome ∧ (signatureCheck d slot false).isNone then slot (sigDigest (secBytes d 0xF0)) else none

/-- The first failing check of an image of `count` bytes in the order of R469. -/
def checkImage (d : List Byte) (count : Nat) (part : Part) (slot : List Byte → Option Nat)
    (must : Bool) : Bad :=
  let w := readWin (secBytes d 2)
  let sb := secBytes d 3
  let so := secOff d 3
  firstBad [
    formCheck d count part slot must,
    seqCheck d,
    winCheck d part,
    schedHeadCheck sb so 7,
    timingCheck w (readSched sb) so 6,
    entriesCheck w sb so 7,
    throttleCheck d,
    formatCheck d,
    recordCheck d part,
    statCheck d part,
    dramCheck (readPlan d),
    linkCheck (readPlan d)]

end Sys2Proof.Machine
end

