-- ==== Sys2Proof/Machine/Sequencer.lean ====
section
/-!
DEFINITION. The sequencer's grid and its predictions, starting the grid, triggers, live sets,
loading plans and commits (02_array_and_exposure.md R52 to R71, 04_plans.md R123 to R130).
-/
namespace Sys2Proof.Machine

/-! ### The grid (R41) -/

/-- Ticks are running (R61). -/
def State.ticking (s : State) : Bool := s.tmg.seq ≠ .stopped

/-- Unrounded position of the next SFT. -/
def Tmg.nextSft (t : Tmg) : Nat := if t.fresh then t.pos else t.pos + t.p

/-- The next SFT is an FT. -/
def Tmg.nextIsFT (t : Tmg) : Bool := t.fresh || t.s ≤ t.j + 1

/-- Unrounded position of the next FT. -/
def Tmg.nextFT (t : Tmg) : Nat := if t.fresh then t.pos else t.pos + (t.s - t.j) * t.p

/-- Frame period of the running grid. -/
def Tmg.framePeriod (t : Tmg) : Nat := t.s * t.p

/-- The first FT of the running grid at or after instant `x`, under the present S and P. -/
def State.firstFTfrom (s : State) (x : Nat) : Nat :=
  let t := s.tmg
  let f0 := s.seqEdge t.nextFT
  if x ≤ f0 then f0
  else
    let k := (x - t.nextFT) / t.framePeriod
    let a := s.seqEdge (t.nextFT + k * t.framePeriod)
    if x ≤ a then a else s.seqEdge (t.nextFT + (k + 1) * t.framePeriod)

/-- The frame that would start to integrate at the FT at instant `t` under the state, start mode
and mode just before it (R466). -/
def State.frameAtFT (s : State) (t : Nat) : Option Nat :=
  let c := s.tmg.cur
  let cont : Bool := match c with | some x => x.sched.startMode = 0 | none => false
  match s.tmg.seq with
  | .running =>
    if s.tmg.trigFT ∨ cont ∨ 0 < s.tmg.burstLeft then some s.tmg.nNext else none
  | .idle => if s.sys.mode.capturing ∧ cont then some s.tmg.nNext else none
  | .drain =>
    match s.tmg.drainEnd with
    | some d => if d < t ∧ s.sys.mode.capturing ∧ cont then some s.tmg.nNext else none
    | none => none
  | _ => none

/-- Position of frame `f` after the next frame, modulo 2^32 (R127). -/
def State.framesAhead (s : State) (f : Nat) : Nat := (f + 2 ^ 32 - s.tmg.nNext) % 2 ^ 32

/-- The FT of frame `f`, where it is known (R127): frames follow one another in CONTINUOUS mode,
or the burst that contains the frame runs. -/
def State.ftOfFrame (s : State) (f : Nat) : Option Nat :=
  let k := s.framesAhead f
  match s.tmg.seq, s.tmg.cur with
  | .running, some c =>
    if k < 2 ^ 31 ∧ (c.sched.startMode = 0 ∨ k < s.tmg.burstLeft ∨
        (s.tmg.trigFT ∧ k < c.sched.burstLen)) then
      some (s.seqEdge (s.tmg.nextFT + k * s.tmg.framePeriod))
    else none
  | _, _ => none

/-- Frame `f` is past for a change written at instant `w` (R69, R127). -/
def State.targetPast (s : State) (f w : Nat) : Bool :=
  2 ^ 31 ≤ s.framesAhead f ||
    (match s.ftOfFrame f with | some t => t < w + us64 | none => false)

/-! ### Ignored writes and rejects -/

/-- A plan-block write is ignored (R125). -/
def State.planIgnored (s : State) (who : Who) (a : Nat) : State := s.ignored clsPLAN who a

/-! ### Loading (R123, R125) -/

/-- A bank is LOADING or CHECKING. -/
def PlanBlk.loadBusy (p : PlanBlk) : Bool :=
  [p.bankA, p.bankB].any fun b => b.state = .loading ∨ b.state = .checking

/-- The bank that is LOADING, if any. -/
def PlanBlk.loading (p : PlanBlk) : Option Nat :=
  if p.bankA.state = .loading then some 0 else if p.bankB.state = .loading then some 1 else none

/-- The key slot whose signature verified, in the bank's status (R122). -/
def Bank.keyed (b : Bank) (k : Option Nat) : Bank := { b with signed := k.isSome, keySlot := k.getD 0 }

/-- A bank becomes INVALID (R123); `k` is the slot whose signature verified before the failing check
(R122, R469). -/
def State.bankFails (s : State) (i cause errofs : Nat) (k : Option Nat) : State :=
  (s.setBank i ({ s.plan.bank i with state := .invalid, cause := cause, errofs := errofs }.keyed k)).setInt
    A.PLAN_INT_STATUS 1

/-- A bank becomes INVALID before any signature was checked (R123). -/
def State.bankInvalid (s : State) (i cause errofs : Nat) : State := s.bankFails i cause errofs none

/-- A load start for bank `i` (R123): refused with BUSY, or the bank becomes LOADING. While MC0
restarts it is refused too (R325). -/
def State.loadStart (s : State) (i : Nat) (kind : LoadKind) : State :=
  let b := s.plan.bank i
  let target : Bool := match s.plan.commit with | some c => c.bank = i | none => false
  if b.state = .live ∨ b.state = .draining ∨ target ∨ s.plan.loadBusy ∨
      s.sys.core0 = .restarting then
    (s.setBank i { b with cause := 16 }).setInt A.PLAN_INT_STATUS 1
  else
    let s1 := s.setBank i { state := .loading, kind := kind, cause := b.cause, errofs := b.errofs }
    { s1 with plan := { s1.plan with loadCount := 0 } }

/-- FINISH (R123, R125): CHECKING, or INVALID with cause HEADER on a wrong count. -/
def State.loadFinish (s : State) (i : Nat) : State :=
  let b := s.plan.bank i
  if b.count < 12 ∨ b.count ≠ imgU b.data 8 4 then s.bankInvalid i 1 8
  else s.setBank i { b with state := .checking }

/-- A write of `PLAN_LOAD_CTRL` (R125). -/
def State.loadCtrlWrite (s : State) (who : Who) (v : Word) : State :=
  let s0 := s.setRn A.PLAN_LOAD_CTRL (wfield v 0 1)
  let cmd := wfield v 1 4
  let i := wfield v 0 1
  if popcount cmd 4 = 0 then s0
  else if 1 < popcount cmd 4 then s0.planIgnored who A.PLAN_LOAD_CTRL
  else if cmd = 1 then s0.loadStart i .port
  else if cmd = 8 then s0.loadStart i (.flashHeader (s0.rf A.PLAN_FLASH_OFFSET 0 26))
  else
    match s0.plan.loading with
    | none => s0.planIgnored who A.PLAN_LOAD_CTRL
    | some k =>
      if cmd = 4 then
        let b := s0.plan.bank k
        s0.setBank k { cause := b.cause, errofs := b.errofs }
      else if (s0.plan.bank k).kind = .port then s0.loadFinish k
      else s0.planIgnored who A.PLAN_LOAD_CTRL

/-- A write of `PLAN_LOAD_DATA` (R125, R123 OVERFLOW). -/
def State.loadDataWrite (s : State) (who : Who) (v : Word) : State :=
  match s.plan.loading with
  | some i =>
    let b := s.plan.bank i
    if b.kind ≠ .port then s.planIgnored who A.PLAN_LOAD_DATA
    else
      let data := b.data ++ leBytes v.toNat 4
      let n := b.count + 4
      let lim := if n < 12 then 4194304 else min (imgU data 8 4) 4194304
      let s1 := { s with plan := { s.plan with loadCount := min n 4194304 } }
      if lim < n then s1.bankInvalid i 19 lim
      else s1.setBank i { b with data := data, count := n }
  | none => s.planIgnored who A.PLAN_LOAD_DATA

/-- The header of a flash copy has been read (R125). DESIGN CHOICE (log entry 46): the ERROFS of a boot
flash read error, at the header or later, is 0. -/
def State.flashHeaderRead (s : State) (err : Bool) : State :=
  match s.plan.loading with
  | some i =>
    let b := s.plan.bank i
    match b.kind with
    | .flashHeader o =>
      if err then s.bankInvalid i 1 0
      else
        let h := rdBytes s.flash o 256
        let s1 := { s with plan := { s.plan with loadCount := 256 } }
        if flashHeaderBad h then
          let e := if imgU h 0 4 ≠ 0x4C505A52 then 0 else if imgU h 4 2 ≠ 1 then 4
            else if imgU h 6 2 ≠ 256 then 6 else 8
          s1.bankInvalid i 1 e
        else s1.setBank i { b with kind := .flashCopy o, data := h, count := 256 }
    | _ => s
  | none => s

/-- `IMAGE_SIZE` bytes of a flash copy have been read, or a read failed (R125). -/
def State.flashCopyDone (s : State) (err : Bool) : State :=
  match s.plan.loading with
  | some i =>
    let b := s.plan.bank i
    match b.kind with
    | .flashCopy o =>
      if err then s.bankInvalid i 1 0
      else
        let n := imgU b.data 8 4
        let s1 := s.setBank i { b with data := rdBytes s.flash o n, count := n }
        { s1 with plan := { s1.plan with loadCount := n } }.loadFinish i
    | _ => s
  | none => s

/-- CHECKING ends (R124): `slot` gives the allowed key slot of a digest and `must` the
plan-signature policy (R122). -/
def State.checkDone (s : State) (slot : List Byte → Option Nat) (must : Bool) : State :=
  match (if s.plan.bankA.state = .checking then some 0
    else if s.plan.bankB.state = .checking then some 1 else none) with
  | none => s
  | some i =>
    let b := s.plan.bank i
    match checkImage b.data b.count s.part slot must with
    | some (c, o) => s.bankFails i c o (verifiedSlot b.data slot)
    | none =>
      let k := verifiedSlot b.data slot
      (s.setBank i ({ b with state := .ready, errofs := 0, plan := readPlan b.data }.keyed k)).setInt
        A.PLAN_INT_STATUS 0

/-! ### Commits (R126 to R130) -/

/-- End the pending commit, or refuse one, with a result and cause (R138). A rig commit owes its
originator a completion (R136). -/
def State.commitResult (s : State) (result cause : Nat) : State :=
  let s1 := { s with plan := { s.plan with result := result, cause := cause } }
  if result = 2 ∨ result = 3 ∨ result = 4 ∨ result = 6 then s1.setInt A.PLAN_INT_STATUS 3 else s1

/-- A pending commit ends. -/
def State.endCommit (s : State) (result cause : Nat) : State :=
  match s.plan.commit with
  | none => s
  | some c =>
    let s1 := { s with plan := { s.plan with commit := none } }
    let s2 := s1.commitResult result cause
    match c.origin with
    | none => s2
    | some a =>
      { s2 with plan := { s2.plan with rigOut := s2.plan.rigOut ++
        [{ origin := a, done := true, result := result, cause := cause, epoch := s2.plan.epoch,
           first := s2.tmg.nNext }] } }

/-- WHEN of a commit with its operands (R126). -/
def commitWhen (when_ tb frame sec ns : Nat) : CommitWhen :=
  if when_ = 1 then .frame frame else if when_ = 2 then .time tb sec ns else .next

/-- A request to commit (R126, R127); `w` is the commit write instant. -/
def State.commitRequest (s : State) (bank : Nat) (when_ tb frame sec ns w : Nat)
    (origin : Option Nat) : State :=
  let b := s.plan.bank bank
  let refuse := fun (c : Nat) => s.commitResult 2 c
  if s.sys.mode = .boot ∨ s.sys.mode = .calibrate ∨ s.sys.mode = .safe then refuse 14
  else if ¬ (b.state = .ready ∨ b.state = .live) ∨ (when_ = 1 ∧ s.plan.live = none) then refuse 15
  else if s.plan.commit.isSome then refuse 16
  else if s.lanesTooFew b.plan.out then refuse 13
  else if when_ = 2 ∧ ¬ (s.tb tb).run then refuse 17
  else if when_ = 3 ∨ (when_ = 2 ∧ 999999999 < ns) then refuse 23
  else
    let past : Bool :=
      if when_ = 1 then s.targetPast frame w
      else if when_ = 2 then tbOf sec ns 0 < s.tbAt tb w + 64000 * nsUnit
      else false
    if past then s.commitResult 3 0
    else
      let c : Commit := { bank := bank, when_ := commitWhen when_ tb frame sec ns, w := w, origin := origin }
      { s with plan := { s.plan with commit := some c } }

/-- The instant at which the pending commit would take effect, where it can be foreseen
(R130). -/
def State.commitLanding (s : State) (c : Commit) : Option Nat :=
  match c.when_ with
  | .next => some (s.firstFTfrom (c.w + us64))
  | .frame f => s.ftOfFrame f
  | .time tb sec ns =>
    let t := s.tb tb
    if t.run then some (s.firstFTfrom (s.mgtInstant (t.reach (tbOf sec ns 0)))) else none

/-- A cancel at instant `c` (R130): true when it succeeds. -/
def State.cancelOk (s : State) (cm : Commit) (c : Nat) : Bool :=
  let ahead : Bool :=
    match cm.when_ with
    | .time tb sec ns => s.tbAt tb c + 64000 * nsUnit < tbOf sec ns 0
    | _ => false
  !s.ticking || ahead ||
    (match s.commitLanding cm with | some t => c + us64 ≤ t | none => true)

/-- CANCEL (R130). -/
def State.commitCancel (s : State) : State :=
  match s.plan.commit with
  | none => s
  | some cm =>
    if s.cancelOk cm (s.seqEdge s.now) then s.endCommit 5 0
    else { s with plan := { s.plan with cancelLate := true } }

/-- A write of `PLAN_COMMIT_CTRL` (R126, R130): CANCEL first, then GO. -/
def State.commitCtrlWrite (s : State) (who : Who) (v : Word) : State :=
  let s0 := s.setRn A.PLAN_COMMIT_CTRL (v.toNat &&& 0x67)
  let s1 := if wbit v 4 then s0.commitCancel else s0
  let late : Bool := wbit v 4 ∧ s1.plan.cancelLate ∧ s1.plan.commit.isSome
  if wbit v 3 then
    let s2 := { s1 with plan := { s1.plan with
      writer := who.code, cancelLate := late } }
    s2.commitRequest (wfield v 0 1) (wfield v 1 2) (wfield v 5 2) (s2.rn A.PLAN_COMMIT_FRAME)
      (s2.rn A.PLAN_COMMIT_SEC_HI % 65536 * 2 ^ 32 + s2.rn A.PLAN_COMMIT_SEC_LO)
      (s2.rf A.PLAN_COMMIT_NS 0 30) (s2.seqEdge s2.now) none
  else s1

/-- A time base that stops ends a TIME commit on it (R128). -/
def State.tbStopped (s : State) (k : Nat) : State :=
  match s.plan.commit with
  | some c => match c.when_ with
    | .time tb _ _ => if tb = k then s.endCommit 6 0 else s
    | _ => s
  | none => s

/-! ### Starting the grid (R53, R61, R62, R127) -/

/-- Thermal enforcement selects the throttle variant (R129, R375). -/
def InForce.of (bank : Nat) (p : Plan) (thr : Bool) : InForce :=
  { bank := bank, plan := p, sched := if thr then p.throt else p.sched, throttled := thr }

/-- What a start of the grid would follow: the live plan, as if it had just been committed (R62, R130), or
the pending commit's where none is live; with the earliest instant of its phase event (R53, R62) and the TIME condition of R127. -/
def State.startPlan (s : State) : Option (Sched × Nat × Option (Nat × Nat)) :=
  let ok := !s.ticking && s.locked 1 &&
    (s.sys.mode = .standby || s.sys.mode.capturing || s.sys.mode = .calibrate)
  if ok then
    match s.plan.live, s.tmg.cur with
    | some _, some c => some (c.sched, s.seqEdge s.clk.lock1 + us64, none)
    | _, _ =>
      match s.plan.commit with
      | some c =>
        let sch := (s.plan.bank c.bank).plan.sched
        let base := max c.w (s.seqEdge s.clk.lock1) + us64
        match c.when_ with
        | .time tb sec ns => some (sch, base, some (tb, tbOf sec ns 0))
        | _ => some (sch, base, none)
      | none => none
  else none

/-- A phase event at instant `t` may start the grid: late enough, and its time-base condition
holds. -/
def State.phaseOk (s : State) (base : Nat) (tm : Option (Nat × Nat)) (t : Nat) : Bool :=
  base ≤ t && (match tm with | some (tb, v) => v ≤ s.tbAt tb t | none => true)

/-- The black states of the stripes that satisfy `p` start afresh (R146, R164). -/
def State.freshBlack (s : State) (p : Nat → Bool) : State :=
  let l := s.str.black.map fun (x : Nat × Black) =>
    if p (x.1 / 32) then (x.1, { x.2 with used := false }) else x
  { s with str := { s.str with black := l } }

/-- Place a grid whose first FT falls at instant `t` (R53, R55, R61); the sequencer restarts, so that every
black state is in first use again (R146). -/
def State.placeGrid (s0 : State) (sch : Sched) (t : Nat) : State :=
  let s := s0.freshBlack fun _ => true
  { s with tmg := { s.tmg with
    seq := .idle, pos := t, fresh := true, j := 0, s := max 1 sch.s, p := sch.pTU,
    firstSub := true, glMeas := false, drainLeft := 0, drainEnd := none, trigFT := false,
    integ := none, reading := none } }

/-- Phase sources of a start (R53): FREE, or a start mode other than CONTINUOUS. -/
def Sched.freeStart (s : Sched) : Bool := s.startMode ≠ 0 || s.phaseSrc = 0

/-- The start event of R53 with a free phase (or R127's instant): the grid is placed. -/
def State.sequencerStart (s : State) : State :=
  match s.startPlan with
  | some (sch, base, tm) =>
    if sch.freeStart then
      let t :=
        match tm with
        | none => base
        | some (tb, v) => max base (s.seqEdge (s.mgtInstant ((s.tb tb).reach v)))
      let t1 := s.seqEdge (max t s.now)
      (s.goTo t1).placeGrid sch t1
    else s
  | none => s

/-! ### Triggers (R55 to R58) -/

/-- A trigger source: TRIG input, SOFT_TRIG write, or pulse generator `i`. -/
inductive TrigFrom where
  | pin | soft | tpo (i : Nat)
  deriving DecidableEq, Repr

/-- The event is a trigger of the plan in force (R55). -/
def Sched.isTrigger (c : Sched) (f : TrigFrom) : Bool :=
  match f with
  | .pin => c.startMode = 2 || (c.startMode = 1 && c.trigSrc = 0)
  | .soft => c.startMode = 1 && c.trigSrc = 1
  | .tpo i => c.startMode = 1 && c.trigSrc = 2 && c.tpoSel = i

/-- A trigger counts as missed (R55). -/
def State.trigMissed (s : State) : State :=
  ({ s with tmg := { s.tmg with missed := satAdd s.tmg.missed 1 16 } }).setInt A.TMG_INT_STATUS 2

/-- The pending live set meets PAST (R69). -/
def State.livePast (s : State) : State :=
  ({ s with tmg := { s.tmg with live := none, liveResult := 3 } }).setInt A.TMG_INT_STATUS 5

/-- Tests of a FRAME commit and of a targeted live set at the acceptance of a trigger whose FT is
at `ft` (R127, R69): only the first frame of the burst can fail. -/
def State.targetsAtTrigger (s : State) (ft : Nat) : State :=
  let s1 :=
    match s.plan.commit with
    | some c => match c.when_ with
      | .frame f => if f = s.tmg.nNext ∧ ft < c.w + us64 then s.endCommit 3 0 else s
      | _ => s
    | none => s
  match s1.tmg.live with
  | some l => if l.target = some s1.tmg.nNext ∧ ft < l.go + us64 then s1.livePast else s1
  | none => s1

/-- A trigger whose edge is at instant `e` (R55): accepted while ARMED, otherwise missed in MONITOR
and CAPTURE. `blocked` holds while a calibration run holds triggers off (R389). -/
def State.trigger (s : State) (f : TrigFrom) (e : Nat) (blocked : Bool) : State :=
  match s.plan.live, s.tmg.cur with
  | some _, some c =>
    if ¬ c.sched.isTrigger f then s
    else if s.tmg.seq = .armed ∧ ¬ blocked then
      let ft := s.seqEdge (e + us 2)
      let s1 := s.targetsAtTrigger ft
      { s1 with tmg := { s1.tmg with
        seq := .running, pos := ft, fresh := true, j := 0, trigFT := true, burstLeft := 0 } }
    else if s.sys.mode.capturing then s.trigMissed
    else s
  | _, _ => s

/-- A SOFT_TRIG write completes (R55): its edge is the first SEQCLK edge from now on, and with a tick due by then it
is judged after that tick. -/
def State.softTrig (s : State) (blocked : Bool) : State :=
  let e := s.seqEdge s.now
  if s.ticking ∧ s.seqEdge s.tmg.nextSft ≤ e then { s with tmg := { s.tmg with softs := s.tmg.softs ++ [e] } }
  else s.trigger .soft e blocked

/-- The SOFT_TRIG edges that awaited a tick are judged. -/
def State.softsNow (s : State) (blocked : Bool) : State :=
  s.tmg.softs.foldl (fun (a : State) e => a.trigger .soft e blocked) { s with tmg := { s.tmg with softs := [] } }

/-! ### Live exposure sets (R67 to R70) -/

/-- Staging entry `j` (R71). -/
def State.stagingEntry (s : State) (j : Nat) : Entry :=
  let a := A.TMG_LSTG + 16 * j
  { start := s.rf a 0 20, len := s.rf (a + 4) 0 20, hcg := s.rf (a + 8) 0 3,
    lcg := s.rf (a + 8) 4 3, weight := s.rf (a + 12) 0 16 }

/-- Write entry `j` to staging (COPY). -/
def State.stageEntry (s : State) (j : Nat) (e : Entry) : State :=
  let a := A.TMG_LSTG + 16 * j
  (((s.setRn a e.start).setRn (a + 4) e.len).setRn (a + 8) (e.hcg + 16 * e.lcg)).setRn (a + 12)
    e.weight

/-- COPY (R67): the entries in force, 0 while no plan is live. -/
def State.liveCopy (s : State) : State :=
  let es := match s.plan.live, s.tmg.cur with
    | some _, some c => c.sched.entries
    | _, _ => []
  (List.range 12).foldl (fun a j => a.stageEntry j (es.getD j {})) s

/-- The schedule that a set leaves (R67). -/
def LiveSet.apply (l : LiveSet) (c : Sched) : Sched :=
  { c with entries := (List.range 12).map fun j =>
      if j < c.s ∧ l.mask.testBit j then l.entries.getD j {} else c.entries.getD j {} }

/-- Masked entries that fail R68 against a schedule in force, or without one. -/
def LiveSet.bad (l : LiveSet) (c : Option InForce) : List Nat :=
  match c with
  | some f => badEntries f.plan.win (l.apply f.sched) (bitsOf l.mask 12)
  | none => (bitsOf l.mask 12).filter fun j =>
      let e := l.entries.getD j {}
      e.len < 2 || e.hcg = 7 || e.lcg = 7

/-- A set is refused or made stale (R68). -/
def State.liveReject (s : State) (result : Nat) (bad : List Nat) : State :=
  let s1 := { s with tmg := { s.tmg with live := none, liveResult := result, liveBad := maskOf bad } }
  (s1.setInt A.TMG_INT_STATUS 5).warn clsTMG 5 0 (maskOf bad)

/-- GO of a live set (R67 to R69). DESIGN CHOICE: a set that both fails its check and has a past target reads
REFUSED, not PAST (log entry 46). -/
def State.liveGo (s : State) (atFrame : Bool) (mask : Nat) : State :=
  let go := s.seqEdge s.now
  let f := s.rn A.TMG_LIVE_TARGET
  let l : LiveSet := { entries := (List.range 12).map s.stagingEntry, mask := mask,
                       target := if atFrame then some f else none, go := go }
  let had := s.tmg.live.isSome
  let inForce := if s.plan.live.isSome then s.tmg.cur else none
  let bad := l.bad inForce
  if bad ≠ [] then s.liveReject 2 bad
  else if atFrame && s.targetPast f go then s.livePast
  else
    { s with tmg := { s.tmg with
      live := some l, liveResult := if had then 5 else s.tmg.liveResult } }

/-- A write of `TMG_LIVE_CTRL` (R67): COPY, then GO. -/
def State.liveCtrlWrite (s : State) (v : Word) : State :=
  let s0 := s.setRn A.TMG_LIVE_CTRL (v.toNat &&& 0x0FFF0002)
  let s1 := if wbit v 2 then s0.liveCopy else s0
  if wbit v 0 then s1.liveGo (wbit v 1) (wfield v 16 12) else s1

/-! ### TMG commands (R54, R55, R59, R71) -/

/-- Drop a REALIGN that waits for its edge, with a warning (R54). -/
def State.dropRealign (s : State) : State :=
  if s.tmg.realign.isSome then
    ({ s with tmg := { s.tmg with realign := none } }).warn clsTMG 0x8F 0 0
  else s

/-- A write of `TMG_CTRL`: CNT_CLR, PRESET_LOAD, REALIGN, SOFT_TRIG in this order (log entry 9). -/
def State.tmgCtrlWrite (s : State) (who : Who) (v : Word) (blocked : Bool) : State :=
  let s1 :=
    if wbit v 3 then { s with tmg := { s.tmg with accepted := 0, missed := 0, settleCnt := 0 } }
    else s
  let s2 :=
    if wbit v 2 then
      if s1.sys.mode = .standby ∧ (s1.tmg.seq = .idle ∨ s1.tmg.seq = .stopped) then
        { s1 with tmg := { s1.tmg with nNext := s1.rn A.TMG_FRAME_PRESET } }
      else s1.ignored clsTMG who A.TMG_CTRL
    else s1
  let s3 :=
    if wbit v 1 then
      if s2.tmg.seq = .idle then { s2 with tmg := { s2.tmg with realign := some s2.now } }
      else s2.ignored clsTMG who A.TMG_CTRL
    else s2
  if wbit v 0 then s3.softTrig blocked else s3

/-! ### GENLOCK (R54, R284 to R286) -/

/-- 30 ns, the hold of a qualified edge. -/
def ns30 : Nat := 20736

/-- VCO period, 0.3125 ns. -/
def vcoTU : Nat := 216

/-- Align the dividers so that a SEQCLK edge falls at `ft` (R285, R286). The row slot of the interval
that contains a stretched cycle is kept for R92. -/
def State.alignAt (s : State) (ft : Nat) : State :=
  let n := ((ft + Config.seqTU - s.clk.seqOrg % Config.seqTU) % Config.seqTU) / vcoTU
  let slotTU := (match s.tmg.cur with | some c => c.sched.rowslot | none => 60) * Config.seqTU
  let hit := if n = 0 ∨ ¬ s.ticking then s.cnv.stretch else some ((ft - s.tmg.pos) / slotTU)
  let s1 := { s with
    clk := { s.clk with
      seqOrg := ft % Config.seqTU, stretch := n, aligned := true
      alignCnt := wrapAdd s.clk.alignCnt 1 16 }
    cnv := { s.cnv with stretch := hit } }
  s1.setInt A.CLK_INT_STATUS 8

/-- Nearest FT of the running grid to instant `e`: the last one or the next. Of two equally near ones the
manual names none and the model takes the earlier (log entry 43). -/
def State.nearestFT (s : State) (e : Nat) : Nat :=
  let a := s.tmg.lastFT
  let b := s.firstFTfrom e
  if s.tmg.fresh then b
  else if e ≤ a then a
  else if b ≤ e then b
  else if e - a ≤ b - e then a else b

/-- The phase measurement of R54 in CONTINUOUS mode with GENLOCK, on the schedule `sch`. A time that is
no whole number of SEQCLK cycles is cut toward zero (log entry 43). -/
def State.glMeasure (s : State) (sch : Option Sched) (e : Nat) : State :=
  match sch with
  | some c =>
    if s.ticking ∧ c.startMode = 0 ∧ c.phaseSrc = 1 then
      let ft := s.nearestFT e
      let d : Int := ((e : Int) - (ft : Int)).tdiv (Config.seqTU : Int)
      let sat : Bool := d.natAbs > 8388607
      let h := clampI (-8388607) 8388607 d
      let s1 := { s with tmg := { s.tmg with glErr := h, glSat := sat, glMeas := true } }
      if sat ∨ s.rf A.TMG_GL_LIMIT 0 16 < h.natAbs then
        (s1.setInt A.TMG_INT_STATUS 3).warn clsTMG 3 0 (unsext h 32)
      else s1
    else s
  | none => s

/-- Period of SEQCLK on its present source (R271, R277). -/
def Clk.seqPer (c : Clk) : Nat :=
  match c.src1 with
  | .pll => Config.seqTU
  | .ref => Config.refTU c.strap
  | .osc => Config.oscTU

/-- The period measurement (R284, R288): SEQCLK cycles between the last two edges; VALID once both came
since PLL1 last locked. -/
def State.glPeriodUpdate (s : State) (e : Nat) : State :=
  let s1 :=
    match s.clk.glLast with
    | some x => { s with clk := { s.clk with
        glPeriod := min ((e - x) / s.clk.seqPer) (2 ^ 31 - 1), glValid := s.locked 1 } }
    | none => s
  { s1 with clk := { s1.clk with glLast := some e, glSeen := some e } }

/-- An edge at the GENLOCK contact qualifies (R284): it has the polarity that `CLK_GL_CTRL.POL` sets, and
the new level holds for 30 ns. -/
def State.glQualifies (s : State) (heldNs : Nat) (rising : Bool) : Bool :=
  decide (30 ≤ heldNs) && (rising != s.rb A.CLK_GL_CTRL 0)

/-- A qualified GENLOCK edge whose transition is at instant `at_` (R284), taken with 0.3125 ns
resolution. It may start or restart the grid (R53, R54, R285); then the phase is
measured, of the edge that starts the grid too (R287). -/
def State.genlockEdge (s : State) (at_ : Nat) : State :=
  let o := s.clk.seqOrg % Config.seqTU
  let e := if at_ ≤ o then at_ else o + (at_ - o) / vcoTU * vcoTU
  let s0 := (s.goTo (at_ + ns30)).glPeriodUpdate e
  let ft := e + 34560
  let run : Option Sched :=
    match s0.plan.live, s0.tmg.cur with | some _, some c => some c.sched | _, _ => none
  let (s1, sched) : State × Option Sched :=
    match s0.startPlan with
    | some (sch, base, tm) =>
      if ¬ sch.freeStart ∧ sch.phaseSrc = 1 ∧ s0.phaseOk base tm e then
        ((s0.alignAt ft).placeGrid sch ft, some sch)
      else (s0, run)
    | none =>
      match s0.tmg.realign with
      | some w =>
        let same : Bool := (at_ + ns30 - o) / Config.seqTU = (w - o) / Config.seqTU
        if s0.tmg.seq = SeqState.idle ∧ w ≤ at_ + ns30 ∧ ¬ same then
          let s2 := s0.alignAt ft
          ({ s2 with tmg := { s2.tmg with realign := none, pos := ft, fresh := true, j := 0 } }, run)
        else (s0, run)
      | none => (s0, run)
  s1.glMeasure sched e

/-- A pulse of generator `i` at the MGTCLK edge now (R53, R266): with PHASE_SRC = TPO it may start
the grid, with its first FT at the first SEQCLK edge at or after it. -/
def State.tpoPulse (s : State) (i : Nat) : State :=
  match s.startPlan with
  | some (sch, base, tm) =>
    if ¬ sch.freeStart ∧ sch.phaseSrc = 2 ∧ sch.tpoSel = i ∧ s.phaseOk base tm s.now then
      s.placeGrid sch (s.seqEdge s.now)
    else s
  | none => s

/-! ### Registers (R71, R138) -/

/-- Sub-frames per frame and window as `TMG_SCHED` shows them. -/
def InForce.schedWord (c : InForce) : Nat :=
  c.sched.s + at_ c.sched.startMode 4 + at_ c.sched.phaseSrc 6 + at_ c.sched.trigSrc 8 +
    at_ c.sched.tpoSel 10 + flag c.sched.trigLevel 13 + flag c.sched.bracket 14 +
    flag c.plan.win.bin 15

/-- What is in force, while a plan is live (R71). -/
def State.inForce (s : State) : Option InForce :=
  if s.plan.live.isSome then s.tmg.cur else none

/-- Schedule entry of a sub-frame in flight. -/
def State.entryOf (s : State) (r : SubRef) : Entry :=
  match s.frames.find? (·.num = r.frame) with
  | some f => f.cfg.sched.entries.getD r.j {}
  | none => {}

/-- Instant `n` µs after the SFT of the present interval; ticks and offsets lie on SEQCLK edges
(R41). -/
def State.afterSft (s : State) (n : Nat) : Nat := s.seqEdge s.tmg.pos + us n

/-- Index of the sub-frame that integrates now, from START to e (R39, R71); 0 when none does. -/
def State.sfIndex (s : State) : Nat :=
  match s.tmg.integ with
  | some r =>
    let e := s.entryOf r
    if s.afterSft e.start ≤ s.now ∧ s.now < s.afterSft (e.start + e.len) then r.j else 0
  | none => 0

/-- `TMG_STATUS`. -/
def State.tmgStatus (s : State) : Nat :=
  let thr : Bool := match s.inForce with | some c => c.throttled | none => false
  let gl : Bool := match s.clk.glSeen, s.inForce with
    | some e, some c => s.now - e ≤ 2 * (c.sched.s * c.sched.pTU)
    | _, _ => false
  s.tmg.seq.code + flag s.plan.live.isSome 3 + flag gl 4 + at_ s.sfIndex 8 + flag thr 12

/-- Words of the schedule in force (R71). -/
def InForce.words (c : InForce) (a : Nat) : Option Nat :=
  let e := fun (j : Nat) => c.sched.entries.getD j {}
  if a = A.TMG_SCHED then some c.schedWord
  else if a = A.TMG_BURST_LEN then some c.sched.burstLen
  else if a = A.TMG_SFP_INT then some c.sched.sfpInt
  else if a = A.TMG_SFP_FRAC then some c.sched.sfpFrac
  else if a = A.TMG_ROWSLOT then some c.sched.rowslot
  else if a = A.TMG_WIN_ROWS then some (c.plan.win.first + at_ c.plan.win.last 16)
  else if a = A.TMG_SLOTS then some c.plan.win.nSlot
  else if a = A.TMG_READOUT then some (tRd c.plan.win c.sched)
  else if a = A.TMG_STRIPE_EN0 then some (field c.plan.win.mask 0 32)
  else if a = A.TMG_STRIPE_EN1 then some (field c.plan.win.mask 32 32)
  else if a = A.TMG_STRIPE_EN2 then some (field c.plan.win.mask 64 16)
  else if A.TMG_ACT ≤ a ∧ a < A.TMG_ACT + 192 then
    let j := (a - A.TMG_ACT) / 16
    match (a - A.TMG_ACT) % 16 / 4 with
    | 0 => some (e j).start
    | 1 => some (e j).len
    | 2 => some ((e j).hcg + 16 * (e j).lcg)
    | _ => some (e j).weight
  else none

/-- Live TMG registers (R71). -/
def State.tmgRead (s : State) (a : Nat) : Option Nat :=
  if a = A.TMG_STATUS then some s.tmgStatus
  else if a = A.TMG_CTRL then some 0
  else if a = A.TMG_FRAME_NUM then some s.tmg.nLast
  else if a = A.TMG_TRIG_ACCEPTED then some s.tmg.accepted
  else if a = A.TMG_TRIG_MISSED then some s.tmg.missed
  else if a = A.TMG_GL_PHASE then
    some (unsext s.tmg.glErr 24 + flag s.tmg.glSat 30 + flag s.tmg.glMeas 31)
  else if a = A.TMG_SETTLING_CNT then some s.tmg.settleCnt
  else if a = A.TMG_LIVE_STATUS then
    some (flag s.tmg.live.isSome 0 + at_ s.tmg.liveResult 1 + at_ s.tmg.liveBad 4)
  else if a = A.TMG_LIVE_FRAME then some s.tmg.liveFrame
  else
    match s.inForce with
    | some c => c.words a
    | none => none

/-- Writes of TMG registers with behaviour of their own. -/
def State.tmgWrite (s : State) (who : Who) (a : Nat) (v : Word) (blocked : Bool) : Option State :=
  if a = A.TMG_CTRL then some (s.tmgCtrlWrite who v blocked)
  else if a = A.TMG_LIVE_CTRL then some (s.liveCtrlWrite v)
  else none

/-- `PLAN_BANK_x_STATUS` (R138). -/
def Bank.status (b : Bank) : Nat :=
  let held : Bool := b.state = .ready ∨ b.state = .live ∨ b.state = .draining
  b.state.code + at_ b.cause 3 + flag b.signed 8 + at_ b.keySlot 9 +
    at_ (if held then b.plan.variant else 0) 12

/-- `PLAN_BANK_x_ID` (R138). -/
def Bank.idWord (b : Bank) : Nat :=
  if b.state = .ready ∨ b.state = .live ∨ b.state = .draining then b.plan.id else 0

/-- `PLAN_STATUS` (R138). -/
def State.planStatus (s : State) : Nat :=
  let thr : Bool := match s.inForce with | some c => c.throttled | none => false
  flag s.plan.live.isSome 0 + at_ (s.plan.live.getD 0) 1 + flag thr 2 +
    flag s.plan.commit.isSome 3 + at_ (match s.plan.commit with | some c => c.bank | none => 0) 4 +
    flag s.plan.loadBusy 5

/-- `PLAN_COMMIT_STATUS` (R138). -/
def State.commitStatus (s : State) : Nat :=
  flag s.plan.commit.isSome 0 + at_ s.plan.result 1 + at_ s.plan.cause 4 +
    flag s.plan.cancelLate 9 + at_ s.plan.writer 10 + flag s.plan.firstValid 12

/-- Live PLAN registers (R138). -/
def State.planRead (s : State) (a : Nat) : Option Nat :=
  let p := s.plan
  let r := p.rig
  if a = A.PLAN_STATUS then some s.planStatus
  else if a = A.PLAN_EPOCH then some p.epoch
  else if a = A.PLAN_LIVE_ID then
    some (match p.live with | some i => (p.bank i).plan.id | none => 0)
  else if a = A.PLAN_COMMIT_STATUS then some s.commitStatus
  else if a = A.PLAN_COMMIT_FIRST then some p.first
  else if a = A.PLAN_LOAD_DATA then some 0
  else if a = A.PLAN_LOAD_COUNT then some p.loadCount
  else if a = A.PLAN_BANK_A_STATUS then some p.bankA.status
  else if a = A.PLAN_BANK_A_ID then some p.bankA.idWord
  else if a = A.PLAN_BANK_A_ERROFS then some p.bankA.errofs
  else if a = A.PLAN_BANK_B_STATUS then some p.bankB.status
  else if a = A.PLAN_BANK_B_ID then some p.bankB.idWord
  else if a = A.PLAN_BANK_B_ERROFS then some p.bankB.errofs
  else if a = A.PLAN_RIG_STATUS then some r.state.code
  else if a = A.PLAN_RIG_ACK0 then some (field r.ack 0 32)
  else if a = A.PLAN_RIG_ACK1 then some (field r.ack 32 32)
  else if a = A.PLAN_RIG_NAK0 then some (field r.nak 0 32)
  else if a = A.PLAN_RIG_NAK1 then some (field r.nak 32 32)
  else if a = A.PLAN_RIG_DONE0 then some (field r.done 0 32)
  else if a = A.PLAN_RIG_DONE1 then some (field r.done 32 32)
  else if a = A.PLAN_RIG_FAIL0 then some (field r.fail 0 32)
  else if a = A.PLAN_RIG_FAIL1 then some (field r.fail 32 32)
  else none

end Sys2Proof.Machine
end

