-- ==== Sys2Proof/Machine/Converter.lean ====
section
/-!
DEFINITION. The column converter fabric: conversion words, eclipse and overdrive, rotation,
substitution, retirement, the test DAC and the slice-correction window
(03_converter_fabric.md R72 to R109).
-/
namespace Sys2Proof.Machine

/-! ### Names and entries (R72 to R74, R108) -/

/-- Keys of every group and bank: 322·bank + group. -/
def groupKeys : List Nat := List.range 644

/-- Reset slice entry. -/
def sliceReset (_ : Nat) : SliceEnt := {}

/-- Reset rotation state. -/
def grpReset (_ : Nat) : Grp := {}

/-- Slice entry `k` = 130·key + position. -/
def Cnv.ent (c : Cnv) (k : Nat) : SliceEnt := sget sliceReset c.slices k

/-- Rotation state of a group and bank. -/
def Cnv.grp (c : Cnv) (key : Nat) : Grp := sget grpReset c.grps key

/-- Replace a slice entry. -/
def State.setEnt (s : State) (k : Nat) (e : SliceEnt) : State :=
  { s with cnv := { s.cnv with slices := sput sliceReset s.cnv.slices k e } }

/-- Replace a rotation state. -/
def State.setGrp (s : State) (key : Nat) (g : Grp) : State :=
  { s with cnv := { s.cnv with grps := sput grpReset s.cnv.grps key g } }

/-- Spare `i` of a group serves no position for good, has not failed and is not declared failed
(R93, R97). -/
def Cnv.spareFree (c : Cnv) (key i : Nat) : Bool :=
  let e := c.ent (130 * key + 128 + i)
  !e.failed && e.sub = 0xFF && !c.subs.any (fun p => p.key = key ∧ p.pos = 128 + i ∧ p.req = none)

/-- Free spares of a group and bank. -/
def Cnv.freeSpares (c : Cnv) (key : Nat) : List Nat := [0, 1].filter (c.spareFree key)

/-- Free spares of the fabric (R107): two for each group less those that any entry or declaration
takes. -/
def Cnv.freeCount (c : Cnv) : Nat :=
  let ks : List Nat := c.slices.map (fun x => x.1) ++ c.subs.map (fun p => 130 * p.key + p.pos)
  1288 - (ks.eraseDups.filter
    fun k => 128 ≤ k % 130 && !c.spareFree (k / 130) (k % 130 - 128)).length

/-- Groups that an entry or a declaration touches. -/
def Cnv.touched (c : Cnv) : List Nat :=
  let ks : List Nat := c.slices.map (fun x => x.1 / 130) ++ c.subs.map (fun p => p.key)
  ks.eraseDups

/-- Fewest free spares of any group (R107). -/
def Cnv.minFree (c : Cnv) : Nat := c.touched.foldl (fun a k => min a (c.freeSpares k).length) 2

/-- Permanent service of a position by the slice entries `l` (R74, R98, R99): 0 the home slice, 1 and 2
a spare, 3 none. -/
def homeIn (l : List (Nat × SliceEnt)) (key p : Nat) : Nat :=
  let e := fun (i : Nat) => sget sliceReset l (130 * key + i)
  if ¬ (e p).failed then 0 else if (e 128).sub = p then 1 else if (e 129).sub = p then 2 else 3

/-- Permanent service of a position as it stands. -/
def Cnv.home (c : Cnv) (key p : Nat) : Nat := homeIn c.slices key p

/-- Service of a position in the present readout: SRC of R78. -/
def Cnv.src (c : Cnv) (key p : Nat) : Nat :=
  let g := c.grp key
  match g.standin with
  | some i => if g.pos = p ∧ ¬ g.spare then i + 1 else homeIn c.now key p
  | none => homeIn c.now key p

/-- Slice entry number of the slice that a SRC value names at a position. -/
def sliceOf (key p src : Nat) : Nat := if src = 0 then 130 * key + p else 130 * key + 127 + src

/-- The entries as they apply to the readout that starts at an SFT, before the changes that fall on an
FT there, which reach no earlier frame (R30, R90, R109). In HOLD the stand-in serves the position of
the failed slice, home slice or permanent spare, for good (R97). -/
def Cnv.freeze (c : Cnv) : Cnv :=
  let put := fun (l : List (Nat × SliceEnt)) (k : Nat) (f : SliceEnt → SliceEnt) =>
    sput sliceReset l k (f (sget sliceReset l k))
  { c with now := c.grps.foldl (fun (l : List (Nat × SliceEnt)) (x : Nat × Grp) =>
      match x.2.standin with
      | some i =>
        if x.2.state = .hold ∧ ¬ x.2.spare then
          put (put l (sliceOf x.1 x.2.pos (homeIn c.slices x.1 x.2.pos)) fun e => { e with failed := true, sub := 0xFF })
            (130 * x.1 + 128 + i) fun e => { e with sub := x.2.pos }
        else l
      | none => l) c.slices }

/-- The slice of entry `k` is in service outside rotation (R74). -/
def Cnv.serves (c : Cnv) (k : Nat) : Bool :=
  let p := k % 130
  if p < 128 then c.home (k / 130) p = 0
  else (c.ent k).sub < 128 && c.home (k / 130) (c.ent k).sub = p - 127

/-- Slices in service outside rotation: one for each of the 82 432 positions that has a slice (R74). -/
def Cnv.serving (c : Cnv) : Nat :=
  82432 - (c.slices.filter fun (k, e) => e.failed && decide (k % 130 < 128) && c.home (k / 130) (k % 130) = 3).length

/-- Some position has no slice (R99). -/
def Cnv.colFail (c : Cnv) : Bool :=
  c.slices.any fun (k, e) => e.failed && k % 130 < 128 && c.home (k / 130) (k % 130) = 3

/-! ### Conversion words (R77 to R86) -/

/-- Weights of the 15 decisions, first decision first (R77). -/
def decisionWeights : List Nat := [8192, 4096, 2048, 1024, 512, 256, 128, 64, 64, 32, 16, 8, 4, 2, 1]

/-- The corrected value of 15 decisions, first decision in bit 14 (R77). -/
def decisionSum (d : Nat) : Int :=
  (List.range 15).foldl (fun (v : Int) i =>
    if d.testBit (14 - i) then v + decisionWeights.getD i 0 else v) (-32)

/-- Code and overrange bit of 15 decisions (R77, R84). -/
def decisionCode (d : Nat) : Nat × Bool :=
  let v := decisionSum d
  ((clampI 0 16383 v).toNat, v > 16383)

/-- Decisions of a dark conversion, code 256: what a column that a command does not list converts
to (log entry 11). -/
def darkDecisions : Nat := 1 <<< 9 ||| 1 <<< 5

/-- The conversion of a column in a row slot; one not listed is dark. -/
def SlotData.conv (d : SlotData) (bank : Nat) (col : Int) : Conv :=
  match d.convs.find? (fun c => c.bank = bank ∧ c.col = col) with
  | some c => c
  | none => { bank := bank, col := col, h := darkDecisions, l := darkDecisions, overdriven := false,
              reset := 0 }

/-- Group key of a column of a bank (R73). -/
def groupKey (bank : Nat) (col : Int) : Nat := 322 * bank + (col + 64).toNat / 64

/-- Position of a column's slice in its group for path 0 HCG or 1 LCG (R73). -/
def position (col : Int) (path : Nat) : Nat := 2 * ((col + 64).toNat % 64) + path

/-- A conversion word (R78). -/
structure ConvWord where
  code  : Nat
  ovr   : Bool
  ecl   : Bool
  rdist : Bool
  src   : Nat
  deriving DecidableEq, Repr

/-- The word of one conversion (R77, R78, R85, R86, R99). A position without a slice gives code 0;
an eclipsed pixel gives 16 383 with OVR and ECL. DESIGN CHOICE: where both hold R99 decides, and the
word carries neither OVR nor ECL (log entry 46). -/
def Cnv.word (c : Cnv) (d : SlotData) (bank : Nat) (col : Int) (path : Nat) : ConvWord :=
  let key := groupKey bank col
  let src := c.src key (position col path)
  let rd := d.dist.contains key
  if src = 3 then { code := 0, ovr := false, ecl := false, rdist := rd, src := 3 }
  else if d.ecl.contains (bank, col) then
    { code := 16383, ovr := true, ecl := true, rdist := rd, src := src }
  else
    let x := d.conv bank col
    let (code, o) := decisionCode (if path = 0 then x.h else x.l)
    { code := code, ovr := o, ecl := false, rdist := rd, src := src }

/-- The 20 bits of a conversion word as the fabric passes them (R78). -/
def ConvWord.bits (w : ConvWord) : Nat :=
  w.code + flag w.ovr 14 + flag w.ecl 15 + flag w.rdist 16 + at_ w.src 17

/-- Groups disturbed by the overdriven lines of a row slot (R85). -/
def overGroups (convs : List Conv) : List Nat :=
  ((convs.filter (·.overdriven)).map fun c => groupKey c.bank c.col).eraseDups

/-- Eclipse threshold in µV (R86): values below 10 act as 10. -/
def eclipseMicro (ecl : Nat) : Int := (max 10 (field ecl 0 8) * 4000 : Nat)

/-- Sum of the 32 black reset levels of a column line (R86). -/
def blackReset (slots : List SlotData) (bank : Nat) (col : Int) : Int :=
  (slots.filter (·.slot < 32)).foldl (fun a d => a + (d.conv bank col).reset) 0

/-- A bank converts in a row slot: it is not idle beyond its row count (R64, R79). -/
def Win.bankOn (w : Win) (slot bank : Nat) : Bool :=
  slot < 32 || slot - 32 < (if bank = 0 then w.nTop else w.nBot)

/-- A column of a bank is converted in a row slot (R36, R64, R79): optical-black columns, and active
columns of the stripes that the window enables. -/
def Win.converts (w : Win) (slot bank : Nat) (col : Int) : Bool :=
  w.bankOn slot bank && (decide (col < 0) || decide (20480 ≤ col) || w.mask.testBit (col.toNat / 256))

/-- The eclipse comparator of every line that converts in an active row slot (R86): 32 times the sag
against 32 times the threshold. A line that no slot of the readout lists has reset level 0. -/
def eclipsed (c : Cnv) (w : Win) (slot : Nat) (convs : List Conv) : List (Nat × Int) :=
  if ¬ c.ecl.testBit 8 ∨ slot < 32 then []
  else
    (((convs ++ c.slots.flatMap (·.convs)).map fun x => (x.bank, x.col)).eraseDups).filter
      fun (b, col) =>
        let now := (({ slot := slot, convs := convs, dist := [], ecl := [] } : SlotData).conv b col).reset
        w.converts slot b col && decide (32 * eclipseMicro c.ecl < blackReset c.slots b col - 32 * now)

/-- Row slot `slot` of the current readout has been converted under window `w`: what the fabric
delivers. -/
def Cnv.deliver (c : Cnv) (w : Win) (slot : Nat) (listed : List Conv) : SlotData :=
  let convs := listed.filter fun x => w.converts slot x.bank x.col
  let prev := match c.slots.getLast? with
    | some d => if d.slot + 1 = slot then overGroups d.convs else []
    | none => []
  { slot := slot, convs := convs,
    dist := (overGroups convs ++ prev.filter fun k => w.bankOn slot (k / 322)).eraseDups,
    ecl := eclipsed c w slot convs }

/-- Counts of one row slot for R87, over the listed columns: HCG and LCG overranges, eclipsed
pixels, flagged group-slots. DESIGN CHOICE: an eclipsed pixel, whose two words carry OVR, counts as
overranged on both paths (log entry 46). -/
def Cnv.slotCounts (c : Cnv) (d : SlotData) : Nat × Nat × Nat × Nat :=
  let cols := (d.convs.map fun x => (x.bank, x.col)).eraseDups ++
    d.ecl.filter (fun p => !(d.convs.any fun x => x.bank = p.1 ∧ x.col = p.2))
  let n := fun (path : Nat) =>
    (cols.filter fun (b, col) => (c.word d b col path).ovr).length
  (n 0, n 1, d.ecl.length, d.dist.length)

/-! ### Failure and substitution (R96 to R101) -/

/-- Name of a slice as `CNV_RETIRE` writes it. -/
def sliceName (key pos : Nat) : Nat := pos + at_ (key % 322) 8 + at_ (key / 322) 17

/-- A group lost its last free spare (R94, R107). -/
def State.checkSpares (s : State) (key before : Nat) : State :=
  if 0 < before ∧ s.cnv.freeSpares key = [] then
    let g := s.cnv.grp key
    let s1 := if g.state = .hold then s else s.setGrp key { g with state := .stopped }
    s1.setInt A.CNV_INT_STATUS 2
  else s

/-- A slice is declared failed (R97); `spare` stands in for it from now on. A spare is no longer free
from its declaration. -/
def State.declareFail (s : State) (key pos : Nat) (spare : Option Nat) (cause : Nat) : State :=
  let name := sliceName key pos
  let s1 := { s with cnv := { s.cnv with
    failLast := name + at_ cause 18 + 2 ^ 31
    subs := s.cnv.subs ++ [({ key := key, pos := pos, spare := spare, at_ := s.now } : PendSub)] } }
  (((s1.setInt A.CNV_INT_STATUS 0).warn clsCNV 0 key pos).alarm clsCNV 0 name).checkSpares key
    (s.cnv.freeSpares key).length

/-- The next position from `p` on that a slice serves (R93); a position without a slice has none to
measure. -/
def Cnv.nextServed (c : Cnv) (key p : Nat) : Nat :=
  match (List.range 128).find? (fun i => c.home key ((p + i) % 128) ≠ 3) with
  | some i => (p + i) % 128
  | none => p

/-- After the target of the step just measured, the free spare has its turn (R93): with one free spare,
after every fourth active target. -/
def Cnv.spareNext (c : Cnv) (key : Nat) : Bool :=
  (c.freeSpares key).length = 1 && !(c.grp key).spare && (c.grp key).since = 3

/-- The step just measured is the last one of the group's cycle (R93): no higher position has a slice
and no measurement of the spare follows. -/
def Cnv.cycleEnds (c : Cnv) (key : Nat) : Bool :=
  let g := c.grp key
  if g.spare then g.pos = c.nextServed key 0
  else decide (c.nextServed key ((g.pos + 1) % 128) ≤ g.pos) && !c.spareNext key

/-- The target has been measured (R93, R94): its turn is over, which stand-in and target follow at the
next SFT (R90). -/
def State.stepOver (s : State) (key : Nat) : State :=
  let g := s.cnv.grp key
  s.setGrp key { g with ended := true, active := false, cycled := g.cycled || s.cnv.cycleEnds key }

/-- The turn passes to the next target at an SFT (R90, R93). -/
def State.nextTarget (s : State) (key : Nat) : State :=
  let g := s.cnv.grp key
  if ¬ g.ended then s
  else
    s.setGrp key { g with
      pos := if g.spare then g.pos else s.cnv.nextServed key ((g.pos + 1) % 128)
      since := if g.spare ∨ (s.cnv.freeSpares key).length ≠ 1 then 0 else g.since + 1
      spare := s.cnv.spareNext key
      standin := none, conv := 0, disc := [], settle := false, ended := false }

/-- Largest deviation of the in-service slices as rotation measured them last, that of the worst group and bank
(R400). -/
def Cnv.rotDev (c : Cnv) : Nat := ((c.slices.filter fun x => c.serves x.1).map (·.2.dev)).foldl max 0

/-- Spur in 0.1 dBFS of a deviation in 1/256 LSB (R400); none is stated for 0 (log entry 10). -/
def spurOf (e : Nat) : Nat :=
  if e = 0 then Config.openValue 26 [] % 65536 else unsext (roundLog10 200 e (256 * 16128)) 16

/-- `CNV_ROT_CYCLES` counts once every group with a free spare has completed a cycle (R93), and the
spur of the rotation is reported (R400; log entry 27). -/
def State.countCycles (s : State) : State :=
  let live := groupKeys.filter fun k => s.cnv.freeSpares k ≠ []
  if live ≠ [] ∧ live.all (fun k => (s.cnv.grp k).cycled) then
    let s1 := groupKeys.foldl (fun (a : State) k =>
      a.setGrp k { a.cnv.grp k with cycled := false }) s
    let n := wrapAdd s1.cnv.cycles 1 32
    { s1 with
      cnv := { s1.cnv with cycles := n }
      cal := { s1.cal with qRot := spurOf s1.cnv.rotDev + 2 ^ 31 } }
  else s

/-- One substitution takes effect (R98, R99). DESIGN CHOICE (log entry 46): a retire command writes
`CNV_FAIL_LAST` here, at its FT (R107); a PENDING one whose spare is no longer free then retires the slice without
a spare, as R99 has it, and reports FORCED (R100). -/
def State.applySub (s : State) (p : PendSub) : State :=
  let before := (s.cnv.freeSpares p.key).length
  let k := 130 * p.key + p.pos
  let e := s.cnv.ent k
  let need : Option Nat := if p.pos < 128 then some p.pos else if e.sub ≠ 0xFF then some e.sub else none
  let s1 := s.setEnt k { e with failed := true, sub := 0xFF }
  let s2 := { s1 with cnv := { s1.cnv with subs := s1.cnv.subs.filter (· ≠ p) } }
  let pick : Option Nat :=
    match p.req, p.spare with
    | none, some i => some i
    | _, some i => if s2.cnv.spareFree p.key i then some i else none
    | _, none => (s2.cnv.freeSpares p.key).head?
  let s3 : State :=
    match need with
    | none => s2
    | some n =>
      match pick with
      | some i =>
        let q := 130 * p.key + 128 + i
        s2.setEnt q { s2.cnv.ent q with sub := n }
      | none => ((s2.setInt A.CNV_INT_STATUS 3).faultEv clsCNV 3 p.key n)
  let s4 : State :=
    if p.req = none ∧ (s3.cnv.grp p.key).state = .hold then
      (s3.stepOver p.key).setGrp p.key { (s3.stepOver p.key).cnv.grp p.key with
        state := if s3.cnv.freeSpares p.key = [] then .stopped else .rotate }
    else s3
  let s5 := (s4.checkSpares p.key before).setInt A.CNV_INT_STATUS 1
  if p.req = none then s5
  else
    { s5 with cnv := { s5.cnv with
      retireResult := if pick = none ∧ need.isSome then 5 else 2
      failLast := sliceName p.key p.pos + at_ 1 18 + 2 ^ 31 } }

/-- The substitutions of `due`, in the order of R98. -/
def State.applySubs (s : State) (due : List PendSub) : State :=
  let first := due.filter fun p => p.req = none ∧ p.spare.isSome
  let rest := due.filter fun p => ¬ (p.req = none ∧ p.spare.isSome)
  let rest := (List.range 130).flatMap fun i => rest.filter (·.pos = i)
  (first ++ rest).foldl (fun (a : State) p => a.applySub p) s

/-- Substitutions at the FT of instant `t` (R98). -/
def State.subsAtFT (s : State) (t : Nat) : State :=
  s.applySubs (s.cnv.subs.filter fun (p : PendSub) =>
    match p.req with
    | some r => decide (r + us64 ≤ t)
    | none => decide (p.at_ < t))

/-- While the ticks do not run, pending substitutions are applied at once (R98). -/
def State.subsNow (s : State) : State :=
  if s.ticking then s else s.applySubs s.cnv.subs

/-- A write of 1 to `RETIRE_GO` (R100). DESIGN CHOICE: one that is refused while another command is
PENDING leaves that command pending and writes RESULT (log entry 46). -/
def State.retireGo (s : State) : State :=
  let w := s.rn A.CNV_RETIRE
  let pos := field w 0 8
  let grp := field w 8 9
  let key := 322 * field w 17 1 + grp
  let force := w.testBit 18
  let sp := field w 19 2
  let result := fun (r : Nat) => { s with cnv := { s.cnv with retireResult := r } }
  if 129 < pos ∨ 321 < grp ∨ sp = 3 ∨ (sp ≠ 0 ∧ 128 ≤ pos) ∨
      (s.cnv.ent (130 * key + pos)).failed then result 4
  else
    let ok : Bool := if sp = 0 then s.cnv.freeSpares key ≠ [] else s.cnv.spareFree key (sp - 1)
    if ¬ ok ∧ ¬ force then result 3
    else
      let p : PendSub := { key := key, pos := pos, spare := if sp = 0 then none else some (sp - 1),
                           force := force, req := some (s.seqEdge s.now), at_ := s.now }
      ({ s with cnv := { s.cnv with
        retireResult := 1, subs := s.cnv.subs.filter (fun (q : PendSub) => q.req = none) ++ [p] } }).subsNow

/-! ### Rotation (R88 to R95) -/

/-- Rotation of a group runs in the interval that starts now (R88, R392); with `ROT_EN` clear only a
step in progress goes on, to its end. -/
def State.rotationRuns (s : State) (fg : Bool) (g : Grp) : Bool :=
  (s.cnv.rotOn || (g.active && decide (0 < g.conv))) && s.sys.mode.capturing && s.ticking && !fg

/-- One group at an SFT (R89, R90, R93, R94). -/
def State.rotateGroup (s0 : State) (fg : Bool) (key : Nat) : State :=
  let s := s0.nextTarget key
  let g := s.cnv.grp key
  let free := s.cnv.freeSpares key
  if ¬ s.rotationRuns fg g then
    if g.state = .hold then s.setGrp key { g with active := false }
    else s.setGrp key { g with active := false, standin := none, conv := 0, disc := [], settle := false }
  else
    match g.state with
    | .hold => s.setGrp key { g with active := false }
    | .stopped => s.setGrp key { g with standin := none, active := false }
    | _ =>
      if free = [] then s.setGrp key { g with state := .stopped, standin := none, active := false }
      else
        let keep : Bool := match g.standin with | some i => free.contains i | none => false
        let si :=
          if g.spare then none
          else if keep then g.standin
          else if free.length = 2 then some (g.cnt % 2)
          else free.head?
        s.setGrp key { g with active := true, standin := si, pos := s.cnv.nextServed key g.pos }

/-- The fabric at an SFT: `CNV_ECLIPSE` and `ROT_EN` are taken (R86, R88), targets and stand-ins change
(R90) and the counts of the new readout start. -/
def State.cnvAtSft (s : State) (fg : Bool) : State :=
  let s1 := { s with cnv := { s.cnv with
    ecl := s.rn A.CNV_ECLIPSE, rotOn := s.rb A.CNV_CTRL 0,
    slots := [], settling := false, evalDue := true, stretch := none
    runH := 0, runL := 0, runEcl := 0, runRdist := 0 } }
  groupKeys.foldl (fun (a : State) k => a.rotateGroup fg k) s1

/-- A step is void (R92): it counts, and the next step takes the same target and stand-in. -/
def State.voidStep (s : State) (key : Nat) : State :=
  let g := s.cnv.grp key
  let s1 := s.setGrp key { g with conv := 0, disc := [], settle := false, cnt := g.cnt + 1, active := false }
  ({ s1 with cnv := { s1.cnv with voids := wrapAdd s1.cnv.voids 1 32 } }).setInt A.CNV_INT_STATUS 5

/-- Every step in progress is void: PLL1 loses lock or SAFE is entered (R92). -/
def State.voidAll (s : State) : State :=
  groupKeys.foldl (fun (a : State) k => if (a.cnv.grp k).active then a.voidStep k else a) s

/-- A measurement that confirms the entry. -/
def SliceEnt.same (e : SliceEnt) : Meas :=
  let o := sext e.offset 12
  let g := sext e.gain 16
  { offset1 := o, gain1 := g, offset2 := o, gain2 := g, samp := e.samp, thr := e.thr, stuck := false }

/-- A measurement fails (R96): offset beyond ±100 LSB, gain beyond ±0.4, threshold error above
0.5 LSB with the tap at its end, sampling optimum beyond the taps, or a stuck decision. -/
def measFails (m : Meas) (e : SliceEnt) : Bool :=
  2000 < m.offset1.natAbs || 2000 < m.offset2.natAbs ||
    26214 < m.gain1.natAbs || 26214 < m.gain2.natAbs ||
    ((e.thr = 0 || e.thr = 31) && 8 < (m.thr - e.thr).natAbs) ||
    m.samp < 0 || 63 < m.samp || m.stuck

/-- The two halves agree (R91). -/
def State.halvesAgree (s : State) (m : Meas) : Bool :=
  (m.offset1 - m.offset2).natAbs ≤ s.rf A.CNV_ROT_CFG 0 8 &&
    (m.gain1 - m.gain2).natAbs ≤ s.rf A.CNV_ROT_CFG 8 8

/-- Mean of two integers; the manual does not say how a half is rounded (log entry 10). -/
def State.mean2 (s : State) (a b : Int) : Int × State :=
  if (a + b) % 2 = 0 then ((a + b) / 2, s)
  else
    let (r, s1) := s.draw
    ((a + b) / 2 + (r % 2 : Nat), s1)

/-- One tap moves by at most one position toward its optimum (R91). -/
def tapToward (t : Nat) (opt : Int) (hi : Nat) : Nat :=
  if (t : Int) < opt then min hi (t + 1) else if opt < (t : Int) then t - 1 else t

/-- An accepted or rejected measurement of entry `k` (R91). `cnt` is the step count after this
step. -/
def State.takeMeas (s : State) (k key cnt : Nat) (m : Meas) : State :=
  let e := s.cnv.ent k
  if s.halvesAgree m then
    let (o, s1) := s.mean2 m.offset1 m.offset2
    let (g, s2) := s1.mean2 m.gain1 m.gain2
    let s3 := s2.setEnt k { e with
      offset := unsext o 12, gain := unsext g 16, valid := true
      samp := tapToward e.samp m.samp 63, thr := tapToward e.thr m.thr 31, acc := cnt }
    { s3 with cnv := { s3.cnv with steps := wrapAdd s3.cnv.steps 1 32 } }
  else
    let s1 := { s with cnv := { s.cnv with rejects := wrapAdd s.cnv.rejects 1 32 } }
    (s1.setInt A.CNV_INT_STATUS 4).warn clsCNV 4 key (k % 130)

/-- Entries that window writes changed in MGTCLK cycle `n` (R95). -/
def Cnv.written (c : Cnv) (n : Nat) : List Nat := if c.winCycle = n then c.winEnts else []

/-- A write to entry `k` in MGTCLK cycle `n` wins over the update that the device makes in that cycle (R95). -/
def State.windowWins (s : State) (n k : Nat) (m : Meas) : Bool :=
  (s.cnv.written n).contains k && !measFails m (s.cnv.ent k) && s.halvesAgree m

/-- The spare that is neither target nor stand-in of a step, which the step measures too (R89). -/
def State.otherSpare (s : State) (key : Nat) : Option Nat :=
  let g := s.cnv.grp key
  if g.spare then none else (s.cnv.freeSpares key).find? fun i => g.standin ≠ some i

/-- The slice in position `pos` of a group has been measured (R91, R96, R97): the second consecutive
failure declares it failed, `spare` standing in for it. -/
def State.measured (s : State) (key pos cnt : Nat) (spare : Option Nat) (m : Meas) : State :=
  let k := 130 * key + pos
  let e := { s.cnv.ent k with dev := m.dev }
  if ¬ measFails m e then (s.setEnt k { e with bad := false }).takeMeas k key cnt m
  else if e.bad then (s.setEnt k { e with bad := false }).declareFail key pos spare 0
  else s.setEnt k { e with bad := true }

/-- The end of a group's step (R89 to R97), evaluated in MGTCLK cycle `cyc`. `n` is the number of row slots it
ran over. Where a window write of that cycle meets the update of either slice, the whole step is void (R92,
R95; log entry 46). -/
def State.evalGroup (s : State) (cyc n key : Nat) (gm : Option GroupMeas) : State :=
  let g := s.cnv.grp key
  if ¬ g.active then s
  else
    let bad := (s.cnv.slots.filter (·.dist.contains key)).map (·.slot) ++ s.cnv.stretch.toList
    let conv := g.conv + n
    let disc := g.disc ++ bad.eraseDups.map (g.conv + ·)
    let settle := g.settle || s.cnv.settling
    let half := conv / 2
    let g1 := { g with conv := conv, disc := disc, settle := settle }
    if half < 256 then s.setGrp key g1
    else
      let d1 := (disc.filter (· < half)).length
      let d2 := (disc.filter (fun i => half ≤ i ∧ i < 2 * half)).length
      let free := (s.cnv.freeSpares key).head?.getD 0
      let k := if g.spare then 130 * key + 128 + free else sliceOf key g.pos (s.cnv.home key g.pos)
      let s0 := s.setGrp key g1
      let e := s.cnv.ent k
      let m := (gm.bind (·.target)).getD e.same
      let other := (s.otherSpare key).map fun i =>
        (128 + i, (gm.bind (·.spare)).getD (s.cnv.ent (130 * key + 128 + i)).same)
      let lost : Bool := s.windowWins cyc k m || other.any fun x => s.windowWins cyc (130 * key + x.1) x.2
      if half < 4 * d1 ∨ half < 4 * d2 ∨ settle ∨ lost then s0.voidStep key
      else
        let cnt := g.cnt + 1
        let s1 := s0.setGrp key { g1 with
          cnt := cnt, conv := 0, disc := [], settle := false, active := false
          state := if ¬ measFails m e then .rotate else if e.bad then .hold else .retry }
        let s2 := s1.measured key (k % 130) cnt g.standin m
        let s3 := match other with
          | some x => s2.measured key x.1 cnt none x.2
          | none => s2
        if measFails m e then s3 else s3.stepOver key

/-- Slots and their duration that the rotation step of this interval runs over, in the readout's plan, or
in the plan in force where nothing is read (R88). -/
def State.stepPlan (s : State) : Option InForce :=
  match s.tmg.reading.bind (fun r => s.frames.find? (·.num = r.frame)) with
  | some f => some f.cfg
  | none => s.inForce

/-- The steps of this interval have run over all their slots: those of a readout are delivered. -/
def State.stepsRun (s : State) : Bool :=
  match s.tmg.reading, s.stepPlan with
  | some _, some c => decide (c.plan.win.nSlot < s.tmg.slot)
  | _, _ => true

/-- The evaluation of every group 10 µs after the end of the readout or of the slots it would have taken. Its
updates come when the MGTCLK cycle of that instant is over, so that any window write of the cycle wins (R95; log
entry 40). -/
def State.rotationEvaluate (s : State) (meas : List GroupMeas) : State :=
  match s.stepPlan with
  | none => s
  | some c =>
    if ¬ s.cnv.evalDue ∨ ¬ s.stepsRun then s
    else
      let s0 := { s with cnv := { s.cnv with evalDue := false } }.goTo (s.seqEdge s.tmg.pos + tRdTU c.plan.win c.sched + us 10)
      (groupKeys.foldl (fun (a : State) k =>
        a.evalGroup s0.mgt c.plan.win.nSlot k (meas.find? fun m => 322 * m.bank + m.group = k))
        (s0.goMgt (s0.mgt + 1))).countCycles.subsNow

/-! ### Group reference entries (R82) -/

/-- The reference DACs take the entries of gain codes `gh` and `gl` (R82); entry 16·key + 8·path +
code. -/
def State.grefApply (s : State) (gh gl : Nat) : State :=
  { s with cnv := { s.cnv with grefNow := s.cnv.gref.filter fun (x : Nat × Nat) =>
      x.1 % 8 = (if x.1 / 8 % 2 = 0 then gh else gl) } }

/-! ### Per-readout counters (R87) -/

/-- The readout is complete: its counts become the counters, and an eclipse or a disturbance is
reported, also on the alarm bus (R15, R87, R302; log entry 46). -/
def State.cnvReadoutDone (s : State) : State :=
  let c := s.cnv
  let s1 := { s with cnv := { c with
    ovrH := c.runH % 2 ^ 28, ovrL := c.runL % 2 ^ 28, eclCnt := c.runEcl % 2 ^ 28,
    rdistCnt := c.runRdist % 2 ^ 22 } }
  let s2 := if c.runEcl = 0 then s1 else ((s1.setInt A.CNV_INT_STATUS 6).info clsCNV 6 0 c.runEcl).alarm clsCNV 6 0
  if c.runRdist = 0 then s2 else ((s2.setInt A.CNV_INT_STATUS 7).info clsCNV 7 0 c.runRdist).alarm clsCNV 7 0

/-- A row slot has been converted (R75 to R87): it joins the slots of the readout. -/
def State.cnvSlot (s : State) (w : Win) (slot : Nat) (convs : List Conv) : State :=
  let d := s.cnv.deliver w slot convs
  let (a, b, e, r) := s.cnv.slotCounts d
  { s with cnv := { s.cnv with
    slots := s.cnv.slots ++ [d]
    runH := s.cnv.runH + a, runL := s.cnv.runL + b, runEcl := s.cnv.runEcl + e
    runRdist := s.cnv.runRdist + r } }

/-! ### Test DAC (R103 to R105) -/

/-- An injection ends with a result. -/
def State.tdacEnd (s : State) (result reps : Nat) : State :=
  ({ s with cnv := { s.cnv with
    tdac := none, tdacDone := true, tdacResult := result, tdacReps := reps } }).setInt A.CNV_INT_STATUS 8

/-- t_slot in force in time units (R42). With no plan the manual gives none: it is a free value within the
limits of R42 (log entry 12). -/
def State.tSlot (s : State) : Nat :=
  (match s.inForce with | some c => c.sched.rowslot | none => 60 + Config.openValue 12 [] % 141) *
    Config.seqTU

/-- The sequencer leaves the slices alone: STOPPED or IDLE (R103). -/
def State.gridQuiet (s : State) : Bool := s.tmg.seq = .stopped || s.tmg.seq = .idle

/-- Gain codes an injection uses (R103). -/
def State.tdacGains (s : State) (ctrl : Nat) : Nat × Nat :=
  if s.gridQuiet then (field ctrl 26 3, field ctrl 26 3) else (s.tmg.dacH, s.tmg.dacL)

/-- The injection starts at instant `t`. -/
def State.tdacRun (s : State) (x : Tdac) (t : Nat) : State :=
  let (a, b) := s.tdacGains x.ctrl
  { s with cnv := { s.cnv with tdac := some { x with run := some t }, tdacA := a, tdacB := b } }

/-- `TDAC_GO` (R103, R105). -/
def State.tdacGo (s : State) (who : Who) : State :=
  if s.cnv.tdac.isSome then s.ignored clsCNV who A.CNV_CTRL
  else
    let s1 := { s with cnv := { s.cnv with
      tdacDone := false, tdacResult := 0, tdacReps := 0, tdacRes := [] } }
    let ctrl := s.rn A.CNV_TDAC_CTRL
    let mask := s.rn A.CNV_TDAC_MASK0 + s.rn A.CNV_TDAC_MASK1 * 2 ^ 32
    if mask = 0 ∨ 321 < field ctrl 13 9 ∨ field ctrl 26 3 = 7 then s1.tdacEnd 4 0
    else
      let x : Tdac := { ctrl := ctrl, mask := mask }
      if s.gridQuiet then s1.tdacRun x s.now
      else { s1 with cnv := { s1.cnv with tdac := some x } }

/-- Duration of the injection up to its last sample (R103). -/
def State.tdacSpan (s : State) (x : Tdac) : Nat := us 1 + (field x.ctrl 22 4 + 1) * s.tSlot

/-- The start of a pending injection in the present blanking, if it fits (R103): after the readout of the
interval and the reference switch, where there is one. -/
def State.tdacSlotAt (s : State) (x : Tdac) : Option Nat :=
  let busy : Bool := s.tmg.reading.isSome || s.tmg.integ.isSome
  let t0 := if busy then max s.now (s.tmg.rdEnd + us 1) else s.now
  let t1 := if s.cnv.gainMoved then max t0 (s.cnv.switchAt + us 30) else t0
  if t1 + s.tdacSpan x + max (us 2) (2 * s.tSlot) ≤ s.seqEdge s.tmg.nextSft then some t1 else none

/-- A pending injection starts if the blanking has room for it. -/
def State.tdacStart (s : State) : State :=
  match s.cnv.tdac with
  | some x =>
    if x.run.isSome then s
    else if s.gridQuiet then s.tdacRun x s.now
    else
      match s.tdacSlotAt x with
      | some t => (s.goTo t).tdacRun x t
      | none => s
  | none => s

/-- A blanking begins: a pending injection that does not fit has used one of its 16 tries (R103). -/
def State.tdacTry (s : State) : State :=
  match s.cnv.tdac with
  | some x =>
    if x.run.isSome ∨ (s.tdacSlotAt x).isSome then s
    else if 15 ≤ x.tries then s.tdacEnd 2 0
    else { s with cnv := { s.cnv with tdac := some { x with tries := x.tries + 1 } } }
  | none => s

/-- Gain factor of R46 in thousandths. -/
def gainMilli (code : Nat) : Nat := [1000, 1414, 2000, 2828, 4000, 5657, 8000].getD code 1000

/-- Gain factor of R46. -/
def gainQ (code : Nat) : Q := Q.mk2 (gainMilli code) 1000

/-- Nominal conversion of the injected voltage (R76, R103). -/
def tdacNominal (code gain : Nat) : Nat × Bool :=
  let v := (Q.mk2 (256 * 4096000000 + 16127 * code * 1250 * gainMilli gain : Nat) 4096000000).round
  ((clampI 0 16383 v).toNat, v > 16383)

/-- Mean of codes rounded to the nearest integer; a tie is left open (log entry 10). -/
def State.meanCode (s : State) (l : List Nat) : Nat × State :=
  let n := l.length
  let t := l.foldl (· + ·) 0
  if n = 0 then (0, s)
  else if 2 * (t % n) = n then
    let (r, s1) := s.draw
    (t / n + r % 2, s1)
  else ((2 * t + n) / (2 * n), s)

/-- Result of one column (R104). DESIGN CHOICE: a phase of a column that no slice serves gives the code of
the injected level too (log entry 46). -/
def State.tdacColumn (s : State) (x : Tdac) (convs : List TdacConv) (c : Nat) : State :=
  let reps := List.range (field x.ctrl 22 4 + 1)
  let get := fun (path r : Nat) =>
    match convs.find? (fun y => y.col = c ∧ y.rep = r) with
    | some y => decisionCode (if path = 0 then y.a else y.b)
    | none => tdacNominal (field x.ctrl 0 12) (if path = 0 then s.cnv.tdacA else s.cnv.tdacB)
  let a := reps.map (get 0)
  let b := reps.map (get 1)
  let (ma, s1) := s.meanCode (a.map (·.1))
  let (mb, s2) := s1.meanCode (b.map (·.1))
  let w := ma + flag (a.any (·.2)) 14 + at_ mb 16 + flag (b.any (·.2)) 30 + 2 ^ 31
  { s2 with cnv := { s2.cnv with tdacRes := sput (fun _ => 0) s2.cnv.tdacRes c w } }

/-- The last repetition has been converted (R104). -/
def State.tdacDone (s : State) (convs : List TdacConv) : State :=
  match s.cnv.tdac with
  | some x =>
    match x.run with
    | some t =>
      let s0 := s.goTo (t + s.tdacSpan x + Config.deliverTU)
      let s1 := (bitsOf x.mask 64).foldl (fun (a : State) c => a.tdacColumn x convs c) s0
      s1.tdacEnd 1 (field x.ctrl 22 4 + 1)
    | none => s
  | none => s

/-- Entry to SAFE or CALIBRATE, or loss of PLL1, aborts an injection (R105). -/
def State.tdacAbort (s : State) : State :=
  match s.cnv.tdac with
  | some x =>
    let reps := match x.run with
      | some t => min (field x.ctrl 22 4 + 1) ((s.now - t - us 1) / s.tSlot)
      | none => 0
    s.tdacEnd 3 reps
  | none => s

/-! ### Slice-correction window (R108, R109) -/

/-- What an address of the window names: a slice entry and its word, a group reference entry, or
nothing. -/
inductive WinTarget where
  | slice (k word : Nat) | gref (i : Nat) | none
  deriving DecidableEq, Repr

/-- Decode a window address (R108); group reference entries of code 7 are reserved. -/
def winTarget (a : Nat) : WinTarget :=
  if 0x600000 ≤ a ∧ a < 0x6A3840 then .slice ((a - 0x600000) / 8) ((a - 0x600000) % 8 / 4)
  else if 0x6C0000 ≤ a ∧ a < 0x6CA100 ∧ (a - 0x6C0000) / 4 % 8 ≠ 7 then .gref ((a - 0x6C0000) / 4)
  else .none

/-- A readout is in progress: from its SFT to its last code (R79). -/
def State.readingNow (s : State) : Bool :=
  match s.tmg.reading, s.stepPlan with
  | some _, some c => decide (s.tmg.slot ≤ c.plan.win.nSlot)
  | _, _ => false

/-- Word 0 of a slice entry; `reading` tells that a readout is in progress, and IN_USE is 1 for the slices
in service for it (R74, R108). -/
def Cnv.word0 (c : Cnv) (reading : Bool) (k : Nat) : Nat :=
  let e := c.ent k
  let key := k / 130
  let p := k % 130
  let g := c.grp key
  let stand : Bool := 128 ≤ p ∧ g.standin = some (p - 128)
  let use : Bool := reading &&
    (if p < 128 then c.src key p = 0
     else (stand && !g.spare) || (let q := (sget sliceReset c.now k).sub; decide (q < 128) && c.src key q = p - 127))
  e.offset + at_ e.samp 12 + at_ e.thr 18 + flag e.valid 24 + flag e.failed 25 + flag use 26 +
    flag stand 27

/-- Word 1 of a slice entry. -/
def Cnv.word1 (c : Cnv) (k : Nat) : Nat :=
  let e := c.ent k
  let sub := if k % 130 < 128 then 0xFF else e.sub
  e.gain + at_ sub 16 + at_ (min 255 ((c.grp (k / 130)).cnt - e.acc)) 24

/-- Words 0 held and word 1 latched of an accessor. -/
def Cnv.heldAll (c : Cnv) : Who → List (Nat × Nat)
  | .host => c.held0 | .mc0 => c.held1 | .mc1 => c.held2

/-- Word 0 held of entry `k`. -/
def Cnv.held (c : Cnv) (w : Who) (k : Nat) : Option Nat :=
  ((c.heldAll w).find? fun x => x.1 = k).map (·.2)

/-- Hold a word 0 of entry `k`, or none any more. -/
def Cnv.setHeld (c : Cnv) (w : Who) (k : Nat) (x : Option Nat) : Cnv :=
  let l := (c.heldAll w).filter (fun y => y.1 ≠ k) ++ (x.map fun v => (k, v)).toList
  match w with
  | .host => { c with held0 := l } | .mc0 => { c with held1 := l } | .mc1 => { c with held2 := l }

/-- Word 1 latched by the last read of a word 0, per accessor (R436). -/
def Cnv.latched (c : Cnv) : Who → Option (Nat × Nat)
  | .host => c.latch0 | .mc0 => c.latch1 | .mc1 => c.latch2

/-- Replace it. -/
def Cnv.setLatched (c : Cnv) (w : Who) (x : Option (Nat × Nat)) : Cnv :=
  match w with
  | .host => { c with latch0 := x } | .mc0 => { c with latch1 := x } | .mc1 => { c with latch2 := x }

/-- Reset of the group reference table. -/
def grefReset (_ : Nat) : Nat := 0

/-- A read of the window (R109): word 0 latches word 1 for the next access. -/
def State.winRead (s : State) (who : Who) (a : Nat) : Nat × State :=
  let put := fun (x : Option (Nat × Nat)) => { s with cnv := s.cnv.setLatched who x }
  match winTarget a with
  | .slice k 0 => (s.cnv.word0 s.readingNow k, put (some (k, s.cnv.word1 k)))
  | .slice k _ =>
    match s.cnv.latched who with
    | some (j, v) => (if j = k then v else s.cnv.word1 k, put none)
    | none => (s.cnv.word1 k, s)
  | .gref i => (sget grefReset s.cnv.gref i, put none)
  | .none => (0, put none)

/-- A window write is refused (R109). DESIGN CHOICE: of the two codes of R340 that fit, the warning has
0x81, with writer and address (log entry 46). -/
def State.winRefused (s : State) (who : Who) (a : Nat) : State :=
  (s.setInt A.CNV_INT_STATUS 9).ignored clsCNV who a

/-- A write of the window (R83, R90, R95, R109, R392). -/
def State.winWrite (s : State) (who : Who) (a : Nat) (v : Word) (fg : Bool) : State :=
  let s0 := { s with cnv := s.cnv.setLatched who none }
  let live := s.sys.mode.capturing
  match winTarget a with
  | .none => s0
  | t =>
    if fg ∨ (who = .host ∧ ¬ (s.sys.mode = .standby ∨ s.sys.mode = .calibrate)) then
      s0.winRefused who a
    else
      match t with
      | .slice k 0 => { s0 with cnv := s0.cnv.setHeld who k (some v.toNat) }
      | .slice k _ =>
        let e := s0.cnv.ent k
        let gain := wfield v 0 16
        let s1 := { s0 with cnv := { (s0.cnv.setHeld who k none) with
          winEnts := k :: s.cnv.written s.mgt, winCycle := s.mgt } }
        match s0.cnv.held who k with
        | some w =>
            let samp := field w 12 6
            let thr := field w 18 5
            if live ∧ (samp ≠ e.samp ∨ thr ≠ e.thr) then
              { s0 with cnv := s0.cnv.setHeld who k none }.winRefused who a
            else
              s1.setEnt k { e with offset := field w 0 12, samp := samp, thr := thr,
                                   valid := w.testBit 24, gain := gain }
        | none => s1.setEnt k { e with gain := gain }
      | .gref i =>
        let new_ := v.toNat % 2 ^ 28
        if live ∧ new_ ≠ sget grefReset s0.cnv.gref i then s0.winRefused who a
        else { s0 with cnv := { s0.cnv with
          gref := sput grefReset s0.cnv.gref i new_ } }
      | .none => s0

/-! ### Registers (R107) -/

/-- `CNV_STATUS`. -/
def State.cnvStatus (s : State) : Nat :=
  let m := s.cnv.minFree
  let run := s.cnv.grps.any fun p => p.2.active
  flag run 0 + flag (decide (m < 2)) 1 + flag (decide (m = 0)) 2 + flag s.cnv.colFail 3 +
    flag (s.cnv.subs ≠ []) 4 + flag s.cnv.tdac.isSome 5

/-- Live CNV registers. -/
def State.cnvRead (s : State) (a : Nat) : Option Nat :=
  let c := s.cnv
  if a = A.CNV_STATUS then some s.cnvStatus
  else if a = A.CNV_CTRL then some (s.rn A.CNV_CTRL &&& 1)
  else if a = A.CNV_ROT_STEPS then some c.steps
  else if a = A.CNV_ROT_VOID then some c.voids
  else if a = A.CNV_ROT_REJECT then some c.rejects
  else if a = A.CNV_ROT_CYCLES then some c.cycles
  else if a = A.CNV_SPARES then some (c.freeCount + at_ c.minFree 16)
  else if a = A.CNV_FAIL_LAST then some c.failLast
  else if a = A.CNV_RETIRE_STATUS then some c.retireResult
  else if a = A.CNV_OVR_CNT_H then some c.ovrH
  else if a = A.CNV_OVR_CNT_L then some c.ovrL
  else if a = A.CNV_ECL_CNT then some c.eclCnt
  else if a = A.CNV_RDIST_CNT then some c.rdistCnt
  else if a = A.CNV_TDAC_STATUS then
    some (flag c.tdac.isSome 0 + flag c.tdacDone 1 + at_ c.tdacResult 2 + at_ c.tdacReps 5 +
      at_ c.tdacA 10 + at_ c.tdacB 13)
  else if A.CNV_TDAC_RES ≤ a ∧ a < A.CNV_TDAC_RES + 256 then
    some (sget (fun _ => 0) c.tdacRes ((a - A.CNV_TDAC_RES) / 4))
  else none

/-- `CNT_CLR` (R107). -/
def State.cnvCntClr (s : State) : State :=
  { s with cnv := { s.cnv with steps := 0, voids := 0, rejects := 0, cycles := 0 } }

/-- A write of `CNV_CTRL`: CNT_CLR, RETIRE_GO, TDAC_GO (log entry 9). -/
def State.cnvCtrlWrite (s : State) (who : Who) (v : Word) : State :=
  let s0 := s.setRn A.CNV_CTRL (wfield v 0 1)
  let s1 := if wbit v 3 then s0.cnvCntClr else s0
  let s2 := if wbit v 2 then s1.retireGo else s1
  if wbit v 1 then s2.tdacGo who else s2

/-- Writes of CNV registers with behaviour of their own. -/
def State.cnvWrite (s : State) (who : Who) (a : Nat) (v : Word) : Option State :=
  if a = A.CNV_CTRL then some (s.cnvCtrlWrite who v) else none

end Sys2Proof.Machine
end

