-- ==== Sys2Proof/Machine/Monitor.lean ====
section
/-!
DEFINITION. The monitor converter: filter, outputs, accumulators, self-calibration and its
registers (12_thermal_and_monitor.md R355 to R364, R381).
-/
namespace Sys2Proof.Machine

/-- Largest code magnitude (R356). -/
def monMax : Int := 8388607

/-- Channel in force (R355). -/
def Mon.ch (m : Mon) : Nat := m.sel % 32

/-- Gain code in force. -/
def Mon.gain (m : Mon) : Nat := field m.sel 8 3

/-- Sinc order in force (R357). -/
def Mon.order (m : Mon) : Nat := m.filt % 4 + 1

/-- Notch selection in force. -/
def Mon.notch (m : Mon) : Nat := field m.filt 2 2

/-- Accumulator of channel `c`. -/
def Mon.acc (m : Mon) (c : Nat) : MonAcc := sget (fun _ => {}) m.accs c

/-- Replace the accumulator of channel `c`. -/
def State.setAcc (s : State) (c : Nat) (x : MonAcc) : State :=
  { s with mon := { s.mon with accs := sput (fun _ => {}) s.mon.accs c x } }

/-- D that a filter word asks for (R357); the frame period is in time units, none without ticks. -/
def filtDec (filt : Nat) (period : Option Nat) : Option Nat :=
  let m := field filt 22 6
  let d : Option Int := match field filt 2 2 with
    | 0 => some (field filt 4 18 : Nat)
    | 1 => some ((Q.mk2 (1600000 * m : Nat) 50).round)
    | 2 => some ((Q.mk2 (1600000 * m : Nat) 60).round)
    | _ => period.map fun p => (Q.mk2 (1600000 * m * p : Nat) 691200000000).round
  d.bind fun x => if 50 ≤ x ∧ x ≤ 160000 then some x.toNat else none

/-- The frame period while ticks run. -/
def State.monPeriod (s : State) : Option Nat :=
  if s.ticking then some s.tmg.framePeriod else none

/-- The filter restarts (R358): the next N outputs are invalid, and the conversion in progress is
discarded. -/
def State.monRestart (s : State) : State :=
  { s with mon := { s.mon with skip := max s.mon.skip s.mon.order, from_ := s.mgt, begun := true } }

/-- Settings `sel` and `filt` come into force (R357, R358, R362); `ft`: at an FT, where alone a converter that the
frame-rate notch has stopped resumes; `again`: the converter resumes, so that the filter restarts in any case. -/
def State.monTake (s : State) (sel filt : Nat) (ft again : Bool) : State :=
  let m := s.mon
  let waits : Bool := field filt 2 2 = 3 && !m.valid && !ft
  let dec := if waits then none else filtDec filt s.monPeriod
  let d := dec.getD m.dec
  let moved : Bool := sel ≠ m.sel ∨ d ≠ m.dec ∨ filt % 4 ≠ m.filt % 4 ∨ (dec.isSome ∧ ¬ m.valid)
  let stop : Bool := dec.isNone
  let s1 := { s with mon := { m with sel := sel, filt := filt, dec := d, valid := !stop, noFrame := stop } }
  let s2 := if stop ∧ ¬ m.noFrame then s1.setInt A.MON_INT_STATUS 4 else s1
  if moved ∨ again then s2.monRestart else s2

/-- The settings of `MON_SEL` and `MON_FILT` come into force (R358, R362). -/
def State.monApply (s : State) (again : Bool) : State := s.monTake (s.rn A.MON_SEL) (s.rn A.MON_FILT) false again

/-- The notch at the frame rate follows S and P at an FT, and stops without ticks (R357); settings that a
self-calibration holds back stay so (R362). -/
def State.monAtFT (s : State) : State :=
  if s.mon.notch = 3 then s.monTake s.mon.sel s.mon.filt true false else s

/-- A selection or filter word is refused (R364). -/
def monRefuses (sel filt : Nat) : Bool :=
  let ch := sel % 32
  let d := field filt 4 18
  let fixed := filtDec filt none
  decide (25 ≤ ch) || field sel 12 2 = 3 || (field sel 8 3 = 7 && (ch = 8 || ch = 9)) ||
    field filt 22 6 = 0 || (field filt 2 2 = 0 && (d < 50 || 160000 < d)) ||
    (field filt 2 2 ≠ 3 && fixed.isNone)

/-- A write of `MON_SEL` or `MON_FILT` (R362, R364). -/
def State.monSet (s : State) (a : Nat) (v : Nat) (who : Who) : State :=
  let sel := if a = A.MON_SEL then v else s.rn A.MON_SEL
  let filt := if a = A.MON_FILT then v else s.rn A.MON_FILT
  if monRefuses sel filt then
    (s.setInt A.MON_INT_STATUS 3).ignored clsMON who a
  else
    let s1 := s.setRn a v
    if s1.mon.calFrom.isSome then s1 else s1.monApply false

/-! ### Outputs (R356 to R360) -/

/-- A code within the range of R356; an overranged one is clamped (R359). -/
def clampCode (code : Int) : Int := max (-monMax) (min monMax code)

/-- The trackers take a code (R359, R360). -/
def MonAcc.track (x : MonAcc) (code : Int) : MonAcc :=
  { x with
    min_ := some (match x.min_ with | some m => min m code | none => code)
    max_ := some (match x.max_ with | some m => max m code | none => code) }

/-- An output lands in the registers of its channel (R358 to R360): a full accumulator adds nothing. -/
def MonAcc.land (x : MonAcc) (k : MonKind) (code : Int) : MonAcc :=
  match k with
  | .invalid => { x with invalid := satAdd x.invalid 1 16 }
  | .over => { x.track code with ovr := satAdd x.ovr 1 16 }
  | .valid =>
    if x.full then x.track code
    else { x.track code with
      sum := sext (unsext (x.sum + code) 48) 48, count := x.count + 1, full := x.count + 1 = 16777215 }

/-- An output of channel `c` lands now (R358 to R361). -/
def State.monLand (s : State) (c : Nat) (k : MonKind) (code : Int) : State :=
  let x := s.mon.acc c
  let y := x.land k code
  let l : MonLanding := { at_ := s.mgt, ch := c, kind := k, code := code, int := s.rn A.MON_INT_STATUS }
  let s0 := s.setAcc c y
  let s1 := { s0 with mon := { s0.mon with landed := some l } }
  if y.full ∧ ¬ x.full then s1.setInt A.MON_INT_STATUS 2 else s1

/-- An invalid output of channel `c` (R358). -/
def State.monInvalid (s : State) (c : Nat) : State :=
  let s1 := s.monLand c .invalid 0
  { s1 with mon := { s1.mon with skip := s1.mon.skip - 1 } }

/-- An overranged output (R359). -/
def State.monOverrange (s : State) (c : Nat) (code : Int) : State :=
  let s1 := s.monLand c .over code
  { s1 with mon := { s1.mon with
      ovrCnt := wrapAdd s1.mon.ovrCnt 1 32, skip := max s1.mon.skip 3 } }.setInt A.MON_INT_STATUS 0

/-- The calibrated code of a filter result (R356); a tie is rounded by a free value. -/
def State.monCode (s : State) (g : Nat) (raw : Int) : Int × State :=
  let off := sext (s.rf (A.MON_CAL + 4 * g) 0 24) 24
  let gain := sext (s.rf (A.MON_CAL + 0x20 + 4 * g) 0 24) 24
  let n := 2 * (raw - off) * ((2 ^ 24 : Nat) + gain)
  let d : Int := (2 ^ 24 : Nat)
  if n % (2 * d) = d then
    let (r, s1) := s.draw
    (n / (2 * d) + (r % 2 : Nat), s1)
  else ((n + d) / (2 * d), s)

/-- The converter makes channel outputs now. -/
def State.monRuns (s : State) : Bool :=
  s.rb A.MON_CTRL 2 && s.mon.valid && s.mon.calFrom.isNone && s.mon.scan.isNone

/-- MON_OUTPUT (R356 to R360): the filter produces an output from the result `raw`. -/
def State.monOutput (s : State) (raw : Int) : State :=
  if ¬ s.monRuns then s
  else
    let s0 := s.goMgt (max s.mgt (s.mon.from_ + 250 * s.mon.dec))
    let s1 := { s0 with mon := { s0.mon with from_ := s0.mgt, begun := true } }
    let c := s1.mon.ch
    let (code, s2) := s1.monCode s1.mon.gain raw
    if s2.mon.skip ≠ 0 then s2.monInvalid c
    else if clampCode code = code then s2.monLand c .valid code
    else s2.monOverrange c (clampCode code)

/-- Clear the accumulators of a mask of channels; an output that landed in this cycle is applied after
it (R361). -/
def State.monClear (s : State) (mask : Nat) : State :=
  let s1 := (bitsOf mask 32).foldl (fun (a : State) c => a.setAcc c {}) s
  match s.mon.landed with
  | some l =>
    if l.at_ = s.mgt ∧ mask.testBit l.ch then
      let s2 := s1.setAcc l.ch (({} : MonAcc).land l.kind l.code)
      if l.int.testBit 2 then s2 else s2.dropInt A.MON_INT_STATUS 2
    else s1
  | none => s1

/-! ### Self-calibration (R362) -/

/-- CAL_GO (R362). An external scan that runs breaks off and is deferred as a whole: it is due again when the
calibration has ended (R363). -/
def State.monCalGo (s : State) : State :=
  if s.mon.calFrom.isSome then s
  else
    let last := match s.mon.scan with
      | some c => c - mgtMs (10 * s.rf A.THM_EXT_CFG 8 8)
      | none => s.mon.lastScan
    { s with mon := { s.mon with calFrom := some s.mgt, scan := none, lastScan := last } }

/-- The two runs agree (R362): offsets within 8 codes, gains within 2^-20. -/
def monAgrees (runs : List (Int × Int × Int × Int)) : Bool :=
  runs.length = 8 && runs.all fun (o0, g0, o1, g1) => (o0 - o1).natAbs ≤ 8 && (g0 - g1).natAbs ≤ 16

/-- Write the means of the two runs of gain code `g` on. -/
def State.monFactors (s : State) : Nat → List (Int × Int × Int × Int) → State
  | _, [] => s
  | g, (o0, g0, o1, g1) :: r =>
    let (a, s1) := s.mean2 o0 o1
    let (b, s2) := s1.mean2 g0 g1
    ((s2.setRn (A.MON_CAL + 4 * g) (unsext a 24)).setRn (A.MON_CAL + 0x20 + 4 * g) (unsext b 24)).monFactors (g + 1) r

/-- A self-calibration ends (R362): two runs per gain code of offset and gain factor. True when it
was accepted. -/
def State.monCalEnd (s : State) (runs : List (Int × Int × Int × Int)) : State × Bool :=
  match s.mon.calFrom with
  | none => (s, false)
  | some c =>
    let s0 := s.goMgt (max s.mgt (c + mgtMs 12))
    let good := monAgrees runs
    let s1 := if good then s0.monFactors 0 runs else s0
    let s2 := { s1 with mon := { s1.mon with
      calFrom := none, calResult := if good then 1 else 2, uncal := s1.mon.uncal && !good } }
    ((s2.setInt A.MON_INT_STATUS 1).monApply true, good)

/-! ### Registers (R381) -/

/-- Key of a latched accumulator. -/
def latchKey (c : Nat) (who : Who) : Nat := 3 * c + who.code

/-- The accumulator that an accessor sees beyond SUM_LO (R361, R436). -/
def Mon.seen (m : Mon) (c : Nat) (who : Who) : MonAcc := sget (fun _ => {}) m.latched (latchKey c who)

/-- A read of `MON_CHc_SUM_LO` latches the channel (R361). -/
def State.monSumLoRead (s : State) (who : Who) (c : Nat) : Nat × State :=
  let x := s.mon.acc c
  (unsext x.sum 48 % 2 ^ 32,
    { s with mon := { s.mon with latched := sput (fun _ => {}) s.mon.latched (latchKey c who) x } })

/-- A tracker word. -/
def trackWord (x : Option Int) : Nat := match x with | some v => unsext v 24 + flag true 31 | none => 0

/-- External points that are enabled, in scan order (R363). -/
def State.extPoints (s : State) : List Nat := (bitsOf (s.rf A.THM_EXT_CFG 0 4) 4).map (64 + ·)

/-- Phases of a point: two for a diode, one for a thermistor (R363). -/
def extPhases (i : Nat) : Nat := if i < 66 then 2 else 1

/-- The channel that converts: in an external scan that of its present phase of 7 ms (R363), else the selected one;
0 before the first conversion since reset (R441). -/
def State.monChannel (s : State) : Nat :=
  match s.mon.scan with
  | some c =>
    let l := s.extPoints.flatMap fun i => List.replicate (extPhases i) (i - 56)
    l.getD (min ((s.mgt - c) / mgtMs 7) (l.length - 1)) 0
  | none => if s.mon.begun then s.mon.ch else 0

/-- `MON_STATUS`. -/
def State.monStatus (s : State) : Nat :=
  let m := s.mon
  flag m.calFrom.isSome 0 + at_ m.calResult 1 + flag m.uncal 3 + flag m.scan.isSome 4 +
    flag m.noFrame 5 + at_ (min m.skip 15) 8 + at_ s.monChannel 16

/-- Live MON registers; SUM_LO is read with `monSumLoRead`. -/
def State.monRead (s : State) (who : Who) (a : Nat) : Option Nat :=
  let o := a - A.MON_CH
  let x := s.mon.seen (o / 32) who
  if a = A.MON_STATUS then some s.monStatus
  else if a = A.MON_ODR then some (s.mon.dec + flag s.mon.valid 31)
  else if a = A.MON_OVR_CNT then some s.mon.ovrCnt
  else if a = A.MON_ACC_CLR then some 0
  else if A.MON_CH ≤ a ∧ a < A.MON_CH + 1024 then
    match o % 32 with
    | 0x04 => some (unsext x.sum 48 / 2 ^ 32)
    | 0x08 => some (x.count + flag x.full 31)
    | 0x0C => some (trackWord x.min_)
    | 0x10 => some (trackWord x.max_)
    | 0x14 => some (x.invalid + at_ x.ovr 16)
    | _ => none
  else none

/-- A write of `MON_CTRL` (R361, R362); the host may change only ACC_CLR_ALL, and that only with
HOST_EN (R364). -/
def State.monCtrlWrite (s : State) (v : Word) : State :=
  let run := s.rb A.MON_CTRL 2
  let s1 := s.setRn A.MON_CTRL (v.toNat &&& 0xC)
  let s2 := if wbit v 1 then s1.monClear 0xFFFFFFFF else s1
  let s3 := if wbit v 2 ∧ ¬ run then s2.monRestart else s2
  if wbit v 0 then s3.monCalGo else s3

/-- Writes of MON registers with behaviour of their own. -/
def State.monWrite (s : State) (who : Who) (a : Nat) (v : Word) : Option State :=
  if a = A.MON_CTRL then
    if who = .host then some (if wbit v 1 then s.monClear 0xFFFFFFFF else s) else some (s.monCtrlWrite v)
  else if a = A.MON_SEL then some (s.monSet a (v.toNat &&& 0x371F) who)
  else if a = A.MON_FILT then some (s.monSet a (v.toNat &&& 0xFFFFFFF) who)
  else if a = A.MON_ACC_CLR then some (s.monClear v.toNat)
  else none

end Sys2Proof.Machine
end

