-- ==== Sys2Proof/Machine/ThermalBase.lean ====
section
/-!
DEFINITION. Temperature sensors, conditions, timers and the alert pin
(12_thermal_and_monitor.md R366 to R374, R377, R378). Temperatures are in 1/64 °C.
-/
namespace Sys2Proof.Machine

/-- A temperature in whole °C. -/
def degC (n : Nat) : Int := (n : Int) * 64

/-- Sensor `i`. -/
def Thm.sensor (t : Thm) (i : Nat) : Sensor := sget (fun _ => {}) t.sensors i

/-- Replace sensor `i`. -/
def State.setSensor (s : State) (i : Nat) (x : Sensor) : State :=
  { s with thm := { s.thm with sensors := sput (fun _ => {}) s.thm.sensors i x } }

/-- Zone of a sensor (R366). -/
def zoneOf (i : Nat) : Nat := min (i / 8) 8

/-- Sensor `i` is masked, or an external point that is not enabled (R371). -/
def State.masked (s : State) (i : Nat) : Bool :=
  if i < 32 then s.rb A.THM_MASK0 i
  else if i < 64 then s.rb A.THM_MASK1 (i - 32)
  else !s.rb A.THM_EXT_CFG (i - 64)

/-- All sensors. -/
def allSensors : List Nat := List.range 68

/-- A sensor is declared failed (R369): 1 STUCK, 2 RANGE, 3 IMPLAUSIBLE; a masked one sets no condition (R371). -/
def State.sensorFail (s : State) (i cause : Nat) : State :=
  let x := s.thm.sensor i
  let s1 := s.setSensor i { x with cause := cause }
  let s2 := if x.throt ∨ s.masked i then s1 else { s1 with thm := { s1.thm with hot := i } }
  (s2.setInt A.THM_INT_STATUS 4).faultEv clsTHM 4 i cause

/-- A temperature `a / b` in 1/64 °C: R367 states no rounding, so that which neighbour of a fraction it
takes is a free value (log entry 21). -/
def fracTemp (a b : Int) : Int :=
  if b = 0 ∨ a % b = 0 then a / b else a / b + (Config.openValue 21 [a, b] % 2 : Nat)

/-- Mean of window results (R367). -/
def meanTemp (l : List Int) : Int := fracTemp l.sum l.length

/-- Insert into an ascending list. -/
def insInt (x : Int) : List Int → List Int
  | [] => [x]
  | y :: r => if x ≤ y then x :: y :: r else y :: insInt x r

/-- Median of readings, in 1/128 °C. -/
def median2 (l : List Int) : Int :=
  let a := l.foldl (fun acc x => insInt x acc) []
  a.getD ((a.length - 1) / 2) 0 + a.getD (a.length / 2) 0

/-- A new reading of sensor `i` in window `w`; changes older than needed are dropped. -/
def Sensor.put (x : Sensor) (w : Nat) (t : Int) : Sensor :=
  let chg := if x.temp = some t then x.chg else (w, t) :: x.chg
  let recent := chg.filter (fun c => w < c.1 + 1000)
  let old := chg.find? (fun c => c.1 + 1000 ≤ w)
  { x with temp := some t, chg := recent ++ old.toList }

/-- The reading 1 s before window `w` (R372); with less than 1 s of readings there is none. -/
def Sensor.before (x : Sensor) (w : Nat) : Option Int :=
  (x.chg.find? (fun c => c.1 + 1000 ≤ w)).map (·.2)

/-- Cause for which an on-die sensor fails in this window, 0 for none (R369). `others` are the
readings of the other valid sensors of its zone. -/
def Sensor.fault (x : Sensor) (win : SensorWin) (same : Nat) (t : Int) (others : List Int) : Nat :=
  let jump : Bool := match x.res with | some r => decide (8 * 64 < (win.temp - r).natAbs) | none => false
  let far : Bool := 3 ≤ others.length && decide (20 * 128 < (2 * t - median2 others).natAbs)
  if win.raw = 0 ∨ 256 ≤ same then 1
  else if t < -55 * 64 ∨ 160 * 64 < t then 2
  else if jump ∨ far then 3
  else 0

/-- Same raw count in consecutive windows, the present one included (R369). -/
def Sensor.runOf (x : Sensor) (win : SensorWin) : Nat :=
  if x.res.isSome ∧ x.raw = win.raw then x.same + 1 else 1

/-- The last 16 window results with the present one (R367). -/
def Sensor.window (x : Sensor) (win : SensorWin) : List Int := (win.temp :: x.hist).take 16

/-- The result of sensor `i` in the window. -/
def winOf (wins : List SensorWin) (i : Nat) : SensorWin := wins.getD i ⟨0, 0⟩

/-- The reading that sensor `i` would take: the mean of its last 16 windows (R367). -/
def State.windowMean (s : State) (wins : List SensorWin) (i : Nat) : Int :=
  meanTemp ((s.thm.sensor i).window (winOf wins i))

/-- Cause for which on-die sensor `i` fails in this window, 0 for none (R369); it is held against the other valid
and unmasked sensors of its zone. -/
def State.windowFault (s : State) (wins : List SensorWin) (i : Nat) : Nat :=
  let valid := fun (j : Nat) => (s.thm.sensor j).cause = 0 && !s.masked j
  let others := (((List.range 8).map (8 * (i / 8) + ·)).filter (fun j => j ≠ i && valid j)).map (s.windowMean wins)
  let x := s.thm.sensor i
  x.fault (winOf wins i) (x.runOf (winOf wins i)) (s.windowMean wins i) others

/-- The window results of every on-die sensor are taken (R367, R369); failed sensors keep their
last valid reading. -/
def State.takeWindows (s : State) (wins : List SensorWin) : State :=
  (List.range 64).foldl (fun (a : State) i =>
    let x := s.thm.sensor i
    let v := winOf wins i
    let y := { x with res := some v.temp, raw := v.raw, same := x.runOf v, hist := x.window v }
    let f := s.windowFault wins i
    if x.cause ≠ 0 then a.setSensor i y
    else if f ≠ 0 then (a.setSensor i y).sensorFail i f
    else a.setSensor i (y.put s.thm.windows (s.windowMean wins i))) s

/-! ### Conditions (R370 to R372) -/

/-- Threshold field of sensor `i`: 0 WARN, 1 THROT, 2 CRIT in °C, 3 RISE in 0.1 °C/s. -/
def State.thrField (s : State) (i k : Nat) : Nat := s.rf (A.THM_THR + 4 * i) (8 * k) 8

/-- Hysteresis (R372). -/
def State.hyst (s : State) : Int := degC (s.rf A.THM_CFG 10 4)

/-- A condition with hysteresis (R372). -/
def holds (was : Bool) (t thr hyst : Int) : Bool := if was then thr - hyst ≤ t else thr ≤ t

/-- RISE of a valid sensor (R372). -/
def State.riseOf (s : State) (i : Nat) (x : Sensor) (t : Int) : Bool :=
  let floor := degC (s.rf A.THM_RISE_FLOOR 0 8)
  let r : Int := s.thrField i 3
  match x.before s.thm.windows with
  | none => false
  | some b =>
    if t < floor then false
    else if x.rise then decide (64 * (r - 5) < 10 * (t - b))
    else decide (64 * r < 10 * (t - b))

/-- The conditions of one sensor (R370 to R372). -/
def State.sensorConds (s : State) (i : Nat) : State :=
  let x := s.thm.sensor i
  if s.masked i then s.setSensor i { x with warn := false, throt := false, crit := false, rise := false }
  else if x.cause ≠ 0 then s.setSensor i { x with warn := true, throt := true, crit := false, rise := false }
  else
    match x.temp with
    | none => s
    | some t =>
      let rise := s.riseOf i x t
      let y := { x with
        rise := rise
        warn := holds x.warn t (degC (s.thrField i 0)) s.hyst
        throt := rise || holds x.throt t (degC (s.thrField i 1)) s.hyst
        crit := holds x.crit t (degC (s.thrField i 2)) s.hyst }
      let s1 := s.setSensor i y
      let s2 := if (y.throt && !x.throt) || (y.crit && !x.crit) then { s1 with thm := { s1.thm with hot := i } } else s1
      if rise ∧ ¬ x.rise then (s2.setInt A.THM_INT_STATUS 5).warn clsTHM 5 i 0 else s2

/-- Readings of valid, unmasked on-die sensors (R368). -/
def State.tjList (s : State) : List (Int × Nat) :=
  (List.range 64).filterMap fun i =>
    let x := s.thm.sensor i
    if s.masked i ∨ x.cause ≠ 0 then none else x.temp.map fun t => (t, i)

/-- Zones 0 to 7 with two failed or masked sensors, or zone 8 with two failed points (R372). -/
def State.zoneLost (s : State) : Bool :=
  let out := fun (i : Nat) => s.masked i || (s.thm.sensor i).cause ≠ 0
  ((List.range 8).any fun z => 2 ≤ (((List.range 8).map (8 * z + ·)).filter out).length) ||
    decide (2 ≤ (([64, 65, 66, 67] : List Nat).filter (fun i =>
      !s.masked i && (s.thm.sensor i).cause ≠ 0)).length)

/-- The mint gate changes while a vault command runs (R418). -/
def State.noteGate (s : State) (mint : Bool) : State :=
  { s with vlt := { s.vlt with run := s.vlt.run.map fun r => { r with gates := (s.now, mint) :: r.gates } } }

/-- Conditions, derived temperatures and gates (R368, R372, R380). -/
def State.thmConds (s : State) : State :=
  let s1 := allSensors.foldl (fun (a : State) i => a.sensorConds i) s
  let any := fun (p : Sensor → Bool) (ok : Bool) => allSensors.any fun i =>
    let x := s1.thm.sensor i
    p x && !s1.masked i && (!ok || x.cause = 0)
  let l := s1.tjList
  let hi := l.foldl (fun (b : Option (Int × Nat)) x => match b with
    | some y => if y.1 < x.1 then some x else some y
    | none => some x) none
  let lo := l.foldl (fun (b : Option (Int × Nat)) x => match b with
    | some y => if x.1 < y.1 then some x else some y
    | none => some x) none
  let ana := (l.filter (fun x => 48 ≤ x.2)).map (·.1)
  let c := any (·.crit) true
  let bad := (List.range 64).any fun i => !s1.masked i && (s1.thm.sensor i).cause ≠ 0
  let cool := !bad && (match hi with | some x => decide (x.1 ≤ degC 85) | none => false)
  let above := fun (n : Nat) => match lo with | some x => decide (degC n ≤ x.1) | none => false
  let mint := cool && above 10
  let flash := cool && above 0
  let shut := s1.sys.updShut || !flash
  let s2 := { s1 with sys := { s1.sys with updShut := shut }, thm := { s1.thm with
    condW := any (·.warn) false, condWv := any (·.warn) true, condT := any (·.throt) false
    condTv := any (·.throt) true, condC := c
    condX := (match hi with | some x => decide (degC 125 < x.1) | none => false)
    condZ := s1.zoneLost, tjMax := hi, tjMin := lo
    tjAna := if ana = [] then none else some (meanTemp ana)
    mintGate := mint, flashGate := flash } }
  let s2 := if mint = s1.thm.mintGate then s2 else s2.noteGate mint
  let s3 := if c ∧ ¬ s1.thm.condC then (s2.setInt A.THM_INT_STATUS 8).warn clsTHM 8 s2.thm.hot 0 else s2
  if mint ≠ s1.thm.mintGate ∨ flash ≠ s1.thm.flashGate then
    (s3.setInt A.THM_INT_STATUS 6).info clsTHM 6 0 (flag mint 0 + flag flash 1)
  else s3

/-! ### Timers and the pin (R374, R377) -/

/-- A timer runs or stops: it keeps its end while it runs on. -/
def runTimer (old : Option Nat) (on : Bool) (end_ : Nat) : Option Nat :=
  if on then (match old with | some t => some t | none => some end_) else none

/-- Every timer follows its condition (R374). -/
def State.thmTimers (s : State) : State :=
  let t := s.thm
  let st := t.state
  { s with thm := { t with
    grace := runTimer t.grace (st = .alert) (s.now + ms (10 * s.rf A.THM_CFG 0 10))
    critEnd := runTimer t.critEnd (t.condC && st ≠ .safe) (s.now + ms (250 * s.rf A.THM_CFG 26 4))
    persist := runTimer t.persist (t.condTv && (st = .enforced || st = .releasing))
      (s.now + ms (1000 * s.rf A.THM_CFG 20 6))
    release := runTimer t.release (st = .enforced && !t.condT) (s.now + ms (1000 * s.rf A.THM_CFG 14 6)) } }

/-- THERM_ALERT_N is wanted low (R377). -/
def State.pinWanted (s : State) : Bool :=
  match s.thm.state with
  | .alert | .pending | .enforced | .releasing => true
  | .safe => s.sys.safeCause = 1 || s.sys.safeCause = 2
  | _ => false

/-- The pin follows; it is released no sooner than 100 ms after it was asserted (R377). -/
def State.thmPin (s : State) : State :=
  if s.pinWanted then
    if s.thm.pinLow then s else { s with thm := { s.thm with pinLow := true, pinAt := s.now } }
  else if s.thm.pinLow ∧ s.thm.pinAt + ms 100 ≤ s.now then
    { s with thm := { s.thm with pinLow := false } }
  else s

/-- The thermal block enters a state. -/
def State.thmTo (s : State) (st : ThmState) : State :=
  { s with thm := { s.thm with state := st, entry := s.now } }

/-- WARM while W holds, otherwise NORMAL. -/
def State.thmRest (s : State) : ThmState := if s.thm.condW then .warm else .normal

/-- The thermal block enters SAFE with the device (R373). -/
def State.thmSafe (s : State) : State :=
  if s.thm.state = .safe then s else ((s.thmTo .safe).thmTimers).thmPin

/-- The SAFE cause with this code has cleared (R318, R378). -/
def State.safeCleared (s : State) (cause : Nat) : Bool :=
  match cause with
  | 1 => match s.thm.tjMax with | some x => decide (x.1 < degC 115) | none => false
  | 2 => !(s.thm.condWv || s.thm.condTv || s.thm.condC || s.thm.condZ)
  | 3 => s.clk.refOk && s.clk.strap ≠ 3
  | _ => false

end Sys2Proof.Machine
end

