-- ==== Sys2Proof/Machine/CalBase.lean ====
section
/-!
DEFINITION. Results, events and aborts of calibration runs (13_calibration.md R383, R384, R388,
R404, R406).
-/
namespace Sys2Proof.Machine

/-- An event of the CAL block (R406): REQ, START, DONE and SAVED are information, the others but
EQ_STEP warnings; EQ_STEP is not recorded. -/
def State.calEvent (s : State) (bit detail : Nat) : State :=
  let s1 := s.setInt A.CAL_INT_STATUS bit
  if bit = 0 ∨ bit = 1 ∨ bit = 2 ∨ bit = 6 then s1.info clsCAL bit 0 detail
  else if bit = 5 then s1
  else s1.warn clsCAL bit 0 detail

/-- Write the result field of a kind, the cause and, where it is given, the disagreement count. -/
def State.calResult (s : State) (kind code cause : Nat) (dis : Option Nat) : State :=
  let c := { s.cal with cause := cause, resDis := match dis with | some n => min n 65535 | none => s.cal.resDis }
  { s with cal :=
      if kind = 1 then { c with resFg := code }
      else if kind = 2 then { c with resEq := code }
      else if kind = 3 then { c with resMon := code }
      else { c with resDark := code } }

/-- The mode allows a kind (R383). -/
def Mode.allowsCal (m : Mode) (kind : Nat) : Bool :=
  match m with
  | .standby => kind ≠ 4
  | .monitor | .capture => kind = 1 || kind = 3
  | .calibrate => true
  | _ => false

/-- A run of kind `k` has ended: one of the run list leaves it, and another one that was accepted is not
saved with it (R387, R404). -/
def Cal.ended (c : Cal) (k : Nat) (good : Bool) : Cal :=
  let mine := c.list.contains k
  { c with
    list := c.list.filter (· ≠ k), anyOk := c.anyOk || (good && mine)
    unsaved := c.unsaved || (good && !mine) }

/-- A save has failed (R404). -/
def State.saveFails (s : State) (detail : Nat) : State :=
  { s with cal := { s.cal with unsaved := true } }.calEvent 7 detail

/-- An FG_CNV request or run ends ABORTED (R388); its holdoff starts (R384). -/
def State.calAbort (s : State) (cause : Nat) : State :=
  match s.cal.state with
  | .idle | .saving => s
  | _ =>
    let s1 := { s with cal := { s.cal.ended 1 false with
      state := .idle, forced := false, timer := none, ftM := none, passed := none, holdoff := some (s.now + ms 10000) } }
    (s1.calResult 1 3 cause none).calEvent 3 cause

/-- The lanes of a LINK_EQ run take up what their state sends again (R397): a lane in TRAIN goes on with the
training pattern. -/
def State.eqRelease (s : State) (ps : List Nat) : State :=
  ps.foldl (fun (a : State) p =>
    let l := a.lane p
    if l.state = .train ∨ l.state = .off then a else a.setLane p (l.resume p a.now)) s

/-- Settings of a lane before a LINK_EQ run are put back. -/
def State.eqRestore (s : State) : State :=
  match s.cal.eqRun with
  | none => s
  | some r => (r.lanes.foldl (fun (a : State) x => a.setRn (A.LNK_EQ + 4 * x.1) x.2.old) s).eqRelease (r.lanes.map (·.1))

/-- A run of kind 2, 3 or 4 that is in progress ends ABORTED (R383). -/
def State.calAbortKind (s : State) (kind cause : Nat) : State :=
  let c := s.cal
  if kind = 2 ∧ c.eqRun.isSome then
    let s1 := s.eqRestore
    ({ s1 with cal := { s1.cal.ended 2 false with eqRun := none } }.calResult 2 3 cause none).calEvent 3 cause
  else if kind = 3 ∧ c.monRun.isSome then
    ({ s with cal := { c.ended 3 false with monRun := none } }.calResult 3 3 cause none).calEvent 3 cause
  else if kind = 4 ∧ c.darkRun.isSome then
    ({ s with cal := { c.ended 4 false with darkRun := none } }.calResult 4 3 cause none).calEvent 3 cause
  else s

/-- The mode became `m`: runs it does not allow end ABORTED, queued ones go, and a run list or a
save ends with CALIBRATE (R383, R388, R404). -/
def State.calMode (s : State) (m : Mode) : State :=
  let s1 := if m.allowsCal 1 then s else s.calAbort 6
  let s2 := ([2, 3, 4] : List Nat).foldl (fun (a : State) k =>
    if m.allowsCal k then a else a.calAbortKind k 6) s1
  let s3 := { s2 with cal := { s2.cal with queue := s2.cal.queue.filter (fun k => m.allowsCal k) } }
  let s4 :=
    if s3.cal.state = .saving ∧ (m = .safe ∨ m = .boot) then
      ({ s3 with cal := { s3.cal with state := .idle, saveMbox := false } }).saveFails 0
    else s3
  if m = .calibrate then s4
  else { s4 with cal := { s4.cal with inList := false, list := [], bootList := false, anyOk := false, clockBy := none } }

end Sys2Proof.Machine
end

