-- ==== Sys2Proof/Machine/Timing.lean ====
section
/-!
DEFINITION. The TIME block without PTP: writes of the time bases, pulse generators, capture units
and the cross-check (08_rig_fabric_and_time.md R253, R254, R265 to R268, R270).
-/
namespace Sys2Proof.Machine

/-! ### Instants between MGTCLK edges -/

/-- A value within ±`n` of 0 that the manual leaves open as an accuracy (log entry 17). -/
def slack (r n : Nat) : Int := (r % (2 * n + 1) : Nat) - (n : Int)

/-- Time base `k` at instant `x`, in 2^-32 ns: the value at the last MGTCLK edge and the part of the
cycle that has passed, in steps of `step` time units. -/
def State.tbInstant (s : State) (k x step : Nat) : Nat :=
  let n := s.clk.mgtAt x
  let e := s.mgtInstant n
  let t := s.tb k
  let off := (x - e) / step * step
  if t.run then (t.at n + off * t.eff / s.clk.mgtPer) % tbMod else t.val

/-! ### Pulse generators (R266, R267) -/

/-- Pulse generator `i`. -/
def State.tpo (s : State) (i : Nat) : Tpo := sget (fun _ => {}) s.time.tpos i

/-- Replace pulse generator `i`. -/
def State.setTpo (s : State) (i : Nat) (x : Tpo) : State :=
  { s with time := { s.time with tpos := sput (fun _ => {}) s.time.tpos i x } }

/-- Address of register `off` of pulse generator `i` (R270). -/
def tpoReg (i off : Nat) : Nat := 0x320300 + 0x40 * i + off

/-- The time base that generator `i` follows, `TIME_TPOi_CTRL.TB` (R266). -/
def State.tpoTb (s : State) (i : Nat) : Nat := s.rf (tpoReg i 0) 3 2

/-- Generator `i` is periodic, `TIME_TPOi_CTRL.MODE` (R266). -/
def State.tpoCyclic (s : State) (i : Nat) : Bool := s.rb (tpoReg i 0) 2

/-- Instant of the next edge of a generator, in 2^-32 ns. -/
def Tpo.instant (t : Tpo) : Nat := t.start + t.m * t.per

/-- Why a generator is placed again (R267). -/
inductive Jump where
  | arm | forward | back | none_
  deriving DecidableEq, Repr

/-- Place the next edge of an armed generator (R267). Only arming, a step, a set and a restart make an
instant past: an edge that another increment or another time base puts behind the value fires at the
next MGTCLK edge and is not late. After a step back a periodic generator goes on from the new value itself. A late
edge that is due already stays due. -/
def State.placeTpo (s : State) (i : Nat) (how : Jump) : State :=
  let t := s.tpo i
  let b := s.tb (s.tpoTb i)
  let cyclic := s.tpoCyclic i
  if ¬ t.armed then s
  else if ¬ b.run then s.setTpo i { t with lateAt := none }
  else
    let next := b.at (s.mgt + 1)
    let cur := if how = .back then b.at s.mgt else next
    let m := if t.start < cur then divUp (cur - t.start) t.per else 0
    let late : Bool := how = .arm ∨ how = .forward
    let skip : Bool := cyclic && late && t.m < m
    let t1 :=
      if cyclic ∧ how ≠ .none_ then
        { t with m := m, missed := if skip then min (t.missed + (m - t.m)) (2 ^ 32 - 1) else t.missed }
      else t
    let past : Bool := !cyclic && (if how = .none_ then t.lateAt.isSome else decide (t1.instant < next))
    let t2 := { t1 with lateAt := if past then some (t.lateAt.getD (s.mgt + 2)) else none }
    let s1 := s.setTpo i t2
    if skip then s1.setInt A.TIME_INT_STATUS 5 else s1

/-- The generators of time base `k` are placed again after a change of its value (R267). -/
def State.replaceTpos (s : State) (k : Nat) (how : Jump) : State :=
  (List.range 8).foldl (fun (a : State) i => if a.tpoTb i = k then a.placeTpo i how else a) s

/-- ARM_GO (R266): the start instant, period and width are taken from the registers. -/
def State.armTpo (s : State) (i : Nat) (who : Who) : State :=
  let r := fun (o : Nat) => s.rn (tpoReg i o)
  let start := tbOf (field (r 0x08) 0 16 * 2 ^ 32 + r 0x0C) (field (r 0x10) 0 30) (field (r 0x14) 0 16 * 65536)
  let per := tbOf (r 0x18) (field (r 0x1C) 0 30) (field (r 0x20) 0 16 * 65536)
  let width := r 0x24
  let ctrl := r 0
  let cyclic := ctrl.testBit 2
  let bad : Bool := width < 10 ∨ (cyclic ∧ (per < 100 * nsUnit ∨ per < (width + 10) * nsUnit))
  if bad then s.ignored clsTIME who (tpoReg i 0)
  else
    let t := s.tpo i
    (s.setTpo i { t with armed := true, start := start, per := per, width := width, m := 0
                         lateAt := none }).placeTpo i .arm

/-- DISARM (R266). -/
def State.disarmTpo (s : State) (i : Nat) : State :=
  s.setTpo i { s.tpo i with armed := false, lateAt := none }

/-- A write of `TIME_TPOi_CTRL` (R266). An armed generator follows a new TB or MODE at once: only the
start instant, period and width are a snapshot. -/
def State.tpoCtrlWrite (s : State) (i : Nat) (who : Who) (v : Word) : State :=
  let s1 := s.setRn (tpoReg i 0) (v.toNat &&& (if i ≤ 3 then 0x7C else 0x3C))
  if wbit v 1 then s1.disarmTpo i
  else if wbit v 0 then s1.armTpo i who
  else if s1.tpoTb i = s.tpoTb i then s1
  else s1.placeTpo i .none_

/-- A generator's time base reaches its instant and an edge fires (R266, R267); consumers get the
MGTCLK edge, and generators 0 to 3 make a pulse for their contact. `blocked` holds while a calibration run holds triggers off (R389). -/
def State.tpoFire (s : State) (i : Nat) (blocked : Bool) : State :=
  let t := s.tpo i
  let k := s.tpoTb i
  let b := s.tb k
  let cyclic := s.tpoCyclic i
  if ¬ t.armed ∨ ¬ b.run then s
  else
    let n := match t.lateAt with | some c => c | none => b.reach t.instant
    let s1 := s.goMgt (max n s.mgt)
    let v := (s1.tb k).at s1.mgt
    let onTime : Bool := t.lateAt.isNone && t.instant ≤ v && v < t.instant + b.eff
    let back := if onTime then (v - t.instant) * s1.clk.mgtPer / max 1 b.eff else 0
    let edge := s1.now - back
    let t1 := { t with
      fired := true, count := wrapAdd t.count 1 32, late := t.late || t.lateAt.isSome, lateAt := none
      m := t.m + 1, armed := cyclic
      pulse := if i < 4 then some (edge, edge + t.width * 6912 / 10) else t.pulse }
    let s2 := (s1.setTpo i t1).note (tpoReg i 4) (flag t.lateAt.isSome 1 + 4)
    let s3 := if t.lateAt.isSome then s2.setInt A.TIME_INT_STATUS 4 else s2
    let s4 := if cyclic then s3.placeTpo i .none_ else s3
    (s4.trigger (.tpo i) s4.now blocked).tpoPulse i

/-! ### Time-base registers (R253, R254) -/

/-- Least and greatest increment: 2.375 ns and 2.625 ns (R254). -/
def incOk (n : Nat) : Bool := 0x260000000 ≤ n && n ≤ 0x2A0000000

/-- A write of `TIME_TBk_INC_LO` (R254, R264). -/
def State.tbIncWrite (s : State) (k : Nat) (v : Word) : State :=
  let t := s.tb k
  let inc := s.rn (tbReg k 0x18) * nsUnit + v.toNat
  if ¬ incOk inc then
    let s1 := (s.setRn (tbReg k 0x18) (t.prog / nsUnit)).setRn (tbReg k 0x1C) (t.prog % nsUnit)
    (s1.setInt A.TIME_INT_STATUS 10).warn clsTIME 10 k (inc % 2 ^ 32)
  else
    let s1 := (s.setRn (tbReg k 0x1C) v.toNat).setTb k { t with prog := inc }
    if t.src = .own then ((s1.tbLine k s1.mgt inc).tbIncUse (1 - k)).replaceTpos k .none_ else s1

/-- Give time base `k` a value now. -/
def State.tbJump (s : State) (k v : Nat) : State :=
  let t := s.tb k
  s.setTb k { t with val := v % tbMod, at_ := s.mgt, before := t.eff }

/-- SET_GO (R254). -/
def State.tbSet (s : State) (k : Nat) : State :=
  s.tbJump k (tbOf (field (s.rn (tbReg k 0x28)) 0 16 * 2 ^ 32 + s.rn (tbReg k 0x2C))
    (field (s.rn (tbReg k 0x30)) 0 30) 0)

/-- STEP_GO (R254). -/
def State.tbStep (s : State) (k : Nat) : State :=
  let d := sext (s.rn (tbReg k 0x20)) 32 * (secUnit : Int) + sext (s.rn (tbReg k 0x24)) 32 * (nsUnit : Int)
  s.tbJump k (((s.tbNow k : Int) + d) % (tbMod : Int)).toNat

/-- A write of `TIME_TBk_CTRL` (R253, R254, R267): RUN, then the set, then the step. -/
def State.tbCtrlWrite (s : State) (k : Nat) (v : Word) : State :=
  let t := s.tb k
  let run := wbit v 0
  let old := s.tbNow k
  let s0 := s.setRn (tbReg k 0) (v.toNat &&& (if k ≤ 1 then 9 else 1))
  let s1 := s0.setTb k { t with run := run, val := old, at_ := s.mgt, before := t.eff }
  let s2 := if wbit v 1 then s1.tbSet k else s1
  let s3 := if wbit v 2 then s2.tbStep k else s2
  let new := s3.tbNow k
  let s4 :=
    if run = t.run ∧ ¬ wbit v 1 ∧ ¬ wbit v 2 then s3
    else s3.replaceTpos k (if (run ∧ ¬ t.run) ∨ old < new then .forward else .back)
  if t.run ∧ ¬ run then s4.tbStopped k else s4

/-- A read of `TIME_TBk_SEC_LO` latches the whole value (R254, R436). -/
def State.tbSecLoRead (s : State) (who : Who) (k : Nat) : Nat × State :=
  let t := s.tb k
  let v := s.tbNow k
  let t1 := match who with
    | .host => { t with latch0 := v } | .mc0 => { t with latch1 := v } | .mc1 => { t with latch2 := v }
  (tbSec v % 2 ^ 32, s.setTb k t1)

/-- The value an accessor latched. -/
def TimeBase.latched (t : TimeBase) : Who → Nat
  | .host => t.latch0 | .mc0 => t.latch1 | .mc1 => t.latch2

/-! ### Capture units (R268) -/

/-- Capture unit `x`. -/
def TimeBlk.cap (t : TimeBlk) (x : Nat) : Cap := if x = 0 then t.cap0 else if x = 1 then t.cap1 else t.cap2

/-- Replace capture unit `x`. -/
def State.setCap (s : State) (x : Nat) (c : Cap) : State :=
  { s with time :=
      if x = 0 then { s.time with cap0 := c }
      else if x = 1 then { s.time with cap1 := c }
      else { s.time with cap2 := c } }

/-- Address of register `off` of capture unit `x` (R270). -/
def capReg (x off : Nat) : Nat := 0x320600 + 0x20 * x + off

/-- An edge of input `x` at the contact at instant `at_` (R268): time-stamped in steps of 0.625 ns,
within ±1.5 ns. -/
def State.captureEdge (s : State) (x at_ : Nat) (falling : Bool) : State :=
  let s0 := s.goTo at_
  let ctrl := s0.rn (capReg x 0)
  let sel := field ctrl 3 2
  let hit := ctrl.testBit 0 && (sel = 2 || (sel = 0 && !falling) || (sel = 1 && falling))
  if ¬ hit then s0
  else
    let c := s0.time.cap x
    if 8 ≤ c.queue.length then
      (s0.setCap x { c with ovf := satAdd c.ovf 1 16 }).setInt A.TIME_INT_STATUS 6
    else
      let (r, s1) := s0.draw
      let v := s1.tbInstant (field ctrl 1 2) at_ 432 / 65536
      let e : CapEntry :=
        { val := (((v : Int) + slack r 98304) % ((tbMod / 65536 : Nat) : Int)).toNat, falling := falling }
      let s2 := s1.setCap x { c with queue := c.queue ++ [e] }
      if c.queue = [] then s2.setInt A.TIME_INT_STATUS 7 else s2

/-- A read of `TIME_CAPx_POP` (R268, R436). -/
def State.capturePop (s : State) (who : Who) (x : Nat) : Nat × State :=
  let c := s.time.cap x
  let e := c.queue.head?
  let c1 := { c with queue := c.queue.drop 1 }
  let c2 := match who with
    | .host => { c1 with pop0 := e } | .mc0 => { c1 with pop1 := e } | .mc1 => { c1 with pop2 := e }
  (match e with | some y => tbSec (y.val * 65536) % 2 ^ 32 | none => 0, s.setCap x c2)

/-- The entry an accessor popped last. -/
def Cap.popped (c : Cap) : Who → Option CapEntry
  | .host => c.pop0 | .mc0 => c.pop1 | .mc1 => c.pop2

/-- A write of `TIME_CAPx_CTRL` (R268, R270). -/
def State.capCtrlWrite (s : State) (x : Nat) (v : Word) : State :=
  let s1 := s.setRn (capReg x 0) (v.toNat &&& 0x1F)
  if wbit v 5 then s1.setCap x { s1.time.cap x with queue := [] } else s1

/-! ### Cross-check (R265) -/

/-- A signed difference of two values in 2^-32 ns. -/
def tbDiff (a b : Nat) : Int :=
  let d := (a + tbMod - b) % tbMod
  if d < tbMod / 2 then (d : Int) else (d : Int) - (tbMod : Int)

/-- TB0 passes a whole second while TB0 and TB1 run (R265). -/
def State.xchkSample (s : State) : State :=
  let t0 := s.tb 0
  if ¬ (t0.run ∧ (s.tb 1).run) then s
  else
    let n := t0.reach ((tbSec (s.tbNow 0) + 1) * secUnit)
    let s1 := s.goMgt n
    let d := tbDiff (s1.tbNow 0) (s1.tbNow 1)
    let s2 := { s1 with time := { s1.time with xchk := d, xchkValid := true } }
    if s2.rn A.TIME_XCHK_LIMIT * nsUnit < d.natAbs then
      (s2.setInt A.TIME_INT_STATUS 3).warn clsTIME 3 0 (unsext (d / (nsUnit : Int)) 32)
    else s2

/-! ### Registers (R270) -/

/-- Live registers of a time base. -/
def State.tbRead (s : State) (who : Who) (k off : Nat) : Option Nat :=
  let t := s.tb k
  let v := t.latched who
  match off with
  | 0x00 => some (s.rn (tbReg k 0))
  | 0x04 => some (flag t.run 0 + at_ (if k ≤ 1 then t.src.code else 0) 1 + flag (s.clk.src0 ≠ .pll) 3)
  | 0x08 => some (tbSec v / 2 ^ 32)
  | 0x0C => some (tbSec (s.tbNow k) % 2 ^ 32)
  | 0x10 => some (tbNs v)
  | 0x14 => some (tbFrac v)
  | _ => none

/-- Live registers of a pulse generator. -/
def State.tpoRead (s : State) (i off : Nat) : Option Nat :=
  let t := s.tpo i
  match off with
  | 0x04 => some (flag t.armed 0 + flag t.late 1 + flag t.fired 2)
  | 0x28 => some t.missed
  | 0x2C => some t.count
  | _ => none

/-- Live registers of a capture unit. -/
def State.capRead (s : State) (who : Who) (x off : Nat) : Option Nat :=
  let c := s.time.cap x
  let e := c.popped who
  match off with
  | 0x04 => some (c.queue.length + at_ c.ovf 16)
  | 0x08 => some (match c.queue.head? with | some y => tbSec (y.val * 65536) % 2 ^ 32 | none => 0)
  | 0x0C => some (match e with | some y => tbSec (y.val * 65536) / 2 ^ 32 + flag y.falling 31 | none => 0)
  | 0x10 => some (match e with | some y => tbNs (y.val * 65536) + at_ 1 30 | none => 0)
  | 0x14 => some (match e with | some y => tbFrac (y.val * 65536) | none => 0)
  | _ => none

/-- A write of `TIME_TPOi_STATUS`: LATE and FIRED are RWC. -/
def State.tpoStatusWrite (s : State) (i : Nat) (v : Word) : State :=
  let t := s.tpo i
  let w := s.afterClear (tpoReg i 4) (flag t.late 1 + flag t.fired 2) v.toNat
  s.setTpo i { t with late := w.testBit 1, fired := w.testBit 2 }

end Sys2Proof.Machine
end

