-- ==== Sys2Proof/Machine/FabBase.lean ====
section
/-!
DEFINITION. Fabric frames, egress queues, routes and the sending of control messages
(08_rig_fabric_and_time.md R231 to R239).
-/
namespace Sys2Proof.Machine

/-! ### Bytes of a body (R234) -/

/-- Big-endian field of a body. -/
def fb (b : List Byte) (o n : Nat) : Nat := ofBE ((b.drop o).take n)

/-- Replace bytes of a body. -/
def setBytes (b : List Byte) (o : Nat) (l : List Byte) : List Byte :=
  b.take o ++ l ++ b.drop (o + l.length)

/-- The body with its CRC computed again (R234, R257). -/
def reCrc (b : List Byte) : List Byte :=
  let c := b.take (b.length - 4)
  c ++ beBytes (crc32 c) 4

/-- The CRC of a body holds. -/
def crcOk (b : List Byte) : Bool := crc32 (b.take (b.length - 4)) = fb b (b.length - 4) 4

/-- The length is within the limits of R234. -/
def lenOk (b : List Byte) : Bool := 24 ≤ b.length && b.length ≤ 2080 && b.length % 8 = 0

/-- A frame body (R234): header, message, padding and CRC. -/
def mkFrame (dst src cls msg mid gen : Nat) (payload : List Byte) : List Byte :=
  let n := 16 + payload.length
  let len := max 24 (divUp (n + 4) 8 * 8)
  reCrc (beBytes dst 1 ++ beBytes src 1 ++ beBytes cls 1 ++ beBytes 64 1 ++ beBytes len 2 ++
    beBytes msg 2 ++ beBytes 0 4 ++ beBytes mid 2 ++ beBytes gen 1 ++ beBytes 0 1 ++ payload ++
    List.replicate (len - n) 0)

/-! ### Ports -/

/-- Fabric port `p` (R231). -/
def State.fport (s : State) (p : Nat) : FabPort :=
  if p = 0 then s.fab.port0 else if p = 1 then s.fab.port1 else s.fab.port2

/-- Replace fabric port `p`. -/
def State.setFport (s : State) (p : Nat) (x : FabPort) : State :=
  { s with fab :=
      if p = 0 then { s.fab with port0 := x }
      else if p = 1 then { s.fab with port1 := x }
      else { s.fab with port2 := x } }

/-- Port `p` exists and is UP. -/
def State.portUp (s : State) (p : Nat) : Bool := p < 3 && (s.fport p).state = .up

/-- Ports that are UP. -/
def State.upPorts (s : State) : List Nat := [0, 1, 2].filter s.portUp

/-- MGTCLK cycles in `n` µs at 400 MHz (R279). -/
def mgtUs (n : Nat) : Nat := n * 400

/-- The mode carries class `c` (R238). -/
def State.carries (s : State) (c : Nat) : Bool :=
  match s.sys.mode with
  | .boot | .safe => c ≤ 1
  | _ => c ≤ 3

/-- The fabric may run: firmware has started it (R238) and the quad's link PLL is LOCKED (R233,
R281). -/
def State.fabRuns (s : State) : Bool := s.fab.started && s.locked 17

/-- Port `p` is enabled. -/
def State.portEnabled (s : State) (p : Nat) : Bool := s.rb A.FAB_CTRL (4 + p)

/-- DOWN ports that may train go to TRAIN (R233). -/
def State.fabRefresh (s : State) : State :=
  [0, 1, 2].foldl (fun (a : State) p =>
    let x := a.fport p
    if x.state = .down ∧ a.portEnabled p ∧ a.fabRuns then
      a.setFport p { x with state := .train, since := none, lastInfo := none, infoSent := none }
    else a) s

/-! ### Identity -/

/-- The device's serial number as a number (R409). -/
def State.serialNum (s : State) : Nat := sget (fun _ => 0) s.vlt.shadow 66

/-- `SRC` of the frames the device sends (R234). -/
def Fab.src (f : Fab) : Nat := match f.addr with | some a => a | none => 0x80

/-- Route to address `a`. -/
def Fab.route (f : Fab) (a : Nat) : Route := sget (fun _ => {}) f.routes a

/-- Replace the route to address `a`. -/
def State.setRoute (s : State) (a : Nat) (r : Route) : State :=
  { s with fab := { s.fab with routes := sput (fun _ => {}) s.fab.routes a r } }

/-! ### Queues (R236) -/

/-- Put a time, control or bulk frame in the queue of port `p`; a port that is not UP sends
nothing, so the frame is lost there. -/
def State.enqueue (s : State) (p : Nat) (t : FabTx) : State :=
  let x := s.fport p
  if ¬ s.portUp p then s
  else if t.cls = 0 then s.setFport p { x with timeQ := x.timeQ ++ [t] }
  else if t.cls = 1 then s.setFport p { x with ctlQ := x.ctlQ ++ [t] }
  else s.setFport p { x with bulkQ := x.bulkQ ++ [t] }

/-- A destination without a route is discarded and counted (R235). -/
def State.noRoute (s : State) : State :=
  { s with fab := { s.fab with noRoute := wrapAdd s.fab.noRoute 1 32 } }

/-- Frames of class `cls` in the class buffers of the ports (R237). -/
def State.buffered (s : State) (cls : Nat) : Nat :=
  (([0, 1, 2] : List Nat).map fun p =>
    let x := s.fport p
    (if cls = 1 then x.ctlQ else x.bulkQ).length + (x.unacked.filter (fun u => u.tx.cls = cls)).length).sum

/-- The class buffer is full, so that a received frame is refused (R237). The manual gives its size
nowhere: it holds one frame at least, and beyond that its size is a free value (log entry 18). -/
def State.classFull (s : State) (cls : Nat) : Bool :=
  decide (s.buffered cls ≠ 0) && decide (Config.openValue 18 [cls] ≤ s.buffered cls)

/-- Send a frame to the port of its route (R235). -/
def State.routeTx (s : State) (dst : Nat) (t : FabTx) : State :=
  let r := s.fab.route dst
  if ¬ r.reach ∨ r.active = 3 then s.noRoute else s.enqueue r.active t

/-- Send a frame on every tree port but `except` (R235). -/
def State.treeTx (s : State) (except : Nat) (t : FabTx) : State :=
  (bitsOf s.fab.tree 3).foldl (fun (a : State) p => if p = except then a else a.enqueue p t) s

/-- The next end-to-end identifier (R237). -/
def State.nextMid (s : State) : Nat × State :=
  (s.fab.mid, { s with fab := { s.fab with mid := wrapAdd s.fab.mid 1 16 } })

/-- Send a control message to another device's address (R239). A device without an address sends
only LOCAL frames (R235). -/
def State.sendCtl (s : State) (dst msg : Nat) (payload : List Byte) : State :=
  match s.fab.addr with
  | none => s
  | some a =>
    let (m, s1) := s.nextMid
    s1.routeTx dst { cls := 1, body := mkFrame dst a 1 msg m s.fab.gen payload }

/-- Broadcast a control message on the tree ports. -/
def State.sendBcast (s : State) (msg : Nat) (payload : List Byte) : State :=
  match s.fab.addr with
  | none => s
  | some a =>
    let (m, s1) := s.nextMid
    s1.treeTx 3 { cls := 1, body := mkFrame 0x40 a 1 msg m s.fab.gen payload }

/-- Send a LOCAL control message on port `p`. -/
def State.sendLocal (s : State) (p msg : Nat) (payload : List Byte) : State :=
  let (m, s1) := s.nextMid
  s1.enqueue p { cls := 1, body := mkFrame 0x80 s.fab.src 1 msg m s.fab.gen payload }

/-- A frame in transit with its TTL decremented, or none when it would reach 0 (R235). -/
def stepTtl (b : List Byte) : Option (List Byte) :=
  let t := fb b 3 1
  if t ≤ 1 then none else some (reCrc (setBytes b 3 (beBytes (t - 1) 1)))

/-- A frame whose TTL would reach 0 is discarded and counted (R235). -/
def State.ttlDrop (s : State) : State :=
  { s with fab := { s.fab with ttlDrop := wrapAdd s.fab.ttlDrop 1 32 } }.setInt A.FAB_INT_STATUS 8

end Sys2Proof.Machine
end

