-- ==== Sys2Proof/Machine/Ptp.lean ====
section
/-!
DEFINITION. IEEE 1588 on the fabric: acceptance, the transparent clock, peer delay, path measures
and domain states (08_rig_fabric_and_time.md R256 to R264). The field places inside a PTP message
are those of IEEE 1588-2019 (log entry 19).
-/
namespace Sys2Proof.Machine

/-! ### Message fields -/

/-- The PTP message of a time-class body (it begins at offset 0x10). -/
def ptpMsg (b : List Byte) : List Byte := (b.drop 16).take (fb b 18 2)

/-- messageType. -/
def ptpType (b : List Byte) : Nat := fb b 16 1 % 16

/-- sdoId: majorSdoId and minorSdoId. -/
def ptpSdo (b : List Byte) : Nat := fb b 16 1 / 16 * 256 + fb b 21 1

/-- domainNumber. -/
def ptpDomainNo (b : List Byte) : Nat := fb b 20 1

/-- twoStepFlag: flagField bit 1 of octet 0. -/
def ptpTwoStep (b : List Byte) : Bool := (fb b 22 1).testBit 1

/-- sequenceId. -/
def ptpSeq (b : List Byte) : Nat := fb b 46 2

/-- sourcePortIdentity. -/
def ptpSrc (b : List Byte) : List Byte := (b.drop 36).take 10

/-- correctionField, signed, in 2^-16 ns. -/
def ptpCf (b : List Byte) : Int := sext (fb b 24 8) 64

/-- Add to correctionField. -/
def ptpAddCf (b : List Byte) (d : Int) : List Byte := setBytes b 24 (beBytes (unsext (ptpCf b + d) 64) 8)

/-- `LINKSUM` (R234). -/
def linkSum (b : List Byte) : Int := sext (fb b 8 8) 64

/-- A PTP timestamp of 6 bytes of seconds and 4 of nanoseconds, in 2^-16 ns. -/
def ptpTime (b : List Byte) (o : Nat) : Int := ((fb b o 6 * 1000000000 + fb b (o + 6) 4) * 65536 : Nat)

/-- The timestamp bytes of an instant in tenths of 2^-16 ns: whole nanoseconds, truncated. -/
def ptpTimeBytes (t : Int) : List Byte :=
  let ns := (t / 655360).toNat
  beBytes (ns / 1000000000 % 2 ^ 48) 6 ++ beBytes (ns % 1000000000) 4

/-- What the truncation leaves, in tenths of 2^-16 ns. -/
def ptpRest (t : Int) : Int := t % 655360

/-- Tenths rounded to a whole 2^-16 ns. -/
def tenths (x : Int) : Int := (Q.mk2 x 10).round

/-! ### Registers of a domain and of a port -/

/-- Domain `d`. -/
def State.dom (s : State) (d : Nat) : Domain := if d = 0 then s.time.dom0 else s.time.dom1

/-- Replace domain `d`. -/
def State.setDom (s : State) (d : Nat) (x : Domain) : State :=
  { s with time := if d = 0 then { s.time with dom0 := x } else { s.time with dom1 := x } }

/-- Address of register `off` of domain `d` (R270). -/
def domReg (d off : Nat) : Nat := 0x320100 + 0x40 * d + off

/-- Address of register `off` of PTP port `p` (R270). -/
def ptpReg (p off : Nat) : Nat := 0x320200 + 0x20 * p + off

/-- Peer delay of port `p` and domain `d`. -/
def State.pdelay (s : State) (p d : Nat) : PDelay := sget (fun _ => {}) s.time.pd (2 * p + d)

/-- Replace a peer delay. -/
def State.setPdelay (s : State) (p d : Nat) (x : PDelay) : State :=
  { s with time := { s.time with pd := sput (fun _ => {}) s.time.pd (2 * p + d) x } }

/-- Domain `d` is enabled. -/
def State.domOn (s : State) (d : Nat) : Bool := s.rb (domReg d 0) 8

/-- 2^`log` s in MGTCLK cycles; `log` is a signed 4-bit field. -/
def logCycles (n : Nat) : Nat :=
  let k := sext n 4
  if 0 ≤ k then 400000000 * 2 ^ k.toNat else 400000000 / 2 ^ (-k).toNat

/-! ### Acceptance (R256) -/

/-- The domain whose number and sdoId the message has. -/
def State.ptpDomain (s : State) (b : List Byte) : Option Nat :=
  [0, 1].find? fun d =>
    s.domOn d && s.rf (domReg d 0) 0 8 = ptpDomainNo b && s.rf (domReg d 4) 0 12 = ptpSdo b

/-- The versions and the length are acceptable. -/
def ptpFits (b : List Byte) : Bool :=
  let v := fb b 17 1
  v % 16 = 2 && v / 16 ≤ 1 && 34 ≤ fb b 18 2 && 16 + fb b 18 2 + 4 ≤ b.length

/-- The domain for which the message is accepted. -/
def State.ptpAccept (s : State) (b : List Byte) : Option Nat :=
  match s.ptpDomain b with
  | some d => if ptpFits b then some d else none
  | none => none

/-- Count a discarded message (R256, R257, R270). -/
def State.ptpDrop (s : State) (b : List Byte) : State :=
  let d := (s.ptpDomain b).getD 0
  let x := s.dom d
  s.setDom d { x with e2e := satAdd x.e2e 1 16 }

/-! ### Stamps (R258) -/

/-- A stamp at instant `x` in the time base of domain `d`, in tenths of 2^-16 ns: 2^-16 ns
resolution, ±0.8 ns accuracy. -/
def State.ptpStamp (s : State) (d x : Nat) : Int × State :=
  let (r, s1) := s.draw
  (10 * (((s1.tbInstant d x 1 / 65536 : Nat) : Int) + slack r 52428), s1)

/-- Ingress stamp on port `p` (R258): capture less `TIME_PORTp_CORR.IN`. -/
def State.ingress (s : State) (p d : Nat) : Int × State :=
  let (t, s1) := s.ptpStamp d s.now
  (t - (s.rf (ptpReg p 0) 0 12 * 65536 : Nat), s1)

/-- Egress stamp on port `p` (R258): capture plus `TIME_PORTp_CORR.OUT`. -/
def State.egress (s : State) (p d : Nat) : Int × State :=
  let (t, s1) := s.ptpStamp d s.now
  (t + (s.rf (ptpReg p 0) 16 12 * 65536 : Nat), s1)

/-- Link delay of the ingress port with its asymmetry, in 2^-16 ns (R259). -/
def State.linkDelay (s : State) (p d : Nat) : Int := (s.pdelay p d).mean + sext (s.rn (ptpReg p 4)) 32

/-- Hand a PTP message to MC1 with its stamp, path measure, state and marks (R255, R257, R262); while
MC1 restarts it is discarded and counted (R325). -/
def State.toMc1 (s : State) (d : Nat) (b : List Byte) (stamp path : Int) : State :=
  let x := s.dom d
  let y : PtpDelivery :=
    { msg := ptpMsg b, stamp := stamp, path := path, state := x.state
      suspect := decide (x.state ≠ .qualified), bypass := decide (s.clk.src0 ≠ .pll) }
  if s.sys.core1 = .restarting then s.setDom d { x with e2e := satAdd x.e2e 1 16 }
  else { s with time := { s.time with toMc1 := s.time.toMc1 ++ [y] } }

/-! ### Domain states (R262 to R264) -/

/-- A change of state of domain `d`; `mark` where the table of R263 names DOMd_CHG. -/
def State.domMove (s : State) (d : Nat) (x : Domain) (mark : Bool) : State :=
  let s1 := s.setDom d x
  (if mark then s1.setInt A.TIME_INT_STATUS d else s1).resource

/-- A write of `TIME_DOMd_CFG` (R263): EN set or cleared moves the domain. -/
def State.domCfgWrite (s : State) (d : Nat) (v : Word) : State :=
  let s1 := s.setRn (domReg d 0) (v.toNat &&& 0xFFFFF3FF)
  let x := s1.dom d
  if wbit v 8 ∧ x.state = .disabled then
    s1.domMove d { x with state := .unqualified, ref := none, cnt := 0, sum := 0, lastSync := s1.mgt } false
  else if ¬ wbit v 8 ∧ x.state ≠ .disabled then
    s1.domMove d { x with state := .disabled, ref := none, cnt := 0, sum := 0 } false
  else s1

/-- A Sync is a step (R262): too far from R_ref, or its link delay is not VALID. -/
def State.isStep (s : State) (d port : Nat) (x : Domain) (p : Int) : Bool :=
  let far := match x.ref with
    | some r => (Q.int ((s.rf (domReg d 0x0C) 0 16 * 65536 : Nat) : Int)).lt ((Q.int p).sub r).abs
    | none => false
  far || !(s.pdelay port d).valid

/-- A Sync takes part in the running interval (R262, R263). -/
def State.domCount (s : State) (d : Nat) (x : Domain) (p : Int) : State :=
  let n := x.cnt + 1
  let sum := x.sum + p
  if n < max 4 (s.rf (domReg d 0) 20 8) then s.setDom d { x with cnt := n, sum := sum }
  else
    let mean := Q.mk2 sum n
    let y := { x with cnt := 0, sum := 0, ref := some mean }
    match x.state with
    | .unqualified =>
      if x.ref.isNone then s.setDom d { y with refReg := mean }
      else s.domMove d { y with state := .qualified, refReg := mean } true
    | .disqualified =>
      if x.disqLeft ≤ 1 then
        s.domMove d { y with state := .qualified, disqLeft := 0, refReg := mean } false
      else s.setDom d { y with disqLeft := x.disqLeft - 1 }
    | .qualified => s.setDom d { y with refReg := mean }
    | _ => s.setDom d y

/-- The state machine of R263 at a Sync of path measure `p` on port `port`. -/
def State.domSync (s : State) (d port : Nat) (p : Int) : State :=
  let x0 := s.dom d
  let x := { x0 with last := p, inPort := port, lastSync := s.mgt }
  let step := s.isStep d port x p
  let fresh := { x with ref := none, cnt := 0, sum := 0 }
  match x.state with
  | .disabled => s
  | .lost =>
    (s.domMove d { fresh with state := .unqualified } false).domCount d { fresh with state := .unqualified } p
  | .unqualified => if step then s.setDom d fresh else s.domCount d x p
  | .qualified =>
    if step then
      (s.domMove d { fresh with
        state := .disqualified, disqLeft := 8, disqCnt := wrapAdd x.disqCnt 1 32 } true).warn
          clsTIME d d (unsext p 32)
    else s.domCount d x p
  | .disqualified => if step then s.setDom d { fresh with disqLeft := 8 } else s.domCount d x p

/-- No Sync for LOST_N × 2^SYNC_LOG s (R262): the domain is LOST. -/
def State.domLost (s : State) (d : Nat) : State :=
  let x := s.dom d
  if x.state = .disabled ∨ x.state = .lost then s
  else
    let n := s.rf (domReg d 0) 28 4 * logCycles (s.rf (domReg d 0) 12 4)
    let s1 := s.cycleUp (x.lastSync + n)
    s1.domMove d { x with state := .lost, ref := none, cnt := 0, sum := 0 } true

/-! ### Syncs and Follow_Ups (R257, R259, R260) -/

/-- A Sync of domain `d` enters on port `p` (R259, R262): the body with its new `LINKSUM` and what
its egress needs. -/
def State.syncIn (s : State) (p d : Nat) (b : List Byte) : State × FabTx :=
  let (tin, s1) := s.ingress p d
  let l := s1.linkDelay p d
  let path := linkSum b + l
  let b1 := reCrc (setBytes b 8 (beBytes (unsext path 64) 8))
  let s2 := s1.domSync d p path
  let susp := decide ((s2.dom d).state ≠ .qualified)
  let s3 := (s2.setDom d { s2.dom d with suspect := susp }).toMc1 d b1 (tenths tin) path
  (s3, { cls := 0, body := b1, work := .sync d tin s.mgt l })

/-- A Follow_Up in transit whose entry `e` is. -/
def PtpPend.fits (e : PtpPend) (t : FabTx) : Bool :=
  t.work == .followUp e.domain none && decide (e.seq = ptpSeq t.body) && decide (e.src = ptpSrc t.body)

/-- The first Follow_Up of a queue that entry `e` is of takes its value. -/
def PtpPend.handTo (e : PtpPend) : List FabTx → List FabTx
  | [] => []
  | t :: r => if e.fits t then { t with work := .followUp e.domain (some e.val) } :: r else t :: e.handTo r

/-- A pending entry is evicted (R260). A Follow_Up of it that has arrived, in this cycle or before, and waits at the
port has been matched with it. -/
def State.dropPend (s : State) (e : PtpPend) : State :=
  let x := s.fport e.port
  { s.setFport e.port { x with timeQ := e.handTo x.timeQ } with
    time := { s.time with pend := s.time.pend.erase e } }

/-- Keep a pending entry (R260): the oldest goes when the table of the port and domain is full. -/
def State.pushPend (s : State) (e : PtpPend) : State :=
  let same := fun (x : PtpPend) => x.port = e.port && x.domain = e.domain
  let full : Bool := 16 ≤ (s.time.pend.filter same).length
  let s1 := match s.time.pend.find? same with
    | some o => if full then s.dropPend o else s
    | none => s
  { s1 with time := { s1.time with pend := s1.time.pend ++ [e] } }

/-- A pending entry older than 1 s is evicted (R260): the oldest one. -/
def State.pendEvict (s : State) : State :=
  match s.time.pend with
  | [] => s
  | e :: _ => (s.cycleUp (e.at_ + 400000000)).dropPend e

/-- Own port identity of port `p` (log entry 19): the serial number and p+1. -/
def State.portId (s : State) (p : Nat) : List Byte := beBytes s.serialNum 8 ++ beBytes (p + 1) 2

/-- Header of a PTP message that the device originates (R256): type, length and domain. -/
def State.ptpHead (s : State) (type len d flags cf seq : Nat) (port : Nat) : List Byte :=
  let sdo := s.rf (domReg d 4) 0 12
  beBytes (sdo / 256 * 16 + type) 1 ++ beBytes 0x12 1 ++ beBytes len 2 ++
    beBytes (s.rf (domReg d 0) 0 8) 1 ++ beBytes (sdo % 256) 1 ++ beBytes flags 1 ++ beBytes 0 1 ++
    beBytes cf 8 ++ beBytes 0 4 ++ s.portId port ++ beBytes seq 2 ++ beBytes 5 1 ++ beBytes 0x7F 1

/-- A LOCAL time-class frame with a PTP message. -/
def State.ptpLocal (s : State) (msg : List Byte) : List Byte :=
  let n := 16 + msg.length
  let len := max 24 (divUp (n + 4) 8 * 8)
  reCrc (beBytes 0x80 1 ++ beBytes s.fab.src 1 ++ beBytes 0 1 ++ beBytes 64 1 ++ beBytes len 2 ++
    beBytes 0 2 ++ beBytes 0 8 ++ msg ++ List.replicate (len - n) 0)

/-- The time-stamp work on a time-class frame as it leaves port `p` now (R259 to R261): the body as
sent. -/
def State.ptpOut (s : State) (p : Nat) (t : FabTx) : List Byte × State :=
  let b := t.body
  match t.work with
  | .plain => (b, s)
  | .sync d tin cyc l =>
    let (tout, s1) := s.egress p d
    let res := if (s1.tb d).run then tout - tin else ((s1.mgt - cyc) * 1638400 : Nat)
    let v := tenths (res + 10 * l)
    if ptpTwoStep b then
      let e : PtpPend := { port := p, domain := d, seq := ptpSeq b, src := ptpSrc b, val := v, at_ := s1.mgt }
      (b, s1.pushPend e)
    else (reCrc (ptpAddCf b v), s1)
  | .ownSync d =>
    let (tout, s1) := s.egress p d
    if ptpTwoStep b then (b, s1.toMc1 d b (tenths tout) 0)
    else (reCrc (ptpAddCf (setBytes b 50 (ptpTimeBytes tout)) (tenths (ptpRest tout))), s1)
  | .followUp _ (some v) => (reCrc (ptpAddCf b v), s)
  | .followUp d none =>
    let hit := s.time.pend.find? fun e =>
      e.port = p && e.domain = d && e.seq = ptpSeq b && e.src = ptpSrc b
    match hit with
    | some e => (reCrc (ptpAddCf b e.val), { s with time := { s.time with pend := s.time.pend.erase e } })
    | none =>
      let x := s.dom d
      (b, s.setDom d { x with fuUnmatched := satAdd x.fuUnmatched 1 16 })
  | .pdReq d =>
    let (tout, s1) := s.egress p d
    (b, s1.setPdelay p d { s1.pdelay p d with t1 := some (tenths tout) })
  | .pdResp d oneStep t2 =>
    let (t3, s1) := s.egress p d
    if oneStep then (reCrc (ptpAddCf b (tenths (t3 - t2))), s1)
    else
      let m := s1.ptpHead 0xA 54 d 0 (unsext (tenths (ptpRest t3)) 64) (ptpSeq b) p ++ ptpTimeBytes t3 ++
        (b.drop 60).take 10
      (b, s1.enqueue p { cls := 0, body := s1.ptpLocal m })

/-! ### Peer delay (R261) -/

/-- An exchange is in progress. -/
def PDelay.busy (x : PDelay) : Bool := x.lastReq.isSome && x.turn.isNone

/-- A failed exchange (R261). -/
def State.pdFail (s : State) (p d : Nat) : State :=
  let x := s.pdelay p d
  let c := x.consec + 1
  let y := { x with fails := satAdd x.fails 1 8, consec := c, good := if 3 ≤ c then 0 else x.good
                    valid := x.valid && decide (c < 3), lastReq := none
                    t1 := none, t2 := none, t3 := none, t4 := none, turn := none }
  let s1 := s.setPdelay p d y
  if x.valid ∧ ¬ y.valid then s1.setInt A.TIME_INT_STATUS 8 else s1

/-- The next request of a port and domain is due (R261). While an exchange is incomplete the cycle in which it is due
passes first: a response that arrives in it counts. -/
def State.pdDue (s : State) (p d : Nat) : State :=
  match (s.pdelay p d).lastReq with
  | some c =>
    let n := c + logCycles (s.rf (domReg d 0) 16 4)
    if (s.pdelay p d).busy then s.cycleUp n else s.goMgt n
  | none => s

/-- The next request is due and the exchange is incomplete (R261). -/
def State.pdTimeout (s : State) (p d : Nat) : State :=
  if (s.pdelay p d).busy then (s.pdDue p d).pdFail p d else s

/-- Send a Pdelay_Req (R261). -/
def State.pdSend (s : State) (p d : Nat) : State :=
  if ¬ (s.portUp p ∧ s.domOn d ∧ d < 2) then s
  else
    let s0 := s.pdDue p d
    let s1 := if (s0.pdelay p d).busy then s0.pdFail p d else s0
    let x := s1.pdelay p d
    let seq := wrapAdd x.seq 1 16
    let s2 := s1.setPdelay p d { x with
      seq := seq, lastReq := some s1.mgt, t1 := none, t2 := none, t3 := none, t4 := none, turn := none }
    let m := s2.ptpHead 2 54 d 0 0 seq p ++ List.replicate 20 0
    s2.enqueue p { cls := 0, body := s2.ptpLocal m, work := .pdReq d }

/-- Answer an accepted Pdelay_Req (R261). -/
def State.pdAnswer (s : State) (p d : Nat) (b : List Byte) : State :=
  let (t2, s1) := s.ingress p d
  let one := s1.rb (domReg d 0) 9
  let flags := if one then 0 else 2
  let cf := if one then 0 else unsext (-(tenths (ptpRest t2))) 64
  let m := s1.ptpHead 3 54 d flags cf (ptpSeq b) p ++
    (if one then List.replicate 10 0 else ptpTimeBytes t2) ++ ptpSrc b
  s1.enqueue p { cls := 0, body := s1.ptpLocal m, work := .pdResp d one t2 }

/-- The exchange is complete (R261): rate ratio, result, mean of the last 8. -/
def State.pdComplete (s : State) (p d : Nat) : State :=
  let x := s.pdelay p d
  match x.t1, x.t4, x.turn with
  | some t1, some t4, some turn =>
    let pairs := match x.t3 with | some t3 => ((t1, t3) :: x.pairs).take 9 | none => x.pairs
    let ratio := match x.t3, pairs.getLast? with
      | some t3, some (a1, a3) =>
        if pairs.length = 9 ∧ t1 ≠ a1 then
          (Q.mk2 ((t3 - a3 - (t1 - a1)) * (2 ^ 40 : Nat)) ((t1 - a1).natAbs)).round
        else x.ratio
      | _, _ => x.ratio
    let res := (((Q.int (t4 - t1)).mul (Q.mk2 ((2 ^ 40 : Nat) + ratio) (2 ^ 40))).sub (Q.int turn)).divN 2
    let hist := (res :: x.hist).take 8
    let good := min 8 (x.good + 1)
    s.setPdelay p d { x with
      hist := hist, pairs := pairs, ratio := ratio, mean := ((Q.sum hist).divN hist.length).round
      good := good, consec := 0, valid := x.valid || decide (8 ≤ good) }
  | _, _, _ => s

/-- A Pdelay_Resp arrives (R261). -/
def State.pdResp (s : State) (p d : Nat) (b : List Byte) : State :=
  let x := s.pdelay p d
  let mine : Bool := x.busy && x.t1.isSome && ptpSeq b = x.seq && (b.drop 60).take 10 = s.portId p
  if ¬ mine then s
  else
    let (t4, s1) := s.ingress p d
    if ptpTwoStep b then
      s1.setPdelay p d { x with t4 := some (tenths t4), t2 := some (ptpTime b 50 - ptpCf b) }
    else (s1.setPdelay p d { x with t4 := some (tenths t4), turn := some (ptpCf b) }).pdComplete p d

/-- A Pdelay_Resp_Follow_Up arrives and completes the exchange (R261). -/
def State.pdFollow (s : State) (p d : Nat) (b : List Byte) : State :=
  let x := s.pdelay p d
  let mine : Bool := x.busy && ptpSeq b = x.seq && (b.drop 60).take 10 = s.portId p
  match x.t2 with
  | some t2 =>
    if mine then
      let t3 := ptpTime b 50 + ptpCf b
      (s.setPdelay p d { x with t3 := some t3, turn := some (t3 - t2) }).pdComplete p d
    else s
  | none => s

/-- The port goes DOWN: its link delays become invalid (R261). -/
def State.pdDown (s : State) (p : Nat) : State :=
  [0, 1].foldl (fun (a : State) d =>
    let x := a.pdelay p d
    let a1 := a.setPdelay p d { x with
      valid := false, good := 0, consec := 0, lastReq := none, t1 := none, t2 := none, t3 := none
      t4 := none, turn := none, hist := [], pairs := [] }
    if x.valid then a1.setInt A.TIME_INT_STATUS 8 else a1) s

/-! ### A time-class frame arrives (R257) -/

/-- Handle an accepted or discarded time-class frame on port `p`. Port 3 stands for a message that
MC1 firmware sends: it is not delivered here. A device without an address sends and delivers only LOCAL frames
(R235). -/
def State.ptpReceive (s : State) (p : Nat) (b : List Byte) : State :=
  let dst := fb b 0 1
  let local_ : Bool := dst.testBit 7
  let bcast : Bool := dst.testBit 6 && !local_
  let own : Bool := p = 3
  match s.ptpAccept b with
  | none => s.ptpDrop b
  | some d =>
    let pass := fun (a : State) (t : FabTx) =>
      if local_ then a
      else if own then a.treeTx 3 t
      else
        match stepTtl t.body with
        | none => a.ttlDrop
        | some b1 =>
          if bcast then a.treeTx p { t with body := b1 }
          else if some (dst % 64) = a.fab.addr then a
          else a.routeTx (dst % 64) { t with body := b1 }
    let here : Bool := local_ || (bcast && s.fab.addr.isSome) || some (dst % 64) = s.fab.addr
    if (bcast ∧ ¬ own ∧ ¬ s.fab.tree.testBit p) ∨ (¬ local_ ∧ s.fab.addr.isNone) then s
    else
      match ptpType b with
      | 0x0 =>
        if own then
          pass s { cls := 0, body := reCrc (setBytes b 8 (beBytes 0 8)), work := .ownSync d }
        else
          let (s1, t) := s.syncIn p d b
          pass s1 t
      | 0x8 =>
        let s1 := if own ∨ ¬ here then s else s.toMc1 d b 0 0
        pass s1 { cls := 0, body := b, work := if own then .plain else .followUp d none }
      | 0xB | 0xC | 0xD =>
        let s1 := if own ∨ ¬ here then s else s.toMc1 d b 0 0
        pass s1 { cls := 0, body := b }
      | 0x2 => if local_ ∧ ¬ own then s.pdAnswer p d b else s
      | 0x3 => if local_ ∧ ¬ own then s.pdResp p d b else s
      | 0xA => if local_ ∧ ¬ own then s.pdFollow p d b else s
      | _ => s.ptpDrop b

/-! ### Registers (R270) -/

/-- Live registers of a domain. -/
def State.domRead (s : State) (d off : Nat) : Option Nat :=
  let x := s.dom d
  match off with
  | 0x08 => some (x.state.code + flag x.suspect 3 + at_ x.disqLeft 4 + at_ x.inPort 8)
  | 0x10 => some (unsext (x.refReg.divN 256).floor 32)
  | 0x14 => some (unsext (x.last / 256) 32)
  | 0x18 => some x.disqCnt
  | 0x1C => some (x.e2e + at_ x.fuUnmatched 16)
  | _ => none

/-- Live registers of a PTP port. -/
def State.ptpPortRead (s : State) (p off : Nat) : Option Nat :=
  let a := s.pdelay p 0
  let b := s.pdelay p 1
  match off with
  | 0x08 => some (unsext a.mean 32)
  | 0x0C => some (unsext b.mean 32)
  | 0x10 => some (unsext a.ratio 32)
  | 0x14 => some (unsext b.ratio 32)
  | 0x18 => some (a.fails + at_ b.fails 8 + flag a.valid 16 + flag b.valid 17)
  | _ => none

/-- Live TIME registers (R270). -/
def State.timeRead (s : State) (who : Who) (a : Nat) : Option Nat :=
  let o := a - 0x320000
  if o < 0x100 then s.tbRead who (o / 64) (o % 64)
  else if o < 0x180 then s.domRead ((o - 0x100) / 64) ((o - 0x100) % 64)
  else if 0x200 ≤ o ∧ o < 0x260 then s.ptpPortRead ((o - 0x200) / 32) ((o - 0x200) % 32)
  else if 0x300 ≤ o ∧ o < 0x500 then s.tpoRead ((o - 0x300) / 64) ((o - 0x300) % 64)
  else if 0x600 ≤ o ∧ o < 0x660 then s.capRead who ((o - 0x600) / 32) ((o - 0x600) % 32)
  else if a = A.TIME_STATUS then some (flag (s.clk.src0 = .ref) 0 + flag (s.clk.src0 = .osc) 1)
  else if a = A.TIME_XCHK_NS then some (unsext (s.time.xchk / (nsUnit : Int)) 32)
  else if a = A.TIME_XCHK_FRAC then
    some ((s.time.xchk % (nsUnit : Int)).toNat / 65536 + flag s.time.xchkValid 31)
  else none

/-- Writes of TIME registers with behaviour of their own. -/
def State.timeWrite (s : State) (who : Who) (a : Nat) (v : Word) : Option State :=
  let o := a - 0x320000
  if o < 0x100 then
    match o % 64 with
    | 0x00 => some (s.tbCtrlWrite (o / 64) v)
    | 0x1C => some (s.tbIncWrite (o / 64) v)
    | _ => none
  else if o = 0x100 ∨ o = 0x140 then some (s.domCfgWrite ((o - 0x100) / 64) v)
  else if 0x300 ≤ o ∧ o < 0x500 ∧ o % 64 = 0 then some (s.tpoCtrlWrite ((o - 0x300) / 64) who v)
  else if 0x300 ≤ o ∧ o < 0x500 ∧ o % 64 = 4 then some (s.tpoStatusWrite ((o - 0x300) / 64) v)
  else if o = 0x600 ∨ o = 0x620 ∨ o = 0x640 then some (s.capCtrlWrite ((o - 0x600) / 32) v)
  else none

end Sys2Proof.Machine
end

