-- ==== Sys2Proof/Machine/Rig.lean ====
section
/-!
DEFINITION. Rig commits: the originator and the target (04_plans.md R135 to R137; the messages of
08_rig_fabric_and_time.md R239).
-/
namespace Sys2Proof.Machine

/-- All 64 bits of a mask that are in `a` and not in `b`. -/
def maskLess (a b : Nat) : Nat := a - (a &&& b)

/-- The originator's state after an answer or a timeout (R137). -/
def State.rigCheck (s : State) : State :=
  let r := s.plan.rig
  if ¬ r.run then s
  else if maskLess r.targets (r.nak ||| r.done ||| r.fail) = 0 then
    { s with plan := { s.plan with rig :=
      { r with run := false, wait := false, state := if r.timedOut then .timeout else .complete } } }.setInt
        A.PLAN_INT_STATUS 4
  else if r.wait ∧ maskLess r.targets (r.ack ||| r.nak ||| r.fail) = 0 then
    { s with plan := { s.plan with rig := { r with wait := false, state := .waitDone } } }
  else s

/-- Target `a`'s bit when it is a target of the rig commit in progress. -/
def Rig.bitOf (r : Rig) (a : Nat) : Nat := if r.run ∧ r.targets.testBit a then 2 ^ a else 0

/-- Targets whose acknowledgement, or completion, is still missing (R137). -/
def Rig.missing (r : Rig) (ack : Bool) : Nat :=
  if ack then maskLess r.targets (r.ack ||| r.nak ||| r.fail) else maskLess r.ack (r.done ||| r.fail)

/-- The missing targets are timed out (R137). -/
def State.rigLate (s : State) (ack : Bool) : State :=
  let r := s.plan.rig
  let m := r.missing ack
  if m = 0 then s
  else { s with plan := { s.plan with rig := { r with fail := r.fail ||| m, timedOut := true } } }.rigCheck

/-- The rig commit now with its timeout noted (R9). -/
def State.rigNote (s : State) (ack : Bool) : State :=
  let x : RigLapse := { at_ := s.mgt, ack := ack, rig := s.plan.rig, int := (s.rn A.PLAN_INT_STATUS).testBit 4 }
  { s with plan := { s.plan with rigLapse := some x } }

/-- An answer `f` reaches the originator: in the cycle of a timeout it counts as having come before
it (R9, R137). -/
def State.rigAnswered (s : State) (f : State → State) : State :=
  match s.plan.rigLapse with
  | some x =>
    if x.at_ = s.mgt then
      let s1 := { s with plan := { s.plan with rig := x.rig } }
      ((f (if x.int then s1 else s1.dropInt A.PLAN_INT_STATUS 4)).rigNote x.ack).rigLate x.ack
    else f s
  | none => f s

/-- The acknowledgement of target `a` changes the masks (R137). -/
def State.rigAckTake (a result : Nat) (s : State) : State :=
  let r := s.plan.rig
  let b := r.bitOf a
  if b = 0 ∨ (r.ack ||| r.nak ||| r.fail).testBit a then s
  else if result = 1 then
    { s with plan := { s.plan with rig := { r with ack := r.ack ||| b } } }.rigCheck
  else { s with plan := { s.plan with rig := { r with nak := r.nak ||| b } } }.rigCheck

/-- The originator receives an acknowledgement from target `a` (R137). -/
def State.rigAck (s : State) (a result : Nat) : State := s.rigAnswered (State.rigAckTake a result)

/-- The completion of target `a` changes the masks (R137). -/
def State.rigDoneTake (a result : Nat) (s : State) : State :=
  let r := s.plan.rig
  let b := r.bitOf a
  if b = 0 ∨ ¬ r.ack.testBit a ∨ (r.done ||| r.fail).testBit a then s
  else if result = 1 then
    { s with plan := { s.plan with rig := { r with done := r.done ||| b } } }.rigCheck
  else { s with plan := { s.plan with rig := { r with fail := r.fail ||| b } } }.rigCheck

/-- The originator receives a completion from target `a` (R137). -/
def State.rigDone (s : State) (a result : Nat) : State := s.rigAnswered (State.rigDoneTake a result)

/-- Send one answer of the target side (R136); an answer to the device itself stays in it. -/
def State.rigSend (s : State) (x : RigAnswer) : State :=
  let own : Bool := s.fab.addr = some x.origin
  if x.done then
    if own then s.rigDone x.origin x.result
    else s.sendCtl x.origin 0x12
      (beBytes x.result 1 ++ beBytes x.cause 1 ++ beBytes x.epoch 4 ++ beBytes x.first 4)
  else if own then s.rigAck x.origin x.result
  else s.sendCtl x.origin 0x11 (beBytes x.result 1 ++ beBytes x.cause 1)

/-- Send every answer that is owed, oldest first (R136). -/
def State.rigFlush (s : State) : State :=
  s.plan.rigOut.foldl (fun (a : State) x => a.rigSend x) { s with plan := { s.plan with rigOut := [] } }

/-- The acknowledgement of a rig commit from `origin` (R136). -/
def State.rigReply (s : State) (origin result cause : Nat) : State :=
  s.rigSend { origin := origin, done := false, result := result, cause := cause, epoch := 0, first := 0 }

/-- A target handles a rig commit message (R136). A refusal is entered in its ledger
(`PLAN_COMMIT_STATUS` and ledger, R138). -/
def State.rigTarget (s : State) (origin bank tb sec ns id : Nat) : State :=
  let s0 := { s with plan := { s.plan with writer := 3, cancelLate := false } }
  let s1 :=
    if (s0.plan.bank bank).idWord ≠ id then s0.commitResult 2 18
    else s0.commitRequest bank 2 tb 0 sec ns (s0.seqEdge s0.now) (some origin)
  let taken : Bool := s.plan.commit.isNone && s1.plan.commit.isSome
  if taken then s1.rigReply origin 1 0
  else
    (s1.warn clsPLAN 3 bank s1.plan.cause).rigReply origin (if s1.plan.result = 3 then 3 else 2) s1.plan.cause

/-- A received RIG_COMMIT (R239). -/
def State.rigCommitMsg (s : State) (b : List Byte) : State :=
  s.rigTarget (fb b 1 1 % 64) (fb b 16 1 % 2) (fb b 17 1 % 4) (fb b 18 6) (fb b 24 4) (fb b 28 4)

/-- A received RIG_CANCEL (R137): the target applies R130 to the rig commit of that originator. -/
def State.rigCancelAt (s : State) (origin : Nat) : State :=
  match s.plan.commit with
  | some c => if c.origin = some origin then s.commitCancel.rigFlush else s
  | none => s

/-- GO of `PLAN_RIG_CTRL` (R135). -/
def State.rigGo (s : State) : State :=
  let sec := s.rn A.PLAN_COMMIT_SEC_HI % 65536 * 2 ^ 32 + s.rn A.PLAN_COMMIT_SEC_LO
  let ns := s.rf A.PLAN_COMMIT_NS 0 30
  let tb := s.rf A.PLAN_RIG_CTRL 1 2
  let bank := s.rf A.PLAN_RIG_CTRL 3 1
  let id := s.rn A.PLAN_RIG_ID
  let late : Bool := tbOf sec ns 0 < s.tbNow tb + 1000000 * nsUnit
  if late ∨ 999999999 < ns ∨ s.plan.rig.run then
    { s with plan := { s.plan with rig := { s.plan.rig with state := .refused } } }
  else
    let targets := s.rn A.PLAN_RIG_TARGET0 + s.rn A.PLAN_RIG_TARGET1 * 2 ^ 32
    let r : Rig := { state := .waitAck, targets := targets, run := true, wait := true, goAt := s.mgt
                     tb := tb, sec := sec, ns := ns }
    let s1 := { s with plan := { s.plan with rig := r, rigLapse := none } }
    ((bitsOf targets 64).foldl (fun (a : State) t =>
      if a.fab.addr = some t then a.rigTarget t bank tb sec ns id
      else a.sendCtl t 0x10 (beBytes bank 1 ++ beBytes tb 1 ++ beBytes sec 6 ++ beBytes ns 4 ++ beBytes id 4))
      s1).rigCheck

/-- CANCEL of `PLAN_RIG_CTRL` (R137). -/
def State.rigCancel (s : State) : State :=
  let r := s.plan.rig
  if ¬ r.run then s
  else
    (bitsOf (maskLess r.ack (r.done ||| r.fail)) 64).foldl (fun (a : State) t =>
      if a.fab.addr = some t then a.rigCancelAt t else a.sendCtl t 0x13 []) s

/-- A write of `PLAN_RIG_CTRL` (R135, R137): CANCEL first, then GO (log entry 9). -/
def State.rigCtrlWrite (s : State) (v : Word) : State :=
  let s1 := s.setRn A.PLAN_RIG_CTRL (v.toNat &&& 0xE)
  let s2 := if wbit v 4 then s1.rigCancel else s1
  if wbit v 0 then s2.rigGo else s2

/-- Cycle at which completions are timed out: 10 ms after the instant (R137). -/
def State.rigDeadline (s : State) : Nat :=
  let r := s.plan.rig
  (s.tb r.tb).reach (tbOf r.sec r.ns 0 + 10000000 * nsUnit)

/-- RIG_COMMIT_TIMEOUT (R137): acknowledgements missing 10 ms after GO, or completions missing
10 ms after the instant. -/
def State.rigTimeout (s : State) : State :=
  let r := s.plan.rig
  if ¬ r.run then s
  else if r.missing true ≠ 0 then
    ((s.goMgt (max s.mgt (r.goAt + mgtUs 10000))).rigNote true).rigLate true
  else if r.missing false ≠ 0 ∧ (s.tb r.tb).run then
    ((s.goMgt (max s.mgt s.rigDeadline)).rigNote false).rigLate false
  else s

end Sys2Proof.Machine
end

