-- ==== Sys2Proof/Machine/Discovery.lean ====
section
/-!
DEFINITION. Discovery, addresses, tables and the broadcast tree
(08_rig_fabric_and_time.md R240 to R247). The order of probes and assigns and the use of the PATH
field are those of log entry 18.
-/
namespace Sys2Proof.Machine

/-! ### The graph -/

/-- The node of serial number `n`. -/
def Disc.node (d : Disc) (n : Nat) : Option DiscNode := d.nodes.find? (fun x => x.serial = n)

/-- Change the node of serial number `n`. -/
def Disc.mod (d : Disc) (n : Nat) (f : DiscNode → DiscNode) : Disc :=
  { d with nodes := d.nodes.map (fun x => if x.serial = n then f x else x) }

/-- Insert a link in port order; a port has one link. -/
def addLink (l : List (Nat × Nat × Nat)) (x : Nat × Nat × Nat) : List (Nat × Nat × Nat) :=
  let m := l.filter (fun y => y.1 ≠ x.1)
  m.filter (fun y => y.1 < x.1) ++ x :: m.filter (fun y => x.1 < y.1)

/-- Record the link between port `p` of `a` and port `q` of `b` at both ends. -/
def Disc.link (d : Disc) (a p b q : Nat) : Disc :=
  (d.mod a (fun x => { x with links := addLink x.links (p, b, q) })).mod b
    (fun x => { x with links := addLink x.links (q, a, p) })

/-- Remove the link at port `p` of `a` from both ends (R245). -/
def Disc.cut (d : Disc) (a p : Nat) : Disc :=
  match d.node a with
  | none => d
  | some x =>
    match x.links.find? (fun y => y.1 = p) with
    | none => d
    | some (_, b, q) =>
      (d.mod a (fun y => { y with links := y.links.filter (fun z => z.1 ≠ p) })).mod b
        (fun y => { y with links := y.links.filter (fun z => z.1 ≠ q) })

/-- One step of a breadth-first search: the neighbours of the devices at distance `k` that are
not yet listed. -/
def bfsStep (ns : List DiscNode) (k : Nat) (l : List (Nat × Nat)) : List (Nat × Nat) :=
  l.foldl (fun acc x =>
    if x.2 ≠ k then acc
    else
      match ns.find? (fun n => n.serial = x.1) with
      | none => acc
      | some n => n.links.foldl (fun acc y =>
          if acc.any (fun z => z.1 = y.2.1) ∨ ns.all (fun m => m.serial ≠ y.2.1) then acc
          else acc ++ [(y.2.1, k + 1)]) acc) l

/-- Distances in hops from `start` among the devices `ns`. -/
def bfs (ns : List DiscNode) (start : Nat) : List (Nat × Nat) :=
  (List.range 64).foldl (fun l k => bfsStep ns k l)
    (if ns.any (fun n => n.serial = start) then [(start, 0)] else [])

/-- The distance of serial number `n` in a search result. -/
def distOf (l : List (Nat × Nat)) (n : Nat) : Option Nat := (l.find? (fun x => x.1 = n)).map (·.2)

/-- Devices that take part in routing: those with an address (R242). -/
def Disc.routed (d : Disc) : List DiscNode := d.nodes.filter (fun n => n.addr.isSome)

/-- Lengths of the shortest paths from `x` that leave by each of its ports, per destination: port
and distances from the neighbour with `x` removed (R243). -/
def Disc.leaving (d : Disc) (x : DiscNode) : List (Nat × List (Nat × Nat)) :=
  let rest := d.routed.filter (fun n => n.serial ≠ x.serial)
  x.links.map fun y => (y.1, bfs rest y.2.1)

/-- The best port of a list and its path length, lowest port first among equals. -/
def bestPort (l : List (Nat × List (Nat × Nat))) (dest : Nat) : Option (Nat × Nat) :=
  l.foldl (fun b x =>
    match distOf x.2 dest with
    | none => b
    | some k => match b with
      | none => some (x.1, k + 1)
      | some (_, m) => if k + 1 < m then some (x.1, k + 1) else b) none

/-- The route of device `x` to destination `dest` (R243). -/
def routeTo (l : List (Nat × List (Nat × Nat))) (dest : Nat) : Route :=
  match bestPort l dest with
  | none => {}
  | some (p, h) =>
    let alt := match bestPort (l.filter (fun x => x.1 ≠ p)) dest with
      | some (q, _) => q
      | none => 3
    { prim := p, alt := alt, active := p, reach := true, hops := min h 63 }

/-- All routes of device `x`: address and route (R243). -/
def Disc.routesOf (d : Disc) (x : DiscNode) : List (Nat × Route) :=
  let l := d.leaving x
  (List.range 64).filterMap fun a =>
    match d.nodes.find? (fun n => n.addr = some a) with
    | none => none
    | some n =>
      let r := routeTo l n.serial
      if n.serial = x.serial ∨ r = {} then none else some (a, r)

/-- Port of `x` to its parent in the tree (R243): the neighbour with the fewest hops to the root,
the lowest address among equals; 3 at the root. -/
def Disc.parentPort (d : Disc) (hops : List (Nat × Nat)) (x : DiscNode) : Nat :=
  let up := fun (y : Nat × Nat × Nat) => match distOf hops y.2.1 with
    | some k => k * 64 + (((d.node y.2.1).bind (·.addr)).getD 63)
    | none => 64 * 64
  match distOf hops x.serial with
  | some 0 | none => 3
  | _ =>
    (x.links.foldl (fun (b : Nat × Nat) y => if up y < b.2 then (y.1, up y) else b) (3, 64 * 64)).1

/-- Tree ports of `x` as a mask (R243): its parent port and the ports to its children. -/
def Disc.treeOf (d : Disc) (hops : List (Nat × Nat)) (x : DiscNode) : Nat :=
  let p := d.parentPort hops x
  let kids := x.links.filter fun y =>
    match d.node y.2.1 with
    | some n => n.addr.isSome && d.parentPort hops n = y.2.2
    | none => false
  maskOf ((if p = 3 then [] else [p]) ++ kids.map (·.1))

/-! ### Applying tables (R243) -/

/-- A device applies an address, routes and tree ports at once. -/
def State.applyTables (s : State) (addr gen root tree parent : Nat) (routes : List (Nat × Route)) : State :=
  { s with fab := { s.fab with
      addr := some addr, gen := gen, rootAddr := root, tree := tree, parent := parent
      routes := routes, partitioned := false } }.setInt A.FAB_INT_STATUS 4

/-- Routes of an ASSIGN (R239). -/
def assignRoutes (b : List Byte) : List (Nat × Route) :=
  (List.range 64).filterMap fun a =>
    let v := fb b (20 + 2 * a) 1
    let p := v % 4
    let r : Route := { prim := p, alt := v / 4 % 4, active := p, reach := decide (p ≠ 3)
                       hops := fb b (21 + 2 * a) 1 % 64 }
    if r = {} then none else some (a, r)

/-- Re-send a LOCAL discovery message on port `p` with part of its body replaced (R235, R240). -/
def State.resendLocal (s : State) (p : Nat) (b : List Byte) : State :=
  s.enqueue p { cls := 1, body := reCrc b }

/-- Hop `i` of a path field. -/
def hopOf (path i : Nat) : Nat := field path (2 * i) 2

/-- The PATH of a message along `l` (its first port is used by the root): the hop after the root is
the highest, unused hops are 3. -/
def probePath (l : List Nat) : Nat :=
  ((List.range 64).map fun i => at_ (if i + 1 < l.length then l.getD (l.length - 1 - i) 3 else 3) (2 * i)).sum

/-- HOPS of an ASSIGN that is sent hop by hop: it and PATH follow ROUTE (log entry 18); 0 in one that ends
with ROUTE. -/
def assignHops (b : List Byte) : Nat := if 169 ≤ b.length then fb b 148 1 else 0

/-- A received ASSIGN (R243): one that has hops left goes on along its path as a LOCAL frame (R235). A root
takes no other root's tables. -/
def State.assignMsg (s : State) (b : List Byte) : State :=
  let hops := assignHops b
  if hops ≠ 0 then
    s.resendLocal (hopOf (fb b 149 16) (hops - 1)) (setBytes b 148 (beBytes (hops - 1) 1))
  else if s.fab.role = .root then s
  else
    let root := fb b 18 1 % 64
    let t := fb b 19 1
    let s1 := s.applyTables (fb b 16 1 % 64) (fb b 17 1) root (t % 8) (t / 16 % 4) (assignRoutes b)
    ({ s1 with fab := { s1.fab with role := .member } }).sendCtl root 0x04 ((b.drop 16).take 2)

/-- Body of the ASSIGN for a device (R239). -/
def State.assignBody (s : State) (x : DiscNode) : List Byte :=
  let d := s.fab.disc
  let hops := bfs d.routed s.serialNum
  let rs := d.routesOf x
  beBytes (x.addr.getD 0) 1 ++ beBytes s.fab.gen 1 ++ beBytes (s.fab.addr.getD 0) 1 ++
    beBytes (d.treeOf hops x + 16 * d.parentPort hops x) 1 ++
    ((List.range 64).map fun a =>
      let r := sget (fun _ => ({} : Route)) rs a
      beBytes (r.prim + 4 * r.alt) 1 ++ beBytes r.hops 1).flatten

/-- Ports to leave by on the way from the root to device `n`, found backwards over at most `k` hops: each
step goes to a neighbour that is one hop nearer to the root. -/
def Disc.pathTo (d : Disc) (hops : List (Nat × Nat)) : Nat → Nat → List Nat
  | 0, _ => []
  | k + 1, n =>
    match d.node n, distOf hops n with
    | some x, some (h + 1) =>
      match x.links.find? (fun y => distOf hops y.2.1 = some h) with
      | some (_, m, q) => d.pathTo hops k m ++ [q]
      | none => []
    | _, _ => []

/-- The path from the root to device `n` over the links known now. -/
def State.rootPath (s : State) (n : Nat) : List Nat :=
  let d := s.fab.disc
  d.pathTo (bfs d.nodes s.serialNum) 64 n

/-- The ASSIGN that waits for its ASSIGN_ACK is sent as a LOCAL frame along the path to its device, which
may hold no address or another one (R235, R242; log entry 18); without any left, discovery ends (R244). -/
def State.assignSend (s : State) : State :=
  let d := s.fab.disc
  match d.assign with
  | a :: _ =>
    match d.nodes.find? (fun n => n.addr = some a) with
    | none => s
    | some n =>
      let s1 := { s with fab := { s.fab with disc := { d with tries := d.tries + 1 } } }
      match s.rootPath n.serial with
      | [] => s1
      | p :: r => s1.sendLocal p 0x03 (s.assignBody n ++ beBytes r.length 1 ++ beBytes (probePath (p :: r)) 16)
  | [] =>
    let s1 := { s with fab := { s.fab with disc := { d with busy := false, failed := false } } }
    if d.failed then s1.setInt A.FAB_INT_STATUS 3
    else if d.busy then s1.setInt A.FAB_INT_STATUS 2
    else s1

/-- The first waiting ASSIGN is done with. -/
def State.assignPop (s : State) (lost : Bool) : State :=
  let d := s.fab.disc
  { s with fab := { s.fab with disc :=
    { d with assign := d.assign.drop 1, tries := 0, failed := d.failed || lost } } }.assignSend

/-- ASSIGN_ACK at the root (R244). -/
def State.assignAck (s : State) (b : List Byte) : State :=
  if s.fab.role = .root ∧ s.fab.disc.assign.head? = some (fb b 16 1) ∧ fb b 17 1 = s.fab.gen then
    s.assignPop false
  else s

/-- An ASSIGN attempt times out at the root (R244). The manual gives no interval; an ASSIGN_ACK of the cycle of its
end wins (R9). -/
def State.assignTimeout (s : State) : State :=
  if s.fab.role ≠ .root ∨ s.fab.disc.assign = [] then s
  else if s.fab.disc.tries < 8 then (s.cycleUp s.mgt).assignSend
  else (s.cycleUp s.mgt).assignPop true

/-! ### Addresses and tables at the root (R242, R243) -/

/-- The lowest address that is not in use. -/
def lowestFree (used : List Nat) : Option Nat := (List.range 64).find? (fun a => !used.contains a)

/-- Addresses that devices keep, in the order found (R242). -/
def keepAddrs (own : Nat) (l : List DiscNode) : List DiscNode :=
  (l.foldl (fun (acc : List Nat × List DiscNode) n =>
    let want := if n.serial = own then some (n.had.getD 0) else n.had
    match want with
    | some a => if a < 64 ∧ ¬ acc.1.contains a then (a :: acc.1, acc.2 ++ [{ n with addr := some a }])
                else (acc.1, acc.2 ++ [{ n with addr := none }])
    | none => (acc.1, acc.2 ++ [{ n with addr := none }])) ([], [])).2

/-- Devices without an address take the lowest free one in the order found. -/
def fillAddrs (l : List DiscNode) : List DiscNode :=
  (l.foldl (fun (acc : List Nat × List DiscNode) n =>
    match n.addr with
    | some _ => (acc.1, acc.2 ++ [n])
    | none => match lowestFree acc.1 with
      | some a => (a :: acc.1, acc.2 ++ [{ n with addr := some a }])
      | none => (acc.1, acc.2 ++ [n])) (l.filterMap (·.addr), [])).2

/-- The root computes tables with a new generation, applies its own and sends the others. -/
def State.newTables (s : State) : State :=
  let d := s.fab.disc
  match d.node s.serialNum with
  | none => s
  | some own =>
    let a := own.addr.getD 0
    let hops := bfs d.routed s.serialNum
    let s1 := s.applyTables a ((s.fab.gen + 1) % 256) a (d.treeOf hops own) 3 (d.routesOf own)
    let map := d.nodes.foldl (fun (m : List (Nat × Nat)) n =>
      match n.addr with | some x => sins m x n.serial | none => m) []
    let todo := (hops.filterMap fun h => (d.node h.1).bind (·.addr)).filter (fun x => x ≠ a)
    { s1 with fab := { s1.fab with map := map, disc := { d with assign := todo, tries := 0 } } }.assignSend

/-- Discovery has explored every port: addresses are assigned and tables sent (R242, R243). -/
def State.discFinish (s : State) : State :=
  let d := s.fab.disc
  let nodes :=
    if d.fresh then fillAddrs (d.nodes.map (fun n => { n with addr := none }))
    else fillAddrs (keepAddrs s.serialNum d.nodes)
  let above := nodes.any (fun n => n.addr.isNone)
  let d1 : Disc := { d with nodes := nodes.map (fun (n : DiscNode) => { n with had := n.addr }) }
  let s1 := { s with fab := { s.fab with disc := d1 } }
  (if above then s1.setInt A.FAB_INT_STATUS 7 else s1).newTables

/-! ### Probes (R240) -/

/-- Send the probe in progress. -/
def State.probeSend (s : State) (x : Probe) : State :=
  let s1 := { s with fab := { s.fab with disc := { s.fab.disc with probe := some { x with at_ := s.mgt } } } }
  match x.path with
  | [] => s1
  | p :: r => s1.sendLocal p 0x01 (beBytes r.length 1 ++ beBytes (probePath x.path) 16 ++
      beBytes s.serialNum 8 ++ beBytes s.fab.rank 1)

/-- Ports still to explore, without those whose link is known by now. -/
def Disc.open_ (d : Disc) : List (Nat × Nat) :=
  d.todo.filter fun x => match d.node x.1 with
    | some n => n.links.all (fun y => y.1 ≠ x.2)
    | none => false

/-- The next probe, or the end of the exploration. -/
def State.discNext (s : State) : State :=
  let d := s.fab.disc
  if d.probe.isSome ∨ ¬ d.busy then s
  else
    match d.open_ with
    | [] => { s with fab := { s.fab with disc := { d with todo := [] } } }.discFinish
    | (n, p) :: r =>
      let path := s.rootPath n ++ [p]
      ({ s with fab := { s.fab with disc := { d with todo := r } } }).probeSend
        { path := path, from_ := n, port := p, tries := 1, at_ := 0 }

/-- State codes of the ports, 2 bits each (R239). -/
def State.portsByte (s : State) : Nat :=
  s.fab.port0.state.code + 4 * s.fab.port1.state.code + 16 * s.fab.port2.state.code

/-- Begin a discovery as root (R240). -/
def State.discStart (s : State) (rank : Nat) (fresh : Bool) : State :=
  let own : DiscNode := { serial := s.serialNum, had := s.fab.addr, addr := s.fab.addr
                          ports := s.portsByte }
  ({ s with fab := { s.fab with
      role := .root, rank := rank, parent := 3
      disc := { busy := true, fresh := fresh, nodes := [own]
                todo := s.upPorts.map (fun p => (own.serial, p)) } } }).discNext

/-- The discovery of the root ends with DISC_FAIL; the tables in use are kept (R325). -/
def State.discFail (s : State) : State :=
  let d := s.fab.disc
  if s.fab.role ≠ .root ∨ ¬ d.busy then s
  else { s with fab := { s.fab with disc :=
    { d with busy := false, todo := [], probe := none, assign := [], tries := 0, failed := false } } }.setInt
      A.FAB_INT_STATUS 3

/-- Give up the root role (R241). -/
def State.rootYield (s : State) : State :=
  ({ s with fab := { s.fab with role := .member, rank := 0, map := [], disc := {} } }.setInt
    A.FAB_INT_STATUS 6).warn clsFAB 6 0 0

/-- A PROBE or REPORT of rank `k` and serial `n` makes a root yield (R241). -/
def State.conflict (s : State) (k n : Nat) : State :=
  if s.fab.role = .root ∧ (s.fab.rank < k ∨ (s.fab.rank = k ∧ n < s.serialNum)) then s.rootYield else s

/-- A probe is abandoned or sent again after 100 µs (R240). -/
def State.probeTimeout (s : State) : State :=
  match s.fab.disc.probe with
  | none => s
  | some x =>
    let s1 := s.cycleUp (x.at_ + mgtUs 100)
    if x.tries < 3 then s1.probeSend { x with tries := x.tries + 1 }
    else { s1 with fab := { s1.fab with disc := { s1.fab.disc with probe := none } } }.discNext

/-- A received PROBE (R240, R241). -/
def State.probeMsg (s : State) (p : Nat) (b : List Byte) : State :=
  let hops := fb b 16 1
  let path := fb b 17 16
  let s1 := s.conflict (fb b 41 1) (fb b 33 8)
  if hops = 0 then
    s1.sendLocal p 0x02 (beBytes s1.serialNum 8 ++ beBytes (s1.fab.addr.getD 0x40) 1 ++
      beBytes s1.fab.rank 1 ++ beBytes p 1 ++ beBytes s1.portsByte 1 ++ beBytes path 16)
  else
    let h := hops - 1
    s1.resendLocal (hopOf path h)
      (setBytes (setBytes b 16 (beBytes h 1)) 17 (beBytes (setField path (2 * h) 2 p) 16))

/-- The REPORT of the probe in progress reaches the root (R240). -/
def State.reportAt (s : State) (x : Probe) (b : List Byte) : State :=
  let d := { s.fab.disc with probe := none }
  let n := fb b 16 8
  let q := fb b 26 1 % 4
  let known := (d.node n).isSome
  let a := fb b 24 1
  let ports := fb b 27 1
  let d1 : Disc :=
    if known then d
    else { d with nodes := d.nodes ++ [{ serial := n, had := if a < 64 then some a else none, ports := ports }] }
  let d2 := d1.link x.from_ x.port n q
  let more := (([0, 1, 2] : List Nat).filter (fun i => field ports (2 * i) 2 = 2 && i ≠ q)).map (fun i => (n, i))
  ({ s with fab := { s.fab with disc := if known then d2 else { d2 with todo := d2.todo ++ more } } }).discNext

/-- A received REPORT (R240, R241). -/
def State.reportMsg (s : State) (p : Nat) (b : List Byte) : State :=
  let path := fb b 28 16
  let s1 := s.conflict (fb b 25 1) (fb b 16 8)
  if hopOf path 0 ≠ 3 then
    s1.resendLocal (hopOf path 0) (setBytes b 28 (beBytes (path / 4 + at_ 3 126) 16))
  else
    match s1.fab.disc.probe with
    | some x => if x.path.head? = some p then s1.reportAt x b else s1
    | none => s1

/-! ### Link events (R245 to R247) -/

/-- Discovery still explores ports. -/
def Disc.exploring (d : Disc) : Bool := d.busy && (d.probe.isSome || d.todo ≠ [])

/-- The root learns that port `p` of device `n` changed (R245, R247): a link that came up is explored, by a
running discovery too, which stays FRESH (R242). -/
def State.rootLink (s : State) (n p : Nat) (up : Bool) : State :=
  let d := s.fab.disc
  if s.fab.role ≠ .root ∨ (d.node n).isNone then s
  else if up then
    ({ s with fab := { s.fab with disc :=
      { d with busy := true, fresh := d.busy && d.fresh, todo := d.todo ++ [(n, p)] } } }).discNext
  else
    let s1 := { s with fab := { s.fab with disc := d.cut n p } }
    if d.exploring then s1 else s1.newTables

/-- Serial number of the device that sends from address `a`: by the root's map, or, where it has none, by
the address that the device reported (R240, R244). -/
def Fab.serialAt (f : Fab) (a : Nat) : Option Nat :=
  match f.map.find? (fun x => x.1 = a) with
  | some x => some x.2
  | none => (f.disc.nodes.find? (fun n => n.had = some a)).map (·.serial)

/-- A received LINK_EVENT (R245, R247), also while a discovery has given no addresses yet. -/
def State.linkEventMsg (s : State) (b : List Byte) : State :=
  match s.fab.serialAt (fb b 1 1 % 64) with
  | some n => s.rootLink n (fb b 16 1 % 4) (fb b 17 1 ≠ 0)
  | none => s

/-- Tell the root that port `p` changed (R245, R247). -/
def State.tellRoot (s : State) (p : Nat) (up : Bool) : State :=
  if s.fab.role = .root then s.rootLink s.serialNum p up
  else if s.fab.role = .member ∧ (s.fab.route s.fab.rootAddr).reach then
    s.sendCtl s.fab.rootAddr 0x05
      (beBytes p 1 ++ beBytes (b2n up) 1 ++ beBytes (s.fport p).peer.serial 8)
  else s

/-- A device is partitioned from the root (R246). -/
def State.partitionSet (s : State) : State :=
  { s with fab := { s.fab with partitioned := true } }.setInt A.FAB_INT_STATUS 5

/-- A write of `FAB_CTRL` (R240, R241): a disabled port goes DOWN elsewhere; YIELD acts before
DISC_GO (log entry 9). -/
def State.fabCtrlActs (s : State) (v : Word) : State :=
  let s1 := if wbit v 2 ∧ s.fab.role = .root then s.rootYield else s
  if wbit v 0 then s1.discStart 2 (wbit v 1) else s1

end Sys2Proof.Machine
end

