-- ==== Sys2Proof/Machine/Stripe.lean ====
section
/-!
DEFINITION. The stripe datapaths: takeover, restore and self-test, the black clamp, the correction
stages, defect substitution and the combine stage (05_stripe_merge.md R140 to R170).
-/
namespace Sys2Proof.Machine

/-! ### Datapaths (R140, R162 to R168) -/

/-- A datapath after reset (R168). -/
def dpReset (d : Nat) : Datapath :=
  if d < 80 then { stripe := d } else { state := .idle, back := .idle }

/-- Datapath `d`. -/
def State.dp (s : State) (d : Nat) : Datapath := sget dpReset s.str.dps d

/-- Replace datapath `d`. -/
def State.setDp (s : State) (d : Nat) (x : Datapath) : State :=
  { s with str := { s.str with dps := sput dpReset s.str.dps d x } }

/-- Every datapath. -/
def allDps : List Nat := List.range 82

/-- Datapath that serves stripe `i`. -/
def State.serving (s : State) (i : Nat) : Nat := sget (fun k => k) s.str.map i

/-- Set bits of `STR_WARN` of a datapath, with `STR_INT_STATUS.WARN`. -/
def State.strWarn (s : State) (d mask : Nat) : State :=
  let x := s.dp d
  ((s.setDp d { x with warn := x.warn ||| mask }).note (0x100008 + 0x1000 * d) mask).setInt A.STR_INT_STATUS 5

/-- Spares in IDLE, lowest first (R163). -/
def State.idleSpares (s : State) : List Nat := [80, 81].filter fun d => (s.dp d).state = .idle

/-- A command ends (R163, R170). -/
def State.strCmdEnd (s : State) (r : Nat) : State :=
  ({ s with str := { s.str with cmdResult := r } }).setInt A.STR_INT_STATUS 4

/-- Every black state is in first use again (R146): a commit, live set or thermal change takes effect. At
an FT that reaches no frame before it (R30), so not the readout that starts there. -/
def State.freshBlackAll (s : State) : State :=
  if s.ticking then { s with str := { s.str with fresh := true } } else s.freshBlack fun _ => true

/-- The stripe stays on a faulty datapath (R166). -/
def State.stripeFail (s : State) (d : Nat) : State :=
  let x := s.dp d
  if x.failing then s
  else ((s.setDp d { x with failing := true }).setInt A.STR_INT_STATUS 3).faultEv clsSTR 3 d x.stripe

/-- A takeover or restore at an FT (R163 to R165). -/
def State.applyTake (s : State) (t : Take) : State :=
  let old := s.serving t.stripe
  let cmdEnd := fun (a : State) (r : Nat) => if t.fault then a else a.strCmdEnd r
  if t.restore then
    if old = t.stripe then cmdEnd s 4
    else if (s.dp t.stripe).state ≠ .standby then cmdEnd s 5
    else
      let x := s.dp t.stripe
      let s1 := s.setDp t.stripe { x with state := .home, stripe := t.stripe, failing := false }
      cmdEnd (({ s1 with str := { s1.str with
        switches := s1.str.switches ++ [({ stripe := t.stripe, old := old, new_ := t.stripe, restore := true } : Switch)] } }).setInt A.STR_INT_STATUS 1) 2
  else
    match s.idleSpares with
    | [] => if t.fault then s.stripeFail old else cmdEnd s 3
    | d :: rest =>
      let x := s.dp d
      let s1 := s.setDp d { x with state := .serving, stripe := t.stripe, failing := false }
      let s2 := ({ s1 with str := { s1.str with
        switches := s1.str.switches ++ [({ stripe := t.stripe, old := old, new_ := d, restore := false } : Switch)] } }).setInt A.STR_INT_STATUS 1
      let s3 := if rest = [] then s2.setInt A.STR_INT_STATUS 2 else s2
      cmdEnd s3 2

/-- The old datapaths have finished: states and map follow, and the black states of their stripes start
afresh (R146, R164, R165, R170). -/
def State.endSwitches (s : State) : State :=
  let s1 := s.str.switches.foldl (fun (a : State) w =>
    let x := a.dp w.old
    let y := { x with state := if w.restore then .idle else .failed, stripe := 127, failing := false }
    let b := (a.setDp w.old y).freshBlack (· = w.stripe)
    { b with str := { b.str with map := sput (fun k => k) b.str.map w.stripe w.new_ } }) s
  let s2 := if s1.str.fresh then s1.freshBlack fun _ => true else s1
  { s2 with str := { s2.str with switches := [], fresh := false } }

/-- Takes due at the FT of instant `t`, in the order of R163. -/
def State.takesAtFT (s : State) (t : Nat) : State :=
  let ripe := fun (x : Take) => if x.fault then decide (x.at_ < t) else decide (x.at_ + us64 ≤ t)
  let due := s.str.takes.filter ripe
  let ord := fun (f : Bool) => (List.range 80).flatMap fun i =>
    due.filter fun (x : Take) => x.stripe = i ∧ x.fault = f
  let s1 := { s with str := { s.str with takes := s.str.takes.filter (fun x => !ripe x) } }
  (ord true ++ ord false).foldl (fun (a : State) x => a.applyTake x) s1

/-- While the ticks do not run, a take is applied at once (R30, as for R98 and R205). -/
def State.takesNow (s : State) : State :=
  if s.ticking then s
  else
    let due := s.str.takes
    (due.foldl (fun (a : State) x => a.applyTake x)
      { s with str := { s.str with takes := [] } }).endSwitches

/-- A take is scheduled; it replaces the pending one of its stripe, but a command never replaces
a fault-driven takeover (R163). A command that a fault replaces ends REFUSED: the manual says so of a
restore, and of a takeover it is a DESIGN CHOICE (log entry 46). -/
def State.schedule (s : State) (t : Take) : State :=
  let had := s.str.takes.any fun x => x.stripe = t.stripe ∧ x.fault = false
  let s1 := if had ∧ t.fault then s.strCmdEnd 5 else s
  ({ s1 with str := { s1.str with
    takes := s1.str.takes.filter (fun (x : Take) => x.stripe ≠ t.stripe) ++ [t] } }).takesNow

/-- A fault replaces a pending restore of its stripe also where no takeover follows (R163): it ends REFUSED. -/
def State.dropRestore (s : State) (stripe : Nat) : State :=
  let mine := fun (x : Take) => decide (x.stripe = stripe) && x.restore
  if s.str.takes.any mine then
    { s with str := { s.str with takes := s.str.takes.filter fun x => !mine x } }.strCmdEnd 5
  else s

/-- A takeover or restore commanded for a stripe (R163, R170). -/
def State.takeCmd (s : State) (stripe : Nat) (restore : Bool) : State :=
  if 79 < stripe then s.strCmdEnd 4
  else if restore ∧ s.serving stripe = stripe then s.strCmdEnd 4
  else if restore ∧ (s.dp stripe).state ≠ .standby then s.strCmdEnd 5
  else if ¬ restore ∧ s.idleSpares = [] then s.strCmdEnd 3
  else if s.str.takes.any (fun x => x.stripe = stripe ∧ x.fault) then s.strCmdEnd 5
  else
    ({ s with str := { s.str with cmdResult := 1 } }).schedule
      { stripe := stripe, restore := restore, fault := false, at_ := s.seqEdge s.now }

/-- A frame becomes DAMAGED (R26, R28). -/
def State.damageFrame (s : State) (n : Nat) : State :=
  { s with frames := s.frames.map fun f => if f.num = n then { f with damaged := true } else f }

/-- Sub-frame `j` is the designated one of a twin image (R179). -/
def Sched.isTwin (c : Sched) (j : Nat) : Bool := c.twin && j = c.twinJ

/-- Set flags of a stripe-line in process in sub-frame `j` of a frame; only the designated sub-frame
contributes to a twin image (R161). -/
def State.flagLine (s : State) (n key j b0 : Nat) : State :=
  let put := fun (l : List (Nat × LineInfo)) =>
    smod (fun _ => {}) l key fun x => { x with b0 := x.b0 ||| b0 }
  { s with frames := s.frames.map fun f =>
      if f.num = n then
        { f with
          lines := put f.lines
          twinLines := if f.cfg.sched.isTwin j then put f.twinLines else f.twinLines }
      else f }

/-- Datapath that serves a stripe, or will when its switch ends (R164, R165). -/
def State.serves (s : State) (i : Nat) : Nat :=
  match s.str.switches.find? fun w => w.stripe = i with
  | some w => w.new_
  | none => s.serving i

/-- A datapath fault of kind 0 LB_PARITY, 1 COEF_PARITY, 2 ENGINE_LATE, 3 SELFTEST (R162, R163,
R166): the lines of its stripe in process in the current readout and their frame are DAMAGED. A datapath
that a takeover has relieved needs no other, and one that has taken over does (R163 to R165). -/
def State.dpFault (s : State) (d kind : Nat) : State :=
  let x := s.dp d
  let s1 := (s.setDp d { x with fault := x.fault ||| 2 ^ kind }).note (0x100004 + 0x1000 * d) (2 ^ kind)
  let works : Bool := x.stripe < 80 ∧ s.serving x.stripe = d
  let s2 :=
    match s.tmg.reading, s.tmg.reading.bind (fun r => s.frames.find? (·.num = r.frame)) with
    | some r, some f =>
      let w := f.cfg.plan.win
      let here := min (s.tmg.slot - 32) (w.nSlot - 32)
      if works ∧ s.str.done < here then
        let rows := (List.range here).filter (s.str.done ≤ ·)
        let keys := rows.flatMap fun j =>
          (if j < w.nTop then [80 * j + x.stripe] else []) ++
            (if j < w.nBot then [80 * (w.nTop + j) + x.stripe] else [])
        (keys.foldl (fun (a : State) k => a.flagLine r.frame k r.j 0x40) s1).damageFrame r.frame
      else s1
    | _, _ => s1
  let s3 := ((s2.setInt A.STR_INT_STATUS 0).faultEv clsSTR 0 d x.stripe).alarm clsSTR 0
    (if x.stripe < 80 then x.stripe else d)
  if ¬ (x.stripe < 80 ∧ s.serves x.stripe = d) then s3
  else if s3.rb A.STR_CTRL 3 ∧ s3.idleSpares ≠ [] then
    if s3.str.takes.any (fun t => t.stripe = x.stripe ∧ t.fault) then s3
    else s3.schedule { stripe := x.stripe, restore := false, fault := true, at_ := s3.now }
  else (s3.dropRestore x.stripe).stripeFail d

/-- `TEST_GO` (R167). -/
def State.testGo (s : State) (d : Nat) : State :=
  let x := s.dp d
  if 81 < d then s.strCmdEnd 4
  else if s.str.test.isSome ∨ x.state = .testing then s.strCmdEnd 5
  else if (x.state = .home ∨ x.state = .serving) ∧ s.tmg.seq ≠ .stopped then s.strCmdEnd 5
  else
    let s1 := s.setDp d { x with state := .testing, back := x.state }
    { s1 with str := { s1.str with test := some (d, s.now), cmdResult := 1 } }

/-- Outcome of a self-test for a datapath that was in state `back` (R164, R167). -/
def State.testResult (s : State) (d : Nat) (back : DpState) (pass : Bool) : State :=
  let x := s.dp d
  if pass then
    let st := if back = .failed then (if d < 80 then .standby else .idle) else back
    s.setDp d { x with state := st, testPass := true }
  else (s.setDp d { x with state := .failed, testPass := false }).dpFault d 3

/-- A commanded self-test ends 2 ms after its start (R167). -/
def State.selftestDone (s : State) (pass : Bool) : State :=
  match s.str.test with
  | some (d, t) =>
    let s0 := s.goTo (t + us 2000)
    let s1 := { s0 with str := { s0.str with test := none } }
    (s1.testResult d (s1.dp d).back pass).strCmdEnd 2
  | none => s

/-- Start of the last self-test that an IDLE spare ran by itself (R167). -/
def State.spareLast (s : State) (d : Nat) : Nat := if d = 80 then s.str.spare80 else s.str.spare81

/-- A self-test that an IDLE spare runs by itself is running: it lasts 2 ms, once every 4 s (R167). -/
def State.spareTesting (s : State) (d : Nat) : Bool :=
  (s.dp d).state = .idle && decide (s.spareLast d + ms 4000 ≤ s.now) &&
    decide ((s.now - s.spareLast d) % ms 4000 < us 2000)

/-- The self-test that an IDLE spare runs every 4 s ends (R167, R170). -/
def State.spareSelftest (s : State) (d : Nat) (pass : Bool) : State :=
  if ¬ (d = 80 ∨ d = 81) ∨ (s.dp d).state ≠ .idle then s
  else
    let last := s.spareLast d
    let k := (s.now - last) / ms 4000
    let start := last + (if s.spareTesting d then k else k + 1) * ms 4000
    let s0 := s.goTo (start + us 2000)
    let s1 := { s0 with str :=
      if d = 80 then { s0.str with spare80 := start } else { s0.str with spare81 := start } }
    (s1.testResult d .idle pass).setInt A.STR_INT_STATUS 4

/-! ### Colours (R37) -/

/-- Colour of a site: 0 R, 1 Gr or G on an even row, 2 Gb or G on an odd row, 3 B, 4 IR (R37,
R192). -/
def colour (fern : Bool) (col row : Int) : Nat :=
  if fern then
    let x := (col % 4).toNat
    let y := (row % 4).toNat
    if y % 2 = 0 then
      if x % 2 = 1 then 1
      else if (x = 0) = (y = 0) then 3 else 0
    else if x % 2 = 0 then 2 else 4
  else
    match (row % 2).toNat, (col % 2).toNat with
    | 0, 0 => 0
    | 0, _ => 1
    | _, 0 => 2
    | _, _ => 3

/-! ### Defect list (R152 to R154) -/

/-- An entry of the defect list. -/
structure DefEnt where
  col  : Int
  row  : Int
  kind : Nat
  len  : Nat
  meth : Nat
  deriving DecidableEq, Repr

/-- Entry from its 64 bits (R152). -/
def readDef (v : Nat) : DefEnt :=
  { col := sext (field v 0 16) 16, row := sext (field v 16 16) 16, kind := field v 32 3,
    len := field v 35 12, meth := field v 47 2 }

/-- First and last column of a stripe with its optical-black columns (R140). -/
def stripeCols (i : Nat) : Int × Int :=
  (if i = 0 then -64 else 256 * (i : Int), if i = 79 then 20543 else 256 * (i : Int) + 255)

/-- Rows of a bank. -/
def bankRows (bank : Nat) : Int × Int := if bank = 0 then (-32, 5399) else (5400, 10831)

/-- Place of a row in the order in which its bank reads: black rows first (R152). -/
def rowOrder (bank : Nat) (row : Int) : Int := if bank = 1 ∧ 10800 ≤ row then row - 10832 else row

/-- Last row of an entry. -/
def DefEnt.lastRow (e : DefEnt) : Int := if e.kind = 3 then e.row + e.len - 1 else e.row

/-- An entry follows `acc` (newest first) without breaking a rule of R152. -/
def DefEnt.okAfter (e : DefEnt) (stripe bank : Nat) (acc : List DefEnt) : Bool :=
  let (c0, c1) := stripeCols stripe
  let (r0, r1) := bankRows bank
  let sorted : Bool := match acc with
    | [] => true
    | p :: _ =>
      let a := rowOrder bank p.row
      let b := rowOrder bank e.row
      decide (a < b) || (decide (a = b) && decide (p.col ≤ e.col))
  let runs := (e :: acc).filter (·.kind = 3)
  let above : Bool := e.kind = 3 && runs.any fun r =>
    decide (e.row ≤ r.row) && decide (r.row ≤ e.lastRow) &&
      decide (64 < (runs.filter fun q => decide (q.row ≤ r.row) && decide (r.row ≤ q.lastRow)).length)
  let over2 : Bool := e.kind = 3 &&
    decide (64 < (runs.filter fun q => decide (q.row ≤ e.row) && decide (e.row ≤ q.lastRow)).length)
  decide (c0 ≤ e.col) && decide (e.col ≤ c1) && decide (r0 ≤ e.row) && decide (e.lastRow ≤ r1) &&
    decide (e.kind ≤ 3) && decide ((e.kind = 3) = (1 ≤ e.len)) && sorted && !above && !over2

/-- The entries of a segment up to the first that breaks a rule, and whether one does. -/
def takeDefs (stripe bank : Nat) : List DefEnt → List DefEnt → List DefEnt × Bool
  | [], acc => (acc.reverse, false)
  | e :: r, acc => if e.okAfter stripe bank acc then takeDefs stripe bank r (e :: acc)
    else (acc.reverse, true)

/-- The segment of a stripe and bank in the maps region (R152, R153), with DEF_ORDER. -/
def segment (maps : Memory) (stripe bank : Nat) : List DefEnt × Bool :=
  let d := 0xEC000000 + 8 * (2 * stripe + bank)
  let first := rdLE maps d 4
  let count := rdLE maps (d + 4) 4
  if 1048576 < first + count then ([], true)
  else takeDefs stripe bank ((List.range count).map fun i =>
    readDef (rdLE maps (0xEC001000 + 8 * (first + i)) 8)) []

/-- An entry lists the site for a path: 0 HCG, 1 LCG (R152). -/
def DefEnt.hits (e : DefEnt) (col row : Int) (path : Nat) : Bool :=
  e.col = col && decide (e.row ≤ row) && decide (row ≤ e.lastRow) &&
    !(e.kind = 1 && path = 1) && !(e.kind = 2 && path = 0)

/-- Neighbour offsets of R154 for a site of a colour. -/
def neighbours (fern : Bool) (colour meth : Nat) : List (Int × Int) :=
  let far : Bool := fern && (colour = 0 || colour = 3)
  let d : Int := if far then 4 else 2
  let h := [(-d, 0), (d, 0)]
  let v := [(0, -d), (0, d)]
  let g : Int := if fern && (colour = 1 || colour = 2) then 1 else 2
  if meth = 1 then h else if meth = 2 then v
  else h ++ v ++ [(-g, -g), (g, -g), (-g, g), (g, g)]

/-! ### Working values (R144 to R156) -/

/-- A conversion on its way through the graph (R144, R155). -/
structure Px where
  w     : Q
  ovr   : Bool
  ecl   : Bool
  rdist : Bool
  src   : Nat
  sub   : Bool := false
  unres : Bool := false
  deriving DecidableEq, Repr

/-- A site as the datapath sees it: bank, row slot, physical rows read, column and path. -/
structure Site where
  bank : Nat
  slot : Nat
  rows : List Int
  col  : Int
  path : Nat
  deriving DecidableEq, Repr

/-- What the datapaths use for a readout: the plan and gains of its frame and the fabric's slots. -/
structure Rd where
  plan : Plan
  fern : Bool
  gh   : Nat
  gl   : Nat
  cnv  : Cnv
  maps : Memory
  /-- Segments by 2·stripe + bank. -/
  segs : Nat → List DefEnt
  /-- Δ of R145 by (2·stripe + bank)·2 + path. -/
  delta : Nat → Q
  /-- Datapaths serving stripes 0 and 79 are failed. -/
  left  : Bool
  right : Bool

/-- The working value that a result gives (R144): it has 8 fractional bits, and R144 gives no rounding, so
a result between two such values takes one of them (free value, log entry 47). -/
def wStore (q : Q) : Q :=
  if 256 % q.den = 0 then q
  else Q.mk2 ((q.mul (Q.int 256)).floor + (Config.openValue 47 [q.num, q.den] % 2 : Nat)) 256

/-- The same, held to the range of the working value (R144). -/
def wHold (q : Q) : Q := Q.hold (Q.int (-2048)) (Q.mk2 8388607 256) (wStore q)

/-- Gain code of a path. -/
def Rd.gain (r : Rd) (path : Nat) : Nat := if path = 0 then r.gh else r.gl

/-- Stripe of a column. -/
def colStripe (col : Int) : Nat := if col < 0 then 0 else min 79 (col.toNat / 256)

/-- The delivered slot `n`. -/
def Rd.slotData (r : Rd) (n : Nat) : SlotData :=
  match r.cnv.slots.find? (fun d => d.slot = n) with
  | some d => d
  | none => { slot := n, convs := [], dist := [], ecl := [] }

/-- The site's conversion word as a working value. -/
def Rd.start (r : Rd) (x : Site) : Px :=
  let c := r.cnv.word (r.slotData x.slot) x.bank x.col x.path
  { w := Q.int c.code, ovr := c.ovr, ecl := c.ecl, rdist := c.rdist, src := c.src }

/-- Slice correction (R150). -/
def Rd.slice (r : Rd) (x : Site) (p : Px) : Px :=
  if p.sub ∨ p.src = 3 then p
  else
    let key := groupKey x.bank x.col
    let e := sget sliceReset r.cnv.now (sliceOf key (position x.col x.path) p.src)
    { p with w := wHold ((p.w.sub (Q.mk2 (sext e.offset 12) 20)).mul
      (Q.mk2 (65536 + sext e.gain 16) 65536)) }

/-- Column fixed-pattern correction (R151). -/
def Rd.column (r : Rd) (x : Site) (p : Px) : Px :=
  let fl := r.plan.recField 3 0 1
  if p.sub ∨ p.src = 3 then p
  else
    let g := gainQ (r.gain x.path)
    let e := rdLE r.maps (0xEC900000 + 4 * ((2 * x.bank + x.path) * 20608 + (x.col + 64).toNat)) 4
    let w1 := if fl.testBit 0 then p.w.sub ((Q.mk2 (sext e 16) 16).mul g) else p.w
    let m := Q.sum (x.rows.map fun row =>
      Q.int (sext (rdLE r.maps (0xED000000 + (row + 32).toNat * 20608 + (x.col + 64).toNat) 1) 8))
    let w2 := if fl.testBit 1 ∧ x.path = 1 then
        w1.sub (((m.divN (max 1 x.rows.length)).mul g).divN 2) else w1
    let w3 := if fl.testBit 0 then
        (Q.int 256).add ((w2.sub (Q.int 256)).mul (Q.mk2 (65536 + sext (e / 65536) 16) 65536)) else w2
    { p with w := wHold w3 }

/-- Slice and column correction only, in graph order: what the black measurement sees (R147). -/
def Rd.measured (r : Rd) (x : Site) : Px :=
  r.plan.graph.foldl (fun p (st, _) =>
    if st = 2 then r.slice x p else if st = 3 then r.column x p else p) (r.start x)

/-- The defect list is in use (R156). -/
def Rd.listEn (r : Rd) : Bool := r.plan.hasStage 4 && (r.plan.recField 4 0 1).testBit 0

/-- Method of the entry that lists the site, if one does (R152, R154). -/
def Rd.listed (r : Rd) (x : Site) : Option Nat :=
  if ¬ r.listEn then none
  else
    ((r.segs (2 * colStripe x.col + x.bank)).find? fun e =>
      x.rows.any fun row => e.hits x.col row x.path).map fun e =>
        if e.meth = 0 then r.plan.recField 4 1 1 else e.meth

/-- A sample qualifies for the black measurement (R145). -/
def Rd.qualifies (r : Rd) (x : Site) (p : Px) : Bool :=
  !p.ovr && !p.rdist && p.src ≠ 3 && (r.listed x).isNone

/-- A black site of bank, slot and column. -/
def blackSite (bank b path : Nat) (col : Int) : Site :=
  { bank := bank, slot := b, rows := [blackRow bank b], col := col, path := path }

/-- An active site. -/
def Rd.site (r : Rd) (bank j path : Nat) (col : Int) : Site :=
  { bank := bank, slot := 32 + j, rows := r.plan.win.slotRows bank j, col := col, path := path }

/-- Mean and count of the qualifying samples among sites. -/
def Rd.mean (r : Rd) (xs : List Site) : Nat × Q :=
  let good := (xs.map fun x => (x, r.measured x)).filter fun (x, p) => r.qualifies x p
  let n := good.length
  (n, (Q.sum (good.map (·.2.w))).divN (max 1 n))

/-- Optical-black columns that give the row offset (R148): both sides, or the side whose datapath
works. -/
def Rd.obCols (r : Rd) : List Int :=
  (if r.left then [] else (List.range 64).map fun (i : Nat) => (i : Int) - 64) ++
    (if r.right then [] else (List.range 64).map fun (i : Nat) => (i : Int) + 20480)

/-- Row offset δ of an active slot (R148); M needs at least one sample (log entry 10). -/
def Rd.rowDelta (r : Rd) (bank j path : Nat) : Q :=
  let rec1 := r.plan.recField 1 0 1
  if ¬ r.plan.hasStage 1 ∨ ¬ rec1.testBit 0 then Q.int 0
  else
    let (n, m) := r.mean (r.obCols.map fun c => r.site bank j path c)
    let (k, mm) := r.mean ((List.range 32).flatMap fun b => r.obCols.map fun c => blackSite bank b path c)
    if n < 64 ∨ k = 0 then Q.int 0 else m.sub mm

/-- Black clamp (R149). -/
def Rd.clamp (r : Rd) (x : Site) (p : Px) : Px :=
  let d := r.delta ((2 * colStripe x.col + x.bank) * 2 + x.path)
  { p with w := wHold ((p.w.sub d).sub (r.rowDelta x.bank (x.slot - 32) x.path)) }

/-- One stage before the combine, defect substitution apart. -/
def Rd.stage (r : Rd) (x : Site) (p : Px) (st : Nat) : Px :=
  if st = 1 then r.clamp x p else if st = 2 then r.slice x p
  else if st = 3 then r.column x p else p

/-- Stages of the graph before or after defect substitution. -/
def Plan.stagesBefore (pl : Plan) : List Nat := (pl.graph.map (·.1)).takeWhile (· ≠ 4)
def Plan.stagesAfter (pl : Plan) : List Nat :=
  ((pl.graph.map (·.1)).dropWhile (· ≠ 4)).filter (fun st => 1 ≤ st ∧ st ≤ 3)

/-- Working value at the point where defect substitution runs. -/
def Rd.before (r : Rd) (x : Site) : Px := r.plan.stagesBefore.foldl (r.stage x) (r.start x)

/-- A column may serve as neighbour for a defect of column `c` (R143, R154): same class, and inside
the stripe or the four guard columns of an enabled stripe. -/
def Rd.reach (r : Rd) (c n : Int) : Bool :=
  let active := fun (k : Int) => decide (0 ≤ k) && decide (k ≤ 20479)
  let i := colStripe c
  let (c0, c1) := (256 * (i : Int), 256 * (i : Int) + 255)
  if active c then
    active n && decide (c0 - 4 ≤ n) && decide (n ≤ c1 + 4) &&
      (colStripe n = i || r.plan.win.mask.testBit (colStripe n))
  else if c < 0 then decide (-64 ≤ n) && decide (n < 0)
  else decide (20480 ≤ n) && decide (n ≤ 20543)

/-- Sites that replace a defect (R154). -/
def Rd.replaceSites (r : Rd) (x : Site) (meth : Nat) : List Site :=
  let n := if x.bank = 0 then r.plan.win.nTop else r.plan.win.nBot
  let col := colour r.fern x.col (x.rows.headD 0)
  ((neighbours r.fern col meth).filterMap fun (dx, dy) =>
    let j : Int := (x.slot : Int) - 32 + dy
    if j < 0 ∨ (n : Int) ≤ j ∨ ¬ r.reach x.col (x.col + dx) then none
    else some (r.site x.bank j.toNat x.path (x.col + dx))).filter fun y =>
      (r.listed y).isNone && (r.start y).src ≠ 3

/-- Defect substitution of a site (R155, R156). -/
def Rd.defect (r : Rd) (x : Site) (p : Px) : Px :=
  if ¬ r.plan.hasStage 4 then p
  else
    match (if p.src = 3 then some (r.plan.recField 4 1 1) else r.listed x) with
    | none => p
    | some m =>
      let ns := (r.replaceSites x m).map r.before
      if ns = [] then { p with w := Q.int 256, ecl := false, sub := true, unres := true }
      else { p with
        w := wHold ((Q.sum (ns.map (·.w))).divN ns.length), ovr := p.ovr || ns.any (·.ovr), ecl := false
        sub := true }

/-- The working value that reaches the combine stage. -/
def Rd.value (r : Rd) (x : Site) : Px :=
  r.plan.stagesAfter.foldl (r.stage x) (r.defect x (r.before x))

/-! ### Combine (R157 to R160) -/

/-- Scale of a path's gain code, 16.16 (R160). -/
def Plan.kH (pl : Plan) (g : Nat) : Q := Q.mk2 (pl.recField 5 (8 + 4 * g) 4 : Nat) 65536
def Plan.kL (pl : Plan) (g : Nat) : Q := Q.mk2 (pl.recField 5 (0x24 + 4 * g) 4 : Nat) 65536

/-- Clip value of a LCG gain code. -/
def Plan.sat (pl : Plan) (g : Nat) : Int := (pl.recField 5 (0x64 + 4 * g) 3 : Nat)

/-- The MERGE result may differ by one code from the exact value (R157; free value, log entry
13). -/
def mergeSlack (a b : Q) : Int := (Config.openValue 13 [a.num, a.den, b.num, b.den] % 3 : Nat) - 1

/-- A combined pixel: the value, the clip flag and the code pair of PASS. -/
structure Comb where
  y    : Int
  clip : Bool
  pair : Nat := 0
  deriving DecidableEq, Repr

/-- MERGE, with `a` forced to 1 for SELECT_L (R157, R158). -/
def Rd.merge (r : Rd) (forced : Bool) (h l : Px) : Comb :=
  let pl := r.plan
  let sat := pl.sat r.gl
  if h.ecl ∨ l.ecl ∨ l.ovr then { y := sat, clip := true }
  else
    let eh := (h.w.sub (Q.int 256)).mul (pl.kH r.gh)
    let el := (l.w.sub (Q.int 256)).mul (pl.kL r.gl)
    let lo := Q.int (pl.recField 5 (0x40 + 4 * r.gh) 3 : Nat)
    let bw := 2 ^ pl.recField 5 (0x5C + r.gh) 1
    let a := if forced ∨ h.ovr then Q.int 1
      else Q.hold (Q.int 0) (Q.int 1) ((eh.sub lo).divN bw)
    let y := eh.add (a.mul (el.sub eh))
    { y := min (max (y.round + mergeSlack h.w l.w) (-1048576)) sat, clip := false }

/-- SELECT_H (R158). -/
def Rd.selectH (r : Rd) (h : Px) : Comb :=
  let k := r.plan.kH r.gh
  let sat := (k.mul (Q.int 16127)).round
  if h.ovr ∨ h.ecl then { y := sat, clip := true }
  else { y := clampI (-1048576) sat ((h.w.sub (Q.int 256)).mul k).round, clip := false }

/-- PASS (R159), with the value that SELECT_L gives from the pair passed, which the statistics and the
colour path take (R184, R191). -/
def Rd.pass (r : Rd) (h l : Px) : Comb :=
  let code := fun (p : Px) => if p.ovr then 16383 else (clampI 0 16383 p.w.round).toNat
  let put := fun (p : Px) => { p with w := Q.int (code p) }
  { y := (r.merge true (put h) (put l)).y, clip := l.ovr || l.ecl, pair := code h + at_ (code l) 14 }

/-- A position of a stripe's groups in a bank has no slice in the present readout (R99, R161); the groups
of the optical-black columns belong to stripes 0 and 79 (R140). -/
def Rd.colFail (r : Rd) (bank stripe : Nat) : Bool :=
  r.cnv.now.any fun (k, _) =>
    let g := k / 130 % 322
    k / 130 / 322 = bank && decide (k % 130 < 128) && r.cnv.src (k / 130) (k % 130) = 3 &&
      min 79 ((g - 1) / 4) = stripe

/-- The combine stage (R157 to R159). -/
def Rd.combine (r : Rd) (h l : Px) : Comb :=
  match r.plan.combineMode with
  | 0 => r.merge false h l
  | 1 => r.selectH h
  | 2 => r.merge true h l
  | _ => r.pass h l

/-! ### Black clamp state (R145, R146) -/

/-- Black state by its key. -/
def State.black (s : State) (k : Nat) : Black := sget (fun _ => {}) s.str.black k

/-- The readout context of sub-frame `j` of a frame. -/
def State.rd (s : State) (f : Frame) (j : Nat) : Rd :=
  let c := f.cfg
  let e := c.sched.entries.getD j {}
  let failed := fun (i : Nat) => decide ((s.dp (s.serving i)).state = .failed)
  { plan := c.plan, fern := c.plan.variant = 1, gh := e.hcg, gl := e.lcg, cnv := s.cnv,
    maps := f.maps, segs := fun k => (segment f.maps (k / 2) (k % 2)).1,
    delta := fun k => (sget (fun _ => ({} : Clamp)) s.str.clamps k).delta,
    left := failed 0, right := failed 79 }

/-- The 24-bit level of a black state in 1/256 LSB (R170). -/
def levelWord (l : Q) (code : Nat) : Nat := unsext ((l.mul (Q.int 256)).floor) 24 + at_ code 24

/-- The black state of one stripe, bank and path from the black slots of a readout (R145). -/
def State.clampPath (s : State) (r : Rd) (settling : Bool) (stripe bank path : Nat) : State :=
  let pl := r.plan
  let g := r.gain path
  let key := ((2 * stripe + bank) * 2 + path) * 8 + g
  let b := s.black key
  let cols := (List.range 256).map fun (i : Nat) => 256 * (stripe : Int) + (i : Int)
  let (count, m) := r.mean ((List.range 32).flatMap fun k => cols.map fun c => blackSite bank k path c)
  let range : Bool := (Q.int (pl.recField 1 2 2 : Nat)).lt (m.sub (Q.int 256)).abs
  let few : Bool := settling || count < 4096
  let hold := few || range
  let l :=
    if hold then (if b.used then b.l else Q.int 256)
    else if b.used then b.l.add ((m.sub b.l).divN (2 ^ pl.recField 1 1 1))
    else m
  let d := s.serving stripe
  let s1 := { s with str := { s.str with
    black := sput (fun _ => {}) s.str.black key { l := l, used := true }
    clamps := sput (fun _ => {}) s.str.clamps ((2 * stripe + bank) * 2 + path)
      { delta := l.sub (Q.int 256), hold := hold } } }
  let x := s1.dp d
  let w := levelWord l g
  let x1 :=
    if bank = 0 then (if path = 0 then { x with blkTH := w } else { x with blkTL := w })
    else if path = 0 then { x with blkBH := w } else { x with blkBL := w }
  let s2 := s1.setDp d { x1 with runExcl := x1.runExcl + (8192 - count) }
  let mask := (if !few && range then 2 else 0) + (if hold then 4 else 0)
  if mask = 0 then s2 else (s2.strWarn d mask).warn clsSTR 5 d mask

/-- Segments that break a rule are reported once for a readout (R152, R153). -/
def State.defOrder (s : State) (r : Rd) (stripe : Nat) : State :=
  if ¬ r.listEn then s
  else if (segment r.maps stripe 0).2 ∨ (segment r.maps stripe 1).2 then
    (s.strWarn (s.serving stripe) 1).warn clsSTR 5 (s.serving stripe) 1
  else s

/-- The black slots of a readout are complete: every enabled stripe updates its black states
(R145). Without stage 1 there is no clamp record and Δ stays 0. -/
def State.clampAll (s : State) (f : Frame) (j : Nat) (settling : Bool) : State :=
  let c := f.cfg
  let r := s.rd f j
  let s1 := c.plan.win.stripes.foldl (fun (a : State) i => a.defOrder r i) s
  if ¬ c.plan.hasStage 1 then s1
  else
    c.plan.win.stripes.foldl (fun (a : State) i =>
      [(0, 0), (0, 1), (1, 0), (1, 1)].foldl (fun (b : State) (x : Nat × Nat) =>
        b.clampPath r settling i x.1 x.2) a) s1

/-! ### Registers (R170) -/

/-- Stage codes of the graph, slot i in bits 4i+3:4i (R170). -/
def Plan.stageOrder (pl : Plan) : Nat :=
  ((List.range pl.graph.length).zip pl.graph).foldl (fun a (i, x) => a + at_ x.1 (4 * i)) 0

/-- Stage options (R170). -/
def Plan.stageCfg (pl : Plan) : Nat :=
  pl.combineMode + flag ((pl.recField 1 0 1).testBit 0) 2 + at_ (pl.recField 3 0 1 % 4) 3 +
    flag ((pl.recField 4 0 1).testBit 0) 5 + at_ (pl.recField 4 1 1 % 4) 6 +
    at_ (pl.recField 1 1 1 % 8) 8

/-- Registers of datapath `d` at offset `o` (R170, R197). -/
def State.dpRead (s : State) (d o : Nat) : Option Nat :=
  let x := s.dp d
  let live := s.inForce
  match o with
  | 0x000 => some (x.stripe + at_ x.state.code 8 + flag x.testPass 11)
  | 0x004 => some x.fault
  | 0x008 => some x.warn
  | 0x010 => some x.blkTH
  | 0x014 => some x.blkTL
  | 0x018 => some x.blkBH
  | 0x01C => some x.blkBL
  | 0x020 => some (x.excl % 65536)
  | 0x024 => some (x.defs % 2 ^ 18)
  | 0x028 => some (x.unres % 2 ^ 18)
  | 0x02C => some (x.clips % 2 ^ 22)
  | 0x030 => some (x.abandoned % 2 ^ 32)
  | 0x034 => some (match live with | some c => c.plan.stageOrder | none => 0)
  | 0x038 => some (match live with | some c => c.plan.stageCfg | none => 0)
  | 0x03C => some (x.held % 2 ^ 22)
  | 0x040 => some (x.brk % 2 ^ 22)
  | _ => none

/-- A write of `STR_CTRL` by firmware (R163, R167): TEST_GO, RESTORE_GO, TAKEOVER_GO (log entry
9). -/
def State.strCtrlWrite (s : State) (v : Word) : State :=
  let s0 := s.setRn A.STR_CTRL (v.toNat &&& 8)
  let stripe := s0.rf A.STR_CMD 0 7
  let s1 := if wbit v 2 then s0.testGo (s0.rf A.STR_CMD 8 7) else s0
  let s2 := if wbit v 1 then s1.takeCmd stripe true else s1
  if wbit v 0 then s2.takeCmd stripe false else s2

end Sys2Proof.Machine
end

