-- ==== Sys2Proof/Machine/Shape.lean ====
section
/-!
DEFINITION. From combined sub-frames to finished frames: weighted accumulation, the frame buffers,
binning and packing, the sideband, the temporal centroid, proxies, the reconstructed image and the
statistics set (05_stripe_merge.md R161, 06_shaping_colour_statistics.md R171 to R197,
07_frond_output.md R217).
-/
namespace Sys2Proof.Machine

/-! ### Frames in flight -/

/-- The frame in flight with number `n`. -/
def State.frame? (s : State) (n : Nat) : Option Frame := s.frames.find? (·.num = n)

/-- Change the frame in flight with number `n`. -/
def State.modFrame (s : State) (n : Nat) (f : Frame → Frame) : State :=
  { s with frames := s.frames.map fun x => if x.num = n then f x else x }

/-- Effective weight of a sub-frame (R171). -/
def Frame.weight (f : Frame) (j : Nat) : Nat :=
  if f.settle.testBit j then 0 else (f.cfg.sched.entries.getD j {}).weight

/-- Bracket factor r_j in 1/65 536 (R177). -/
def Sched.bracketFactor (c : Sched) (j : Nat) : Nat :=
  if ¬ c.bracket then 65536
  else
    let longest := (c.entries.take c.s).foldl (fun a e => max a e.len) 0
    let len := max 1 (c.entries.getD j {}).len
    (2 * longest * 65536 + len) / (2 * len)

/-- bshift of the type 6 record (R176, R177); 0 in a plan without stage 6. -/
def Plan.bshift (pl : Plan) : Nat := if pl.hasStage 6 then pl.recField 6 1 1 else 0

/-- Time base of the centroid (R176); TB0 in a plan without stage 6. -/
def Plan.centTb (pl : Plan) : Nat := if pl.hasStage 6 then pl.recField 6 2 1 % 4 else 0

/-- The frame emits on the stream. -/
def Frame.emits (f : Frame) (twin : Bool) : Bool := f.capture && (!twin || f.cfg.sched.twin)

/-- Emission of one stream of a frame. -/
def Frame.emit (f : Frame) (twin : Bool) : Emit := if twin then f.twin else f.main

/-! ### Overruns (R26, R27) -/

/-- Record an overrun of a frame (R27, R340): kind 0 sub-frame, 1 statistics, 2 emission, 3 twin emission,
one event for each datapath or link engine of `units`, on the alarm bus too (R15, R302). The manual names no
severity and no KIND of the alarm word; a warning, and the low bits of the code 0x82 (log entry 14). -/
def State.overrun (s : State) (kind : Nat) (units : List Nat) (f : Frame) (sub : Nat) : State :=
  units.foldl (fun (a : State) u =>
    let cls := if 2 ≤ kind then clsLNK else clsSTR
    (a.raise { sev := .warn, cls := cls, code := 0x82, unit := at_ kind 12 + u, detail := f.num,
               cont := leBytes f.epoch 4 ++ [BitVec.ofNat 8 sub] }).alarm cls 2 u) s

/-- Logical lanes of a stream (R120). -/
def OutCfg.lanes (o : OutCfg) (twin : Bool) : Nat := if twin then o.twinLanes else o.mainLanes

/-- Link engines that serve a stream: those of the groups of its lanes (R198). -/
def OutCfg.engines (o : OutCfg) (twin : Bool) : List Nat :=
  (List.range 4).filter fun g => field (o.lanes twin) (14 * g) 14 ≠ 0

/-- Emission of a frame reaches a deadline (R26, R220): it stops, DAMAGED. The event names the designated
sub-frame of a twin image, else the last one (log entry 14). -/
def State.cutEmission (s : State) (n : Nat) (twin : Bool) : State :=
  match s.frame? n with
  | none => s
  | some f =>
    let e := f.emit twin
    if e.cut ∨ e.trailer then s
    else
      let e1 := { e with cut := true, damaged := true }
      (s.modFrame n fun g => if twin then { g with twin := e1 } else { g with main := e1 }).overrun
        (if twin then 3 else 2) (f.cfg.plan.out.engines twin) f
        (if twin then f.cfg.sched.twinJ else f.cfg.sched.s - 1)

/-! ### Accumulation (R172 to R175) -/

/-- Range of the running value in half codes (R172). -/
def vHold (v : Int) : Int × Bool :=
  let h := clampI (-1073741824) 1073741823 v
  (h, h ≠ v)

/-- A running value with its clip flag, held mark and whether it was substituted or restarted. -/
structure Acc where
  v    : Int := 0
  clip : Bool := false
  held : Bool := false
  brk  : Bool := false
  deriving DecidableEq, Repr

/-- One sub-frame of weight `w` is added (R173); `ws` is the sum of the weights before it. -/
def Acc.add (a : Acc) (bracket : Bool) (w ws : Nat) (z : Q) (clip : Bool) : Acc :=
  if w = 0 then a
  else
    let plain := a.v + ((z.mul (Q.int (2 * w))).divN 32768).round
    let (v, c, b) :=
      if ¬ bracket ∨ (¬ clip ∧ ¬ a.clip) then (plain, a.clip || clip, false)
      else if clip ∧ ¬ a.clip ∧ 0 < ws then
        (a.v + (Q.mk2 (w * a.v) ws).round, a.clip, true)
      else if ¬ clip then (((z.mul (Q.int (2 * (ws + w)))).divN 32768).round, false, true)
      else (plain, true, false)
    let (h, held) := vHold v
    { v := h, clip := c, held := a.held || held, brk := b }

/-- The finished value and clip flag (R174), and whether it was held. -/
def Acc.finish (a : Acc) : FinPx × Bool :=
  let f := (Q.mk2 a.v 2).round
  let h := clampI (-1048576) 16777215 f
  let held : Bool := a.held || h ≠ f
  ({ v := h, clip := a.clip || held }, held)

/-- With S = 1 the finished value is round(w_0 × y), with the combine stage's CLIP (R174). -/
def finishOne (w : Nat) (z : Q) (c : Comb) : FinPx × Bool :=
  let f := ((z.mul (Q.int w)).divN 32768).round
  let h := clampI (-1048576) 16777215 f
  ({ v := h, clip := c.clip, pair := c.pair }, h ≠ f)

/-- DRAM address of the accumulator word of pixel `i` of a stripe-line (R11; the layout inside the region
is the model's, log entry 15). -/
def accAddr (key i : Nat) : Nat := 1024 * key + 4 * i

/-- Read an accumulator word (R172). -/
def readAcc (m : Memory) (a : Nat) : Acc :=
  let w := rdLE m a 4
  { v := sext w 31, clip := w.testBit 31 }

/-- Write an accumulator word (R172). -/
def writeAcc (m : Memory) (a : Nat) (x : Acc) : Memory :=
  wrLE m a 4 (unsext x.v 31 + flag x.clip 31)

/-! ### Binning (R181, R182) -/

/-- Input positions of output position `x` among `n` inputs. -/
def binInputs (n p b x : Nat) : List Nat :=
  if b ≤ 1 then [x]
  else ((List.range b).map fun a => x / p * b * p + x % p + p * a).filter (· < n)

/-- Key of a stripe-line before digital binning: row `j` of a part. -/
def Win.lineKey (w : Win) (bank j stripe : Nat) : Nat :=
  80 * (if bank = 0 then j else w.nTop + j) + stripe

/-- Finished pixels of a line; a line not processed has none. -/
def finLine (l : List (Nat × List FinPx)) (k : Nat) : List FinPx :=
  sget (fun _ => []) l k

/-- Output rows of a part. -/
def Plan.outRows (pl : Plan) (bank : Nat) : Nat := if bank = 0 then pl.topOut else pl.botOut

/-- Rows of a part before digital binning. -/
def Win.partRows (w : Win) (bank : Nat) : Nat := if bank = 0 then w.nTop else w.nBot

/-- Input rows of output row `x` of a part. -/
def Plan.rowInputs (pl : Plan) (bank x : Nat) : List Nat :=
  binInputs (pl.win.partRows bank) pl.mosaic pl.binFactor x

/-- Output row number in the frame (R161). -/
def Plan.outRow (pl : Plan) (bank x : Nat) : Nat := if bank = 0 then x else pl.topOut + x

/-- The output pixels of a stripe-line from finished values (R181, R182). -/
def Plan.outLine (pl : Plan) (fins : List (Nat × List FinPx)) (bank x stripe : Nat) : List FinPx :=
  let rows := (pl.rowInputs bank x).map fun j => finLine fins (pl.win.lineKey bank j stripe)
  (List.range pl.pxOut).map fun c =>
    let ins := rows.flatMap fun r =>
      (binInputs 256 pl.mosaic pl.binFactor c).map fun i => r.getD i { v := 0, clip := false }
    let t := ins.foldl (fun (a : Int) p => a + p.v) 0
    { v := (Q.mk2 t ins.length).round, clip := ins.any (·.clip), pair := (ins.headD ⟨0, false, 0⟩).pair }

/-! ### Packing (R217) -/

/-- A bit stream of `w`-bit values, least significant bit first, as bytes (R217). -/
def packBits (w : Nat) (l : List Nat) : List Byte :=
  let n := l.foldr (fun x a => x % 2 ^ w + a * 2 ^ w) 0
  leBytes n (divUp (w * l.length) 8)

/-- `SHIFT16` of the packing record (R218). -/
def Plan.shift16 (pl : Plan) : Nat := pl.recField 8 0 1

/-- `PED24` (R160). -/
def Plan.ped24 (pl : Plan) : Nat := pl.recField 5 0 4

/-- The packed code of an output pixel (R217). -/
def Plan.packCode (pl : Plan) (fmt : Nat) (p : FinPx) : Nat :=
  let v := p.v + (pl.ped24 : Int)
  if fmt = 3 then p.pair
  else if fmt = 0 then (clampI 0 16777215 v).toNat
  else (clampI 0 65535 (Q.mk2 v (2 ^ pl.shift16)).round).toNat

/-- Payload of a line packet. -/
def Plan.packLine (pl : Plan) (fmt : Nat) (l : List FinPx) : List Byte :=
  packBits (formatBits fmt) (l.map (pl.packCode fmt))

/-- DRAM address of a packed stripe-line in its frame buffer (R11, R25; the layout inside the
region is the model's, log entry 15). -/
def bufAddr (fmt : Nat) (twin : Bool) (outRow stripe : Nat) : Nat :=
  let line := outRow * 80 + stripe
  if twin then 0x5C500000 + 768 * line else if fmt = 3 then 1024 * line else 0x34C00000 + 768 * line

/-! ### Emission order (R22) -/

/-- Stripe-lines of a frame. -/
def Plan.lineCount (pl : Plan) : Nat := (pl.topOut + pl.botOut) * pl.win.stripes.length

/-- Line `i` in the order of R22: bank, output row of the part, stripe. -/
def Plan.lineAt (pl : Plan) (i : Nat) : Nat × Nat × Nat :=
  let n := max 1 pl.win.stripes.length
  let m := min pl.topOut pl.botOut
  let k := pl.win.stripes.getD (i % n) 0
  let q := i / n
  if q < 2 * m then (q % 2, q / 2, k)
  else (if pl.botOut < pl.topOut then 0 else 1, q - m, k)

/-- Place of a stripe-line in the order of R22. -/
def Plan.lineIndex (pl : Plan) (bank x k : Nat) : Nat :=
  let n := pl.win.stripes.length
  let before := min x pl.topOut + min x pl.botOut + (if bank = 1 ∧ x < pl.topOut then 1 else 0)
  before * n + k

/-- The stripe-line is final once the last of its input rows is among the `done` slots (R22). -/
def Plan.lineFinal (pl : Plan) (bank x done : Nat) : Bool :=
  match (pl.rowInputs bank x).getLast? with
  | some j => j < done
  | none => false

/-- Buffer of a stream (R11, R25): 0 the accumulator region, for RAW28, 1 the output buffer, 2 the twin
buffer. -/
def Frame.buffer (f : Frame) (twin : Bool) : Nat :=
  if twin then 2 else if f.cfg.plan.out.format = 3 then 0 else 1

/-- The frame has not sent the stripe-line of an output row on a stream. -/
def Frame.unsent (f : Frame) (twin : Bool) (outRow stripe : Nat) : Bool :=
  let pl := f.cfg.plan
  let bank := if outRow < pl.topOut then 0 else 1
  let x := if bank = 0 then outRow else outRow - pl.topOut
  match pl.win.stripes.findIdx? (· = stripe) with
  | some k => !(f.emit twin).trailer && decide (x < pl.outRows bank) &&
      decide ((f.emit twin).sent ≤ pl.lineIndex bank x k)
  | none => false

/-- The writer of frame `n` reaches a stripe-line of a buffer: an older frame whose packet for it has not
left is cut (R23). -/
def State.writerReaches (s : State) (n buf outRow stripe : Nat) : State :=
  (s.frames.takeWhile (·.num ≠ n)).foldl (fun (a : State) g =>
    [false, true].foldl (fun (b : State) twin =>
      if g.emits twin ∧ g.buffer twin = buf ∧ g.unsent twin outRow stripe then b.cutEmission g.num twin
      else b) a) s

/-- Write the output rows of a part that become final with slot `j` (R24, R25, R179). -/
def State.writeOut (s : State) (n : Nat) (twin : Bool) (bank j : Nat) : State :=
  match s.frame? n with
  | none => s
  | some f =>
    let pl := f.cfg.plan
    let fmt := if twin then pl.out.twinFormat else pl.out.format
    let rows := (List.range (pl.outRows bank)).filter fun x => (pl.rowInputs bank x).getLast? = some j
    rows.foldl (fun (a : State) x =>
      pl.win.stripes.foldl (fun (b : State) i =>
        let r := pl.outRow bank x
        let b1 := b.writerReaches n (f.buffer twin) r i
        let fins := if twin then f.twinFins else f.fins
        let bytes := pl.packLine fmt (pl.outLine fins bank x i)
        { b1 with dram := wrBytes b1.dram (bufAddr fmt twin r i) bytes }) a) s

/-! ### One stripe-line of a sub-frame -/

/-- What the conversions of one stripe-line give. -/
structure LinePx where
  h : List Px
  l : List Px
  c : List Comb

/-- The pixels of columns `cols` in active slot `j` of a bank. -/
def Rd.line (r : Rd) (bank j : Nat) (cols : List Int) : LinePx :=
  let h := cols.map fun c => r.value (r.site bank j 0 c)
  let l := cols.map fun c => r.value (r.site bank j 1 c)
  { h := h, l := l, c := (h.zip l).map fun (a, b) => r.combine a b }

/-- Sideband contribution of one sub-frame's stripe-line (R161): bytes 0 and 1, groups, columns
substituted. -/
def LinePx.flags (x : LinePx) (settling spare hold noSlice fail : Bool) : Nat × Nat × Nat × List Nat :=
  let ps := x.h.zip x.l
  let any := fun (p : Px → Bool) => ps.any fun (a, b) => p a || p b
  let idx := fun (p : Px → Bool) =>
    ((List.range ps.length).zip ps).filterMap fun (i, a, b) => if p a || p b then some i else none
  let b0 := flag (any (·.ecl)) 1 + flag (any (·.sub)) 2 + flag (any (·.unres)) 3 +
    flag (any (·.rdist)) 4 + flag settling 5 + flag spare 7
  let b1 := flag hold 0 + flag noSlice 1 + flag fail 2
  (b0, b1, maskOf ((idx (·.rdist)).map (· / 64)), idx (·.sub))

/-- A line's flags take in a sub-frame. -/
def LineInfo.take (i : LineInfo) (x : Nat × Nat × Nat × List Nat) : LineInfo :=
  { i with b0 := i.b0 ||| x.1, b1 := i.b1 ||| x.2.1, groups := i.groups ||| x.2.2.1
           defs := (i.defs ++ x.2.2.2).eraseDups }

/-- Count substitutions and clips of a line in its datapath (R155, R156, R170). -/
def State.countLine (s : State) (d : Nat) (x : LinePx) : State :=
  let n := fun (p : Px → Bool) => (x.h.filter p).length + (x.l.filter p).length
  let y := s.dp d
  let u := n (·.unres)
  let s1 := s.setDp d { y with
    runDefs := y.runDefs + n (·.sub), runUnres := y.runUnres + u
    runClips := y.runClips + (x.c.filter (·.clip)).length }
  if u = 0 then s1 else s1.strWarn d 8

/-- Accumulate the 256 columns of a line and finish them with the last sub-frame (R172 to R175). With PASS
the value is that of SELECT_L as it stands (R184, R191). DESIGN CHOICE: the last sub-frame writes its sum
back to the accumulator too (R24; log entry 46). -/
def accLine (f : Frame) (m : Memory) (info : LineInfo) (key j : Nat) (cs : List Comb) :
    Memory × List FinPx × List Nat × Nat × Nat :=
  let sch := f.cfg.sched
  let w := f.weight j
  let fresh : Bool := j = 0 || !info.init
  let ws := if fresh then 0 else (List.range j).foldl (fun a i => a + f.weight i) 0
  let last : Bool := j + 1 = sch.s
  let one : Bool := sch.s = 1
  ((List.range 256).zip cs).foldl (fun (m, fins, held, nHeld, nBrk) (i, c) =>
    let z := (Q.mk2 (c.y * sch.bracketFactor j) 65536).divN (2 ^ f.cfg.plan.bshift)
    if one then
      let (p, h) := if f.cfg.plan.combineMode = 3 then ({ v := c.y, clip := c.clip, pair := c.pair }, false)
        else finishOne w z c
      (m, fins ++ [p], held, nHeld + b2n h, nBrk)
    else
      let a := accAddr key i
      let old : Acc := if fresh then {} else { readAcc m a with held := held.contains i }
      let x := old.add sch.bracket w ws z c.clip
      let m1 := writeAcc m a x
      let held1 := if x.held ∧ ¬ held.contains i then held ++ [i] else held
      let (p, h) := x.finish
      (m1, if last then fins ++ [p] else fins, held1, nHeld + b2n (last && h), nBrk + b2n x.brk))
    (m, [], info.held, 0, 0)

/-- A stripe-line is abandoned (R26, R161): DAMAGED, and counted in its datapath. -/
def State.abandonLine (s : State) (n key j stripe : Nat) : State :=
  let d := s.serving stripe
  let x := s.dp d
  (s.setDp d { x with abandoned := wrapAdd x.abandoned 1 32 }).flagLine n key j 0x40

/-- Finished values of a line whose last sub-frame was abandoned, each with its held mark: what the
accumulator holds, 0 where nothing was written for this frame (R26, R174, R175). -/
def Frame.leftover (f : Frame) (m : Memory) (info : LineInfo) (key : Nat) : List (FinPx × Bool) :=
  (List.range 256).map fun i =>
    if info.init ∧ 1 < f.cfg.sched.s then
      ({ readAcc m (accAddr key i) with held := info.held.contains i }).finish
    else ({ v := 0, clip := false }, false)

/-- Count finished pixels that were held and bracket substitutions in a datapath (R174, R197). -/
def State.countHeld (s : State) (d held brk : Nat) : State :=
  let x := s.dp d
  let s1 := s.setDp d { x with runHeld := x.runHeld + held, runBrk := x.runBrk + brk }
  if held = 0 then s1 else s1.setInt A.STR_SINT_STATUS 4

/-- A stripe-line of sub-frame `j` is abandoned: with the last sub-frame its values are finished from what
the accumulator holds (R26, R174). -/
def State.finishAbandoned (s : State) (f : Frame) (key j stripe : Nat) : State :=
  let s1 := s.abandonLine f.num key j stripe
  if j + 1 ≠ f.cfg.sched.s then s1
  else
    let l := f.leftover s.dram (sget (fun _ => ({} : LineInfo)) f.lines key) key
    (s1.modFrame f.num fun g => { g with fins := sins g.fins key (l.map (·.1)) }).countHeld
      (s.serving stripe) (l.filter (·.2)).length 0

/-- One stripe-line of a sub-frame goes through its datapath (R141 to R161, R171 to R179). A datapath that has
failed a self-test and has no replacement goes on processing, with STRIPE_FAIL (R166, R312). -/
def State.procLine (s : State) (r : Rd) (sub : SubRef) (bank j stripe : Nat) : State :=
  match s.frame? sub.frame with
  | none => s
  | some f =>
    let pl := f.cfg.plan
    let sch := f.cfg.sched
    let key := pl.win.lineKey bank j stripe
    let d := s.serving stripe
    let dp := s.dp d
    let last : Bool := sub.j + 1 = sch.s
    let isTwin := sch.isTwin sub.j
    let zero := List.replicate 256 ({ v := 0, clip := false } : FinPx)
    let info := sget (fun _ => ({} : LineInfo)) f.lines key
    if sub.calib ∨ f.calib then
      let s1 := s.modFrame f.num fun g =>
        { g with calib := true, fins := if last then sins g.fins key zero else g.fins }
      if isTwin then s1.modFrame f.num fun g => { g with twinFins := sins g.twinFins key zero } else s1
    else if (dp.state = .failed ∧ ¬ dp.failing) ∨ dp.state = .testing then
      (s.finishAbandoned f key sub.j stripe).damageFrame f.num
    else
      let px := r.line bank j ((List.range 256).map fun (i : Nat) => 256 * (stripe : Int) + (i : Int))
      let hold := [0, 1].any fun p =>
        (sget (fun _ => ({} : Clamp)) s.str.clamps ((2 * stripe + bank) * 2 + p)).hold
      let fl := px.flags sub.settling (decide (80 ≤ d)) hold (r.colFail bank stripe) dp.failing
      let (m, fins, held, nHeld, nBrk) := accLine f s.dram info key sub.j px.c
      let info1 := { info.take fl with init := true, held := held }
      let dmg : Bool := !info.init && sub.j ≠ 0
      let info2 := if dmg then { info1 with b0 := info1.b0 ||| 0x40 } else info1
      let s0 := if sch.s = 1 then s else s.writerReaches f.num 0 (key / 80) stripe
      let s1 := { s0 with dram := m }
      let s2 := s1.modFrame f.num fun g =>
        { g with
          lines := sput (fun _ => {}) g.lines key info2
          fins := if last then sins g.fins key fins else g.fins
          twinLines := if isTwin then
              smod (fun _ => {}) g.twinLines key (·.take fl)
            else g.twinLines
          twinFins := if isTwin then
              sins g.twinFins key (px.c.map fun c => { v := c.y, clip := c.clip, pair := c.pair })
            else g.twinFins }
      (s2.countLine d px).countHeld d nHeld nBrk

/-- Optical-black columns of stripes 0 and 79 pass the stages for the clip count (R66, R142). -/
def State.procOb (s : State) (r : Rd) (bank j : Nat) : State :=
  [(0, (-64 : Int)), (79, 20480)].foldl (fun (a : State) (x : Nat × Int) =>
    a.countLine (a.serving x.1)
      (r.line bank j ((List.range 64).map fun (i : Nat) => x.2 + (i : Int)))) s

/-- Process active slot `j` of the current readout in both banks, top first (R22, R36). -/
def State.procSlot (s : State) (sub : SubRef) (j : Nat) : State :=
  match s.frame? sub.frame with
  | none => s
  | some f =>
    let r := s.rd f sub.j
    let win := f.cfg.plan.win
    let sch := f.cfg.sched
    let last : Bool := sub.j + 1 = sch.s
    let isTwin := sch.isTwin sub.j
    let banks := [0, 1].filter fun b => j < win.partRows b
    let s1 := banks.foldl (fun (a : State) b =>
      let c := if sub.calib then a else a.procOb r b j
      win.stripes.foldl (fun (e : State) i => e.procLine r sub b j i) c) s
    let s2 := if last then banks.foldl (fun (a : State) b => a.writeOut f.num false b j) s1 else s1
    let s3 := if isTwin then banks.foldl (fun (a : State) b => a.writeOut f.num true b j) s2 else s2
    let s4 := s3.modFrame f.num fun g =>
      { g with rows := if last then j + 1 else g.rows, twinRows := if isTwin then j + 1 else g.twinRows }
    { s4 with str := { s4.str with done := j + 1 } }

/-- Process the slots up to `n` that are still open. -/
def State.procUpTo (s : State) (sub : SubRef) (n : Nat) : State :=
  ((List.range n).filter (s.str.done ≤ ·)).foldl (fun (a : State) j => a.procSlot sub j) s

/-- The readout is over: counters of the datapaths become those of the last completed readout
(R170). -/
def State.latchCounters (s : State) : State :=
  allDps.foldl (fun (a : State) d =>
    let x := a.dp d
    a.setDp d { x with
      excl := x.runExcl, defs := x.runDefs, unres := x.runUnres, clips := x.runClips
      runExcl := 0, runDefs := 0, runUnres := 0, runClips := 0 }) s

/-- A sub-frame that is not fully processed at its deadline (R26, R49): its unprocessed
stripe-lines are abandoned and its frame is DAMAGED. -/
def State.abandonRest (s : State) (sub : SubRef) : State :=
  match s.frame? sub.frame with
  | none => s
  | some f =>
    let win := f.cfg.plan.win
    let total := max win.nTop win.nBot
    if total ≤ s.str.done then s
    else
      let last : Bool := sub.j + 1 = f.cfg.sched.s
      let isTwin := f.cfg.sched.isTwin sub.j
      let rest := (List.range total).filter (s.str.done ≤ ·)
      let s1 := rest.foldl (fun (a : State) j =>
        ([0, 1].filter fun b => j < win.partRows b).foldl (fun (c : State) b =>
          let c1 := win.stripes.foldl (fun (e : State) i =>
            let key := win.lineKey b j i
            (e.finishAbandoned f key sub.j i).modFrame f.num fun g =>
              { g with twinFins := if isTwin then sins g.twinFins key (List.replicate 256 ⟨0, false, 0⟩)
                  else g.twinFins }) c
          let c2 := if last then c1.writeOut f.num false b j else c1
          if isTwin then c2.writeOut f.num true b j else c2) a) s
      let s2 := s1.modFrame f.num fun g =>
        { g with rows := if last then total else g.rows
                 twinRows := if isTwin then total else g.twinRows
                 twin := if isTwin then { g.twin with damaged := true } else g.twin }
      let s3 := { s2 with str := { s2.str with done := total } }
      let s4 := if s3.tmg.slot < win.nSlot + 6 then s3.latchCounters else s3
      (s4.damageFrame f.num).overrun 0 (win.stripes.map s.serving) f sub.j

/-! ### Sideband (R161) -/

/-- The 16-byte sideband of an output stripe-line, its CLIP_COUNT and its DEF_COUNT. -/
def Frame.sideband (f : Frame) (twin : Bool) (bank x stripe : Nat) : List Byte × Nat × Nat :=
  if f.calib then (List.replicate 16 0, 0, 0)
  else
    let pl := f.cfg.plan
    let infos := (pl.rowInputs bank x).map fun j =>
      sget (fun _ => ({} : LineInfo)) (if twin then f.twinLines else f.lines) (pl.win.lineKey bank j stripe)
    let or := fun (g : LineInfo → Nat) => infos.foldl (fun a i => a ||| g i) 0
    let out := pl.outLine (if twin then f.twinFins else f.fins) bank x stripe
    let clips := (out.filter (·.clip)).length
    let defs := ((List.range pl.pxOut).filter fun c =>
      (binInputs 256 pl.mosaic pl.binFactor c).any fun i => infos.any (·.defs.contains i)).length
    let b0 := flag (decide (0 < clips)) 0 + or (·.b0)
    ([BitVec.ofNat 8 b0, BitVec.ofNat 8 (or (·.b1))] ++ leBytes clips 2 ++ leBytes defs 2 ++
      leBytes (f.settle % 4096) 2 ++ [BitVec.ofNat 8 (or (·.groups)), BitVec.ofNat 8 bank] ++
      leBytes (pl.outRow bank x) 2 ++ List.replicate 4 0, clips, defs)

/-! ### Centroid (R178) -/

/-- Nanoseconds as 2^-32 ns, from 1/256 SEQCLK cycles: 10 ns / 256. -/
def p256Ns (p : Nat) : Nat := p * 10 * 2 ^ 24

/-- Microseconds as 2^-32 ns. -/
def usNs (n : Nat) : Nat := n * 1000 * nsUnit

/-- A value in 2^-32 ns rounded to 2^-16 ns, in the header encoding (R178, R210). -/
def instantBytes (q : Q) : List Byte :=
  let n := ((q.divN 65536).round).toNat
  let sec := 1000000000 * 65536
  beBytes (n / sec % 2 ^ 48) 6 ++ beBytes (n % sec / 65536) 4 ++ beBytes (n % 65536) 2

/-- The weighted sum of weights and its denominator are 0. -/
def Frame.centNone? (f : Frame) : Bool :=
  (List.range f.cfg.sched.s).all fun j =>
    f.weight j * (if f.cfg.sched.bracket then 1 else (f.cfg.sched.entries.getD j {}).len) = 0

/-- Offset of the centroid from FT n in 2^-32 ns. -/
def Frame.centOffset (f : Frame) : Q :=
  let c := f.cfg.sched
  let q := fun (j : Nat) =>
    f.weight j * (if c.bracket then 1 else (c.entries.getD j {}).len)
  let js := List.range c.s
  let den := js.foldl (fun a j => a + q j) 0
  let num := js.foldl (fun a j =>
    let e := c.entries.getD j {}
    a + q j * (2 * (j * p256Ns c.p256 + usNs e.start) + usNs e.len)) 0
  if den = 0 then Q.mk2 (c.s * p256Ns c.p256 : Nat) 2 else Q.mk2 (num : Nat) (2 * den)

/-- Centroid of the frame, or the instant of the designated sub-frame for its twin (R178). -/
def Frame.centroidBytes (f : Frame) (twin : Bool) : List Byte :=
  match f.tbv with
  | none => List.replicate 12 0
  | some t =>
    if twin then
      let e := f.cfg.sched.entries.getD f.cfg.sched.twinJ {}
      instantBytes ((Q.int (t + f.cfg.sched.twinJ * p256Ns f.cfg.sched.p256 + usNs e.start)).add
        (Q.mk2 (usNs e.len : Nat) 2))
    else instantBytes ((Q.int t).add f.centOffset)

/-- Latch the centroid registers (R197). -/
def State.latchCentroid (s : State) (f : Frame) : State :=
  let b := f.centroidBytes false
  { s with str := { s.str with cent :=
    { frame := f.num, sec := ofBE (b.take 6)
      ns := ofBE ((b.drop 6).take 4) + flag f.centNone? 30 + flag f.tbv.isNone 31
      frac := ofBE (b.drop 10) } } }

/-! ### Colour path (R184 to R190) -/

/-- log2 x is at least n/d for a positive rational x. -/
def logAtLeast (x : Q) (n d : Nat) : Bool := 2 ^ n * x.den ^ d ≤ x.num.natAbs ^ d

/-- Point k of the curve (R186). -/
def Plan.curvePoint (pl : Plan) (k : Nat) : Nat := pl.recField 9 (0x20 + 2 * k) 2 % 1024

/-- log2 x = n / d. -/
def logExactly (x : Q) (n d : Nat) : Bool := 2 ^ n * x.den ^ d = x.num.natAbs ^ d

/-- curve(x) for x at least 1 (R185): the piece, then how many half-way marks of it x has
reached. Which way an x on a half-way mark rounds, the manual does not say (free value, log entry 16). -/
def Plan.curve (pl : Plan) (x : Q) : Nat :=
  if (Q.int 16777216).lt x then pl.curvePoint 64
  else
    let k := ((List.range 64).filter fun i => logAtLeast x (3 * i) 8).length - 1
    let a := pl.curvePoint k
    let d := pl.curvePoint (k + 1) - a
    let mark (m : Nat) : Nat := 3 * (2 * d * k + 2 * m + 1)
    let reached := ((List.range d).filter fun m => logAtLeast x (mark m) (16 * d)).length
    let tie := (List.range d).any fun m => logExactly x (mark m) (16 * d)
    a + reached - (if tie then Config.openValue 16 [x.num, x.den] % 2 else 0)

/-- Finished value at a row of a part and a column of a stripe. -/
def Frame.fin (f : Frame) (bank j stripe i : Nat) : FinPx :=
  (finLine f.fins (f.cfg.plan.win.lineKey bank j stripe)).getD i { v := 0, clip := false }

/-- Colour code of a row of a part and a column (R37, R192). -/
def Frame.siteColour (f : Frame) (bank j stripe i : Nat) : Nat :=
  colour (f.cfg.plan.variant = 1) (256 * stripe + i : Nat) ((f.cfg.plan.win.slotRows bank j).headD 0)

/-- Channel means R, G, B, IR of the block of factor `fac` at block row `br` and block column `bc`
of a stripe (R185). -/
def Frame.blockMeans (f : Frame) (fac bank br stripe bc : Nat) : List Q :=
  let rows := ((List.range fac).map (br * fac + ·)).filter (· < f.cfg.plan.win.partRows bank)
  let sites := rows.flatMap fun j => (List.range fac).map fun i => (j, bc * fac + i)
  let mean := fun (p : Nat → Bool) =>
    let v := (sites.filter fun (j, i) => p (f.siteColour bank j stripe i)).map fun (j, i) =>
      (f.fin bank j stripe i).v
    (Q.int (v.foldl (· + ·) 0)).divN (max 1 v.length)
  [mean (· = 0), mean (fun c => c = 1 || c = 2), mean (· = 3), mean (· = 4)]

/-- R, G, B and matte of a block (R185). -/
def Frame.blockPixel (f : Frame) (x : List Q) : List Nat :=
  let pl := f.cfg.plan
  let m := fun (i o : Nat) => Q.mk2 (sext (pl.recField 9 (8 + 2 * (3 * i + o)) 2) 16) 4096
  let rgb := (List.range 3).map fun o =>
    let lin := Q.sum ((List.range 4).map fun i => (x.getD i {}).mul (m i o))
    pl.curve (if lin.lt (Q.int 1) then Q.int 1 else lin)
  let matte := (clampI 0 1023 ((((x.getD 3 {}).sub (Q.int (pl.recField 9 4 3 : Nat))).divN
    (2 ^ pl.recField 9 1 1)).floor)).toNat
  if pl.planes = 4 then rgb ++ [matte] else rgb

/-- Block rows of both parts in order, as (bank, block row) (R184). -/
def Plan.blockRowList (pl : Plan) (fac : Nat) : List (Nat × Nat) :=
  ((List.range (divUp pl.win.nTop fac)).map fun i => (0, i)) ++
    ((List.range (divUp pl.win.nBot fac)).map fun i => (1, i))

/-- The pixels of one block row of one stripe. -/
def Frame.blockLine (f : Frame) (fac bank br stripe : Nat) : List (List Nat) :=
  (List.range (256 / fac)).map fun bc => f.blockPixel (f.blockMeans fac bank br stripe bc)

/-- Plane `k` of a list of pixels in P10 packing (R217). -/
def planeBytes (px : List (List Nat)) (k : Nat) : List Byte := packBits 10 (px.map (·.getD k 0))

/-- Scale factor of the proxy (R120); 0 off. -/
def OutCfg.proxyFactor (o : OutCfg) : Nat := if o.proxy % 4 = 1 then 16 else if o.proxy % 4 = 2 then 32 else 0

/-- The plan's reconstructed output is on. -/
def OutCfg.recon (o : OutCfg) : Bool := o.proxy.testBit 2

/-- Bytes of one plane of the proxy. -/
def Plan.proxyPlane (pl : Plan) : Nat :=
  let f := pl.out.proxyFactor
  divUp (10 * (pl.blockRows f * (pl.win.stripes.length * (256 / max 1 f)))) 8

/-- Offset of plane `k` in a proxy slot: 4 KiB boundaries after the header (R188). -/
def Plan.planeOfs (pl : Plan) (k : Nat) : Nat := 4096 + k * (divUp pl.proxyPlane 4096 * 4096)

/-- Slot header of the proxy of a frame with the given state (R188). -/
def Frame.proxyHeader (f : Frame) (seq state : Nat) : List Byte :=
  let pl := f.cfg.plan
  let fac := max 1 pl.out.proxyFactor
  leBytes seq 4 ++ leBytes f.num 4 ++ leBytes f.epoch 4 ++
    leBytes (state + at_ (pl.out.proxy % 4) 8 + at_ pl.planes 16) 4 ++
    leBytes (pl.win.stripes.length * (256 / fac)) 2 ++ leBytes (pl.blockRows fac) 2 ++
    f.centroidBytes false ++
    (List.range 4).flatMap (fun k => leBytes (if k < pl.planes then pl.planeOfs k else 0) 4) ++
    List.replicate 12 0

/-- A proxy of the frame is to be made (R187, R190); a frame starts in MONITOR or CAPTURE only, and a later
change of mode does not reach it (R30). -/
def Frame.wantsProxy (f : Frame) : Bool :=
  !f.cfgErr && f.cfg.plan.out.proxyFactor ≠ 0 && f.num % (max 1 f.cfg.plan.out.proxyDiv) = 0

/-- DRAM address of the ring slot of the frame's proxy (R187, R188). -/
def Frame.slotAddr (f : Frame) : Nat := f.proxyBase + f.proxySlot % 4 * 8388608

/-- The frame is DAMAGED as its trailer would now say it (R26, R162, R175, R211, R214). -/
def Frame.isDamaged (f : Frame) : Bool := f.damaged || f.main.damaged || decide (0 < f.main.lost)

/-- The first plane byte of a new proxy is about to be written: STATE is WRITING (R188). -/
def State.proxyBegin (s : State) (n : Nat) : State :=
  match s.frame? n with
  | some f =>
    if f.proxy ≠ 0 ∨ ¬ f.wantsProxy then s
    else
      let g := { f with proxy := 1, proxySlot := s.str.proxySeq }
      let s1 := { s with dram := wrBytes s.dram g.slotAddr (g.proxyHeader g.proxySlot 0) }
      let s2 := s1.modFrame n fun h => { h with proxy := 1, proxySlot := s.str.proxySeq }
      { s2 with str := { s2.str with proxySeq := wrapAdd s2.str.proxySeq 1 32 } }
  | none => s

/-- The image bytes of a proxy in its slot, from the plane offset on. -/
def Frame.proxyPlanes (f : Frame) : List (Nat × List Byte) :=
  let pl := f.cfg.plan
  let fac := max 1 pl.out.proxyFactor
  let px := (pl.blockRowList fac).flatMap fun (b, r) =>
    pl.win.stripes.flatMap fun i => f.blockLine fac b r i
  (List.range pl.planes).map fun k => (pl.planeOfs k, planeBytes px k)

/-- A proxy ends VALID or DAMAGED (R187); its planes are in the slot either way. -/
def State.proxyEnd (s : State) (n : Nat) (valid : Bool) : State :=
  match s.frame? n with
  | some f =>
    if f.proxy ≠ 1 then s
    else
      let base := f.slotAddr
      let m1 := f.proxyPlanes.foldl (fun (m : Memory) x => wrBytes m (base + x.1) x.2) s.dram
      let m2 := wrBytes m1 base (f.proxyHeader f.proxySlot (if valid then 1 else 2))
      let m3 := wrLE m2 (base + 0x3C) 4 f.proxySlot
      let s1 := { s with
        dram := m3
        str := { s.str with
          proxyFrame := f.num, proxyOk := valid, proxySlot := f.proxySlot % 4
          proxyDmg := if valid then s.str.proxyDmg else satAdd s.str.proxyDmg 1 16 } }
      (s1.modFrame n fun g => { g with proxy := if valid then 3 else 2 }).setInt A.STR_SINT_STATUS (if valid then 2 else 3)
  | none => s

/-- DRAM address of a reconstructed line (R189; layout of the model, log entry 15). -/
def Frame.reconAddr (f : Frame) (row stripe : Nat) : Nat := f.reconBase + (row * 80 + stripe) * 320

/-- Reconstructed packets of a frame on the main stream. -/
def Frame.reconCount (f : Frame) : Nat :=
  if f.cfg.plan.out.recon then f.cfg.plan.blockRows 4 * f.cfg.plan.win.stripes.length else 0

/-- The reconstructed image of a frame is in its buffer (R189); an older frame whose packets of it have not
all left is cut, as R23 has it for the output buffer. -/
def State.reconWrite (s0 : State) (f : Frame) : State :=
  let pl := f.cfg.plan
  if ¬ f.capture ∨ ¬ pl.out.recon ∨ f.cfgErr then s0
  else
    let rows := (List.range (pl.blockRows 4)).zip (pl.blockRowList 4)
    let s1 := (s0.frames.takeWhile (·.num ≠ f.num)).foldl (fun (a : State) g =>
      if g.emits false ∧ g.recon ∧ g.main.recon < g.reconCount then a.cutEmission g.num false else a) s0
    let s := s1.modFrame f.num fun g => { g with recon := true }
    { s with dram := rows.foldl (fun (m : Memory) (i, b, r) =>
        pl.win.stripes.foldl (fun (m : Memory) k =>
          let px := f.blockLine 4 b r k
          wrBytes m (f.reconAddr i k) ((List.range pl.planes).flatMap fun p => planeBytes px p)) m) s.dram }

/-- The bases written take effect and are checked at an FT; every check that fails records a warning (R190). -/
def State.basesAtFT (s : State) : State :=
  let p := s.rn A.STR_PROXY_BASE / 4096 * 4096
  let r := s.rn A.STR_RECON_BASE / 4096 * 4096
  let inside := fun (a n : Nat) => decide (0x83E00000 ≤ a) && decide (a + n ≤ 0xEC000000)
  let good := inside p 0x2000000 && inside r 0x5000000 && p % 0x100000 = 0 && r % 0x100000 = 0 &&
    (decide (p + 0x2000000 ≤ r) || decide (r + 0x5000000 ≤ p))
  let s1 := { s with str := { s.str with proxyBase := p, reconBase := r, cfgErr := !good } }
  if good then s1 else (s1.setInt A.STR_SINT_STATUS 5).warn clsSTAT 5 0 0

/-! ### Frame completion (R24, R178, R187, R189) -/

/-- Every finished value of the oldest frame whose last sub-frame is processed is in the buffer. -/
def State.frameComplete (s : State) : State × Option Nat :=
  match s.frames.find? (fun f =>
    !f.complete && max f.cfg.plan.win.nTop f.cfg.plan.win.nBot ≤ f.rows && 0 < f.rows) with
  | none => (s, none)
  | some f =>
    let s1 := s.modFrame f.num fun g => { g with complete := true }
    let s2 := (s1.latchCentroid f).reconWrite f
    let s3 := allDps.foldl (fun (a : State) d =>
      let x := a.dp d
      a.setDp d { x with held := x.runHeld, brk := x.runBrk, runHeld := 0, runBrk := 0 }) s2
    let valid := !f.isDamaged && !f.calib
    let s4 := s3.proxyEnd f.num valid
    (s4, if f.proxy = 1 ∧ valid then some f.num else none)

/-! ### Statistics (R191 to R196) -/

/-- The values that statistics take (R191): finished values, or the designated sub-frame. -/
def Frame.statSource (f : Frame) : List (Nat × List FinPx) × List (Nat × LineInfo) :=
  if f.cfg.plan.stat.point = 1 then (f.twinFins, f.twinLines) else (f.fins, f.lines)

/-- Rows before digital binning whose first source row satisfies `p`, as (bank, row of the part). -/
def Win.rowsWhere (w : Win) (p : Int → Bool) : List (Nat × Nat) :=
  [0, 1].flatMap fun b => ((List.range (w.partRows b)).filter fun j =>
    p ((w.slotRows b j).headD 0)).map fun j => (b, j)

/-- Pixels of one channel in some rows and stripes: value and clip mark (R191). -/
def Frame.statPixels (f : Frame) (ch : Nat) (rows : List (Nat × Nat)) (stripes : List Nat) :
    List (Int × Bool) :=
  let src := f.statSource.1
  rows.flatMap fun (b, j) => stripes.flatMap fun i =>
    ((List.range 256).zip (finLine src (f.cfg.plan.win.lineKey b j i))).filterMap fun (c, p) =>
      if f.siteColour b j i c = ch then
        some (p.v, p.clip || decide ((f.cfg.plan.stat.clipLevel : Int) ≤ p.v))
      else none

/-- Flags common to `ZFLAGS` and `HFLAGS` over some lines: DAMAGED, SETTLING, SHARP, BRACKET, and
SPARE in bit 10. -/
def Frame.statFlags (f : Frame) (late : Bool) (rows : List (Nat × Nat)) (stripes : List Nat) : Nat :=
  let ls := rows.flatMap fun (b, j) => stripes.map fun i =>
    sget (fun _ => ({} : LineInfo)) f.statSource.2 (f.cfg.plan.win.lineKey b j i)
  let any := fun (k : Nat) => ls.any fun l => l.b0.testBit k
  let sharp : Bool := f.cfg.plan.stat.point = 1
  flag (any 6 || late || f.calib) 0 + flag (any 5) 3 + flag sharp 4 +
    flag (f.cfg.sched.bracket && !sharp) 5 + flag (any 7) 10

/-- One channel of a zone record (R193). -/
def channelBytes (px : List (Int × Bool)) : List Byte :=
  if px = [] then List.replicate 32 0
  else
    let v := px.map (·.1)
    let sum := v.foldl (· + ·) 0
    let sq := v.foldl (fun (a : Nat) x => a + x.natAbs * x.natAbs) 0
    let mn := v.foldl min (v.headD 0)
    let mx := v.foldl max (v.headD 0)
    leBytes (unsext sum 64) 8 ++ leBytes sq 8 ++ leBytes (unsext mn 32) 4 ++ leBytes (unsext mx 32) 4 ++
      leBytes px.length 2 ++ leBytes (px.filter (·.2)).length 2 ++ List.replicate 4 0

/-- Zone record `z` (R192, R193). -/
def Frame.zoneRecord (f : Frame) (late : Bool) (z : Nat) : List Byte :=
  let zx := z % 80
  let zy := z / 80
  let win := f.cfg.plan.win
  let on : Bool := win.mask.testBit zx
  let rows := if on then win.rowsWhere fun r => r / 200 = (zy : Int) else []
  let whole : Bool := on && win.first ≤ 200 * zy && 200 * zy + 199 ≤ win.last
  let px := fun (c : Nat) => if f.calib then [] else f.statPixels c rows [zx]
  let zf := f.statFlags late rows [zx] + flag rows.isEmpty 1 + flag (!rows.isEmpty && !whole) 2 +
    at_ f.cfg.plan.bshift 6
  leBytes f.num 4 ++ leBytes f.epoch 4 ++ leBytes z 2 ++ leBytes zf 2 ++ List.replicate 20 0 ++
    (List.range 5).flatMap fun c => channelBytes (px c)

/-- Histogram bin of a value (R194). -/
def histBin (log : Bool) (shift : Nat) (v : Int) : Nat :=
  let n := v.toNat
  if ¬ log then min (n >>> shift) 1023
  else if n < 256 then 0
  else
    let e := Nat.log2 n
    64 * (e - 8) + (n >>> (e - 6)) - 64

/-- Histogram `h` (R194). -/
def Frame.histogram (f : Frame) (late : Bool) (h : Nat) : List Byte :=
  let st := f.cfg.plan.stat
  let src := st.histSrc.getD h 0
  let log : Bool := st.histMap.getD h 0 = 1
  let shift := st.histShift.getD h 0
  let rows := f.cfg.plan.win.rowsWhere fun _ => true
  let ss := f.cfg.plan.win.stripes
  let vs := if f.calib then [] else (f.statPixels src rows ss).map (·.1)
  let bins := (vs.map (histBin log shift)).foldl (fun (l : List (Nat × Nat)) b =>
    smod (fun _ => 0) l b (· + 1)) []
  let under := (vs.filter fun v => if log then decide (v < 256) else decide (v < 0)).length
  let tooBig := if log then 0 else (vs.filter fun v => decide (1023 < v.toNat >>> shift)).length
  leBytes f.num 4 ++ leBytes f.epoch 4 ++
    [BitVec.ofNat 8 src, BitVec.ofNat 8 (b2n log), BitVec.ofNat 8 shift,
     BitVec.ofNat 8 (f.statFlags late rows ss % 64)] ++
    leBytes vs.length 4 ++ leBytes under 4 ++ leBytes tooBig 4 ++ List.replicate 40 0 ++
    (List.range 1024).flatMap fun b => leBytes (sget (fun _ => 0) bins b) 4

/-- HOLD as a delivery now finds it (R196): a write of this MGTCLK cycle takes effect after the delivery. -/
def State.holdNow (s : State) : Bool :=
  match s.str.held with
  | some (c, was) => if c = s.mgt then was else s.rb A.STR_STAT_CTRL 0
  | none => s.rb A.STR_STAT_CTRL 0

/-- Deliver the statistics set of a frame (R195, R196, R215). -/
def State.deliverStat (s : State) (n : Nat) (late : Bool) : State :=
  match s.frame? n with
  | none => s
  | some f =>
    if f.statDone then s
    else
      let seq := wrapAdd s.str.statSeq 1 32
      let x : StatSet :=
        { frame := f.num, epoch := f.epoch, seq := seq, sflags := flag f.isDamaged 0 + flag late 1,
          zones := (List.range 4320).flatMap (f.zoneRecord late),
          hists := (List.range 4).flatMap (f.histogram late) }
      let hold := s.holdNow
      let wrote : Bool := s.str.held.any fun c => c.1 = s.mgt
      let after := s.rb A.STR_STAT_CTRL 0
      let s1 := { s with str := { s.str with
        statSeq := seq, newest := some x
        shown := if hold && after then s.str.shown else some x
        missed := if hold && !(wrote && after) then satAdd s.str.missed 1 16 else s.str.missed } }
      let s2 := ((s1.setRn A.STR_STAT_FRAME f.num).setRn A.STR_STAT_EPOCH f.epoch).setInt
        A.STR_SINT_STATUS 0
      let s3 := if late then (s2.setInt A.STR_SINT_STATUS 1).overrun 1 [0] f (f.cfg.sched.s - 1) else s2
      let s4 :=
        match s3.lnk.stat with
        | some q =>
          if q.next < 220 then
            ({ s3 with lnk := { s3.lnk with
              stat := none, statDropped := wrapAdd s3.lnk.statDropped (220 - q.next) 32 } }).setInt
              A.LNK_INT_STATUS 4
          else { s3 with lnk := { s3.lnk with stat := none } }
        | none => s3
      let q : StatQueue := { frame := f.num, epoch := f.epoch, seq := seq, sflags := x.sflags,
                             next := 0, lanes := f.lanes0, data := x.zones ++ x.hists }
      let s5 := if f.capture then { s4 with lnk := { s4.lnk with stat := some q } } else s4
      s5.modFrame n fun g => { g with statDone := true }

/-- The oldest completed frame whose set is not yet delivered. -/
def State.statDelivery (s : State) : State :=
  match s.frames.find? (!·.statDone) with
  | some f => if f.complete then s.deliverStat f.num false else s
  | none => s

/-- A write of `STR_STAT_CTRL` (R196, R197). -/
def State.statCtrlWrite (s : State) (v : Word) : State :=
  let s0 := { s with str := { s.str with held := some (s.mgt, s.holdNow) } }
  let s1 := s0.setRn A.STR_STAT_CTRL (wfield v 0 1)
  if wbit v 0 then { s1 with str := { s1.str with missed := 0 } }
  else { s1 with str := { s1.str with shown := s1.str.newest } }

/-- A byte of the STAT window (R196). -/
def StatSet.byte (x : StatSet) (o : Nat) : Byte :=
  let id := leBytes x.frame 4 ++ leBytes x.epoch 4 ++ leBytes x.seq 4
  if o < 0x40 then (id ++ leBytes x.sflags 2).getD o 0
  else if o < 0x40 + 829440 then x.zones.getD (o - 0x40) 0
  else if 0xCB000 ≤ o ∧ o < 0xCF100 then x.hists.getD (o - 0xCB000) 0
  else if 0xCF100 ≤ o ∧ o < 0xCF110 then id.getD (o - 0xCF100) 0
  else 0

/-- A word of the STAT window. -/
def State.statWord (s : State) (o : Nat) : Nat :=
  match s.str.shown with
  | some x => ofLE ((List.range 4).map fun i => x.byte (o + i))
  | none => 0

/-! ### Registers (R170, R197) -/

/-- Centroid registers frozen for an accessor. -/
def Str.frozen (s : Str) : Who → Option CentReg
  | .host => s.frozen0 | .mc0 => s.frozen1 | .mc1 => s.frozen2

def Str.setFrozen (s : Str) (w : Who) (c : Option CentReg) : Str :=
  match w with
  | .host => { s with frozen0 := c } | .mc0 => { s with frozen1 := c } | .mc1 => { s with frozen2 := c }

/-- A read of a centroid register (R197, R436). -/
def State.centRead (s : State) (who : Who) (a : Nat) : Nat × State :=
  let c := (s.str.frozen who).getD s.str.cent
  if a = A.STR_CENT_FRAME then
    (s.str.cent.frame, { s with str := s.str.setFrozen who (some s.str.cent) })
  else if a = A.STR_CENT_SEC_HI then (c.sec / 2 ^ 32, s)
  else if a = A.STR_CENT_SEC_LO then (c.sec % 2 ^ 32, s)
  else if a = A.STR_CENT_NS then (c.ns, s)
  else (c.frac, { s with str := s.str.setFrozen who none })

/-- `STR_ACC_CFG` (R197). -/
def InForce.accCfg (c : InForce) : Nat :=
  c.plan.bshift % 16 + at_ c.plan.centTb 4 + flag c.sched.bracket 6 + flag c.sched.twin 7 +
    at_ c.sched.twinJ 8 + at_ (c.plan.binFactor - 1) 12 + at_ c.plan.stat.point 14

/-- Proxies are being made (R197). -/
def State.proxyActive (s : State) : Bool :=
  match s.inForce with
  | some c => s.sys.mode.capturing && !s.str.cfgErr && c.plan.out.proxyFactor ≠ 0
  | none => false

/-- Live STR registers. -/
def State.strRead (s : State) (a : Nat) : Option Nat :=
  if 0x100000 ≤ a ∧ a < 0x152000 then
    some ((s.dpRead ((a - 0x100000) / 0x1000) ((a - 0x100000) % 0x1000)).getD 0)
  else if a = A.STR_CTRL then some (s.rn A.STR_CTRL &&& 8)
  else if a = A.STR_CMD_STATUS then some (s.str.cmdResult + flag (s.str.test.isSome || s.spareTesting 80 || s.spareTesting 81) 3)
  else if a = A.STR_SPARES then some s.idleSpares.length
  else if a = A.STR_ACC_CFG then some (match s.inForce with | some c => c.accCfg | none => 0)
  else if a = A.STR_STAT_MISSED then some s.str.missed
  else if a = A.STR_PROXY_STATUS then
    some (s.str.proxySlot + flag s.str.proxyOk 2 + flag s.str.cfgErr 3 + flag s.proxyActive 4 +
      at_ s.str.proxyDmg 16)
  else if a = A.STR_PROXY_FRAME then some s.str.proxyFrame
  else if A.STR_MAP ≤ a ∧ a < A.STR_MAP + 80 then
    some (ofLE ((List.range 4).map fun i => BitVec.ofNat 8 (s.serving (a - A.STR_MAP + i))))
  else none

/-- Writes of STR registers with behaviour of their own (R168, R170, R197). -/
def State.strWrite (s : State) (who : Who) (a : Nat) (v : Word) : Option State :=
  if 0x100000 ≤ a ∧ a < 0x152000 then
    let d := (a - 0x100000) / 0x1000
    let x := s.dp d
    match (a - 0x100000) % 0x1000 with
    | 0x004 => some (s.setDp d { x with fault := s.afterClear a x.fault v.toNat })
    | 0x008 => some (s.setDp d { x with warn := s.afterClear a x.warn v.toNat })
    | _ => some s
  else if a = A.STR_CTRL ∨ a = A.STR_CMD ∨ a = A.STR_PROXY_BASE ∨ a = A.STR_RECON_BASE then
    if who = .host then some (s.ignored clsSTR who a)
    else if a = A.STR_CTRL then some (s.strCtrlWrite v)
    else none
  else if a = A.STR_STAT_CTRL then some (s.statCtrlWrite v)
  else none

end Sys2Proof.Machine
end

