-- ==== Sys2Proof/Machine/FabProxy.lean ====
section
/-!
DEFINITION. Proxies on the fabric and the bulk window (08_rig_fabric_and_time.md R248 to R252;
10_management_and_boot.md R303 and R304).
-/
namespace Sys2Proof.Machine

/-! ### Areas (R252) -/

/-- The area lies in the free region of R11 and starts on a 1 MiB boundary. -/
def areaOk (a n : Nat) : Bool := decide (0x83E00000 ≤ a) && decide (a + n ≤ 0xEC000000) && a % 0x100000 = 0

/-- Two areas do not overlap. -/
def apart (a n b m : Nat) : Bool := decide (a + n ≤ b) || decide (b + m ≤ a)

/-- An area overlaps neither the monitor ring nor the reconstruction buffer (R190). -/
def State.clearOfR190 (s : State) (a n : Nat) : Bool :=
  apart a n s.str.proxyBase 0x2000000 && apart a n s.str.reconBase 0x5000000

/-- The bases written take effect and are checked (R252); every check that fails records a warning. -/
def State.fabBasesCheck (s : State) : State :=
  let p := s.rn A.FAB_PRX_BASE / 4096 * 4096
  let f := s.rn A.FAB_FWD_BASE / 4096 * 4096
  let good := areaOk p 0x40000000 && areaOk f 0x6000000 && apart p 0x40000000 f 0x6000000 &&
    s.clearOfR190 p 0x40000000 && s.clearOfR190 f 0x6000000
  let s1 := { s with fab := { s.fab with prxBase := p, fwdBase := f, cfgErr := !good } }
  if good then s1 else (s1.setInt A.FAB_INT_STATUS 12).warn clsFAB 12 0 0

/-- While no ticks run, bases that were written take effect at once (R252). -/
def State.fabBasesNow (s : State) : State :=
  if s.fab.prxBase = s.rn A.FAB_PRX_BASE / 4096 * 4096 ∧ s.fab.fwdBase = s.rn A.FAB_FWD_BASE / 4096 * 4096 then s
  else s.fabBasesCheck

/-! ### Egress queues (R249, R250) -/

/-- Count a dropped proxy of source `a` (R249). -/
def State.proxyDrop (s : State) (a : Nat) : State :=
  { s with fab := { s.fab with
      prxDrop := smod (fun _ => 0) s.fab.prxDrop a (fun n => satAdd n 1 16) } }.setInt A.FAB_INT_STATUS 10

/-- Fragments that a port's store holds or has reserved. -/
def FabPort.held (x : FabPort) : Nat := (x.proxies.map (fun q => q.toCome + q.frags.length)).sum

/-- A proxy of `n` fragments is admitted: fewer than 2 in its queue and space for all of it. -/
def FabPort.admits (x : FabPort) (source n : Nat) : Bool :=
  decide ((x.proxies.filter (fun q => q.source = source)).length < 2) && decide ((x.held + n) * 2048 ≤ 0x2000000)

/-- Proxies of a source that still waited for fragments get no more. -/
def endOpen (source : Nat) (l : List ProxyQ) : List ProxyQ :=
  (l.map (fun q => if q.source = source then { q with toCome := 0 } else q)).filter
    (fun q => ¬ (q.toCome = 0 ∧ q.frags = []))

/-- A proxy fragment arrives at egress port `p` (R249). -/
def State.proxyQueue (s : State) (p : Nat) (b : List Byte) : State :=
  let x := s.fport p
  let src := fb b 16 1 % 64
  let pseq := fb b 28 4
  let frag := fb b 32 2
  let frags := fb b 34 2
  if s.fab.cfgErr ∨ ¬ s.portUp p then s
  else if frag = 0 then
    let q := endOpen src x.proxies
    let y := { x with proxies := q }
    if y.admits src (max 1 frags) then
      s.setFport p { y with proxies := q ++ [{ source := src, pseq := pseq, toCome := frags - 1, frags := [b] }] }
    else (s.setFport p y).proxyDrop src
  else
    s.setFport p { x with proxies := x.proxies.map fun q =>
      if q.source = src ∧ q.pseq = pseq ∧ q.toCome ≠ 0 then
        { q with toCome := frags - 1 - frag, frags := q.frags ++ [b] } else q }

/-- The source served next: round-robin after the last one (R250). -/
def FabPort.nextSource (x : FabPort) : Option Nat :=
  (List.range 64).findSome? fun k =>
    let a := (x.lastSrc + 1 + k) % 64
    if x.proxies.any (fun q => q.source = a && q.frags ≠ []) then some a else none

/-- Take the next fragment of a source: it and the queues left. -/
def takeFrag (a : Nat) : List ProxyQ → Option (List Byte × List ProxyQ)
  | [] => none
  | q :: r =>
    match q.frags with
    | b :: more =>
      if q.source = a then some (b, if more = [] ∧ q.toCome = 0 then r else { q with frags := more } :: r)
      else (takeFrag a r).map fun x => (x.1, q :: x.2)
    | [] => (takeFrag a r).map fun x => (x.1, q :: x.2)

/-! ### Sending own proxies (R248) -/

/-- Frame bodies of the fragments of an image. -/
def proxyBodies (dst src gen planes scale frame epoch pseq : Nat) (img : List Byte) : List (List Byte) :=
  let n := divUp img.length 2016
  (List.range n).map fun i =>
    let d := (img.drop (2016 * i)).take 2016
    mkFrame dst src 2 1 0 gen
      (beBytes src 1 ++ beBytes planes 1 ++ beBytes scale 1 ++ beBytes 0 1 ++ beBytes frame 4 ++
        beBytes epoch 4 ++ beBytes pseq 4 ++ beBytes i 2 ++ beBytes n 2 ++ beBytes img.length 4 ++
        beBytes (2016 * i) 4 ++ beBytes d.length 2 ++ beBytes 0 2 ++ d)

/-- A completed proxy of frame `f` in ring slot `f.proxySlot` mod 4 is offered to the fabric
(R187, R248). -/
def State.offerProxy (s : State) (f : Frame) : State :=
  match s.fab.addr with
  | none => s
  | some a =>
    let dst := s.rf A.FAB_PRX_CTRL 0 6
    let r := s.fab.route dst
    if ¬ s.rb A.FAB_PRX_CTRL 6 ∨ s.fab.cfgErr then s
    else if dst = a ∨ ¬ r.reach ∨ r.active = 3 then s.proxyDrop a
    else
      let pl := f.cfg.plan
      let len := pl.planeOfs (pl.planes - 1) + pl.proxyPlane
      let img := rdBytes s.dram f.slotAddr (divUp len 8 * 8)
      let x := s.fport r.active
      let n := divUp img.length 2016
      if x.state = .up ∧ x.admits a n then
        s.setFport r.active { x with proxies := x.proxies ++
          [{ source := a, pseq := f.proxySlot, toCome := 0
             frags := proxyBodies dst a s.fab.gen pl.planes (pl.out.proxy % 4) f.num f.epoch f.proxySlot img }] }
      else s.proxyDrop a

/-- The completion deadline of frame `n` finds it DAMAGED with its proxy already VALID: the slot gets STATE
DAMAGED, and an offer of which nothing has been sent is taken back (R187). -/
def State.proxyVoid (s : State) (n : Nat) : State :=
  match s.frame? n with
  | some f =>
    if f.proxy ≠ 3 ∨ ¬ f.isDamaged then s
    else
      let own := fun (q : ProxyQ) => decide (s.fab.addr = some q.source) && decide (q.pseq = f.proxySlot) &&
        decide ((q.frags.head?.map fun b => fb b 32 2) = some 0)
      let s1 := [0, 1, 2].foldl (fun (a : State) p =>
        a.setFport p { a.fport p with proxies := (a.fport p).proxies.filter fun q => !own q }) s
      let s2 := { s1 with
        dram := wrByte s1.dram (f.slotAddr + 0x0C) 2
        str := { s1.str with
          proxyOk := s1.str.proxyOk && decide (s1.str.proxyFrame ≠ f.num)
          proxyDmg := satAdd s1.str.proxyDmg 1 16 } }
      (s2.modFrame n fun g => { g with proxy := 2 }).setInt A.STR_SINT_STATUS 3
  | none => s

/-! ### The sink (R251) -/

/-- The receive area is in use while SINK is set (R252). -/
def State.sinkActive (s : State) : Bool := s.rb A.FAB_PRX_CTRL 7

/-- DRAM address of the receive slot of a source and sequence number. -/
def State.rxSlot (s : State) (a pseq : Nat) : Nat := s.fab.prxBase + 0x1000000 * a + 0x800000 * (pseq % 2)

/-- The STATE byte of a receive slot is written. -/
def State.rxState (s : State) (a pseq v : Nat) : State :=
  { s with dram := wrByte s.dram (s.rxSlot a pseq + 0x0C) (BitVec.ofNat 8 v) }

/-- Write a fragment's data; the STATE byte and SEQ_END of the slot header are written by the
sink itself (log entry 18). -/
def State.rxData (s : State) (a pseq off : Nat) (d : List Byte) : State :=
  let base := s.rxSlot a pseq
  let kept := fun (i : Nat) => i = 0x0C || (0x3C ≤ i && i < 0x40) || 0x800000 ≤ i
  { s with dram := (d.foldl (fun (m : Memory × Nat) b =>
      (if kept m.2 then m.1 else wrByte m.1 (base + m.2) b, m.2 + 1)) (s.dram, off)).1 }

/-- A proxy fragment is delivered to this device (R251). A proxy whose fragment 0 has not arrived did not come in
order; a new fragment 0 ends what is incomplete of its source. -/
def State.proxySink (s : State) (b : List Byte) : State :=
  let a := fb b 16 1 % 64
  let pseq := fb b 28 4
  let frag := fb b 32 2
  let frags := fb b 34 2
  let data := (b.drop 48).take (fb b 44 2)
  if ¬ s.rb A.FAB_PRX_CTRL 7 then (if frag = 0 then s.proxyDrop a else s)
  else if s.fab.cfgErr then s
  else
    let first : Bool := frag = 0
    let old := s.fab.rx.filter (fun x => x.source = a && (first || x.pseq = pseq))
    let others := s.fab.rx.filter (fun x => !(x.source = a && (first || x.pseq = pseq)))
    let x : ProxyRx :=
      if first then { source := a, pseq := pseq, next := 0, frags := frags, good := true }
      else old.headD { source := a, pseq := pseq, next := frag, frags := frags, good := false }
    let s0 := if first then (old.foldl (fun (t : State) o => t.rxState a o.pseq 2) s).rxState a pseq 0 else s
    let s1 := s0.rxData a pseq (fb b 40 4) data
    let good := x.good && decide (frag = x.next)
    if frag + 1 = frags then
      let s2 := s1.rxState a pseq (if good then 1 else 2)
      { s2 with
        dram := wrLE s2.dram (s2.rxSlot a pseq + 0x3C) 4 pseq
        fab := { s2.fab with
          rx := others, prxRecv := smod (fun _ => 0) s2.fab.prxRecv a (fun n => wrapAdd n 1 16) } }.setInt
            A.FAB_INT_STATUS 11
    else
      { s1 with fab := { s1.fab with rx := others ++ [{ x with next := frag + 1, good := good }] } }

/-! ### The bulk window (R303, R304) -/

/-- A write of `SYS_BULK_CTRL` (R304). -/
def State.bulkCtrlWrite (s : State) (v : Word) : State :=
  let s1 := s.setRn A.SYS_BULK_CTRL (v.toNat &&& 0x3F01)
  if ¬ wbit v 0 then s1
  else
    let a := s1.rn A.SYS_BULK_BASE / 0x100000 * 0x100000
    let n := s1.rn A.SYS_BULK_LEN
    let good := areaOk a n && s1.clearOfR190 a n && apart a n s1.fab.prxBase 0x40000000 &&
      apart a n s1.fab.fwdBase 0x6000000
    if good then { s1 with sys := { s1.sys with bulkDone := false, bulkCfgErr := false } }
    else { s1.setRn A.SYS_BULK_CTRL (v.toNat &&& 0x3F00) with
      sys := { s1.sys with bulkDone := false, bulkCfgErr := true } }

/-- The sender is the accepted source and the window is open. -/
def State.bulkFrom (s : State) (b : List Byte) : Bool :=
  s.rb A.SYS_BULK_CTRL 0 && decide (fb b 1 1 = s.rf A.SYS_BULK_CTRL 8 6)

/-- A received BULK_WRITE (R304). DESIGN CHOICE (log entry 46): a base or length that is rewritten while the window
is enabled is used as it then reads, without a new check: R304 checks the window when EN is set, and no rule says
what a later write of them does. -/
def State.bulkWrite (s : State) (b : List Byte) : State :=
  let off := fb b 16 4
  let n := fb b 24 2
  let fits : Bool := n ≤ 2048 && n % 8 = 0 && 28 + n + 4 ≤ b.length
  if s.bulkFrom b ∧ fits ∧ off + n ≤ s.rn A.SYS_BULK_LEN then
    { s with
      dram := wrBytes s.dram (s.rn A.SYS_BULK_BASE / 0x100000 * 0x100000 + off) ((b.drop 28).take n)
      sys := { s.sys with bulkBytes := s.sys.bulkBytes + n } }
  else { s with sys := { s.sys with bulkRej := satAdd s.sys.bulkRej 1 14 } }

/-- A received BULK_END (R304). -/
def State.bulkEnd (s : State) (b : List Byte) : State :=
  if s.bulkFrom b then
    { s with
      sys := { s.sys with bulkDone := true }
      fab := { s.fab with toMc0 := s.fab.toMc0 ++ [b] } }.setInt A.SYS_INT_STATUS 7
  else s

end Sys2Proof.Machine
end

