-- ==== Sys2Proof/Machine/Fabric.lean ====
section
/-!
DEFINITION. Fabric ports, sending and receiving of frames, hop acknowledgement and the FAB
registers (08_rig_fabric_and_time.md R231 to R239, R245 to R247, R269).
-/
namespace Sys2Proof.Machine

/-! ### Port states (R233, R245, R246) -/

/-- Bytes of the LINKINFO block that port `p` sends (R232). Its bytes 3 to 7 are taken to be big-endian, as the
other control blocks are (DESIGN CHOICE, log entry 18). -/
def State.linkinfoBytes (s : State) (p : Nat) : List Byte :=
  beBytes 0x87 1 ++ beBytes (p % 4) 1 ++ beBytes (s.fab.addr.getD 0 % 64 + flag s.fab.addr.isSome 7) 1 ++
    beBytes (s.serialNum % 2 ^ 40) 5

/-- A LINKINFO block arrives (R233); the peer fields take it when the port goes UP. -/
def State.linkinfo (s : State) (p peerPort peerAddr : Nat) (valid : Bool) (serial : Nat) : State :=
  let x := s.fport p
  if x.state = .down ∨ 3 ≤ p then s
  else
    let gap : Bool := match x.lastInfo with
      | some c => decide (c + mgtUs 40 < s.mgt)
      | none => true
    s.setFport p { x with
      lastInfo := some s.mgt, since := if gap then some s.mgt else x.since
      heard := { port := peerPort % 4, addr := peerAddr % 64, valid := valid, serial := serial % 2 ^ 40 } }

/-- An UP or TRAIN port sends a LINKINFO every 10 µs, outside a frame (R233). -/
def State.linkinfoSend (s : State) (p : Nat) : State :=
  let x := s.fport p
  if x.state = .down ∨ 3 ≤ p then s
  else
    let due := match x.infoSent with | some c => max s.mgt (c + mgtUs 10) | none => s.mgt
    let s1 := (s.goMgt due).goTo x.freeAt
    s1.setFport p { x with infoSent := some s1.mgt, infoBlock := s1.linkinfoBytes p }

/-- A TRAIN port has held LINKINFO for 100 µs and goes UP (R233, R247). -/
def State.portUpEvent (s : State) (p : Nat) : State :=
  let x := s.fport p
  match x.since, x.lastInfo with
  | some c, some l =>
    let t := max s.mgt (c + mgtUs 100)
    if x.state ≠ .train ∨ l + mgtUs 40 < t ∨ 3 ≤ p then s
    else
      let s1 := s.goMgt t
      let y := { x with state := .up, peer := x.heard, ctlSeq := 0, bulkSeq := 0, unacked := []
                        seenCtl := {}, seenBulk := {} }
      ((s1.setFport p y).setInt A.FAB_INT_STATUS 1).tellRoot p true
  | _, _ => s

/-- Routes of a failed port move to their alternates or become unreachable (R245). -/
def State.switchRoutes (s : State) (p : Nat) : State :=
  { s with fab := { s.fab with
      tree := s.fab.tree - (s.fab.tree &&& 2 ^ p)
      routes := s.fab.routes.map fun (x : Nat × Route) =>
        let r := x.2
        if r.active ≠ p then x
        else
          let q := if r.prim = p then r.alt else r.prim
          if q < 3 ∧ q ≠ p ∧ s.portUp q then (x.1, { r with active := q })
          else (x.1, { r with reach := false }) } }

/-- A control frame is discarded after its attempts and counted (R237). -/
def State.ctlDrop (s : State) : State :=
  { s with fab := { s.fab with ctlLost := wrapAdd s.fab.ctlLost 1 32 } }.setInt A.FAB_INT_STATUS 9

/-- Send a frame again, with the attempts it has left, by the route its destination then has (R237). -/
def State.reroute (s : State) (t : FabTx) : State :=
  let dst := fb t.body 0 1
  if 64 ≤ dst then s
  else if t.cls = 1 ∧ t.tries = 0 then s.ctlDrop
  else s.routeTx dst t

/-- The route to the root has nowhere else to go than port `p` (R246). -/
def State.cutOff (s : State) (p : Nat) : Bool :=
  let r := s.fab.route s.fab.rootAddr
  let q := if r.prim = p then r.alt else r.prim
  s.fab.role = .member && s.fab.parent = p &&
    (!r.reach || (r.active = p && !(decide (q < 3) && decide (q ≠ p) && s.portUp q)))

/-- An UP port goes DOWN (R245, R246): routes and tree ports switch, the loss is recorded, the root
is told, and unacknowledged and waiting control and bulk frames move to other ports. -/
def State.portLost (s : State) (p : Nat) : State :=
  let x := s.fport p
  let cut := s.cutOff p
  let moved := x.unacked.map (·.tx) ++ x.ctlQ ++ x.bulkQ
  let n := satAdd x.downCnt 1 16
  let y := { x with state := .down, since := none, lastInfo := none, infoSent := none, downCnt := n
                    timeQ := [], ctlQ := [], bulkQ := [], proxies := [], unacked := []
                    seenCtl := {}, seenBulk := {} }
  let s1 := ((s.setFport p y).switchRoutes p).setInt A.FAB_INT_STATUS 0
  let s2 := ((s1.warn clsFAB 0 p n).tellRoot p false).pdDown p
  let s3 := moved.foldl (fun (a : State) t => a.reroute t) s2
  if cut then (s3.sendBcast 0x06 (beBytes s3.fab.gen 1)).partitionSet else s3

/-- A port goes DOWN, and trains again at once where it may (R233). -/
def State.portFall (s : State) (p : Nat) : State :=
  let x := s.fport p
  match x.state with
  | .down => s
  | .train =>
    (s.setFport p { x with state := .down, since := none, lastInfo := none, infoSent := none }).fabRefresh
  | .up => (s.portLost p).fabRefresh

/-- PORT_DOWN (R233): block lock was lost for 1 µs, or no LINKINFO for 40 µs. -/
def State.portDown (s : State) (p : Nat) (lockLost : Bool) : State :=
  let x := s.fport p
  if 3 ≤ p then s
  else if lockLost then s.portFall p
  else
    match x.lastInfo with
    | some c => (s.cycleUp (c + mgtUs 40)).portFall p
    | none => s.portFall p

/-- The quad's link PLL has lost its lock or is off, or ports were disabled: ports that may not run
go DOWN (R233, R281). -/
def State.fabCheck (s : State) : State :=
  ([0, 1, 2].foldl (fun (a : State) p =>
    if (a.fport p).state ≠ .down ∧ ¬ (a.fabRuns ∧ a.portEnabled p) then a.portFall p else a) s).fabRefresh

/-- A write of `FAB_CTRL` (R231, R240, R241). -/
def State.fabCtrlWrite (s : State) (v : Word) : State :=
  ((s.setRn A.FAB_CTRL (v.toNat &&& 0x70)).fabCheck).fabCtrlActs v

/-- Firmware starts the fabric (R238); a strapped device becomes root with rank 1 (R240). -/
def State.fabStart (s : State) : State :=
  let s1 := { s with fab := { s.fab with started := true } }.fabRefresh
  if s.sys.pinRoot ∧ s.fab.role = .none then s1.discStart 1 false else s1

/-! ### Sending (R236, R237, R250) -/

/-- Wire time of a body with its SOF, in time units: blocks of 6.4 ns (R231, R234). -/
def wireTU (body : List Byte) : Nat := divUp ((1 + body.length / 8) * 110592) 25

/-- A frame is on the wire from now on. -/
def State.onWire (s : State) (p : Nat) (x : FabPort) (body : List Byte) : State :=
  s.setFport p { x with sent := body, freeAt := s.now + wireTU body }

/-- Cycle in which a frame sent now ends. -/
def State.wireEnd (s : State) (body : List Byte) : Nat := s.clk.mgtAt (s.now + wireTU body)

/-- Send an acknowledged frame (R237). -/
def State.sendAcked (s : State) (p : Nat) (x : FabPort) (t : FabTx) (fseq : Nat) : State :=
  let body := reCrc (setBytes t.body 8 (beBytes fseq 4))
  let u : Unacked := { tx := { t with tries := t.tries - 1 }, fseq := fseq, ended := some (s.wireEnd body) }
  s.onWire p { x with unacked := x.unacked ++ [u] } body

/-- A frame of class `c` that waits to be sent again. -/
def FabPort.again (x : FabPort) (c : Nat) : Option Unacked :=
  x.unacked.find? (fun u => u.tx.cls = c && u.ended.isNone)

/-- FABRIC_FRAME_SEND (R236): the next frame starts at port `p` by class priority. -/
def State.frameSend (s : State) (p : Nat) : State :=
  let x := s.fport p
  if ¬ s.portUp p then s
  else
    let s1 := s.goTo x.freeAt
    match (if s.carries 0 then x.timeQ else []) with
    | t :: r =>
      let (b, s2) := (s1.setFport p { x with timeQ := r }).ptpOut p t
      s2.onWire p (s2.fport p) b
    | [] =>
      match x.again 1, x.ctlQ with
      | some u, _ => s1.sendAcked p { x with unacked := x.unacked.erase u } u.tx u.fseq
      | none, t :: r => s1.sendAcked p { x with ctlQ := r, ctlSeq := wrapAdd x.ctlSeq 1 32 } t x.ctlSeq
      | none, [] =>
        match (if s.carries 2 then x.nextSource else none) with
        | some a =>
          match takeFrag a x.proxies with
          | some (b, l) => s1.onWire p { x with proxies := l, lastSrc := a } b
          | none => s
        | none =>
          if ¬ s.carries 3 then s
          else
            match x.again 3, x.bulkQ with
            | some u, _ => s1.sendAcked p { x with unacked := x.unacked.erase u } u.tx u.fseq
            | none, t :: r =>
              s1.sendAcked p { x with bulkQ := r, bulkSeq := wrapAdd x.bulkSeq 1 32 } t x.bulkSeq
            | none, [] => s

/-- An unacknowledged frame is to be sent again; a control frame after 8 attempts is lost (R237). -/
def State.repeatTx (s : State) (p : Nat) (u : Unacked) : State :=
  let x := s.fport p
  let rest := x.unacked.erase u
  if u.tx.cls = 1 ∧ u.tx.tries = 0 then (s.setFport p { x with unacked := rest }).ctlDrop
  else s.setFport p { x with unacked := { u with ended := none } :: rest }

/-- The unacknowledged frame of a class and number. -/
def FabPort.owed (x : FabPort) (cls fseq : Nat) : Option Unacked :=
  x.unacked.find? (fun u => u.tx.cls = cls && u.fseq = fseq)

/-- An ACK block arrives (R237). -/
def State.ackBlock (s : State) (p cls fseq : Nat) : State :=
  let x := s.fport p
  match x.owed cls fseq with
  | some u => if s.portUp p then s.setFport p { x with unacked := x.unacked.erase u } else s
  | none => s

/-- A NAK block arrives (R237). -/
def State.nakBlock (s : State) (p cls fseq : Nat) : State :=
  match (s.fport p).owed cls fseq with
  | some u => if s.portUp p then s.repeatTx p u else s
  | none => s

/-- No ACK 20 µs after a frame ended (R237). -/
def State.hopTimeout (s : State) (p : Nat) : State :=
  match (s.fport p).unacked.find? (fun u => u.ended.isSome) with
  | some u => if s.portUp p then (s.cycleUp (u.ended.getD 0 + mgtUs 20)).repeatTx p u else s
  | none => s

/-! ### Receiving (R234, R235, R237 to R239) -/

/-- The control message was accepted from its source before (R237). -/
def State.midSeen (s : State) (src mid : Nat) : Bool := (sget (fun _ => []) s.fab.mids src).contains mid

/-- Remember an accepted control message: the last 64 of each source (R237). -/
def State.midKeep (s : State) (src mid : Nat) : State :=
  { s with fab := { s.fab with
      mids := smod (fun _ => []) s.fab.mids src (fun l => (mid :: l).take 64) } }

/-- Deliver a control message by its MSG (R239). -/
def State.control (s : State) (p : Nat) (b : List Byte) : State :=
  let msg := fb b 6 2
  let src := fb b 1 1 % 64
  match msg with
  | 0x01 => s.probeMsg p b
  | 0x02 => s.reportMsg p b
  | 0x03 => s.assignMsg b
  | 0x04 => s.assignAck b
  | 0x05 => s.linkEventMsg b
  | 0x06 => s.partitionSet
  | 0x10 => s.rigCommitMsg b
  | 0x11 => s.rigAck src (fb b 16 1)
  | 0x12 => s.rigDone src (fb b 16 1)
  | 0x13 => s.rigCancelAt src
  | 0x20 => s.storeSummary src ((b.drop 16).take 36)
  | _ =>
    if 0x100 ≤ msg ∧ msg ≤ 0x1FF then { s with fab := { s.fab with toMc1 := s.fab.toMc1 ++ [b] } } else s

/-- A LOCAL discovery message that has further hops to go: this device is not its destination (R240). -/
def inTransit (b : List Byte) : Bool :=
  match fb b 6 2 with
  | 0x01 => fb b 16 1 ≠ 0
  | 0x02 => hopOf (fb b 28 16) 0 ≠ 3
  | 0x03 => assignHops b ≠ 0
  | _ => false

/-- Deliver a frame of class control, proxy or bulk to this device. A control message whose `SRC` and `MID`
were accepted before is discarded (R237); devices without an address share one `SRC`, so that theirs are not
compared (log entry 18). -/
def State.deliver (s : State) (p : Nat) (b : List Byte) : State :=
  let cls := fb b 2 1
  let src := fb b 1 1
  let msg := fb b 6 2
  if cls = 1 then
    let mid := fb b 12 2
    if (fb b 0 1).testBit 7 ∧ inTransit b ∨ 64 ≤ src then s.control p b
    else if s.midSeen src mid then s
    else (s.midKeep src mid).control p b
  else if cls = 2 then (if msg = 1 then s.proxySink b else s)
  else if msg = 1 then s.bulkWrite b
  else if msg = 2 then s.bulkEnd b
  else s

/-- Forward a frame of class control, proxy or bulk (R235). -/
def State.forward (s : State) (b : List Byte) : State :=
  let dst := fb b 0 1 % 64
  let cls := fb b 2 1
  match stepTtl b with
  | none => s.ttlDrop
  | some b1 =>
    let r := s.fab.route dst
    if cls = 2 then
      if ¬ r.reach ∨ r.active = 3 then s.noRoute else s.proxyQueue r.active b1
    else s.routeTx dst { cls := cls, body := b1 }

/-- Forward a broadcast on every other tree port (R235); a proxy fragment goes to their proxy queues
(R249). -/
def State.forwardBcast (s : State) (p : Nat) (b : List Byte) : State :=
  match stepTtl b with
  | none => s.ttlDrop
  | some b1 =>
    if fb b 2 1 = 2 then
      (bitsOf s.fab.tree 3).foldl (fun (a : State) q => if q = p then a else a.proxyQueue q b1) s
    else s.treeTx p { cls := fb b 2 1, body := b1 }

/-- Delivery and forwarding of an accepted frame of class control, proxy or bulk; a device without an
address delivers only LOCAL frames (R235). -/
def State.handle (s : State) (p : Nat) (b : List Byte) : State :=
  let dst := fb b 0 1
  if dst.testBit 7 then s.deliver p b
  else
    match s.fab.addr with
    | none => s
    | some a =>
      if dst.testBit 6 then
        if s.fab.tree.testBit p then (s.forwardBcast p b).deliver p b else s
      else if dst % 64 = a then s.deliver p b
      else s.forward b

/-- A frame that cannot be used (R234): counted, and where the CRC fails refused by NAK if it would be
acknowledged (R237). -/
def State.badFrame (s : State) (p cls fseq : Nat) (crcBad : Bool) : State :=
  let x := s.fport p
  s.setFport p { x with
    crcCnt := wrapAdd x.crcCnt 1 32
    lastAck := if crcBad ∧ (cls = 1 ∨ cls = 3) then some (false, cls, fseq) else x.lastAck }

/-- FSEQ `n` was accepted before: `FSEQ` counts modulo 2^32, and the half of the range behind the next one is the
past. -/
def SeqSeen.has (q : SeqSeen) (n : Nat) : Bool :=
  let back := (q.next + 2 ^ 32 - n % 2 ^ 32) % 2 ^ 32
  q.ahead.contains n || (decide (0 < back) && decide (back ≤ 2 ^ 31))

/-- Values that follow without a gap join the past, over at most `k` steps. -/
def SeqSeen.settle : Nat → SeqSeen → SeqSeen
  | 0, q => q
  | k + 1, q =>
    if q.ahead.contains q.next then
      SeqSeen.settle k { next := wrapAdd q.next 1 32, ahead := q.ahead.erase q.next }
    else q

/-- FSEQ `n` is accepted. -/
def SeqSeen.add (q : SeqSeen) (n : Nat) : SeqSeen :=
  SeqSeen.settle (q.ahead.length + 1) { q with ahead := n :: q.ahead }

/-- The accepted FSEQ values of class control or bulk. -/
def FabPort.seenOf (x : FabPort) (cls : Nat) : SeqSeen := if cls = 1 then x.seenCtl else x.seenBulk

/-- FSEQ `n` of class control or bulk is accepted. -/
def FabPort.see (x : FabPort) (cls n : Nat) : FabPort :=
  if cls = 1 then { x with seenCtl := x.seenCtl.add n } else { x with seenBulk := x.seenBulk.add n }

/-- A frame of a class that the mode does not carry (R238). -/
def State.modeDropped (s : State) : State :=
  { s with fab := { s.fab with modeDrop := wrapAdd s.fab.modeDrop 1 32 } }

/-- What follows the acknowledgement of a stored frame. -/
def State.stored (s : State) (p : Nat) (b : List Byte) : State :=
  let cls := fb b 2 1
  if ¬ s.carries cls then s.modeDropped
  else if cls = 0 then s.ptpReceive p b
  else s.handle p b

/-- A control message 0x0100 to 0x01FF that MC1 of this device is to take (R239). -/
def State.forMc1 (s : State) (b : List Byte) : Bool :=
  let dst := fb b 0 1
  let here : Bool := dst.testBit 7 || dst.testBit 6 || s.fab.addr = some (dst % 64)
  here && decide (0x100 ≤ fb b 6 2) && decide (fb b 6 2 ≤ 0x1FF)

/-- A fabric frame with body `b` arrives on port `p` (R234, R235, R237, R238). -/
def State.fabReceive (s : State) (p : Nat) (b : List Byte) : State :=
  let x := s.fport p
  let cls := fb b 2 1
  let fseq := fb b 8 4
  if ¬ s.portUp p then s
  else if ¬ (lenOk b && crcOk b && decide (fb b 4 2 = b.length)) then s.badFrame p cls fseq (!crcOk b)
  else if cls = 1 ∧ s.forMc1 b ∧ s.sys.core1 = .restarting then
    s.setFport p { x with lastAck := some (false, cls, fseq) }
  else if cls = 1 ∨ cls = 3 then
    let ack := some (true, cls, fseq)
    if (x.seenOf cls).has fseq then s.setFport p { x with lastAck := ack }
    else if s.classFull cls then s.setFport p { x with lastAck := some (false, cls, fseq) }
    else (s.setFport p { x.see cls fseq with lastAck := ack }).stored p b
  else s.stored p b

/-- A frame of the given class and, where named, MSG arrives; any other body is not that event. -/
def State.receiveIf (s : State) (p : Nat) (b : List Byte) (cls : Nat) (msg : Option Nat) : State :=
  let fits : Bool := fb b 2 1 = cls && (match msg with | some m => decide (fb b 6 2 = m) | none => true)
  if fits then s.fabReceive p b else s

/-- A time-class frame with PTP message type `k` arrives, or MC1 firmware sends one (port 3, R256). -/
def State.receivePtp (s : State) (p : Nat) (b : List Byte) (k : Nat → Bool) : State :=
  if ¬ (fb b 2 1 = 0 ∧ k (ptpType b)) then s
  else if p = 3 then s.ptpReceive 3 b
  else s.fabReceive p b

/-- An EVENT_SUMMARY is sent (R346): broadcast or to one device. -/
def State.summaryOut (s : State) (dst : Option Nat) (reason : Nat) : State :=
  match dst with
  | none => s.sendBcast 0x20 (s.summaryBody reason)
  | some a => s.sendCtl a 0x20 (s.summaryBody reason)

/-! ### Registers (R269) -/

/-- `FAB_STATUS`. -/
def State.fabStatus (s : State) : Nat :=
  let f := s.fab
  f.role.code + flag f.addr.isSome 2 + flag f.disc.busy 3 + flag f.partitioned 4 + flag s.sys.pinRoot 5 +
    flag (f.role = .root && f.rank = 2) 6 + at_ f.gen 8 +
    at_ (if f.role = .root then f.map.length else 0) 16

/-- `FAB_PORT_p`. -/
def State.fabPortWord (s : State) (p : Nat) : Nat :=
  let x := s.fport p
  x.state.code + flag (s.fab.tree.testBit p) 2 + flag (s.fab.parent = p) 3 + at_ x.peer.addr 4 +
    flag x.peer.valid 10 + at_ x.peer.port 11 + at_ x.downCnt 16

/-- `FAB_ROUTE_a`. -/
def Route.word (r : Route) : Nat :=
  r.prim + at_ r.alt 2 + at_ r.active 4 + flag r.reach 6 + at_ r.hops 8

/-- Serial number bytes 0 to 3 or 4 to 7 of an address, byte 0 the least significant (R409). -/
def Fab.mapWord (f : Fab) (a hi : Nat) : Nat := field (sget (fun _ => 0) f.map a) (32 * hi) 32

/-- Live FAB registers. -/
def State.fabRead (s : State) (a : Nat) : Option Nat :=
  let f := s.fab
  let o := a - 0x310000
  if a = A.FAB_STATUS then some s.fabStatus
  else if a = A.FAB_ADDR then some (f.addr.getD 0 + at_ f.rootAddr 8)
  else if 0x20 ≤ o ∧ o < 0x2C then some (s.fabPortWord ((o - 0x20) / 4))
  else if 0x30 ≤ o ∧ o < 0x3C then some (s.fport ((o - 0x30) / 4)).crcCnt
  else if o = 0x40 then some f.ttlDrop
  else if o = 0x44 then some f.ctlLost
  else if o = 0x48 then some f.noRoute
  else if o = 0x4C then some f.modeDrop
  else if a = A.FAB_PRX_STATUS then some (flag f.cfgErr 0 + flag s.sinkActive 1)
  else if a = A.FAB_MAP_VALID0 then some (field (maskOf (f.map.map (·.1))) 0 32)
  else if a = A.FAB_MAP_VALID1 then some (field (maskOf (f.map.map (·.1))) 32 32)
  else if 0x100 ≤ o ∧ o < 0x200 then some (f.route ((o - 0x100) / 4)).word
  else if 0x200 ≤ o ∧ o < 0x300 then
    let k := (o - 0x200) / 4
    some (sget (fun _ => 0) f.prxDrop k + at_ (sget (fun _ => 0) f.prxRecv k) 16)
  else if 0x400 ≤ o ∧ o < 0x600 then some (f.mapWord ((o - 0x400) / 8) (o / 4 % 2))
  else none

/-- Writes of FAB registers with behaviour of their own. -/
def State.fabWrite (s : State) (a : Nat) (v : Word) : Option State :=
  if a = A.FAB_CTRL then some (s.fabCtrlWrite v)
  else if a = A.FAB_PRX_BASE ∨ a = A.FAB_FWD_BASE then
    let s1 := s.setRn a (v.toNat &&& 0xFFFFF000)
    some (if s1.ticking then s1 else s1.fabBasesCheck)
  else none

end Sys2Proof.Machine
end

