-- ==== Sys2Proof/Machine/Link.lean ====
section
/-!
DEFINITION. The Frond link: packets, the dispatcher of each lane set, lane markers, dumps, and the
seal chains with their statements (07_frond_output.md R198 to R230, 01_architecture.md R18, R19,
R22).
-/
namespace Sys2Proof.Machine

/-! ### Packets (R208 to R215) -/

/-- Shadow of a vault row (R410). -/
def State.vrow (s : State) (r : Nat) : Nat := sget (fun _ => 0) s.vlt.shadow r

/-- The serial number of vault row 66, as the packets carry it (R210, R409). -/
def State.serial (s : State) : List Byte := beBytes (s.vrow 66) 8

/-- The common header (R209); `len` is the body length. -/
def commonHdr (type stream len seq frame dev : Nat) : List Byte :=
  beBytes type 1 ++ beBytes stream 1 ++ beBytes len 2 ++ beBytes seq 4 ++ beBytes frame 4 ++
    beBytes dev 1 ++ beBytes 1 1 ++ beBytes 0 2

/-- A packet body: common header, fields, padding and CRC (R208). -/
def packet (type stream seq frame dev : Nat) (fields : List Byte) : List Byte :=
  let n := 16 + fields.length
  let len := divUp (n + 4) 8 * 8
  let b := commonHdr type stream len seq frame dev ++ fields ++ List.replicate (len - 4 - n) 0
  b ++ beBytes (crc32 b) 4

/-- `SEQ` that the next packet of a lane set carries (R207): set 0 main, 1 twin, 2 dump. -/
def Lnk.seqOf (l : Lnk) (set : Nat) : Nat :=
  if set = 0 then l.seqMain else if set = 1 then l.seqTwin else l.seqDump

/-- One entry of the frame header (R210). -/
def entryBytes (e : Entry) : List Byte :=
  beBytes (e.start % 2 ^ 20 * 2 ^ 20 + e.len % 2 ^ 20) 5 ++ beBytes (e.hcg + 16 * e.lcg) 1 ++
    beBytes e.weight 2

/-- SETTLING_MASK of a header (R210). -/
def Frame.settleMask (f : Frame) : Nat := f.settle % 4096

/-- Flags 7 to 11 of R211 that the stripe-lines raise, as far as they are processed: SPARE, STRIPE_FAIL,
COLFAIL, CLIP, RDIST. -/
def Frame.lineFlags (f : Frame) (twin : Bool) : Nat :=
  if f.calib then 0
  else
    let ls := (if twin then f.twinLines else f.lines).map (·.2)
    let fins := (if twin then f.twinFins else f.fins).map (·.2)
    flag (ls.any (·.b0.testBit 7)) 7 + flag (ls.any (·.b1.testBit 2)) 8 + flag (ls.any (·.b1.testBit 1)) 9 +
      flag (fins.any fun l => l.any (·.clip)) 10 + flag (ls.any (·.b0.testBit 4)) 11

/-- Change the emission of one stream of a frame. -/
def State.modEmit (s : State) (n : Nat) (twin : Bool) (g : Emit → Emit) : State :=
  s.modFrame n fun f => if twin then { f with twin := g f.twin } else { f with main := g f.main }

/-- Flags of R211 as known now. -/
def Frame.status (f : Frame) (twin : Bool) : Nat :=
  let e := f.emit twin
  flag (f.damaged || e.damaged || decide (0 < e.lost)) 0 + flag (f.settleMask ≠ 0) 1 +
    flag f.cfg.throttled 2 + flag f.calib 3 + flag f.cfg.sched.bracket 4 +
    flag (!twin && f.centNone?) 5 + flag f.tbv.isNone 6 + f.lineFlags twin +
    flag (decide (0 < e.lost) || e.lostAny) 12 + e.sealBits + flag twin 15

/-- Format of a stream. -/
def OutCfg.fmt (o : OutCfg) (twin : Bool) : Nat := if twin then o.twinFormat else o.format

/-- Fields of the frame header after the common header (R210). -/
def State.headerFields (s : State) (f : Frame) (twin : Bool) : List Byte :=
  let pl := f.cfg.plan
  let c := f.cfg.sched
  let e := f.emit twin
  beBytes f.epoch 4 ++ beBytes pl.id 4 ++ beBytes (f.status twin) 4 ++
    beBytes (pl.out.fmt twin) 1 ++ beBytes (pl.binFactor - 1 + flag pl.win.bin 7) 1 ++
    beBytes c.s 1 ++ beBytes (if c.twin then c.twinJ else 0) 1 ++
    beBytes (pl.win.stripes.length * pl.pxOut) 2 ++ beBytes (pl.topOut + pl.botOut) 2 ++
    beBytes pl.win.first 2 ++ beBytes pl.win.last 2 ++ beBytes pl.win.mask 10 ++
    beBytes f.settleMask 2 ++ beBytes pl.lineCount 4 ++ beBytes (pl.ped24 % 2 ^ 24) 4 ++
    beBytes pl.bshift 1 ++ beBytes pl.shift16 1 ++ beBytes pl.variant 1 ++ beBytes pl.centTb 1 ++
    f.stamp ++ f.centroidBytes twin ++
    (List.range 12).flatMap (fun j =>
      if j < c.s then entryBytes (c.entries.getD j {}) else List.replicate 8 0) ++
    beBytes c.sfpInt 4 ++ beBytes c.sfpFrac 1 ++ beBytes c.rowslot 1 ++ beBytes s.part.stepping 2 ++
    s.serial ++ beBytes e.seg 4 ++ beBytes e.segIdx 2 ++ beBytes e.segLen 2 ++ List.replicate 44 0

/-- Fields of a line packet (R212). -/
def lineFields (row stripe fmt pixels planes bank firstCol : Nat) (side payload : List Byte) :
    List Byte :=
  beBytes row 2 ++ beBytes stripe 1 ++ beBytes fmt 1 ++ beBytes pixels 2 ++ beBytes planes 1 ++
    beBytes bank 1 ++ beBytes payload.length 2 ++ beBytes firstCol 2 ++ List.replicate 4 0 ++
    side ++ payload

/-- Fields of the frame trailer (R213). -/
def Frame.trailerFields (f : Frame) (twin : Bool) (digest chain : List Byte) : List Byte :=
  let e := f.emit twin
  beBytes f.epoch 4 ++ beBytes (f.status twin) 4 ++ beBytes f.cfg.plan.lineCount 4 ++
    beBytes e.sent 4 ++ beBytes e.lost 4 ++ beBytes e.clipTotal 4 ++ beBytes e.defTotal 4 ++
    beBytes (if twin then 0 else e.recon) 4 ++ digest ++ chain ++ List.replicate 12 0

/-- Fields of statistics packet `part` (R215). -/
def StatQueue.fields (q : StatQueue) (part : Nat) : List Byte :=
  let zone : Bool := part < 216
  beBytes q.epoch 4 ++ beBytes q.seq 4 ++ beBytes (b2n (!zone)) 1 ++
    beBytes (if zone then 20 else 1) 1 ++ beBytes part 2 ++ beBytes 220 2 ++ beBytes q.sflags 2 ++
    (if zone then (q.data.drop (3840 * part)).take 3840
     else (q.data.drop (829440 + 4160 * (part - 216))).take 4160)

/-- Fields of a seal packet (R227). -/
def SealPkt.fields (k : SealPkt) : List Byte :=
  beBytes k.subtype 1 ++ beBytes k.status 1 ++ beBytes k.stream 1 ++ List.replicate 5 0 ++ k.payload

/-! ### The dispatcher (R201, R207, R219) -/

/-- Duration of a packet with a body of `len` bytes: its SOP block and its data blocks. -/
def packetTU (len : Nat) : Nat := blocksTU (1 + len / 8)

/-- A LANE block is due on the lane at instant `t` (R201). -/
def Lane.markerDue (l : Lane) (t : Nat) : Bool :=
  l.markDue || blockFifths 65536 ≤ (t - l.markAt) * 5

/-- The ACTIVE lanes of a set (R202, R207). -/
def State.setLanes (s : State) (set : Nat) : List Nat :=
  allLanes.filter fun p => (s.lane p).state = .active ∧ (s.lane p).set = set

/-- The lane that becomes free first, the lowest logical lane on ties, with that instant (R207). -/
def State.firstFree (s : State) (ps : List Nat) : Option (Nat × Nat) :=
  (ps.map fun p => (p, max s.now (s.lane p).freeAt)).foldl (fun (best : Option (Nat × Nat)) x =>
    match best with
    | none => some x
    | some b => if x.2 < b.2 ∨ (x.2 = b.2 ∧ (s.lane x.1).logical.getD 63 < (s.lane b.1).logical.getD 63)
        then some x else some b) none

/-- The lane on which a packet starts next, and when; a lane on which a LANE block is due sends that first
(R201), and one that a LINK_EQ run holds sends none (R397). -/
def State.pickLane (s : State) (ps : List Nat) : Option (Nat × Nat) :=
  s.firstFree (ps.filter fun p => !(s.lane p).markerDue (max s.now (s.lane p).freeAt) && !s.eqHolds p)

/-- A lane sends its LANE block at instant `t` (R200, R201). -/
def State.sendMark (s : State) (p t : Nat) : State :=
  let l := s.lane p
  s.setLane p { l.drive t [laneBlock l.logical p l.set l.marks] with
    markDue := false, markAt := t, marks := wrapAdd l.marks 1 32 }

/-- An instant is not past the next tick. -/
def State.beforeTick (s : State) (t : Nat) : Bool := !s.ticking || t ≤ s.seqEdge s.tmg.nextSft

/-- Start a packet on lane `p` at instant `t` (R204, R207). -/
def State.startPacket (s : State) (p t set type stream frame : Nat) (fields : List Byte) : State :=
  let s0 := s.goTo t
  let seq := s0.lnk.seqOf set
  let b := packet type stream seq frame (s0.rf A.LNK_DEVICE 0 8) fields
  let s1 := s0.setLane p { (s0.lane p).drive t (packetBlocks type b) with
    flight := some { type := type, stream := stream, frame := frame, set := set,
                     endAt := t + packetTU b.length, body := b } }
  let n := wrapAdd seq 1 32
  if set = 0 then { s1 with lnk := { s1.lnk with seqMain := n, lastMain := seq } }
  else if set = 1 then { s1 with lnk := { s1.lnk with seqTwin := n, lastTwin := seq } }
  else { s1 with lnk := { s1.lnk with seqDump := n } }

/-- A seal packet of the set's own chain is due (R219). -/
def State.sealDue (s : State) (stream : Nat) : Option SealPkt :=
  s.seals.due.find? fun k => k.stream = stream

/-- Emission interval of a stream has begun (R21): FT n+1, or SFT n·S+j+1 for a twin image. -/
def Frame.emitBegun (f : Frame) (twin : Bool) : Bool :=
  if twin then f.cfg.sched.twinJ + 1 ≤ f.sftAge else f.age1.isSome

/-- The frame whose sequence is in turn on a stream: the oldest one without its trailer (R219). -/
def State.emitting (s : State) (twin : Bool) : Option Frame :=
  s.frames.find? fun f => f.emits twin && !(f.emit twin).trailer

/-- What the frame sequence of a stream sends next. -/
inductive SeqItem where
  | header | line (i : Nat) | recon (i : Nat) | trailer | none_
  deriving DecidableEq, Repr

/-- Rows of the frame that are final for the stream. -/
def Frame.finalRows (f : Frame) (twin : Bool) : Nat := if twin then f.twinRows else f.rows

/-- The next packet of the frame's sequence on a stream, if it may start (R219, R220); `err` while R190
lets no reconstructed output be made. -/
def Frame.next (f : Frame) (twin err : Bool) : SeqItem :=
  let e := f.emit twin
  let pl := f.cfg.plan
  if e.hdr.isNone then (if f.emitBegun twin then .header else .none_)
  else if e.cut then .trailer
  else if e.sent < pl.lineCount then
    let (b, x, _) := pl.lineAt e.sent
    if pl.lineFinal b x (f.finalRows twin) then .line e.sent else .none_
  else if !twin && !err && (f.recon || !f.complete) && e.recon < f.reconCount then
    (if f.complete then .recon e.recon else .none_)
  else .trailer

/-- The next packet of a stream's frame sequence. -/
def State.nextItem (s : State) (twin : Bool) : Option (Frame × SeqItem) :=
  (s.emitting twin).map fun f => (f, f.next twin f.cfgErr)

/-- Lanes of a stream that a mask of physical lanes names; where none of them can carry packets any more,
those of the set. -/
def State.lanesOf (s : State) (lanes set : Nat) : List Nat :=
  if s.carried lanes ≠ [] then s.carried lanes else s.setLanes set

/-- Physical lanes of a frame's stream as they stood at its FT. -/
def Frame.lanes (f : Frame) (twin : Bool) : Nat := if twin then f.lanes1 else f.lanes0

/-- Lanes of a frame's stream: those of its own FT, which no later change reaches (R30, R131, R202). -/
def State.frameLanes (s : State) (f : Frame) (twin : Bool) : List Nat := s.lanesOf (f.lanes twin) (b2n twin)

/-- The frame sequence has nothing that may start now, so that statistics or a dump may. -/
def State.seqIdle (s : State) (twin : Bool) : Bool :=
  match s.nextItem twin with
  | some (_, .none_) => true
  | none => true
  | _ => false

/-- What a frame-sequence event starts: the frame, the item, the lane and the instant. It starts
only when no seal packet of its chain is due and a lane is free before the next tick. -/
def State.seqStart (s : State) (twin : Bool) : Option (Frame × SeqItem × Nat × Nat) :=
  match s.nextItem twin with
  | some (f, it) =>
    if (s.sealDue (b2n twin)).isSome then none
    else
      match s.pickLane (s.frameLanes f twin) with
      | some (p, t) => if s.beforeTick t then some (f, it, p, t) else none
      | none => none
  | none => none

/-! ### Chains and segments (R222 to R228) -/

/-- The last chain opened on a stream. -/
def Seal.chain (x : Seal) (twin : Bool) : Chain := if twin then x.twin else x.main

/-- The chain with number `n`. -/
def Seal.chainNo (x : Seal) (n : Nat) : Option Chain :=
  ([x.main, x.twin] ++ x.closing).find? fun c => c.open_ && c.no = n

/-- Replace a chain by its number. -/
def Seal.put (x : Seal) (c : Chain) : Seal :=
  if x.main.no = c.no then { x with main := c }
  else if x.twin.no = c.no then { x with twin := c }
  else { x with closing := (x.closing.map fun d => if d.no = c.no then c else d).filter (·.open_) }

/-- Replace a chain of the state. -/
def State.setChain (s : State) (c : Chain) : State := { s with seals := s.seals.put c }

/-- A chain opens on a stream (R224): `EN` is sampled and the chain identity drawn. A former chain of the
stream that waits for its last frame goes on beside it. -/
def State.openChain (s : State) (twin : Bool) : State :=
  if ¬ s.rb A.SEC_SEAL_CTRL 0 then s
  else
    let (r, s1) := s.draw
    let x := s1.seals
    let old := x.chain twin
    let c : Chain := { open_ := true, no := x.opened + 1, twin := twin, id := beBytes r 16 }
    let y := { x with
      opened := x.opened + 1, closing := if old.open_ then x.closing ++ [old] else x.closing
      main := if twin then x.main else c, twin := if twin then c else x.twin }
    { s1 with seals := y }.setInt A.SEC_SEAL_INT_STATUS 1

/-- CAPTURE, or a commit that sets TWIN, opens a chain unless one is open for the frames to come (R224). -/
def State.wantChain (s : State) (twin : Bool) : State :=
  let c := s.seals.chain twin
  if c.open_ ∧ c.closeAfter = none then s else s.openChain twin

/-- A frame that starts joins the open chain of its stream (R224). With the first one the chain begins
(R223): the open record, its hash H_o, and the OPEN packet. -/
def State.beginChain (s : State) (f : Frame) (twin : Bool) : State :=
  let c := s.seals.chain twin
  if ¬ c.open_ ∨ c.closeAfter.isSome ∨ ¬ f.emits twin then s
  else
    let s0 := s.modEmit f.num twin fun e => { e with chain := some c.no }
    if c.begun then s0
    else
      let rec_ := [0x52, 0x5A, 0x53, 0x4F] ++ beBytes (b2n twin) 1 ++ beBytes 1 1 ++ beBytes 0 2 ++ c.id ++
        s.serial ++ f.stamp ++ beBytes f.epoch 4 ++ beBytes f.num 4 ++ beBytes f.cfg.plan.id 4 ++
        List.replicate 8 0
      let s1 := s0.setChain { c with begun := true, head := sha256 rec_, lanes := f.lanes twin }
      { s1 with seals := { s1.seals with due := s1.seals.due ++
        [{ stream := b2n twin, subtype := 0, status := 0, frame := f.num, lanes := f.lanes twin
           payload := rec_ }] } }

/-- Chains that are open. -/
def Seal.openCount (x : Seal) : Nat := b2n x.main.open_ + b2n x.twin.open_ + x.closing.length

/-- L_eff (R225) with the chains that are open. -/
def State.lEff (s : State) (f : Frame) : Nat :=
  let n := min 256 (max 1 (s.rf A.SEC_SEAL_CTRL 8 9))
  min 256 (max n (divUp (us 50000 * s.seals.openCount) (max 1 (f.cfg.sched.s * f.cfg.sched.pTU))))

/-- The chain of a frame's image (R224). -/
def State.chainOf (s : State) (f : Frame) (twin : Bool) : Option Chain :=
  (f.emit twin).chain.bind s.seals.chainNo

/-- A frame whose header is about to start takes its place in its chain (R210, R225, R228). -/
def State.placeFrame (s : State) (f : Frame) (twin : Bool) : State :=
  match s.chainOf f twin with
  | none => s
  | some c =>
    let c1 := if c.placed then c
      else { c with placed := true, count := 0, lEff := s.lEff f, firstFrame := f.num
                    before := c.head, segDamaged := false }
    let bits := 8192 + flag (!s.seals.avail) 14 + flag (!c.started) 16
    (s.setChain { c1 with started := true }).modEmit f.num twin fun e =>
      { e with seg := c1.segment, segIdx := c1.count, segLen := c1.lEff, sealBits := bits }

/-- A segment ends (R225, R226): its statement is queued. -/
def State.endSegment (s : State) (c : Chain) (close : Bool) : State :=
  let x : Statement :=
    { stream := b2n c.twin, chain := c.no, id := c.id, segment := c.segment, frames := c.count
      first := c.firstFrame, last := c.lastFrame, close := close, damaged := c.segDamaged
      head := c.head, before := c.before, stamp := c.lastStamp, lanes := c.lanes
      avail := s.seals.avail }
  let s1 := s.setChain { c with
    segment := wrapAdd c.segment 1 32, placed := false, count := 0, endSeg := false }
  { s1 with seals := { s1.seals with queue := s1.seals.queue ++ [x] } }

/-- Mark the last statement of a chain that still waits as CLOSE (R226). -/
def closeLast (no : Nat) : List Statement → List Statement
  | [] => []
  | x :: r =>
    if x.chain = no ∧ (r.all fun y => y.chain ≠ no) then { x with close := true } :: r
    else x :: closeLast no r

/-- A chain closes (R224): its open segment ends with CLOSE. -/
def State.closeChain (s : State) (c : Chain) : State :=
  if ¬ c.open_ then s
  else
    let s1 := if 0 < c.count then s.endSegment c true
      else { s with seals := { s.seals with queue := closeLast c.no s.seals.queue } }
    let c1 := (s1.seals.chainNo c.no).getD c
    (s1.setChain { c1 with
      open_ := false, begun := false, placed := false, endSeg := false, closeAfter := none }).setInt
        A.SEC_SEAL_INT_STATUS 2

/-- The last frame of a chain whose trailer is still to be sent. -/
def State.lastOf (s : State) (c : Chain) : Option Frame :=
  (s.frames.filter fun f => f.emits c.twin && (f.emit c.twin).chain = some c.no &&
    !(f.emit c.twin).trailer).getLast?

/-- The chain ends with the last frame that is emitted on it: at once where none is left (R224). -/
def State.endChain (s : State) (twin : Bool) : State :=
  let c := s.seals.chain twin
  if ¬ c.open_ ∨ c.closeAfter.isSome then s
  else
    match s.lastOf c with
    | some f => s.setChain { c with closeAfter := some f.num }
    | none => s.closeChain c

/-- Chains whose last frame has gone without a trailer close (R19, R224). -/
def State.closeGone (s : State) : State :=
  ([s.seals.main, s.seals.twin] ++ s.seals.closing).foldl (fun (a : State) c =>
    if c.open_ ∧ c.closeAfter.isSome ∧ a.lastOf c = none then
      match a.seals.chainNo c.no with
      | some d => a.closeChain d
      | none => a
    else a) s

/-- Every chain closes (R19, R224). -/
def State.closeAll (s : State) : State :=
  (s.seals.closing ++ [s.seals.twin, s.seals.main]).foldl (fun (a : State) c =>
    match a.seals.chainNo c.no with
    | some d => a.closeChain d
    | none => a) s

/-- What the hasher of a stripe has absorbed of an image. -/
def Emit.heard (e : Emit) (k : Nat) : List Byte := sget (fun _ => []) e.absorbed k

/-- One level of the tree of R222. -/
def pairUp : List (List Byte) → List (List Byte)
  | a :: b :: r => sha256 ([1] ++ a ++ b) :: pairUp r
  | l => l

/-- digest_n of R222: the levels of 80, 40, 20, 10, 5, 3, 2 and 1 nodes. -/
def Emit.digest (e : Emit) : List Byte :=
  let nodes := (List.range 80).map fun i => sha256 ([0, BitVec.ofNat 8 i] ++ e.heard i)
  let l := pairUp (pairUp (pairUp (pairUp (pairUp (pairUp (pairUp nodes))))))
  l.headD []

/-- The frame is linked into its chain as its trailer starts (R222, R223, R225). -/
def State.linkFrame (s : State) (f : Frame) (twin : Bool) : State × List Byte × List Byte :=
  match s.chainOf f twin with
  | none => (s, List.replicate 32 0, List.replicate 32 0)
  | some c =>
    let e := f.emit twin
    let d := e.digest
    let h := sha256 (c.head ++ d ++ e.hdr.getD [])
    (s.setChain { c with
      head := h, shown := h, count := c.count + 1, lastFrame := f.num, lastStamp := f.stamp, lanes := f.lanes twin
      segDamaged := c.segDamaged || (f.status twin).testBit 0 }, d, h)

/-- After the trailer: the segment ends at L_eff or on CLOSE_GO, and the chain closes after its last
frame (R224, R225). -/
def State.afterTrailer (s : State) (f : Frame) (twin : Bool) : State :=
  match s.chainOf f twin with
  | none => s
  | some c =>
    if c.closeAfter = some f.num then s.closeChain c
    else if c.placed ∧ (c.lEff ≤ c.count ∨ c.endSeg) then s.endSegment c false
    else s

/-- The statement bytes (R226). -/
def State.statementBytes (s : State) (x : Statement) : List Byte :=
  [0x52, 0x5A, 0x53, 0x53] ++ beBytes x.stream 1 ++ beBytes (flag x.close 0 + flag x.damaged 1) 1 ++
    beBytes 1 2 ++ x.id ++ beBytes x.segment 4 ++ beBytes x.frames 2 ++ beBytes 0 2 ++
    beBytes x.first 4 ++ beBytes x.last 4 ++ s.serial ++ x.head ++ x.before ++ x.stamp ++
    List.replicate 4 0

/-- A write of `SEC_SEAL_CTRL` (R225, R230). -/
def State.sealCtrlWrite (s : State) (v : Word) : State :=
  let s1 := s.setRn A.SEC_SEAL_CTRL (v.toNat &&& 0x1FF01)
  if wbit v 1 then
    let go := fun (c : Chain) => if c.open_ then { c with endSeg := true } else c
    let x := s1.seals
    { s1 with seals := { x with main := go x.main, twin := go x.twin, closing := x.closing.map go } }
  else s1

/-! ### Sending (R210 to R216, R219, R220) -/

/-- A stream whose frame sequence starts with the given kind of packet now; main before twin. -/
def State.whichStream (s : State) (p : SeqItem → Bool) : Option (Bool × Frame × SeqItem × Nat × Nat) :=
  let at_ := fun (twin : Bool) => match s.seqStart twin with
    | some (f, it, q, t) => if p it then some (twin, f, it, q, t) else none
    | none => none
  match at_ false, at_ true with
  | some a, some b => if b.2.2.2.2 < a.2.2.2.2 then some b else some a
  | some a, none => some a
  | none, x => x

/-- A packet of a frame starts while PLL0 is in bypass: the data plane does not keep up, and the image is
DAMAGED (R278). -/
def State.bypassMark (s : State) (n : Nat) (twin : Bool) : State :=
  if s.clk.src0 = .pll then s else s.modEmit n twin fun e => { e with damaged := true }

/-- A frame header starts (R210, R219, R223). -/
def State.headerSend (s : State) : State :=
  match s.whichStream (fun it => it = .header) with
  | some (twin, f, _, p, t) =>
    let s1 := ((s.goTo t).placeFrame f twin).bypassMark f.num twin
    match s1.frame? f.num with
    | some g =>
      let b := s1.headerFields g twin
      let body := packet 1 (b2n twin) (s1.lnk.seqOf (b2n twin)) f.num (s1.rf A.LNK_DEVICE 0 8) b
      (s1.startPacket p t (b2n twin) 1 (b2n twin) f.num b).modEmit f.num twin fun e =>
        { e with hdr := some body }
    | none => s
  | none => s

/-- A line packet starts (R212, R217, R222): its pixels are those in the frame buffer. -/
def State.lineSend (s : State) : State :=
  match s.whichStream (fun it => match it with | .line _ => true | _ => false) with
  | some (twin, f, .line i, p, t) =>
    let pl := f.cfg.plan
    let (bank, x, stripe) := pl.lineAt i
    let fmt := pl.out.fmt twin
    let row := pl.outRow bank x
    let (side, clips, defs) := f.sideband twin bank x stripe
    let pay := rdBytes s.dram (bufAddr fmt twin row stripe) (divUp (pl.pxOut * formatBits fmt) 8)
    let k := (pl.win.stripes.findIdx? (· = stripe)).getD 0
    let b := lineFields row stripe fmt pl.pxOut 1 bank (k * pl.pxOut) side pay
    let s1 := (s.startPacket p t (b2n twin) 2 (b2n twin) f.num b).bypassMark f.num twin
    s1.modEmit f.num twin fun e =>
      { e with sent := e.sent + 1, clipTotal := wrapAdd e.clipTotal clips 32
               defTotal := wrapAdd e.defTotal defs 32
               absorbed := smod (fun _ => []) e.absorbed stripe (· ++ (side ++ pay))
               damaged := e.damaged || (side.headD 0).toNat.testBit 6 }
  | _ => s

/-- A reconstructed packet starts (R189, R212, R216 to R219). -/
def State.reconSend (s : State) : State :=
  match s.whichStream (fun it => match it with | .recon _ => true | _ => false) with
  | some (_, f, .recon i, p, t) =>
    let pl := f.cfg.plan
    let n := max 1 pl.win.stripes.length
    let row := i / n
    let stripe := pl.win.stripes.getD (i % n) 0
    let bank := ((pl.blockRowList 4).getD row (0, 0)).1
    let pay := rdBytes s.dram (f.reconAddr row stripe) (80 * pl.planes)
    let b := lineFields row stripe 4 64 pl.planes bank (i % n * 64) (List.replicate 16 0) pay
    ((s.startPacket p t 0 2 2 f.num b).bypassMark f.num false).modEmit f.num false fun e => { e with recon := e.recon + 1 }
  | _ => s

/-- The trailer of a frame's image starts on lane `p` at instant `t` (R213, R214, R222 to R226). -/
def State.sendTrailer (s0 : State) (n : Nat) (twin : Bool) (p t : Nat) : State :=
  let s := s0.bypassMark n twin
  match s.frame? n with
  | none => s
  | some f =>
    let (s1, d, h) := s.linkFrame f twin
    let dmg : Bool := (f.status twin).testBit 0
    let s2 := s1.startPacket p t (b2n twin) 3 (b2n twin) f.num (f.trailerFields twin d h)
    let s3 := s2.modEmit f.num twin fun e => { e with trailer := true }
    let s4 := { s3 with lnk := { s3.lnk with
      framesSent := wrapAdd s3.lnk.framesSent 1 32
      framesDamaged := if dmg then wrapAdd s3.lnk.framesDamaged 1 32 else s3.lnk.framesDamaged } }
    let s5 := if dmg then s4.setInt A.LNK_INT_STATUS 3 else s4
    s5.afterTrailer f twin

/-- A frame trailer starts (R213, R219, R220). -/
def State.trailerSend (s : State) : State :=
  match s.whichStream (fun it => it = .trailer) with
  | some (twin, f, _, p, t) => s.sendTrailer f.num twin p t
  | none => s

/-- A packet that is not of the frame sequence may start on the main set: nothing of higher priority
is ready (R219). -/
def State.mainIdle (s : State) : Bool := (s.sealDue 0).isNone && s.seqIdle false

/-- A statistics packet starts, in CAPTURE only (R202, R215, R219). -/
def State.statSend (s : State) : State :=
  match s.lnk.stat with
  | some q =>
    if 220 ≤ q.next ∨ ¬ s.mainIdle ∨ s.sys.mode ≠ .capture then s
    else
      match s.pickLane (s.lanesOf q.lanes 0) with
      | some (p, t) =>
        if s.beforeTick t then
          let s1 := s.startPacket p t 0 5 3 q.frame (q.fields q.next)
          { s1 with lnk := { s1.lnk with
            stat := if q.next + 1 = 220 then none else some { q with next := q.next + 1 } } }
        else s
      | none => s
  | none => s

/-- Lanes of a seal packet (R227): those of its set; once CAPTURE has ended, or where the set has no lane any
more, those that carried its chain. -/
def State.sealLanes (s : State) (k : SealPkt) : List Nat :=
  if s.sys.mode = .capture ∧ s.setLanes k.stream ≠ [] then s.setLanes k.stream else s.carried k.lanes

/-- A seal packet starts, of either chain (R219, R227). -/
def State.sealSend (s : State) : State :=
  let try_ := fun (k : SealPkt) =>
    match s.pickLane (s.sealLanes k) with
    | some (p, t) => if s.beforeTick t then some (k, p, t) else none
    | none => none
  match ([0, 1].filterMap s.sealDue).findSome? try_ with
  | some (k, p, t) =>
    let s1 := s.startPacket p t k.stream 4 3 k.frame k.fields
    { s1 with seals := { s1.seals with due := s1.seals.due.erase k } }
  | none => s

/-- Instant at which the LANE block of a lane falls due and the lane is free for it (R201). -/
def Lane.markerAt (l : Lane) (now : Nat) : Nat :=
  if l.markDue then max now l.freeAt
  else max now (max l.freeAt (l.markAt + divUp (blockFifths 65536) 5))

/-- The lane whose LANE block falls due first, the lowest on ties, with its instant (R200, R201). -/
def State.nextMarker (s : State) : Option (Nat × Nat) :=
  let c := (allLanes.filter fun p => (s.lane p).state ≠ .off && !s.eqHolds p).map fun p => (p, (s.lane p).markerAt s.now)
  c.foldl (fun (best : Option (Nat × Nat)) x =>
    match best with | none => some x | some b => if x.2 < b.2 then some x else some b) none

/-- A LANE block is sent (R200, R201). -/
def State.markerSend (s : State) : State :=
  match s.nextMarker with
  | some (p, t) =>
    if s.beforeTick t then
      (s.goTo t).sendMark p t
    else s
  | none => s

/-! ### Link dumps (R216) -/

/-- A dump ends with a result. -/
def State.linkDumpEnd (s : State) (r : LinkDumpResult) : State :=
  ({ s with lnk := { s.lnk with dumpRes := r, dumpOn := false, dumpOwn := false } }).setInt
    A.LNK_INT_STATUS 5

/-- Lanes of a dump that runs in STANDBY: those of set 2. -/
def State.ownDumpLanes (s : State) : List Nat :=
  allLanes.filter fun p => (s.lane p).state = .ready ∧ (s.lane p).set = 2

/-- The lanes of a dump set return to no set. -/
def State.dropDumpSet (s : State) : State :=
  allLanes.foldl (fun (a : State) p =>
    let l := a.lane p
    if l.set = 2 then a.setLane p (l.assign l.logical 3) else a) s

/-- DUMP_GO (R216). One that comes while a dump is BUSY writes its own result, and the dump goes on. -/
def State.linkDumpGo (s : State) : State :=
  let off := s.rf A.LNK_DUMP_OFFSET 0 26
  let len := s.rf A.LNK_DUMP_LEN 0 27
  let mask := s.rn A.LNK_DUMP_LANES0 + s.rf A.LNK_DUMP_LANES1 0 28 * 2 ^ 32
  let ps := bitsOf mask 60
  let okRange := off % 4096 = 0 && len % 4096 = 0 && 4096 ≤ len && off + len ≤ 67108864
  let okLanes := ps ≠ [] && ps.all fun p => (s.lane p).state = .ready
  let own : Bool := s.sys.mode = .standby
  let run := okRange && (s.sys.mode = .capture || (own && okLanes))
  if s.lnk.dumpOn then
    { s with lnk := { s.lnk with dumpRes := .refused } }.setInt A.LNK_INT_STATUS 5
  else if run then
    let s1 := { s with lnk := { s.lnk with
      dumpOn := true, dumpRes := .busy, dumpOff := off, dumpLen := len, dumpSent := 0, dumpOwn := own, seqDump := 0 } }
    if own then
      ps.foldl (fun (a : State) p => a.setLane p ((a.lane p).assign (a.lane p).logical 2)) s1
    else s1
  else ({ s with lnk := { s.lnk with dumpSent := 0 } }).linkDumpEnd .refused

/-- A dump packet starts (R215, R219). -/
def State.dumpSend (s : State) : State :=
  let n := s.lnk.dumpLen / 4096
  if s.lnk.dumpOn = false ∨ n ≤ s.lnk.dumpSent then s
  else
    let own := s.lnk.dumpOwn
    let free : Bool := own ∨ (s.mainIdle ∧ s.lnk.stat = none ∧ s.sys.mode = .capture)
    if ¬ free then s
    else
      match s.pickLane (if own then s.ownDumpLanes else s.setLanes 0) with
      | some (p, t) =>
        if s.beforeTick t then
          let o := s.lnk.dumpOff + 4096 * s.lnk.dumpSent
          let b := beBytes o 4 ++ beBytes s.lnk.dumpLen 4 ++ List.replicate 8 0 ++
            rdBytes s.dram (0xFC000000 + o) 4096
          let s1 := s.startPacket p t (if own then 2 else 0) 6 3 0 b
          { s1 with lnk := { s1.lnk with dumpSent := s1.lnk.dumpSent + 1 } }
        else s
      | none => s

/-- Every packet of the dump has been sent. -/
def State.linkDumpDone (s : State) : State :=
  if s.lnk.dumpOn ∧ s.lnk.dumpLen ≤ 4096 * s.lnk.dumpSent then
    let own := (s.ownDumpLanes.map fun p => (s.lane p).freeAt)
    let s1 := s.goTo (own.foldl max s.now)
    (if s1.lnk.dumpOwn then s1.dropDumpSet else s1).linkDumpEnd .done
  else s

/-- DUMP_ABORT, or entry to SAFE (R216). -/
def State.linkDumpAbort (s : State) : State :=
  if s.lnk.dumpOn then
    (if s.lnk.dumpOwn then s.dropDumpSet else s).linkDumpEnd .aborted
  else s

/-- CNT_CLR (R229). -/
def State.lnkCntClr (s : State) : State :=
  { s with lnk := { s.lnk with framesSent := 0, framesDamaged := 0, lostPkts := 0, statDropped := 0 } }

/-! ### The end of emission on entry to SAFE (R19) -/

/-- Frames whose header was sent get a DAMAGED trailer while a lane of theirs is still driven; the
others are discarded (R19). A lane on which a LANE block is due sends that first (R201). -/
def State.cutAll (s : State) (twin : Bool) : State :=
  s.frames.foldl (fun (a : State) f =>
    let e := f.emit twin
    if ¬ f.emits twin ∨ e.trailer ∨ e.hdr.isNone then a
    else
      let a1 := a.modEmit f.num twin fun e => { e with cut := true, damaged := true }
      match a1.firstFree ((a1.frameLanes f twin).filter a1.laneClocked) with
      | some (p, t) =>
        let a2 := if (a1.lane p).markerDue t then a1.sendMark p t else a1
        a2.sendTrailer f.num twin p (max t (a2.lane p).freeAt)
      | none => a1) s

/-- Entry to SAFE (R19, R216, R224, R227): emission ends, the chains close, no seal packet is sent,
and the lanes go OFF. Device time stays that of the entry. -/
def State.linkSafe (s : State) : State :=
  let t := s.now
  let s1 := ((s.cutAll true).cutAll false).linkDumpAbort
  let s3 := s1.closeAll.lanesOff
  { s3 with
    now := t, frames := []
    lnk := { s3.lnk with stat := none }
    seals := { s3.seals with due := [], queue := s3.seals.queue.map fun x => { x with regsOnly := true } } }

/-! ### Registers (R229, R230) -/

/-- Some frame is being emitted. -/
def State.isEmitting (s : State) : Bool :=
  s.frames.any fun f =>
    (f.main.hdr.isSome && !f.main.trailer) || (f.twin.hdr.isSome && !f.twin.trailer)

/-- `LNK_STATUS`. -/
def State.lnkStatus (s : State) : Nat :=
  let trained := allLanes.all fun p =>
    let st := (s.lane p).state
    st ≠ .off && st ≠ .train && st ≠ .failed
  flag trained 0 + flag s.lanesShort 1 + flag s.isEmitting 2 + flag s.lnk.dumpOn 3 +
    at_ s.sparesFree 4

/-- A word of a byte string, byte 4i in bits 7:0 (R230). -/
def wordOf (b : List Byte) (i : Nat) : Nat := ofLE ((b.drop (4 * i)).take 4)

/-- Registers of one chain (R230); `o` is the offset from 0x10. -/
def Chain.read (c : Chain) (o : Nat) : Nat :=
  if o < 0x10 then wordOf c.id (o / 4)
  else if o = 0x10 then c.segment
  else if o = 0x14 then c.lastFrame
  else if o = 0x18 then c.count % 512
  else if 0x20 ≤ o ∧ o < 0x40 then wordOf c.shown ((o - 0x20) / 4)
  else 0

/-- Live seal registers (R230). -/
def State.sealRead (s : State) (a : Nat) : Option Nat :=
  let x := s.seals
  if a = A.SEC_SEAL_CTRL then some (s.rn A.SEC_SEAL_CTRL)
  else if a = A.SEC_SEAL_STATUS then
    some (flag x.main.open_ 0 + flag x.twin.open_ 1 + flag x.avail 2 + at_ (min 7 x.queue.length) 3 +
      at_ (if x.main.open_ ∧ x.main.placed then x.main.lEff else 0) 8)
  else if 0x370810 ≤ a ∧ a < 0x370850 then some (x.main.read (a - 0x370810))
  else if 0x370850 ≤ a ∧ a < 0x370890 then some (x.twin.read (a - 0x370850))
  else if 0x370900 ≤ a ∧ a < 0x370980 then some (wordOf x.stmt ((a - 0x370900) / 4))
  else if 0x370980 ≤ a ∧ a < 0x370B00 then some (wordOf x.sig ((a - 0x370980) / 4))
  else if a = 0x370B00 then some x.sigSeq
  else if a = 0x370B04 then some x.sigSeqEnd
  else none

/-- Live LNK registers (R229). -/
def State.lnkRead (s : State) (a : Nat) : Option Nat :=
  let l := s.lnk
  if a = A.LNK_STATUS then some s.lnkStatus
  else if a = A.LNK_CTRL ∨ a = A.LNK_LANE_OK0 ∨ a = A.LNK_LANE_OK1 ∨ a = A.LNK_FAIL_REQ0 ∨
      a = A.LNK_FAIL_REQ1 then some 0
  else if A.LNK_GROUP ≤ a ∧ a < A.LNK_GROUP + 16 then some (s.groupWord ((a - A.LNK_GROUP) / 4))
  else if a = A.LNK_MAIN_SEQ then some (l.lastMain)
  else if a = A.LNK_TWIN_SEQ then some (l.lastTwin)
  else if a = A.LNK_FRAMES_SENT then some l.framesSent
  else if a = A.LNK_FRAMES_DAMAGED then some l.framesDamaged
  else if a = A.LNK_LOST_PKTS then some l.lostPkts
  else if a = A.LNK_STAT_DROPPED then some l.statDropped
  else if a = A.LNK_DUMP_STATUS then some (l.dumpRes.code + at_ l.dumpSent 16)
  else if A.LNK_PHY ≤ a ∧ a < A.LNK_PHY + 240 then some (s.lane ((a - A.LNK_PHY) / 4)).word
  else none

/-- A write of `LNK_CTRL`: CNT_CLR, TRAIN_GO, DUMP_ABORT, DUMP_GO in this order (log entry 9). -/
def State.lnkCtrlWrite (s : State) (who : Who) (v : Word) : State :=
  let s1 := if wbit v 3 then s.lnkCntClr else s
  let s2 := if wbit v 0 then s1.trainGo who else s1
  let s3 := if wbit v 2 then s2.linkDumpAbort else s2
  if wbit v 1 then s3.linkDumpGo else s3

/-- Writes of LNK registers with behaviour of their own (R202 to R204, R216, R229). -/
def State.lnkWrite (s : State) (who : Who) (a : Nat) (v : Word) : Option State :=
  if a = A.LNK_CTRL then some (s.lnkCtrlWrite who v)
  else if a = A.LNK_LANE_OK0 then some (s.lanesOk v.toNat)
  else if a = A.LNK_LANE_OK1 then some (s.lanesOk (wfield v 0 28 * 2 ^ 32))
  else if a = A.LNK_FAIL_REQ0 then some (s.lanesFailReq v.toNat)
  else if a = A.LNK_FAIL_REQ1 then some (s.lanesFailReq (wfield v 0 28 * 2 ^ 32))
  else if A.LNK_EQ ≤ a ∧ a < A.LNK_EQ + 240 then some (s.eqWrite ((a - A.LNK_EQ) / 4) v)
  else none

end Sys2Proof.Machine
end

