-- ==== Sys2Proof/Machine/Aes.lean ====
section
/-!
DEFINITION. What the crypto engine does with private keys: AES-256 key unwrap with padding (RFC 5649;
14_vault_and_security.md R428), and RSASSA-PSS signing by the Chinese remainder components of an RSA-3072 key
(04_plans.md R121, 14_vault_and_security.md R428, R429).
-/
namespace Sys2Proof.Machine

/-! ### AES-256 decryption -/

/-- Multiplication by x in the field of AES. -/
def gfDouble (a : Nat) : Nat := (2 * a % 256) ^^^ (if 128 ≤ a then 0x1B else 0)

/-- Product of `a` with the low `k` bits of `b` in the field of AES. -/
def gfMulBits : Nat → Nat → Nat → Nat
  | 0, _, _ => 0
  | k + 1, a, b => (if b % 2 = 1 then a else 0) ^^^ gfMulBits k (gfDouble a) (b / 2)

/-- Product in the field of AES. -/
def gfMul (a b : Nat) : Nat := gfMulBits 8 a b

/-- `a` to the power `2 ^ (k + 1) - 2`: for `k = 7` the inverse of `a`, and 0 for 0. -/
def gfPow : Nat → Nat → Nat
  | 0, _ => 1
  | k + 1, a => let s := gfMul a a; gfMul s (gfPow k s)

/-- Inverse in the field of AES. -/
def gfInv (a : Nat) : Nat := gfPow 7 a

/-- Rotate a byte left. -/
def rotByte (x k : Nat) : Nat := (x * 2 ^ k) % 256 + x / 2 ^ (8 - k)

/-- The S-box. -/
def sBox (x : Nat) : Nat :=
  let y := gfInv x
  y ^^^ rotByte y 1 ^^^ rotByte y 2 ^^^ rotByte y 3 ^^^ rotByte y 4 ^^^ 0x63

/-- The inverse S-box. -/
def sBoxInv (x : Nat) : Nat := gfInv (rotByte x 1 ^^^ rotByte x 3 ^^^ rotByte x 6 ^^^ 0x05)

/-- Bytewise exclusive or of numbers. -/
def xorNats (a b : List Nat) : List Nat := List.zipWith (· ^^^ ·) a b

/-- The key schedule from word 8 on: `n` more words, each of four bytes; `acc` holds the words so far, the newest
first. -/
def aesExpand : Nat → List (List Nat) → List (List Nat)
  | 0, acc => acc
  | n + 1, acc =>
    let i := acc.length
    let t := acc.headD []
    let t1 :=
      if i % 8 = 0 then xorNats ((t.drop 1 ++ t.take 1).map sBox) [2 ^ (i / 8 - 1), 0, 0, 0]
      else if i % 8 = 4 then t.map sBox
      else t
    aesExpand n (xorNats (acc.getD 7 []) t1 :: acc)

/-- Cut into pieces of `k` elements, `n` of them. -/
def pieces {α : Type} (k : Nat) : Nat → List α → List (List α)
  | 0, _ => []
  | n + 1, l => l.take k :: pieces k n (l.drop k)

/-- The 15 round keys of a 32-byte key. -/
def aesKeys (key : List Byte) : List (List Nat) :=
  pieces 16 15 ((aesExpand 52 (pieces 4 8 (key.map (·.toNat))).reverse).reverse.flatMap id)

/-- Inverse ShiftRows on 16 bytes in column order. -/
def invShift (l : List Nat) : List Nat :=
  (List.range 16).map fun i => l.getD (4 * ((i / 4 + 4 - i % 4) % 4) + i % 4) 0

/-- Inverse MixColumns of one column. -/
def invMixCol (c : List Nat) : List Nat :=
  (List.range 4).map fun i =>
    gfMul (c.getD i 0) 14 ^^^ gfMul (c.getD ((i + 1) % 4) 0) 11 ^^^ gfMul (c.getD ((i + 2) % 4) 0) 13 ^^^
      gfMul (c.getD ((i + 3) % 4) 0) 9

/-- The rounds of the decryption after the first key, with the round keys in the order of use. -/
def aesRounds : List (List Nat) → List Nat → List Nat
  | [], x => x
  | k :: ks, x =>
    let y := xorNats ((invShift x).map sBoxInv) k
    if ks = [] then y else aesRounds ks ((pieces 4 4 y).flatMap invMixCol)

/-- AES decryption of a 16-byte block under a key schedule. -/
def aesDecrypt (keys : List (List Nat)) (block : List Byte) : List Byte :=
  let ks := keys.reverse
  (aesRounds (ks.drop 1) (xorNats (block.map (·.toNat)) (ks.headD []))).map (BitVec.ofNat 8 ·)

/-! ### Key unwrap with padding (RFC 5649) -/

/-- The unwrapping steps for the counter values `ts`, from the highest down: `a` is the register, `r` the 64-bit
blocks. -/
def unwrapSteps (keys : List (List Nat)) (n : Nat) : List Nat → List Byte × List (List Byte) → List Byte × List (List Byte)
  | [], x => x
  | t :: ts, (a, r) =>
    let i := (t - 1) % n
    let b := aesDecrypt keys (xorBytes a (beBytes t 8) ++ r.getD i [])
    unwrapSteps keys n ts (b.take 8, r.set i (b.drop 8))

/-- The key data behind wrapped bytes of at least three 64-bit blocks; none when the integrity check fails. -/
def keyUnwrap (key wrapped : List Byte) : Option (List Byte) :=
  let n := wrapped.length / 8 - 1
  let x := unwrapSteps (aesKeys key) n ((List.range (6 * n)).map (6 * n - ·))
    (wrapped.take 8, pieces 8 n (wrapped.drop 8))
  let plain := x.2.flatMap id
  let len := ofBE (x.1.drop 4)
  if x.1.take 4 = [0xA6, 0x59, 0x59, 0xA6] ∧ len ≤ 8 * n ∧ 8 * n < len + 8 ∧ (plain.drop len).all (· = 0) then
    some (plain.take len)
  else none

/-! ### RSA signing -/

/-- The five components of 192 bytes each, big-endian (R428). -/
def RsaKey.ofBytes (b : List Byte) : RsaKey :=
  let c := fun (i : Nat) => ofBE ((b.drop (192 * i)).take 192)
  { p := c 0, q := c 1, dP := c 2, dQ := c 3, qInv := c 4 }

/-- `x` to the power of the low `k` bits of `e` modulo `m`. -/
def powMod : Nat → Nat → Nat → Nat → Nat
  | 0, _, _, m => 1 % m
  | k + 1, x, e, m =>
    let r := powMod k (x * x % m) (e / 2) m
    if e % 2 = 1 then r * x % m else r

/-- The private-key operation on `x`; 0 where a prime is 0, which is no key. -/
def RsaKey.apply (k : RsaKey) (x : Nat) : Nat :=
  if k.p = 0 ∨ k.q = 0 then 0
  else
    let m1 := powMod 1536 (x % k.p) k.dP k.p
    let m2 := powMod 1536 (x % k.q) k.dQ k.q
    m2 + k.q * (k.qInv * (m1 + k.p - m2 % k.p) % k.p)

/-- The encoded message of RSASSA-PSS with SHA-256, MGF1 and a salt of 32 bytes (R121). -/
def pssEncode (msg salt : List Byte) : List Byte :=
  let h := sha256 (List.replicate 8 0 ++ sha256 msg ++ salt)
  let masked := xorBytes (List.replicate 318 0 ++ [1] ++ salt) (mgf1 h 11)
  (masked.take 1).map (fun b => b &&& 0x7F) ++ masked.drop 1 ++ h ++ [0xBC]

/-- The RSASSA-PSS signature over `msg`, 384 bytes (R121). -/
def RsaKey.sign (k : RsaKey) (msg : List Byte) (salt : Nat) : List Byte :=
  beBytes (k.apply (ofBE (pssEncode msg (beBytes salt 32)))) 384

end Sys2Proof.Machine
end

