-- ==== Sys2Proof/Machine/Vault.lean ====
section
/-!
DEFINITION. The vault: sensing, regions, slots, commands and overrides, and the identity key
(14_vault_and_security.md R407 to R428, R430, R431).
-/
namespace Sys2Proof.Machine

/-! ### Fuses (R407, R408) -/

/-- Bits of `a` that are not in `b`. -/
def andNot (a b : Nat) : Nat := a - (a &&& b)

/-- Fuses of physical row `r`. -/
def Vlt.fuse (v : Vlt) (r : Nat) : FuseRow := sget (fun _ => {}) v.fuses r

/-- A physical row at the normal margin: a bit reads 1 when either fuse does. -/
def Vlt.normal (v : Vlt) (r : Nat) : Nat := (v.fuse r).n0 ||| (v.fuse r).n1

/-- A physical row at the tight margin. -/
def Vlt.tight (v : Vlt) (r : Nat) : Nat := (v.fuse r).t0 ||| (v.fuse r).t1

/-- The redirection entry that a row is read from: the lowest that is VALID and not RETIRED and
names it. -/
def redirOf (entry : Nat → Nat) (r : Nat) : Option Nat :=
  (List.range 16).find? fun k =>
    let e := entry k
    e.testBit 15 && !e.testBit 14 && e % 256 = r

/-- The physical row in use for a logical row. -/
def inUse (entry : Nat → Nat) (r : Nat) : Nat :=
  match redirOf entry r with
  | some k => 256 + k
  | none => r

/-- What the device takes a redirection entry to read: one that is marginal counts as VALID and RETIRED, and its
spare is not used (R411). -/
def entryAt (normal tight : Nat) : Nat := if normal = tight then normal else normal ||| 0xC000

/-- Redirection entry `k` in the fuses now, read at both margins. -/
def Vlt.entry (v : Vlt) (k : Nat) : Nat := entryAt (v.normal (272 + k)) (v.tight (272 + k))

/-- The physical row that stands for a logical row in the fuses now. -/
def Vlt.phys (v : Vlt) (r : Nat) : Nat := inUse v.entry r

/-! ### Regions (R409, R413, R414) -/

/-- First data row, number of data rows, first digest row and code of a finalisable region. -/
def regionRows (k : Nat) : Nat × Nat × Nat × Nat :=
  if k = 0 then (0, 60, 60, 1) else if k = 1 then (64, 12, 76, 2) else (80, 28, 108, 3)

/-- The finalise digest of a region over row values (R413). -/
def regionDigest (k : Nat) (row : Nat → Nat) : List Byte :=
  let (a, n, _, c) := regionRows k
  sha256 (beBytes c 1 ++ (List.range n).flatMap (fun i => leBytes (row (a + i)) 8))

/-- Row `i` of a digest: bytes 8i to 8i+7, the least significant first. -/
def digestRow (d : List Byte) (i : Nat) : Nat := ofLE ((d.drop (8 * i)).take 8)

/-- The state of a region (R414). -/
def regionState (k : Nat) (row : Nat → Nat) (marg : Nat) : RegionState :=
  let (a, n, g, _) := regionRows k
  let data := (List.range n).map (a + ·)
  let digs := (List.range 4).map (g + ·)
  let zero := fun (l : List Nat) => l.all (fun r => row r = 0)
  let off := fun (l : List Nat) => l.any (fun r => marg.testBit r)
  if off digs ∨ (k ≠ 0 ∧ off data) then .fail
  else if zero digs then (if zero data then .blank else .open_)
  else if (List.range 4).all (fun i => row (g + i) = digestRow (regionDigest k row) i) then .good
  else .fail

/-! ### Shadows -/

/-- Shadow of a row as the device uses it. -/
def Vlt.row (v : Vlt) (r : Nat) : Nat := sget (fun _ => 0) v.shadow r

/-- Rows whose value in use is the OR of both margins (R411). -/
def orRow (r : Nat) : Bool := r = 128 || r = 129 || r = 130 || r = 176 || r = 177

/-- A row was marginal at the last sensing. -/
def Vlt.marginal (v : Vlt) (r : Nat) : Bool := v.marg.testBit r

/-- First digest row of slot `k` (R409). -/
def slotRow (k : Nat) : Nat := if k < 4 then 112 + 4 * k else 160 + 4 * (k - 4)

/-- The four digest rows of a slot. -/
def slotRows (k : Nat) : List Nat := (List.range 4).map (slotRow k + ·)

/-- State of a slot (R424): 0 BLANK, 1 USABLE, 2 REVOKED, 3 MARGINAL. -/
def Vlt.slot (v : Vlt) (k : Nat) : Nat :=
  if (v.row 129).testBit k then 2
  else if (slotRows k).any v.marginal then 3
  else if (slotRows k).all (fun r => v.row r = 0) then 0
  else 1

/-- CUST_FW as it counts (R425). -/
def Vlt.custFw (v : Vlt) : Bool :=
  (v.row 176).testBit 2 && !v.marginal 176 && (v.row 177).testBit 0 && !v.restricted

/-- Slot `k` is allowed for firmware (R425). -/
def Vlt.fwOk (v : Vlt) (k : Nat) : Bool := v.slot k = 1 && (k < 4 || v.custFw)

/-- Slot `k` is allowed for plan images (R425). -/
def Vlt.planOk (v : Vlt) (k : Nat) : Bool := v.slot k = 1 && (4 ≤ k || !(v.row 176).testBit 3)

/-- The digest bytes a slot holds. -/
def Vlt.slotDigest (v : Vlt) (k : Nat) : List Byte := (slotRows k).flatMap (fun r => leBytes (v.row r) 8)

/-- The first allowed slot that holds a key digest (R425). -/
def Vlt.findSlot (v : Vlt) (allowed : Nat → Bool) (d : List Byte) : Option Nat :=
  (List.range 8).find? (fun k => allowed k && v.slotDigest k = d)

/-- Plan images need a signature (R426). -/
def Vlt.planSig (v : Vlt) : Bool := (v.row 128).testBit 1 || (v.row 176).testBit 0

/-- The debug access port is disabled (R426). -/
def Vlt.debugDis (v : Vlt) : Bool := (v.row 128).testBit 2 || (v.row 176).testBit 1

/-- The debug access port works; not before the policy has been sensed (R426, R431 reset value). -/
def Vlt.debugEn (v : Vlt) : Bool := v.sensed && !v.debugDis && !v.restricted

/-! ### Sensing (R410 to R417) -/

/-- What a sensing reads for a physical row: the fuses, unless the environment makes a weak fuse
read otherwise this time: (row, normal, tight). -/
def Vlt.reads (v : Vlt) (ovr : List (Nat × Nat × Nat)) (r : Nat) : Nat × Nat :=
  match ovr.find? (fun x => x.1 = r) with
  | some x => x.2
  | none => (v.normal r, v.tight r)

/-- Rows 0 to 59 of a VENDOR region in FAIL read the nominal trims (R417), which the manual does
not list (free value, log entry 10). -/
def nominalTrim (r : Nat) : Nat := Config.openValue 20 [(r : Int)] % 2 ^ 64

/-- A sensing into the shadows; no lock is cleared (R415). -/
def Vlt.sense (v : Vlt) (ovr : List (Nat × Nat × Nat)) (dead : Bool) : Vlt :=
  let rd := fun (r : Nat) => if dead then (0, 0) else v.reads ovr r
  let mr := maskOf ((List.range 16).filter (fun k => (rd (272 + k)).1 ≠ (rd (272 + k)).2))
  let entry := fun (k : Nat) => entryAt (rd (272 + k)).1 (rd (272 + k)).2
  let val := fun (r : Nat) =>
    let x := rd (inUse entry r)
    if 224 ≤ r then 0 else if orRow r then x.1 ||| x.2 else x.1
  let mg := maskOf ((List.range 224).filter (fun r => (rd (inUse entry r)).1 ≠ (rd (inUse entry r)).2))
  let st := fun (k : Nat) => if dead then RegionState.fail else regionState k val mg
  let bad := st 0 = .fail || st 1 = .fail || st 2 = .fail
  let use := fun (r : Nat) => if r < 60 ∧ st 0 = .fail then nominalTrim r else val r
  { v with
    sensed := true, dead := dead
    shadow := (List.range 256).foldl (fun (m : List (Nat × Nat)) r => sput (fun _ => 0) m r (use r)) []
    marg := mg, margRedir := mr
    redir := (List.range 16).foldl (fun (m : List (Nat × Nat)) k => sput (fun _ => 0) m k (entry k)) []
    vendor := st 0, identity := st 1, keys := st 2, restricted := bad
    lockPolicy := v.lockPolicy || (val 130).testBit 0, lockCustomer := v.lockCustomer || (val 177).testBit 0 }

/-- Boot step VAULT senses the vault, sets the locks of closed regions and judges the regions. -/
def State.vaultSense (s : State) (ovr : List (Nat × Nat × Nat)) (dead : Bool) : State :=
  let s1 := { s with vlt := s.vlt.sense ovr dead }
  let s2 := (bitsOf s1.vlt.marg 224).foldl (fun (a : State) r =>
    (a.setInt A.VLT_INT_STATUS 2).warn clsVLT 2 r 0) s1
  if s2.vlt.restricted then (s2.setInt A.VLT_INT_STATUS 3).faultEv clsVLT 3 0 0 else s2

/-- The watchdog hardware-start bit, read once during the reset hold at both margins (R329). -/
def Vlt.hwStart (v : Vlt) : Bool :=
  let r := v.phys 128
  (v.normal r ||| v.tight r).testBit 0

/-- Every lock still clear is set at the first mode change after the reset that leaves STANDBY and
on entry to SAFE (R415). -/
def State.vaultLockAll (s : State) : State :=
  { s with vlt := { s.vlt with lockPolicy := true, lockCustomer := true } }

/-- A write of `VLT_LOCK_SET` (R415). -/
def State.vaultLockSet (s : State) (v : Word) : State :=
  { s with vlt := { s.vlt with
    lockPolicy := s.vlt.lockPolicy || wbit v 0, lockCustomer := s.vlt.lockCustomer || wbit v 1 } }

/-! ### Programming (R420) -/

/-- Program physical row `r` toward `target`; the bits that do not take at each copy and margin are
the environment's. -/
def Vlt.burn (v : Vlt) (r target : Nat) (b : Burn) : Vlt :=
  let f := v.fuse r
  let g : FuseRow :=
    { n0 := f.n0 ||| andNot target b.n0, n1 := f.n1 ||| andNot target b.n1
      t0 := f.t0 ||| andNot target b.t0, t1 := f.t1 ||| andNot target b.t1 }
  { v with fuses := sput (fun _ => {}) v.fuses r g }

/-- A physical row reads its target at both margins. -/
def Vlt.verified (v : Vlt) (r target : Nat) : Bool := v.normal r = target && v.tight r = target

/-- Try the spares in order (R420): true when one verified. -/
def Vlt.trySpares (row target : Nat) : List Nat → List Burn → Vlt → Vlt × Bool × List Burn
  | [], bs, v => (v, false, bs)
  | k :: r, bs, v =>
    let e := v.entry k
    if e.testBit 15 ∨ e.testBit 14 then Vlt.trySpares row target r bs v
    else
      let v1 := v.burn (256 + k) target (bs.headD {})
      let v2 := v1.burn (272 + k) (e ||| 0x8000 ||| row) ((bs.drop 1).headD {})
      if v2.verified (256 + k) target then (v2, true, bs.drop 2)
      else
        let v3 := v2.burn (272 + k) (v2.normal (272 + k) ||| 0x4000) ((bs.drop 2).headD {})
        Vlt.trySpares row target r (bs.drop 3) v3

/-- What came of programming one row (R420). -/
inductive RowEnd where
  | done | redirected | nospare
  deriving DecidableEq, Repr

/-- Program and verify one logical row (R420). A spare that was in use for it and fails is retired
(R408). -/
def Vlt.program (v : Vlt) (row target : Nat) (bs : List Burn) : Vlt × RowEnd × List Burn :=
  let p := v.phys row
  let v1 := v.burn p target (bs.headD {})
  if v1.verified p target then (v1, .done, bs.drop 1)
  else
    let (v2, bs2) :=
      if 256 ≤ p then
        (v1.burn (p + 16) (v1.normal (p + 16) ||| 0x4000) ((bs.drop 1).headD {}), bs.drop 2)
      else (v1, bs.drop 1)
    let (v3, found, bs3) := Vlt.trySpares row target (List.range 16) bs2 v2
    (v3, if found then .redirected else .nospare, bs3)

/-! ### Commands (R418 to R422) -/

/-- A command is refused or ends with a result other than DONE (R418). -/
def State.vaultEndBad (s : State) (result : Nat) : State :=
  ({ s with vlt := { s.vlt with result := result } }.setInt A.VLT_INT_STATUS 1).warn clsVLT 1 0 result

/-- A refused command; while another runs, WRITER stays that of the one that runs (R430). -/
def State.vaultRefuse (s : State) (who : Who) (result : Nat) : State :=
  { s with vlt := { s.vlt with writer := if s.vlt.run.isSome then s.vlt.writer else who.code } }.vaultEndBad result

/-- A command starts. -/
def State.vaultBegin (s : State) (who : Who) (r : VaultRun) : State :=
  { s with vlt := { s.vlt with
    run := some r, result := 0, redirected := false, writer := who.code } }

/-- The row is in a finalised region (R414, R419). -/
def Vlt.finalised (v : Vlt) (r : Nat) : Bool :=
  let done := fun (x : RegionState) => x = .good || x = .fail
  (r < 64 && done v.vendor) || (64 ≤ r && r < 80 && done v.identity) ||
    (80 ≤ r && r < 112 && done v.keys)

/-- Bits of a row that a MINT may set (R409). -/
def mintable (r : Nat) : Nat :=
  if r = 67 then 0xFFFF
  else if (72 ≤ r ∧ r < 76) ∨ (88 ≤ r ∧ r < 108) ∨ (131 ≤ r ∧ r < 160) then 0
  else if r = 128 then 0x7
  else if r = 176 then 0xF
  else 2 ^ 64 - 1

/-- The word that scrambles a KEYS row (R419). -/
def Vlt.scramble (v : Vlt) (r : Nat) : Nat :=
  ofLE ((sha256 (beBytes 0x4B 1 ++ leBytes (v.row 64) 8 ++ leBytes (v.row 65) 8 ++ beBytes r 1)).take 8)

/-- The result with which a MINT is refused, 0 when it is accepted (R419). -/
def Vlt.mintFault (v : Vlt) (r data : Nat) : Nat :=
  if (60 ≤ r ∧ r < 64) ∨ (76 ≤ r ∧ r < 80) ∨ (108 ≤ r ∧ r < 112) ∨ r = 130 ∨ r = 177 ∨ 224 ≤ r then 7
  else if v.finalised r then 8
  else if (112 ≤ r ∧ r < 160 ∧ r ≠ 129 ∧ v.lockPolicy) ∨ (160 ≤ r ∧ v.lockCustomer) then 8
  else if r = 129 then 7
  else if 80 ≤ r ∧ r < 112 ∧ v.identity ≠ .good then 9
  else if andNot data (mintable r) ≠ 0 then 6
  else 0

/-- MINT (R419). -/
def State.vaultMint (s : State) (who : Who) (r : Nat) : State :=
  let data := s.rn A.VLT_CMD_DATA_LO + s.rn A.VLT_CMD_DATA_HI * 2 ^ 32
  let v := s.vlt
  let f := v.mintFault r data
  if f ≠ 0 then s.vaultRefuse who f
  else
    let key : Bool := 80 ≤ r ∧ r < 112
    let bits := if key then data ^^^ v.scramble r else data
    let s1 := s.vaultBegin who { op := 1, arg := r, rows := [(r, v.normal (v.phys r) ||| bits)] }
    if key then (s1.setRn A.VLT_CMD_DATA_LO 0).setRn A.VLT_CMD_DATA_HI 0 else s1

/-- Rows that must not read 0 at a FINALISE (R422). -/
def requiredRows (k : Nat) : List Nat :=
  if k = 0 then List.range 4 else if k = 1 then (List.range 8).map (64 + ·) else (List.range 8).map (80 + ·)

/-- FINALISE (R422). -/
def State.vaultFinalise (s : State) (who : Who) (k : Nat) : State :=
  let v := s.vlt
  let (a, n, g, _) := regionRows k
  let row := fun (r : Nat) => v.normal (v.phys r)
  let st := if k = 0 then v.vendor else if k = 1 then v.identity else v.keys
  let d := regionDigest k row
  let rows := (List.range 4).map (fun i => (g + i, digestRow d i))
  let all := (List.range n).map (a + ·) ++ (List.range 4).map (g + ·)
  if st = .good ∨ rows.any (fun x => andNot (row x.1) x.2 ≠ 0) then s.vaultRefuse who 8
  else if all.any (fun r => row r ≠ v.tight (v.phys r)) ∨ (requiredRows k).any (fun r => row r = 0) ∨
      (k = 1 ∧ row 67 ≠ 1) then s.vaultRefuse who 9
  else s.vaultBegin who { op := 2, arg := k, rows := rows }

/-- CLOSE (R422). -/
def State.vaultClose (s : State) (who : Who) (k : Nat) : State :=
  let v := s.vlt
  let slots := if k = 3 then [0, 1, 2, 3] else [4, 5, 6, 7]
  let r := if k = 3 then 130 else 177
  if (if k = 3 then v.lockPolicy else v.lockCustomer) then s.vaultRefuse who 8
  else if slots.any (fun x => (slotRows x).any v.marginal) then s.vaultRefuse who 9
  else s.vaultBegin who { op := 3, arg := k, rows := [(r, v.normal (v.phys r) ||| 1)] }

/-- REVOKE (R422). -/
def State.vaultRevoke (s : State) (who : Who) (k : Nat) : State :=
  let v := s.vlt
  if (List.range 8).all (fun x => x = k || !v.fwOk x) then s.vaultRefuse who 11
  else s.vaultBegin who { op := 4, arg := k, rows := [(129, v.normal (v.phys 129) ||| 2 ^ k)] }

/-- The opcode and the argument are valid (R418, R419, R422). -/
def vaultArgOk (op arg : Nat) : Bool :=
  (op = 1 && arg < 256) || (op = 2 && arg < 3) || (op = 3 && (arg = 3 || arg = 4)) || (op = 4 && arg < 8)

/-- The checks of R418 in their order. -/
def State.vaultJudge (s : State) (who : Who) (op : Nat) : State :=
  let arg := s.rf A.VLT_CMD_ARG 0 8
  if s.vlt.run.isSome then s.vaultRefuse who 2
  else if s.vlt.restricted then s.vaultRefuse who 3
  else if ¬ (s.sys.mode = .standby ∧ s.sys.permit) then s.vaultRefuse who 4
  else if ¬ s.thm.mintGate then s.vaultRefuse who 5
  else if ¬ vaultArgOk op arg then s.vaultRefuse who 6
  else if op = 1 then s.vaultMint who arg
  else if op = 2 then s.vaultFinalise who arg
  else if op = 3 then s.vaultClose who arg
  else s.vaultRevoke who arg

/-- The write of `VLT_CMD` in this MGTCLK cycle that comes last by R290, if there was one. -/
def State.vaultTurn (s : State) : Option VaultTurn := s.vlt.turn.filter (fun x => x.cycle = s.mgt)

/-- In this cycle a writer that R290 puts after `who` has written `VLT_CMD` (R418). -/
def State.vaultLate (s : State) (who : Who) : Bool :=
  match s.vaultTurn with
  | some x => writerRank who < writerRank x.by_
  | none => false

/-- A command that started in this cycle is taken back, with the data registers that it cleared (R418, R419). -/
def State.vaultTakeBack (s : State) (x : VaultTurn) : State :=
  let s1 := { s with vlt := { s.vlt with run := none } }
  match s.vlt.run with
  | some r =>
    if r.op = 1 ∧ 80 ≤ r.arg ∧ r.arg < 112 ∧ s.rn A.VLT_CMD_DATA_LO = 0 ∧ s.rn A.VLT_CMD_DATA_HI = 0 then
      (s1.setRn A.VLT_CMD_DATA_LO x.dataLo).setRn A.VLT_CMD_DATA_HI x.dataHi
    else s1
  | none => s1

/-- The event of a vault command refused with `result` in this cycle says BUSY instead (R418). -/
def busyEvent (result : Nat) (e : Event) : Event :=
  if e.cls = clsVLT ∧ e.code = 1 ∧ e.detail = result then { e with detail := 2 } else e

/-- A command written in this cycle by a writer that R290 puts before `who` is refused with BUSY, whether it had
started or been refused with another result (R418). -/
def State.vaultYield (s : State) (who : Who) : State :=
  match s.vaultTurn with
  | some x =>
    if writerRank who ≤ writerRank x.by_ then s
    else
      let s1 := if x.started then (s.vaultTakeBack x).vaultRefuse x.by_ 2 else s.reraise (busyEvent x.result)
      { s1 with vlt := { s1.vlt with turn := none } }
  | none => s

/-- A write of `VLT_CMD` (R418): of the writers of one cycle the last by R290 has its command judged, the
others are refused with BUSY. -/
def State.vaultCmd (s : State) (who : Who) (op : Nat) : State :=
  if s.vaultLate who then (s.setInt A.VLT_INT_STATUS 1).warn clsVLT 1 0 2
  else
    let s1 := s.vaultYield who
    let s2 := s1.vaultJudge who op
    { s2 with vlt := { s2.vlt with
      turn := some { cycle := s.mgt, by_ := who, started := s1.vlt.run.isNone && s2.vlt.run.isSome
                     result := s2.vlt.result, dataLo := s1.rn A.VLT_CMD_DATA_LO
                     dataHi := s1.rn A.VLT_CMD_DATA_HI } } }

/-- The mint gate at instant `t` of a command, which started with the gate open; `gates` are its changes since,
newest first. -/
def gateAt (gates : List (Nat × Bool)) (t : Nat) : Bool :=
  match gates.find? (fun x => x.1 ≤ t) with
  | some x => x.2
  | none => true

/-- Program the rows of a command one after the other; the mint gate is tested before each further
row, at the instant at which it begins (R418, R420). -/
def State.vaultRows (s : State) (first : Bool) (gates : List (Nat × Bool)) : List (Nat × Nat) → List Burn → State
  | [], _ =>
    ({ s with vlt := { s.vlt with result := 1 } }.setInt A.VLT_INT_STATUS 0).info clsVLT 0 0 0
  | (r, t) :: rest, bs =>
    if ¬ first ∧ gateAt gates ((bs.headD {}).at_.getD s.now) = false then s.vaultEndBad 5
    else
      let (v, e, bs1) := s.vlt.program r t bs
      let s1 := { s with vlt := { v with lastRow := r } }
      match e with
      | .done => s1.vaultRows false gates rest bs1
      | .redirected =>
        ({ s1 with vlt := { s1.vlt with redirected := true } }.setInt A.VLT_INT_STATUS 4).vaultRows false gates rest bs1
      | .nospare =>
        (({ s1 with vlt := { s1.vlt with marg := s1.vlt.marg ||| 2 ^ r } }.setInt A.VLT_INT_STATUS 2).warn
          clsVLT 2 r 0).vaultEndBad 10

/-- A vault command finishes (R418, R420, R422). -/
def State.vaultDone (s : State) (bs : List Burn) : State :=
  match s.vlt.run with
  | none => s
  | some x =>
    let s1 := { s with vlt := { s.vlt with run := none } }.vaultRows true x.gates x.rows bs
    if x.op = 4 ∧ s1.vlt.result = 1 then
      { s1 with vlt := { s1.vlt with
        shadow := sput (fun _ => 0) s1.vlt.shadow 129 (s1.vlt.row 129 ||| 2 ^ x.arg) } }
    else s1

/-! ### Trial override (R423) -/

/-- A write to a word of the shadow window (R423). -/
def State.shadowWrite (s : State) (who : Who) (a : Nat) (w : Word) : State :=
  let r := (a - A.VLT_SHADOW) / 8
  let v := s.vlt
  let open_ : Bool := v.vendor = .blank ∨ v.vendor = .open_
  if r < 60 ∧ open_ ∧ s.rb A.VLT_OVR_CTRL 0 ∧ s.sys.mode = .standby ∧ s.sys.permit then
    let x := setField (v.row r) (if a % 8 = 4 then 32 else 0) 32 w.toNat
    { s with vlt := { v with shadow := sput (fun _ => 0) v.shadow r x, overridden := true } }
  else s.ignored clsVLT who a

/-! ### The identity key (R427, R428) -/

/-- The wrap key, 32 bytes, unscrambled from its KEYS rows (R409, R427). -/
def Vlt.wrapKey (v : Vlt) : List Byte :=
  (List.range 4).flatMap fun i => leBytes (v.row (80 + i) ^^^ v.scramble (80 + i)) 8

/-- The private key that the blob wraps, if the unwrap succeeds and yields its five components (R428). -/
def Vlt.unwrapped (v : Vlt) (b : List Byte) : Option RsaKey :=
  match keyUnwrap v.wrapKey ((b.drop 0x194).take 968) with
  | some k => if k.length = 960 then some (RsaKey.ofBytes k) else none
  | none => none

/-- A test signature of key `k` verifies; the manual names neither its message nor its salt (free values, log
entry 6). -/
def testSigned (k : RsaKey) (modulus : List Byte) : Bool :=
  let msg := beBytes (Config.openValue 6 [0]) 32
  pssVerify modulus (k.sign msg (Config.openValue 6 [1])) msg

/-- A write of IDK_LOAD (R428). -/
def State.idkLoad (s : State) : State :=
  if s.vlt.idkAvail ∨ s.vlt.idkCause ≠ 0 then s
  else { s with vlt := { s.vlt with idkBusy := true } }

/-- Cause for which a key blob is not taken; 0 when the key is available (R428). -/
def Vlt.idkFault (v : Vlt) (b : List Byte) : Nat :=
  let word := fun (o n : Nat) => ofLE ((b.drop o).take n)
  let modulus := (b.drop 0x14).take 384
  let digest := (List.range 4).flatMap (fun i => leBytes (v.row (68 + i)) 8)
  if v.identity ≠ .good ∨ v.keys ≠ .good ∨ v.restricted then 1
  else if word 0 4 ≠ 0x4B495A52 ∨ word 4 2 ≠ 1 ∨ crc32 (b.take 0x55C) ≠ word 0x55C 4 ∨
      word 8 8 ≠ v.row 66 then 2
  else if (v.unwrapped b).isNone then 3
  else if sha256 (modulus ++ (b.drop 0x10).take 4) ≠ digest then 4
  else if ¬ testSigned ((v.unwrapped b).getD {}) modulus then 5
  else 0

/-- Key unwrap and checks finish (R428). -/
def State.idkDone (s : State) : State :=
  if ¬ s.vlt.idkBusy then s
  else
    let b := rdBytes s.dram (s.rn A.SEC_IDK_ADDR) 0x560
    let c := s.vlt.idkFault b
    if c = 0 then
      { s with
        vlt := { s.vlt with idkBusy := false, idkAvail := true, idk := (s.vlt.unwrapped b).getD {} }
        seals := { s.seals with avail := true } }.setInt A.SEC_INT_STATUS 0
    else
      ({ s with vlt := { s.vlt with idkBusy := false, idkCause := c } }.setInt A.SEC_INT_STATUS 1).faultEv
        clsSEC 1 0 c

/-! ### Registers (R430) -/

/-- `VLT_STATUS`. -/
def Vlt.status (v : Vlt) : Nat :=
  let free := (List.range 16).filter fun k =>
    let e := sget (fun _ => 0) v.redir k
    !e.testBit 15 && !e.testBit 14
  flag v.sensed 0 + flag v.restricted 1 + flag (v.marg ≠ 0 || v.margRedir ≠ 0) 2 + flag v.overridden 3 +
    at_ (if v.sensed then free.length else 0) 4

/-- A row of region `k` is marginal. -/
def Vlt.regionMarg (v : Vlt) (k : Nat) : Bool :=
  let (a, n) := ([(0, 64), (64, 16), (80, 32), (112, 48), (160, 64)] : List (Nat × Nat)).getD k (0, 0)
  field v.marg a n ≠ 0

/-- `VLT_REGION`. -/
def Vlt.region (v : Vlt) : Nat :=
  v.vendor.code + at_ v.identity.code 2 + at_ v.keys.code 4 +
    ((List.range 5).map fun k => flag (v.regionMarg k) (8 + k)).sum +
    flag ((v.row 130).testBit 0) 13 + flag ((v.row 177).testBit 0) 14

/-- `VLT_SLOTS`. -/
def Vlt.slots (v : Vlt) : Nat :=
  ((List.range 8).map fun k => at_ (v.slot k) (2 * k) + flag (v.fwOk k) (16 + k) + flag (v.planOk k) (24 + k)).sum

/-- `VLT_POLICY`. -/
def Vlt.policy (v : Vlt) : Nat :=
  flag ((v.row 128).testBit 0) 0 + flag v.planSig 1 + flag v.debugDis 2 + flag v.custFw 3 +
    flag ((v.row 176).testBit 3) 4

/-- `VLT_CMD_STATUS`. -/
def Vlt.cmdStatus (v : Vlt) : Nat :=
  flag v.run.isSome 0 + at_ v.result 1 + flag v.redirected 5 + at_ v.writer 6 + at_ v.lastRow 8

/-- A word of the shadow window; KEYS rows read 0 to every reader (R427). -/
def Vlt.shadowWord (v : Vlt) (o : Nat) : Nat :=
  let r := o / 8
  if 80 ≤ r ∧ r < 112 then 0 else field (v.row r) (if o % 8 = 4 then 32 else 0) 32

/-- Live VLT registers. -/
def State.vltRead (s : State) (a : Nat) : Option Nat :=
  let v := s.vlt
  if a = A.VLT_STATUS then some v.status
  else if a = A.VLT_REGION then some v.region
  else if a = A.VLT_LOCK then some (flag v.lockPolicy 0 + flag v.lockCustomer 1)
  else if a = A.VLT_LOCK_SET ∨ a = A.VLT_CMD then some 0
  else if a = A.VLT_CMD_STATUS then some v.cmdStatus
  else if a = A.VLT_SLOTS then some v.slots
  else if a = A.VLT_POLICY then some v.policy
  else if A.VLT_MARGINAL ≤ a ∧ a < A.VLT_MARGINAL + 32 then some (field v.marg (8 * (a - A.VLT_MARGINAL)) 32)
  else if 0x360080 ≤ a ∧ a < 0x3600C0 then some (sget (fun _ => 0) v.redir ((a - 0x360080) / 4) &&& 0xC0FF)
  else if A.VLT_SHADOW ≤ a ∧ a < A.VLT_SHADOW + 2048 then some (v.shadowWord (a - A.VLT_SHADOW))
  else none

/-- Writes of VLT registers with behaviour of their own. -/
def State.vltWrite (s : State) (who : Who) (a : Nat) (w : Word) : Option State :=
  if a = A.VLT_LOCK_SET then some (s.vaultLockSet w)
  else if a = A.VLT_CMD then some (s.vaultCmd who (wfield w 0 4))
  else if A.VLT_SHADOW ≤ a ∧ a < A.VLT_SHADOW + 2048 then some (s.shadowWrite who a w)
  else none

end Sys2Proof.Machine
end

