-- ==== Sys2Proof/Machine/Modes.lean ====
section
/-!
DEFINITION. Stopping the sequencer, thermal enforcement, entry to SAFE and what every mode change
does (01_architecture.md R17 to R19, 02_array_and_exposure.md R61, R62, 10_management_and_boot.md
R298, R318, 12_thermal_and_monitor.md R375, R376).
-/
namespace Sys2Proof.Machine

/-! ### Thermal enforcement (R375, R376) -/

/-- The live plan goes on under its throttle variant, or under its own schedule. -/
def State.swapSched (s : State) (on : Bool) : State :=
  match s.plan.live, s.tmg.cur with
  | some b, some c =>
    { s with
      tmg := { s.tmg with cur := some (InForce.of b c.plan on), liveAwait := false }
      plan := { s.plan with epoch := wrapAdd s.plan.epoch 1 32 } }.freshBlackAll
  | _, _ => s

/-- Enforcement comes into force, or is released (R375, R376); the epoch rises with the change of a
live plan (R133). -/
def State.thmApply (s : State) (on : Bool) : State :=
  let s1 := { s with thm := { s.thm with enforced := on } }.swapSched on
  let s2 := s1.thmTo (if on then .enforced else s1.thmRest)
  let s3 :=
    if on then (s2.setInt A.THM_INT_STATUS 2).warn clsTHM 2 s2.thm.hot 0
    else (s2.setInt A.THM_INT_STATUS 3).info clsTHM 3 0 0
  s3.thmTimers.thmPin

/-- PENDING and RELEASING end at once while no ticks run (R373). -/
def State.thmNow (s : State) : State :=
  if s.ticking then s
  else if s.thm.state = .pending then s.thmApply true
  else if s.thm.state = .releasing then s.thmApply false
  else s

/-- PENDING and RELEASING end at the first FT at least 64 µs after entry (R373). -/
def State.thmAtFT (s : State) (t : Nat) : State :=
  if t < s.thm.entry + us64 then s
  else if s.thm.state = .pending then s.thmApply true
  else if s.thm.state = .releasing then s.thmApply false
  else s

/-! ### The ticks stop (R19, R61, R62) -/

/-- A bank that drains becomes READY (R131). -/
def State.drained (s : State) : State :=
  ([0, 1] : List Nat).foldl (fun (a : State) i =>
    let b := a.plan.bank i
    if b.state = .draining then (a.setBank i { b with state := .ready }).setInt A.PLAN_INT_STATUS 5
    else a) s

/-- Proxies in progress end without their frame (R187). -/
def State.proxiesEnd (s : State) : State :=
  s.frames.foldl (fun (a : State) f => a.proxyEnd f.num false) s

/-- Every frame not fully emitted ends with a DAMAGED trailer while its lanes are clocked, and the
frames are discarded (R19). Device time stays that of the stop. -/
def State.dropFrames (s : State) : State :=
  let t := s.now
  let s1 := (s.proxiesEnd.cutAll true).cutAll false
  { s1 with now := t, frames := [], str := { s1.str with done := 0 } }.closeGone

/-- What waits for a tick and takes effect at once while no ticks run: remaps (R205), substitutions
(R98), takeovers (R163), enforcement (R373) and the bases of R252. -/
def State.quietNow (s : State) : State :=
  if s.ticking then s else s.remapsNow.subsNow.takesNow.thmNow.monAtFT.fabBasesNow

/-- SOFT_TRIG edges that a tick was to come before find the sequencer stopped. -/
def State.softsLost (s : State) : State :=
  let s1 := { s with tmg := { s.tmg with softs := [] } }
  if s.tmg.softs ≠ [] ∧ s.sys.mode.capturing then s.tmg.softs.foldl (fun (a : State) _ => a.trigMissed) s1 else s1

/-- The sequencer enters STOPPED (R61): the step of every rotation in progress is void (R92), a test
injection ends ABORTED (R105), frames end as in R19, and DRAINING ends. -/
def State.stopTicks (s : State) : State :=
  if ¬ s.ticking then s.tdacAbort
  else
    let s1 := (s.softsLost.voidAll.tdacAbort.dropRealign).dropFrames.endSwitches
    let s2 := { s1 with
      tmg := { s1.tmg with
        seq := .stopped, integ := none, stored := none, reading := none, slot := 0, rdEnd := s1.now
        trigFT := false, burstLeft := 0, drainLeft := 0, drainEnd := none
        fresh := false, glMeas := false, switched := false }
      cnv := { s1.cnv with slots := [], dist := [], settling := false } }
    s2.drained.quietNow

/-- PLL1 leaves LOCKED (R62, R280): the ticks stop with a fault, alignment and period measurement
are lost, a calibration run without its clock ends, and the mode stays. -/
def State.pll1Lost (s : State) : State :=
  let was := s.ticking
  let s1 := s.stopTicks
  let s2 := { s1 with clk := { s1.clk with
    src1 := if s1.clk.refOk then .ref else .osc, aligned := false, glLast := none, glValid := false } }
  let s3 := if was then (s2.setInt A.TMG_INT_STATUS 7).faultEv clsTMG 7 0 0 else s2
  s3.calAbort 5

/-! ### Modes -/

/-- A mode change takes effect (R298, R300, R202, R388): PERMIT clears, the first one that leaves
STANDBY locks the vault (R415), lanes and calibration follow. -/
def State.setMode (s : State) (m : Mode) : State :=
  let old := s.sys.mode
  let s1 := { s with sys := { s.sys with mode := m, permit := false } }.setInt A.SYS_INT_STATUS 1
  let s2 := if old = .boot ∧ m = .standby then s1.setInt A.SYS_INT_STATUS 0 else s1
  let s3 := if old = .standby then s2.vaultLockAll else s2
  let s4 := if (old = .boot ∨ old = .safe) ∧ m = .standby then s3.trainOffLanes else s3
  s4.calMode m

/-- No plan is live (R17): a LIVE bank is READY again. -/
def State.unplan (s : State) : State :=
  match s.plan.live with
  | none => s
  | some i =>
    let s1 := s.setBank i { s.plan.bank i with state := .ready }
    { s1 with
      plan := { s1.plan with live := none, awaitFirst := false }
      tmg := { s1.tmg with cur := none } }

/-- A SAFE condition (R17 to R19, R318): the device enters SAFE, or a further cause is recorded in
it. -/
def State.enterSafe (s : State) (cause : SafeCause) : State :=
  let bits := s.sys.safeActive ||| 2 ^ (cause.code - 1)
  if s.sys.mode = .safe then
    if s.sys.safeActive.testBit (cause.code - 1) then s
    else { s with sys := { s.sys with safeActive := bits } }.faultEv clsSYS 0x83 0 cause.code
  else
    let s0 := if s.sys.mode = .boot ∧ cause ≠ .boot then s.bootCause cause.code else s
    let s1 := (s0.stopTicks.linkSafe.unplan.endCommit 6 0).rigFlush
    let s2 := { s1 with sys := { s1.sys with
      pendMode := none, safeCause := cause.code, safeActive := 2 ^ (cause.code - 1) } }
    let s3 := ((s2.setInt A.SYS_INT_STATUS 3).faultEv clsSYS 0x83 0 cause.code).vaultLockAll
    ((s3.setMode .safe).thmSafe).fabCheck

/-- Bits of SAFE_ACTIVE (R318): causes present and not yet cleared. -/
def State.safeWord (s : State) : Nat :=
  if s.sys.mode = .safe then
    maskOf (([1, 2, 3, 4] : List Nat).filter (fun c => s.sys.safeActive.testBit (c - 1) && !s.safeCleared c)
      |>.map (· - 1))
  else 0

end Sys2Proof.Machine
end

