-- ==== Sys2Proof/Machine/Thermal.lean ====
section
/-!
DEFINITION. The thermal state machine, its timers, the scan of the external points and the THM
registers (12_thermal_and_monitor.md R363, R366 to R380, R382).
-/
namespace Sys2Proof.Machine

/-! ### State machine (R373) -/

/-- Timers that end now. -/
structure ThmFired where
  grace   : Bool := false
  crit    : Bool := false
  persist : Bool := false
  release : Bool := false
  deriving DecidableEq, Repr

/-- An event of the table of R373: its interrupt bit and a warning. -/
def State.thmWarn (s : State) (bit : Nat) : State :=
  (s.setInt A.THM_INT_STATUS bit).warn clsTHM bit s.thm.hot 0

/-- SAFE with cause THERMAL (R373). -/
def State.thmSafeReq (s : State) : State :=
  ((s.setInt A.THM_INT_STATUS 7).faultEv clsTHM 7 0 0).enterSafe .thermal

/-- The first row of R373 that applies, and whether one did. -/
def State.thmStep (s : State) (f : ThmFired) : State × Bool :=
  let t := s.thm
  match t.state with
  | .safe => (s, false)
  | st =>
    if t.condX then (s.enterSafe .tjMax, false)
    else if t.condZ ∨ f.crit ∨ f.persist then (s.thmSafeReq, false)
    else if (st = .normal ∨ st = .warm) ∧ t.condT then ((s.thmTo .alert).thmWarn 1, true)
    else if st = .normal ∧ t.condW then ((s.thmTo .warm).thmWarn 0, true)
    else if st = .warm ∧ ¬ t.condW then (s.thmTo .normal, true)
    else if st = .alert ∧ (f.grace ∨ t.condC) then (s.thmTo .pending, true)
    else if st = .alert ∧ ¬ t.condT then (s.thmTo s.thmRest, true)
    else if st = .pending ∧ ¬ s.ticking then (s.thmApply true, true)
    else if st = .enforced ∧ f.release then (s.thmTo .releasing, true)
    else if st = .releasing ∧ t.condT then (s.thmTo .enforced, true)
    else if st = .releasing ∧ ¬ s.ticking then (s.thmApply false, true)
    else (s, false)

/-- Rows of R373 until none applies. -/
def State.thmSteps (s : State) (f : ThmFired) : Nat → State
  | 0 => s
  | n + 1 =>
    let (s1, more) := s.thmStep f
    if more then s1.thmSteps f n else s1

/-- SAFE causes that have cleared are no longer active (R318, R378). -/
def State.safePrune (s : State) : State :=
  { s with sys := { s.sys with safeActive := maskOf ((bitsOf s.sys.safeActive 4).filter fun i => !s.safeCleared (i + 1)) } }

/-- X and Z that arise in SAFE are further causes (R318). -/
def State.thmFurther (s : State) : State :=
  if s.sys.mode = .safe then
    let s1 := s.safePrune
    let s2 := if s1.thm.condX then s1.enterSafe .tjMax else s1
    if s2.thm.condZ then s2.enterSafe .thermal else s2
  else s

/-- The state machine, the timers and the pin follow the conditions (R373, R374, R377). -/
def State.thmEvalF (s : State) (f : ThmFired) : State :=
  ((s.thmSteps f 6).thmFurther.thmTimers).thmPin

/-- Timers whose end has come, also when this cycle clears what would stop them; T that arises at the end
of the release timer wins over it (R9, R374). -/
def State.thmDue (s : State) : ThmFired :=
  let due := fun (t : Option Nat) => match t with | some e => decide (e ≤ s.now) | none => false
  { grace := due s.thm.grace, crit := due s.thm.critEnd, persist := due s.thm.persist
    release := due s.thm.release && !s.thm.condT }

/-- The same with the timers that end now. -/
def State.thmEval (s : State) : State := s.thmEvalF s.thmDue

/-- SAFE is left (R373): enforcement is not in force. -/
def State.thmLeaveSafe (s : State) : State :=
  ({ s with thm := { s.thm with enforced := false } }.thmTo s.thmRest).thmEval

/-! ### Windows (R367) -/

/-- A 1 ms window ends: readings, conditions, states. -/
def State.sensorWindow (s : State) (wins : List SensorWin) : State :=
  let n := s.thm.windows + 1
  let s1 := s.goTo (s.sys.release + ms n)
  let s2 := { s1 with thm := { s1.thm with windows := n } }
  ((s2.takeWindows wins).thmConds).thmEval

/-! ### Timers (R374, R377) -/

/-- Device time moves on to the end of a timer. -/
def State.timerTo (s : State) (t : Nat) (f : ThmFired) (clear : Thm → Thm) : State :=
  let s1 := s.goTo t
  { s1 with thm := clear s1.thm }.thmEvalF f

/-- The grace timer ends. -/
def State.graceEnd (s : State) : State :=
  match s.thm.grace with
  | some t => s.timerTo t { grace := true } (fun x => { x with grace := none })
  | none => s

/-- The CRIT timer ends. -/
def State.critTimerEnd (s : State) : State :=
  match s.thm.critEnd with
  | some t => s.timerTo t { crit := true } (fun x => { x with critEnd := none })
  | none => s

/-- The persist timer ends. -/
def State.persistEnd (s : State) : State :=
  match s.thm.persist with
  | some t => s.timerTo t { persist := true } (fun x => { x with persist := none })
  | none => s

/-- A sensor window or an external scan that ends in the MGTCLK cycle of instant `t` has not been taken yet. -/
def State.sampleDue (s : State) (t : Nat) : Bool :=
  let c := s.clk.mgtAt t
  let scan : Bool := match s.mon.scan with
    | some b => decide (b + mgtMs (7 * (s.extPoints.map extPhases).sum) = c)
    | none => false
  scan || decide (s.clk.mgtAt (s.sys.release + ms (s.thm.windows + 1)) = c)

/-- The release timer ends. T that arises in the cycle of its end wins, so the readings of that cycle come first
(R9, R374). -/
def State.releaseEnd (s : State) : State :=
  match s.thm.release with
  | some t =>
    if s.sampleDue t then s else s.timerTo t { release := true } (fun x => { x with release := none })
  | none => s

/-- The pin is released, no sooner than 100 ms after it was asserted (R377). -/
def State.alertRelease (s : State) : State :=
  if s.thm.pinLow ∧ ¬ s.pinWanted then (s.goTo (s.thm.pinAt + ms 100)).thmPin else s

/-! ### External points (R363, R367, R369) -/

/-- The scan starts (R363); one that falls into a self-calibration waits for its end. -/
def State.extScan (s : State) : State :=
  if s.extPoints = [] ∨ s.mon.scan.isSome ∨ s.mon.calFrom.isSome then s
  else
    let s1 := s.goMgt (max s.mgt (s.mon.lastScan + mgtMs (10 * s.rf A.THM_EXT_CFG 8 8)))
    { s1 with mon := { s1.mon with scan := some s1.mgt, lastScan := s1.mgt } }

/-- One of the four outputs of channel `c` that a phase takes: it enters no accumulator (R363); while the
invalid counter runs it is invalid (R358), and an overranged one acts under R359. -/
def State.phaseOutput (c : Nat) (a : Int × Bool × State) (raw : Int) : Int × Bool × State :=
  let (code, s) := a.2.2.monCode 0 raw
  let k := clampCode code
  if s.mon.skip ≠ 0 then (a.1 + k, a.2.1, s.monInvalid c)
  else if k = code then (a.1 + k, a.2.1, s)
  else (a.1 + k, true, s.monOverrange c k)

/-- A phase on channel `c` (R363): three invalid outputs, then the four given ones; their sum and whether
one overranges. -/
def State.phaseSum (s : State) (c : Nat) (raws : List Int) : Int × Bool × State :=
  let s0 := { s with mon := { s.mon with skip := max s.mon.skip 3 } }
  let s1 := ((s0.monInvalid c).monInvalid c).monInvalid c
  ((List.range 4).map (raws.getD · 0)).foldl (State.phaseOutput c) (0, false, s1)

/-- Reading of a diode in 1/64 °C from the difference of its phase sums (R367): V = sum × 1.25 / 2^25,
and 1.25 V / 198.4 µV = 12 500 000 / 1984. An ideality of 0 gives no stated reading. -/
def diodeTemp (d : Int) (n : Nat) : Int :=
  if n = 0 then sext (Config.openValue 22 [d]) 16
  else fracTemp (64 * d * 12500000 * 32768 * 100 - 1748160 * (1984 * 33554432 * n : Nat)) (1984 * 33554432 * n * 100 : Nat)

/-- Reading of a thermistor in 1/64 °C from its phase sum (R367): R = 10 kΩ × V / (1.25 V − V). Where
R0, B or the bracket is 0 the manual states no reading. -/
def thermTemp (v : Int) (r0 b : Nat) : Int :=
  let num := 10000 * v
  let den := 33554432 - v
  if num ≤ 0 ∨ den ≤ 0 ∨ r0 = 0 ∨ b = 0 then sext (Config.openValue 22 [v, r0, b]) 16
  else
    let l := fxLn num.toNat (den.toNat * r0)
    -- 1 / 298.15 + l / b, times 29815 · b
    let bottom := 100 * b * fxOne + 29815 * l
    if bottom = 0 then sext (Config.openValue 22 [v, r0, b]) 16
    else fracTemp (64 * 100 * 29815 * b * fxOne - 1748160 * bottom) (100 * bottom)

/-- V of a thermistor lies within 10 mV of 0 or of 1.250 V. -/
def thermRail (v : Int) : Bool := decide (125 * v ≤ 33554432) || decide (33554432 * 124 ≤ 125 * v)

/-- Judge one external point after a scan (R369). -/
def State.extJudge (s : State) (i : Nat) (t : Int) (above rail low : Bool) : State :=
  let x := s.thm.sensor i
  let y := { x with low := low, res := some t }
  let jump : Bool := match x.res with | some r => decide (10 * 64 < (t - r).natAbs) | none => false
  let cause :=
    if low ∧ x.low then 1
    else if above ∨ rail ∨ t < -55 * 64 ∨ 160 * 64 < t then 2
    else if jump then 3
    else 0
  if x.cause ≠ 0 then s.setSensor i y
  else if cause ≠ 0 then (s.setSensor i y).sensorFail i cause
  else s.setSensor i (y.put s.thm.windows t)

/-- One point of the scan, on channel 8 + point, with its phases. -/
def State.extPoint (s : State) (i : Nat) (phases : List (List Int)) : State :=
  let (a, oa, s1) := s.phaseSum (i - 56) (phases.getD 0 [])
  if i < 66 then
    let (b, ob, s2) := s1.phaseSum (i - 56) (phases.getD 1 [])
    let d := b - a
    let t := diodeTemp d (s2.rf A.THM_TD_IDEAL (16 * (i - 64)) 16)
    s2.extJudge i t (oa || ob) false (decide (d * 125 < 2 * 33554432))
  else
    let w := s1.rn (A.THM_TH1_PARAM + 4 * (i - 66))
    s1.extJudge i (thermTemp a (field w 0 16) (field w 16 16)) oa (thermRail a) false

/-- Points in order, each with its phases. -/
def State.extAll (s : State) : List Nat → List (List Int) → State
  | [], _ => s
  | i :: r, ps => (s.extPoint i ps).extAll r (ps.drop (extPhases i))

/-- The scan ends (R363): readings, conditions, and the selected channel resumes. -/
def State.extScanEnd (s : State) (phases : List (List Int)) : State :=
  match s.mon.scan with
  | none => s
  | some c =>
    let n := (s.extPoints.map extPhases).sum
    let s1 := s.goMgt (max s.mgt (c + mgtMs (7 * n)))
    let s2 := s1.extAll s1.extPoints phases
    let s3 := { s2 with mon := { s2.mon with scan := none } }.monRestart
    (s3.thmConds).thmEval

/-! ### Registers (R382) -/

/-- Kinds of running timers with their ends. -/
def Thm.timers (t : Thm) : List (Nat × Nat) :=
  [(t.grace, 1), (t.critEnd, 2), (t.persist, 3), (t.release, 4)].filterMap fun x => x.1.map fun e => (e, x.2)

/-- `THM_TIMER`: whole milliseconds that remain of the earliest timer. -/
def State.thmTimerWord (s : State) : Nat :=
  let first := s.thm.timers.foldl (fun (b : Option (Nat × Nat)) x => match b with
    | some y => if x.1 < y.1 then some x else some y
    | none => some x) none
  match first with
  | some (e, k) => min ((e - s.now) / ms 1) 65535 + at_ k 16
  | none => 0

/-- Failed sensors, bit i. -/
def Thm.failed (t : Thm) : Nat := maskOf (allSensors.filter fun i => (t.sensor i).cause ≠ 0)

/-- `THM_STATUS`. -/
def State.thmStatus (s : State) : Nat :=
  let t := s.thm
  t.state.code + flag t.pinLow 3 + flag t.pinLow 4 + flag t.mintGate 5 + flag t.flashGate 6 +
    flag t.lock 7 + at_ (popcount t.failed 68) 8 + at_ t.hot 16

/-- `THM_S_i`; a point that is not enabled is absent, which is not MASKED (R366, R441). -/
def State.sensorWord (s : State) (i : Nat) : Nat :=
  let x := s.thm.sensor i
  unsext (x.temp.getD 0) 16 + flag x.warn 16 + flag x.throt 17 + flag x.crit 18 + flag x.rise 19 +
    flag (x.cause ≠ 0) 20 + at_ x.cause 21 + flag (decide (i < 64) && s.masked i) 23 + at_ (zoneOf i) 24

/-- `THM_TJ` and `THM_TJ_MIN` without VALID. -/
def tjWord (x : Option (Int × Nat)) : Nat :=
  match x with
  | some (t, i) => unsext t 16 + at_ i 16
  | none => 0

/-- Live THM registers. -/
def State.thmRead (s : State) (a : Nat) : Option Nat :=
  let t := s.thm
  if a = A.THM_STATUS then some s.thmStatus
  else if a = A.THM_CTRL then some 0
  else if a = A.THM_TJ then some (tjWord t.tjMax + flag t.tjMax.isSome 31)
  else if a = A.THM_TJ_MIN then some (tjWord t.tjMin)
  else if a = A.THM_TJ_ANA then some (unsext (t.tjAna.getD 0) 16)
  else if a = A.THM_TIMER then some s.thmTimerWord
  else if a = A.THM_FAIL0 then some (field t.failed 0 32)
  else if a = A.THM_FAIL1 then some (field t.failed 32 32)
  else if a = A.THM_FAIL_EXT then some (field t.failed 64 4)
  else if A.THM_S ≤ a ∧ a < A.THM_S + 272 then some (s.sensorWord ((a - A.THM_S) / 4))
  else none

/-- Bits of the RWL registers; 0 for the others. -/
def thmLockBits (a : Nat) : Nat :=
  if a = A.THM_CFG then 0x3FFFFFFF
  else if a = A.THM_RISE_FLOOR then 0xFF
  else if a = A.THM_MASK0 ∨ a = A.THM_MASK1 then 0xFFFFFFFF
  else if a = A.THM_EXT_CFG then 0xFF0F
  else if a = A.THM_TD_IDEAL ∨ a = A.THM_TH1_PARAM ∨ a = A.THM_TH2_PARAM then 0xFFFFFFFF
  else if A.THM_THR ≤ a ∧ a < A.THM_THR + 272 then 0xFFFFFFFF
  else 0

/-- A word that a limit of R372 or R382 excludes. -/
def thmExcludes (a n : Nat) : Bool :=
  if a = A.THM_CFG then
    !(10 ≤ field n 0 10 && field n 0 10 ≤ 1000 && 1 ≤ field n 10 4 && 1 ≤ field n 14 6 &&
      field n 14 6 ≤ 60 && 1 ≤ field n 20 6 && field n 20 6 ≤ 60 && 1 ≤ field n 26 4)
  else if a = A.THM_EXT_CFG then decide (field n 8 8 < 5)
  else if A.THM_THR ≤ a ∧ a < A.THM_THR + 272 then
    !(field n 0 8 < field n 8 8 && field n 8 8 < field n 16 8 && field n 16 8 ≤ 125)
  else false

/-- A write of an RWL register (R7, R372, R382). -/
def State.thmCfgWrite (s : State) (who : Who) (a v : Nat) : State :=
  let n := v &&& thmLockBits a
  if s.thm.lock then (if n ≠ s.rn a then s.lockViolation clsTHM who a else s)
  else if thmExcludes a n then s.ignored clsTHM who a
  else s.setRn a n

/-- A write of `THM_CTRL`: LOCK. -/
def State.thmCtrlWrite (s : State) (v : Word) : State :=
  if wbit v 0 then { s with thm := { s.thm with lock := true } } else s

/-- Writes of THM registers with behaviour of their own. -/
def State.thmWrite (s : State) (who : Who) (a : Nat) (v : Word) : Option State :=
  if a = A.THM_CTRL then some (s.thmCtrlWrite v)
  else if thmLockBits a ≠ 0 then some (s.thmCfgWrite who a v.toNat)
  else none

end Sys2Proof.Machine
end

