-- ==== Sys2Proof/Machine/Clock.lean ====
section
/-!
DEFINITION. The reference monitor, the PLLs and the CLK registers (09_clocks_genlock.md R271 to R283,
R288).
-/
namespace Sys2Proof.Machine

/-! ### PLLs (R274, R275) -/

/-- Every PLL: 0 PLL0, 1 PLL1, 2+q link PLL q. -/
def allPlls : List Nat := List.range 18

/-- Interrupt bit of a PLL that left LOCKED; one more when it became LOCKED (R288). -/
def pllBit (i : Nat) : Nat := if i = 0 then 2 else if i = 1 then 4 else 6

/-- PLL `i` is enabled (R276). -/
def State.pllEnabled (s : State) (i : Nat) : Bool :=
  if i = 0 then true else if i = 1 then s.rb A.CLK_CTRL 0 else s.rb A.CLK_LPLL_EN (i - 2)

/-- PLL `i` enters ACQUIRE; `whole`: the next lock window starts after the entry. -/
def State.pllAcquire (s : State) (i : Nat) (whole : Bool) : State :=
  s.setPll i { s.clk.pll i with
    state := .acquire, since := s.now, good := 0, bad := false, skip := !whole, told := false }

/-- What else changes when PLL `i` leaves LOCKED by loss of lock (R277, R280, R281). -/
def State.pllGone (s : State) (i : Nat) : State :=
  if i = 0 then s.setMgtSource (if s.clk.refOk then .ref else .osc)
  else if i = 1 then s.pll1Lost
  else if i < 17 then s.quadFail (i - 2)
  else s.fabCheck

/-- What a window did to PLL `i` is on record for its cycle, which for PLL0 begins with the change of MGTCLK (R283);
`s` is the state before it. -/
def State.pllMoved (t s : State) (i bit : Nat) : State :=
  t.setPll i { t.clk.pll i with
    moved := some { cycle := t.mgt, fresh := !s.rb A.CLK_INT_STATUS bit, loss := (s.clk.pll i).lossCnt } }

/-- PLL `i` loses its lock (R275). -/
def State.pllUnlock (s : State) (i : Nat) : State :=
  let p := s.clk.pll i
  let s1 := (s.setPll i { p with lossCnt := satAdd p.lossCnt 1 16 }).pllAcquire i true
  (((s1.setInt A.CLK_INT_STATUS (pllBit i)).faultEv clsCLK (pllBit i) 0 0).pllGone i).pllMoved s i (pllBit i)

/-- The domain of PLL `i` moves to its output (R277). For PLL1 a SEQCLK edge falls at this instant, and the period
measurement starts anew (R284, R288). -/
def State.pllTaken (s1 : State) (i : Nat) : State :=
  if i = 0 then s1.setMgtSource .pll
  else if i = 1 then
    { s1 with clk := { s1.clk with
      src1 := .pll, lock1 := s1.now, seqOrg := s1.now, aligned := false, glLast := none, glValid := false } }
  else if i = 17 then s1.fabRefresh
  else s1

/-- PLL `i` becomes LOCKED (R275, R277). -/
def State.pllLock (s : State) (i : Nat) : State :=
  (((s.setPll i { s.clk.pll i with state := .locked, acqSlow := false, bad := false }).setInt
    A.CLK_INT_STATUS (pllBit i + 1)).pllTaken i).pllMoved s i (pllBit i + 1)

/-- Length of a lock window, 1024 REFCLK cycles (R274). -/
def State.lockWin (s : State) : Nat := 1024 * Config.refTU s.clk.strap

/-- The count of a window as the programmed ratio implies it, in 1/256 of a count, for a VCO divided to
`div` kHz (R274): 1024 cycles of the REFCLK frequency that the strap names. -/
def Clk.implied (c : Clk) (div : Nat) : Nat := div * (1024 * 256) / Config.refKHz c.strap

/-- Count less implied count, times 10^6, in 1/256 of a count: with the implied count it makes the
deviation in ppm (R274). -/
def Clk.offset (c : Clk) (div count : Nat) : Int :=
  1000000 * ((256 * count : Nat) - (c.implied div : Int))

/-- The window lies beyond ±`ppm` (R275). -/
def Clk.beyond (c : Clk) (div count ppm : Nat) : Bool := ppm * c.implied div < (c.offset div count).natAbs

/-- DEV of a window (R274): the deviation in ppm; which of the two neighbours a deviation between two
whole ppm is written as, the manual does not say (free value, log entry 23). -/
def Clk.devOf (c : Clk) (div count : Nat) : Int :=
  let d : Int := max 1 (c.implied div)
  let o := c.offset div count
  o / d + (if o % d = 0 then 0 else (Config.openValue 23 [div, count] % 2 : Nat))

/-- A window in ACQUIRE, `far` beyond ±100 ppm (R275). -/
def State.winAcquire (s : State) (i : Nat) (p : Pll) (far : Bool) : State :=
  if p.skip then s.setPll i { p with skip := false }
  else if far then s.setPll i { p with good := 0 }
  else if 3 ≤ p.good then (s.setPll i { p with good := 0 }).pllLock i
  else s.setPll i { p with good := p.good + 1 }

/-- A window while LOCKED, `far` beyond ±100 ppm and `lost` beyond ±1000 ppm (R275). -/
def State.winLocked (s : State) (i : Nat) (p : Pll) (far lost : Bool) : State :=
  if lost ∨ (far ∧ p.bad) then s.pllUnlock i else s.setPll i { p with bad := far }

/-- End of the lock window in progress: windows of all PLLs lie end to end on REFCLK cycles from the
release of reset (log entry 23). -/
def State.windowEnd (s : State) (i : Nat) : Nat :=
  s.sys.release + divUp (max ((s.clk.pll i).winAt + 1) s.now - s.sys.release) s.lockWin * s.lockWin

/-- A lock window of PLL `i` ends with `count` cycles of the VCO divided to `div` kHz (R274, R275). -/
def State.pllWindow (s : State) (i div count : Nat) : State :=
  let p := s.clk.pll i
  if 18 ≤ i ∨ div < 1600000 ∨ 3200000 < div ∨ ¬ (p.state = .acquire ∨ p.state = .locked) then s
  else
    let s1 := s.goTo (s.windowEnd i)
    let far := s.clk.beyond div count 100
    let q := { p with dev := s.clk.devOf div count, winAt := s1.now }
    let s2 := s1.setPll i q
    if p.state = .acquire then s2.winAcquire i q far
    else s2.winLocked i q far (s.clk.beyond div count 1000)

/-- 20 ms in ACQUIRE without lock (R275), once for each stay. -/
def State.acqSlow (s : State) (i : Nat) : State :=
  let p := s.clk.pll i
  if 18 ≤ i ∨ p.state ≠ .acquire ∨ p.told then s
  else
    ((((s.goTo (p.since + ms 20)).setPll i { p with acqSlow := true, told := true }).setInt
      A.CLK_INT_STATUS 9).warn clsCLK 9 0 0)

/-- The interrupt bit that window `m` of PLL `i` set is taken back, unless it stood before or a window of another PLL
in the same cycle sets it too (R283). -/
def State.pllDrop (s : State) (i bit : Nat) (m : PllMove) : State :=
  let st := (s.clk.pll i).state
  let other := (List.range 18).find? fun j =>
    let q := s.clk.pll j
    decide (j ≠ i ∧ pllBit j = pllBit i ∧ (q.state = .locked ↔ st = .locked)) &&
      (match q.moved with | some x => decide (x.cycle = m.cycle) | none => false)
  if ¬ m.fresh then s
  else
    match other with
    | some j =>
      let q := s.clk.pll j
      s.setPll j { q with moved := q.moved.map fun x => { x with fresh := true } }
    | none => s.dropInt A.CLK_INT_STATUS bit

/-- A loss of REFCLK, or a disable, comes before what a lock window of the same MGTCLK cycle decided for
PLL `i` (R283): its interrupt bit, its count and its fault are taken back. -/
def State.pllUndo (s : State) (i : Nat) : State :=
  let p := s.clk.pll i
  match p.moved with
  | none => s
  | some m =>
    if m.cycle ≠ s.mgt ∨ p.state = .off ∨ p.state = .hold then s
    else if p.state = .locked then
      let s1 := (s.pllDrop i (pllBit i + 1) m).setPll i { p with state := .acquire, moved := none }
      if i = 1 then { s1 with clk := { s1.clk with src1 := .ref } } else s1
    else
      let b := pllBit i
      let s1 := (s.pllDrop i b m).setPll i { p with state := .locked, lossCnt := m.loss, moved := none }
      s1.unraise fun e => e.cls = clsCLK && e.code = b

/-! ### Enables (R276, R281) -/

/-- PLL `i` is enabled. -/
def State.pllOn (s : State) (i : Nat) : State :=
  if (s.clk.pll i).state = .off ∧ s.clk.refOk then s.pllAcquire i false else s

/-- PLL `i` is disabled (R275, R281): for a link PLL this is no loss of lock. -/
def State.pllOff (s : State) (i : Nat) : State :=
  let s0 := if s.locked i then s.pllUndo i else s
  let p := s0.clk.pll i
  let was := p.state
  if was = .off then s0
  else
    let s1 := s0.setPll i { p with state := .off, good := 0, bad := false }
    if i = 1 then (if was = .locked then (s1.setInt A.CLK_INT_STATUS 4).pll1Lost else s1)
    else if i < 17 then s1.quadOff (i - 2)
    else s1.fabCheck

/-- A write of `CLK_CTRL` (R276). -/
def State.clkCtrlWrite (s : State) (who : Who) (v : Word) : State :=
  if who = .host then s.ignored clsCLK who A.CLK_CTRL
  else
    let s1 := s.setRn A.CLK_CTRL (wfield v 0 1)
    if wbit v 0 then s1.pllOn 1 else s1.pllOff 1

/-- A write of `CLK_LPLL_EN` (R276). -/
def State.lpllWrite (s : State) (who : Who) (v : Word) : State :=
  if who = .host then s.ignored clsCLK who A.CLK_LPLL_EN
  else
    (List.range 16).foldl (fun (a : State) q => if wbit v q then a.pllOn (2 + q) else a.pllOff (2 + q))
      (s.setRn A.CLK_LPLL_EN (wfield v 0 16))

/-! ### Reference monitor (R272, R273, R282) -/

/-- Lanes that are driven fail with the loss of REFCLK, without faults of their own (R281, R282). -/
def State.lanesRefLost (s : State) : State :=
  let s1 := allLanes.foldl (fun (a : State) p => a.failLane p 1) s
  { s1 with
    evl := { s1.evl with staged := s1.evl.staged.filter fun e => ¬ (e.cls = clsLNK ∧ e.code = 0) }
    lnk := { s1.lnk with remaps := [] } }

/-- REFCLK is declared lost (R282, R283): OSC50, HOLD, one fault with cause REFCLK, SAFE; with PLL1 the
sequencer stops as R62 says (R280). -/
def State.refIsLost (s : State) : State :=
  if s.clk.refLost then s
  else
    let s0 := allPlls.foldl (fun (a : State) i => a.pllUndo i) s
    let s1 := allPlls.foldl (fun (a : State) i =>
      let p := a.clk.pll i
      let b := a.setPll i { p with state := .hold, good := 0, bad := false }
      if p.state = .locked then b.setInt A.CLK_INT_STATUS (pllBit i) else b) s0
    let s2 := (if s0.locked 1 then s1.pll1Lost else s1).setMgtSource .osc
    let s3 := { s2 with clk := { s2.clk with
      refOk := false, refLost := true, refGood := 0, refBad := 0, src1 := .osc, aligned := false } }
    let s4 := (s3.setInt A.CLK_INT_STATUS 0).faultEv clsCLK 0 0 SafeCause.refclk.code
    s4.lanesRefLost.fabCheck.enterSafe .refclk

/-- REFCLK is declared present (R273, R275). -/
def State.refIsPresent (s : State) : State :=
  let s1 := { s with clk := { s.clk with refOk := true, refLost := false, refGood := 0, refBad := 0, src1 := .ref } }
  let s2 := (s1.setMgtSource .ref).setInt A.CLK_INT_STATUS 1
  let s3 := allPlls.foldl (fun (a : State) i =>
    if a.pllEnabled i then a.pllAcquire i false else a.setPll i { a.clk.pll i with state := .off }) s2
  s3.safePrune

/-- The REFCLK edges of a window are within 5 % of what the straps imply (R273); never with the
reserved strap (R272). -/
def State.refNear (s : State) (edges : Nat) : Bool :=
  let want := Config.refKHz s.clk.strap * 1024
  s.clk.strap ≠ 3 && decide (100 * ((edges * 50000 : Nat) - (want : Int)).natAbs ≤ 5 * want)

/-- A window of 1024 OSC50 cycles ends with a count of REFCLK edges (R273). -/
def State.refWindow (s : State) (edges : Nat) : State :=
  let w := 1024 * Config.oscTU
  let s0 := s.goTo (s.sys.release + ((s.now - s.sys.release) / w + 1) * w)
  let khz := min ((edges * 50000 + 512) / 1024) 65535
  let near := s0.refNear edges
  let s1 := { s0 with clk := { s0.clk with
    refKHz := khz
    refGood := if near then s0.clk.refGood + 1 else 0
    refBad := if near then 0 else s0.clk.refBad + 1 } }
  if s1.clk.refOk then (if 2 ≤ s1.clk.refBad then s1.refIsLost else s1)
  else if 4 ≤ s1.clk.refGood then s1.refIsPresent
  else if 2 ≤ s1.clk.refBad then s1.refIsLost
  else s1

/-- No REFCLK edge for 50 OSC50 cycles after the one at instant `last` (R273). -/
def State.refTimeout (s : State) (last : Nat) : State :=
  if s.clk.refLost then s else (s.goTo (last + 50 * Config.oscTU)).refIsLost

/-! ### Registers (R288) -/

/-- Link PLLs that are LOCKED, bit q. -/
def State.lpllLocked (s : State) : Nat := maskOf ((List.range 16).filter fun q => s.locked (2 + q))

/-- `CLK_STATUS`. -/
def State.clkStatus (s : State) : Nat :=
  let c := s.clk
  let en := s.rf A.CLK_LPLL_EN 0 16
  c.strap + flag c.refOk 2 + flag (c.src0 = .osc) 3 + flag (s.locked 0) 4 + flag (s.locked 1) 5 +
    flag (c.src0 ≠ .pll) 6 + flag (c.src1 ≠ .pll) 7 + flag (en ≠ 0 ∧ en &&& s.lpllLocked = en) 8

/-- Status word of a PLL. -/
def Pll.word (p : Pll) : Nat :=
  p.state.code + flag p.acqSlow 3 + at_ (unsext (clampI (-2047) 2047 p.dev) 12) 4 + at_ p.lossCnt 16

/-- Live CLK registers. -/
def State.clkRead (s : State) (a : Nat) : Option Nat :=
  let c := s.clk
  if a = A.CLK_STATUS then some s.clkStatus
  else if a = A.CLK_PLL0_STATUS then some (c.pll 0).word
  else if a = A.CLK_PLL1_STATUS then some (c.pll 1).word
  else if a = A.CLK_LPLL_LOCK then some s.lpllLocked
  else if a = A.CLK_REF_MEAS then some c.refKHz
  else if a = A.CLK_GL_STATUS then some (flag c.aligned 0 + at_ c.stretch 1 + at_ c.alignCnt 16)
  else if a = A.CLK_GL_PERIOD then some (c.glPeriod + flag c.glValid 31)
  else if A.CLK_LPLL_STATUS ≤ a ∧ a < A.CLK_LPLL_STATUS + 64 then some (c.pll (2 + (a - A.CLK_LPLL_STATUS) / 4)).word
  else none

/-- Writes of CLK registers with behaviour of their own. -/
def State.clkWrite (s : State) (who : Who) (a : Nat) (v : Word) : Option State :=
  if a = A.CLK_CTRL then some (s.clkCtrlWrite who v)
  else if a = A.CLK_LPLL_EN then some (s.lpllWrite who v)
  else none

end Sys2Proof.Machine
end

