-- ==== Sys2Proof/Machine/Calib.lean ====
section
/-!
DEFINITION. The calibration engine: the FG_CNV handshake and run, run lists, LINK_EQ, MON and DARK
runs and their quality figures (13_calibration.md R383 to R400).
-/
namespace Sys2Proof.Machine

/-! ### The FG_CNV handshake (R384, R388) -/

/-- An FG_CNV request is raised (R388). -/
def State.calRequest (s : State) : State :=
  { s with cal := { s.cal with
    state := .requested, forced := false, tReq := s.now
    timer := some (s.now + ms (100 * s.rf A.CAL_CFG 8 8)) } }.calEvent 0 0

/-- The request is GRANTED (R388). -/
def State.calGrant (s : State) (forced : Bool) : State :=
  let s1 := { s with cal := { s.cal with state := .granted, forced := forced, timer := none, granted := s.now, ftM := none } }
  if forced then s1.calEvent 4 0 else s1

/-- Latest start of a request (R388). -/
def Cal.bound (c : Cal) : Nat := c.tReq + ms 60000

/-- DEFER (R388). -/
def State.calDefer (s : State) : State :=
  { s with cal := { s.cal with
    state := .deferred, timer := some (min (s.now + ms (100 * s.rf A.CAL_DEFER 0 10)) s.cal.bound) } }

/-- A request awaits its answer or its deferral. -/
def Cal.waits (c : Cal) : Bool := c.state = .requested || c.state = .deferred

/-! ### Runs, one at a time (R386, R389) -/

/-- Some run is in progress. -/
def Cal.runs (c : Cal) : Bool :=
  c.state = .running || c.state = .saving || c.monRun.isSome || c.darkRun.isSome || c.eqRun.isSome

/-- Start a MON run (R362, R383). -/
def State.calMonStart (s : State) : State :=
  { s with cal := { s.cal with monRun := some s.now } }.monCalGo

/-- Start the FG_CNV run now (R389). -/
def State.fgStart (s : State) : State :=
  { s with cal := { s.cal with
    state := .running, start := s.now, ftM := none, passed := none, tj0 := s.thm.tjAna
    slices := [], refs := [] } }.calEvent 1 0

/-- A GRANTED run may start: PLL1 clocks the converters, and no MON run comes first (R386). -/
def State.fgReady (s : State) : Bool :=
  s.cal.state = .granted && s.locked 1 && s.cal.monRun.isNone && !s.cal.queue.contains 3 &&
    s.cal.darkRun.isNone && s.cal.eqRun.isNone

/-! ### LINK_EQ (R397, R398) -/

/-- Highest position of tap `k`: PRE, POST, SWING. -/
def tapHi (k : Nat) : Nat := if k = 0 then 15 else if k = 1 then 31 else 7

/-- The settings in an `LNK_EQ_p` word. -/
def eqSettings (w : Nat) : List Nat := [field w 0 4, field w 4 5, field w 9 3]

/-- The word of settings. -/
def eqWord (l : List Nat) : Nat := l.getD 0 0 + at_ (l.getD 1 0) 4 + at_ (l.getD 2 0) 9

/-- Position `t` of tap `k` is within the range of R397 and R457. -/
def EqLane.inRange (x : EqLane) (k t : Nat) : Bool :=
  let l := x.cur.set k t
  decide (t ≤ tapHi k) && decide (l.getD 0 0 + l.getD 1 0 ≤ 24)

/-- Begin tap `k` from the present setting. -/
def EqLane.begin (x : EqLane) (k : Nat) : EqLane :=
  let t := x.cur.getD k 0
  { x with trial := t, best := t, score := 0, dir := 0, report := none }

/-- Turn to the downward direction, or end. -/
def EqLane.turn (x : EqLane) (k : Nat) : EqLane :=
  if 1 ≤ x.best ∧ x.inRange k (x.best - 1) then { x with dir := 2, trial := x.best - 1 } else { x with dir := 3, trial := x.best }

/-- Turn to the upward direction, or on. -/
def EqLane.rise (x : EqLane) (k : Nat) : EqLane :=
  if x.inRange k (x.best + 1) then { x with dir := 1, trial := x.best + 1 } else x.turn k

/-- The report of a step is taken into the trim of R393. -/
def EqLane.step (x : EqLane) (k : Nat) : EqLane :=
  let e := x.report.getD 0
  let y := { x with report := none }
  if x.dir = 0 then { y with score := e }.rise k
  else if x.dir = 1 then (if e ≤ x.score then y.turn k else { y with best := x.trial, score := e }.rise k)
  else if x.dir = 2 then
    (if e ≤ x.score then { y with dir := 3, trial := x.best } else { y with best := x.trial, score := e }.turn k)
  else y

/-- The tap in step ends with its best position. -/
def EqLane.settle (x : EqLane) (k : Nat) : EqLane := { x with cur := x.cur.set k x.best, eye := x.score }

/-- The trial settings of every lane are applied, and the step is ready (R397). -/
def State.eqReady (s : State) (r : EqRun) : State :=
  let s1 := r.lanes.foldl (fun (a : State) x =>
    a.setRn (A.LNK_EQ + 4 * x.1) (eqWord (x.2.cur.set r.tap x.2.trial))) s
  { s1 with cal := { s1.cal with
    eqRun := some { r with ready := s1.now, steps := min 255 (r.steps + 1) }
    eqTap := r.tap, eqSteps := min 255 (r.steps + 1) } }.calEvent 5 0

/-- The two passes of a lane agree within one position in each tap. -/
def EqLane.agrees (x : EqLane) : Bool :=
  ([0, 1, 2] : List Nat).all fun k => ((x.pass0.getD k 0 : Int) - (x.cur.getD k 0 : Int)).natAbs ≤ 1

/-- The lane is accepted (R398). -/
def EqLane.ok (x : EqLane) (minEye : Nat) : Bool := x.agrees && decide (minEye ≤ x.eye)

/-- The run ends with a result, and lanes that were not accepted get their settings back (R398). -/
def State.eqFinish (s : State) (r : EqRun) (good : Nat × EqLane → Bool) (cause : Nat) : State :=
  let s1 := (r.lanes.foldl (fun (a : State) x =>
    a.setRn (A.LNK_EQ + 4 * x.1) (if good x then eqWord x.2.cur else x.2.old)) s).eqRelease (r.lanes.map (·.1))
  let bad := (r.lanes.filter (fun x => !good x)).length
  let best := (r.lanes.filter good).foldl (fun (b : Option (Nat × Nat)) x => match b with
    | some y => (if Nat.blt x.2.eye y.1 then some (x.2.eye, x.1) else some y)
    | none => some (x.2.eye, x.1)) none
  let q : Nat := match best with
    | some (e, p) => min e 255 + at_ p 8 + 2 ^ 31
    | none => s1.cal.qEq
  let s2 := { s1 with cal := { s1.cal.ended 2 (decide (bad = 0)) with eqRun := none, qEq := q } }
  if bad = 0 then (s2.calResult 2 1 0 (some 0)).calEvent 2 0
  else (s2.calResult 2 2 cause (some bad)).calEvent 3 bad

/-- All lanes have ended a tap: the next tap, the second pass, or the end (R397). -/
def State.eqNext (s : State) (r : EqRun) : State :=
  if r.lanes.any (fun x => x.2.dir ≠ 3) then s.eqReady r
  else
    let ls := r.lanes.map fun x => (x.1, x.2.settle r.tap)
    if r.tap < 2 then
      s.eqReady { r with tap := r.tap + 1, lanes := ls.map fun x => (x.1, x.2.begin (r.tap + 1)) }
    else if r.pass = 0 then
      s.eqReady { r with pass := 1, tap := 0, lanes := ls.map fun x =>
        (x.1, { x.2 with pass0 := x.2.cur, cur := eqSettings x.2.old }.begin 0) }
    else
      let min_ := s.rf A.CAL_EQ_CTRL 8 7
      s.eqFinish { r with lanes := ls } (fun x => x.2.ok min_) (if ls.all (fun x => x.2.agrees) then 3 else 1)

/-- A LINK_EQ run starts on the selected lanes that are TRAIN, READY or SPARE; during it they send the training
pattern (R397). -/
def State.eqStart (s : State) : State :=
  let mask := s.rn A.CAL_EQ_LANES0 + s.rf A.CAL_EQ_LANES1 0 28 * 2 ^ 32
  let ps := (bitsOf mask 60).filter fun p =>
    let st := (s.lane p).state
    st = .train || st = .ready || st = .spare
  let ls := ps.map fun p =>
    let w := s.rn (A.LNK_EQ + 4 * p)
    (p, ({ old := w, cur := eqSettings w } : EqLane).begin 0)
  let r : EqRun := { lanes := ls }
  if ls = [] then s.eqFinish r (fun _ => true) 0
  else (ps.foldl (fun (a : State) p => a.setLane p ((a.lane p).pattern p a.now)) s).eqReady r

/-- STEP_DONE (R397): taken while a step is ready. -/
def State.eqStepDone (s : State) : State :=
  match s.cal.eqRun with
  | none => s
  | some r => s.eqNext { r with lanes := r.lanes.map fun x => (x.1, x.2.step r.tap) }

/-- A report of `CAL_EQ_EYE` (R397). -/
def State.eqEye (s : State) (v : Word) : State :=
  match s.cal.eqRun with
  | none => s
  | some r =>
    let ls := r.lanes.map fun x =>
      if x.1 = wfield v 0 6 then (x.1, { x.2 with report := some (wfield v 8 8) }) else x
    { s with cal := { s.cal with eqRun := some { r with lanes := ls } } }

/-! ### Scheduling (R386, R387) -/

/-- Take a kind from the queue. -/
def State.calTake (s : State) (k : Nat) : State :=
  { s with cal := { s.cal with queue := s.cal.queue.filter (fun j => j ≠ k) } }

/-- Start the next accepted run in the order MON, FG_CNV, DARK, LINK_EQ, when none is in progress
(R386, R389). -/
def State.calTry (s : State) : State :=
  if s.cal.runs then s
  else if s.cal.queue.contains 3 then (s.calTake 3).calMonStart
  else if s.cal.state = .granted then (if s.fgReady ∧ ¬ s.ticking then s.fgStart else s)
  else if s.cal.queue.contains 4 then
    let s1 := s.calTake 4
    { s1 with cal := { s1.cal with darkRun := some s1.now } }
  else if s.cal.queue.contains 2 then (s.calTake 2).eqStart
  else s

/-- The default plan is committed after the boot calibration where `PFLAGS` bit 1 asks for it
(R309, R312). -/
def State.bootCommit (s : State) : State :=
  if s.sys.boot.commitDue then
    { s with sys := { s.sys with boot := { s.sys.boot with commitDue := false } } }.commitCtrlWrite .mc0 8
  else s

/-- The ΔT rule (R384). -/
def State.calDelta (s : State) : State :=
  let c := s.cal
  let on : Bool := s.rb A.CAL_CFG 7 && (s.sys.mode = .standby || s.sys.mode.capturing) && c.trefValid &&
    s.thm.tjMax.isSome && c.state = .idle && c.holdoff.isNone
  match s.thm.tjAna with
  | some t =>
    if on ∧ 16 * s.rf A.CAL_CFG 0 7 < (t - c.tref).natAbs then
      let s1 := s.calRequest
      if s1.rb A.CAL_CFG 24 ∧ s1.cal.monRun.isNone ∧ s1.mon.calFrom.isNone then s1.calMonStart else s1
    else s
  | none => s

/-- The list of CALIBRATE has ended: a save where one is due, otherwise STANDBY (R17, R387), where the ΔT rule
is evaluated again (R384). A flash gate that is closed ends the save before its first sector (R404). DESIGN
CHOICE: a save waits for the end of a request or run that is not of the list (log entry 32). -/
def State.calListEnd (s : State) : State :=
  let c := s.cal
  let save : Bool := c.anyOk && !c.bootList
  if ¬ c.inList ∨ s.sys.mode ≠ .calibrate ∨ c.list ≠ [] ∨ c.state = .saving ∨
      (save ∧ (c.state ≠ .idle ∨ c.runs)) then s
  else if save && s.thm.flashGate then
    { s with cal := { c with state := .saving }, sys := { s.sys with updShut := false } }
  else
    let s0 := if save then { s with cal := { c with anyOk := false } }.saveFails 0 else s
    let s1 := (s0.setMode .standby).calDelta
    if c.bootList then s1.bootCommit else s1

/-- What follows the end of a run or a change of state. -/
def State.calAfter (s : State) : State := s.calTry.calListEnd

/-- The kind is requested or running (R386). -/
def Cal.busyWith (c : Cal) (k : Nat) : Bool :=
  if k = 1 then c.state ≠ .idle
  else c.queue.contains k ||
    (if k = 2 then c.eqRun.isSome else if k = 3 then c.monRun.isSome else c.darkRun.isSome)

/-- CALIBRATE is entered (R17, R130, R385, R387): a pending commit and a test injection end, and the
run list starts. -/
def State.enterCalibrate (s : State) (boot : Bool) : State :=
  let s1 := ((s.endCommit 6 0).rigFlush.tdacAbort).setMode .calibrate
  let mask := if boot then 1 else s1.rf A.CAL_RUN_MASK 0 4
  let q : List Nat := ([(2, 3), (3, 4), (1, 2)] : List (Nat × Nat)).filterMap fun x =>
    if mask.testBit x.1 then some x.2 else none
  let s2 := { s1 with cal := { s1.cal with
    inList := true, bootList := boot, anyOk := false
    list := (if mask.testBit 0 then [1] else []) ++ q
    queue := q.filter (fun k => !s1.cal.busyWith k) ++ s1.cal.queue
    clockBy := if mask.testBit 0 then some (s1.now + ms 1000) else none } }
  let idle : Bool := s2.cal.state = CalState.idle
  let s3 : State :=
    if ¬ mask.testBit 0 then s2
    else if boot then (if idle then s2.calRequest else s2)
    else if idle || s2.cal.waits then s2.calGrant false
    else s2
  s3.calAfter

/-- A kind is refused (R386). -/
def State.calRefuse (s : State) (k : Nat) : State := (s.calResult k 2 7 none).calEvent 3 (k - 1)

/-- RUN_GO (R386). -/
def State.calRunGo (s : State) : State :=
  let mask := s.rf A.CAL_RUN_MASK 0 4
  (([3, 1, 4, 2] : List Nat).foldl (fun (a : State) k =>
    if ¬ mask.testBit (k - 1) then a
    else if ¬ s.sys.mode.allowsCal k ∨ a.cal.busyWith k then a.calRefuse k
    else
      let b := if a.cal.inList then { a with cal := { a.cal with list := a.cal.list ++ [k] } } else a
      if k = 1 then b.calGrant false
      else { b with cal := { b.cal with queue := b.cal.queue ++ [k] } }) s).calAfter

/-- A write of `CAL_CTRL`: GRANT, DEFER, RUN_GO in this order (R388, log entry 9). -/
def State.calCtrlWrite (s : State) (v : Word) : State :=
  let s1 := if wbit v 0 ∧ s.cal.waits then (s.calGrant false).calAfter else s
  let s2 := if wbit v 1 ∧ s1.cal.waits then s1.calDefer else s1
  if wbit v 2 then s2.calRunGo else s2

/-- The answer timer ends: it counts as a grant (R388). -/
def State.calAnswerEnd (s : State) : State :=
  match s.cal.state, s.cal.timer with
  | .requested, some t => ((s.timeUp t).calGrant false).calAfter
  | _, _ => s

/-- The deferral ends, forced at the bound (R388). -/
def State.calDeferEnd (s : State) : State :=
  match s.cal.state, s.cal.timer with
  | .deferred, some t => ((s.timeUp t).calGrant (s.cal.bound ≤ t)).calAfter
  | _, _ => s

/-- The holdoff of the ΔT rule ends (R384). -/
def State.calHoldoffEnd (s : State) : State :=
  match s.cal.holdoff with
  | some t =>
    let s1 := s.goTo t
    { s1 with cal := { s1.cal with holdoff := none } }.calDelta
  | none => s

/-- PLL1 was not LOCKED within 1 s of entering CALIBRATE (R385). -/
def State.calClockEnd (s : State) : State :=
  match s.cal.clockBy with
  | some t =>
    let s1 := s.timeUp t
    let s2 := { s1 with cal := { s1.cal with clockBy := none } }
    if s2.locked 1 ∨ s2.cal.state = .running then s2 else (s2.calAbort 5).calAfter
  | none => s

/-! ### The FG_CNV run (R389 to R396, R400) -/

/-- Move from `t` towards `hi` while the score rises (R393). -/
def trimUp (score : Nat → Int) (hi : Nat) : Nat → Nat → Nat
  | 0, t => t
  | n + 1, t => if t < hi ∧ score t < score (t + 1) then trimUp score hi n (t + 1) else t

/-- Move from `t` towards 0 while the score rises (R393). -/
def trimDown (score : Nat → Int) : Nat → Nat → Nat
  | 0, t => t
  | n + 1, t => if 0 < t ∧ score t < score (t - 1) then trimDown score n (t - 1) else t

/-- The trim of R393 for a converter tap: the score is minus the magnitude of the error. -/
def trimTap (errs : List Nat) (hi t : Nat) : Nat :=
  let score := fun (p : Nat) => -((errs.getD p (errs.getLastD 0) : Nat) : Int)
  trimDown score hi (trimUp score hi hi t)

/-- `THR_TAP` and `SAMP_TAP` that a pass chooses from the values in force. -/
def passThr (m : PassMeas) (e : SliceEnt) : Nat := trimTap m.thr 31 e.thr
def passSamp (m : PassMeas) (e : SliceEnt) : Nat := trimTap m.samp 63 e.samp

/-- A pass meets a failure criterion of R96. -/
def passFails (m : PassMeas) (e : SliceEnt) : Bool :=
  let t := passThr m e
  2000 < m.offset.natAbs || 26214 < m.gain.natAbs || m.far || m.stuck ||
    ((t = 0 || t = 31) && decide (50 < m.thr.getD t (m.thr.getLastD 0)))

/-- The slice fails in both passes (R395). -/
def calFails (x : SliceCal) (e : SliceEnt) : Bool := passFails x.p0 e && passFails x.p1 e

/-- Two numbers within `n`. -/
def within (n : Nat) (a b : Int) : Bool := decide ((a - b).natAbs ≤ n)

/-- The slice agrees (R395). -/
def calAgrees (x : SliceCal) (e : SliceEnt) : Bool :=
  !passFails x.p0 e && !passFails x.p1 e && within 5 x.p0.offset x.p1.offset && within 16 x.p0.gain x.p1.gain &&
    within 1 (passThr x.p0 e) (passThr x.p1 e) && within 1 (passSamp x.p0 e) (passSamp x.p1 e)

/-- The reference entry agrees (R395). -/
def refAgrees (x : RefCal) : Bool := within 5 x.off0 x.off1 && within 16 x.gain0 x.gain1

/-- Mean rounded to nearest with ties toward 0 (R396). -/
def mean0 (a b : Int) : Int := (a + b).tdiv 2

/-- What an accepted run leaves in entry `k` (R396): an agreeing slice takes its new values; one
without a measurement confirms what it holds; failed and disagreeing slices keep theirs. -/
def fgEntry (meas : List SliceCal) (cnt : Nat → Nat) (k : Nat) (e : SliceEnt) : SliceEnt :=
  if e.failed then e
  else
    match meas.find? (fun x => x.slice = k) with
    | none => { e with bad := false, valid := true, acc := cnt (k / 130) }
    | some x =>
      if calAgrees x e then
        { e with
          bad := false
          offset := unsext (mean0 x.p0.offset x.p1.offset) 12, gain := unsext (mean0 x.p0.gain x.p1.gain) 16
          thr := passThr x.p1 e, samp := passSamp x.p1 e, valid := true, acc := cnt (k / 130) }
      else e

/-- A key and its value, unless an unlisted key reads so. -/
def scons {α : Type} [DecidableEq α] (d : Nat → α) (k : Nat) (v : α) (l : List (Nat × α)) : List (Nat × α) :=
  if v = d k then l else (k, v) :: l

/-- Change the values at keys `k` to `k + n - 1` of a table that lists no lower key. -/
def smapFrom {α : Type} [DecidableEq α] (d : Nat → α) (f : Nat → α → α) : Nat → Nat → List (Nat × α) → List (Nat × α)
  | 0, _, l => l
  | n + 1, k, [] => scons d k (f k (d k)) (smapFrom d f n (k + 1) [])
  | n + 1, k, (j, v) :: r =>
    if j = k then scons d k (f k v) (smapFrom d f n (k + 1) r)
    else scons d k (f k (d k)) (smapFrom d f n (k + 1) ((j, v) :: r))

/-- Slices of a run that meet a predicate on measurement and entry; failed slices take no part. -/
def State.fgSlices (s : State) (p : SliceCal → SliceEnt → Bool) : List SliceCal :=
  s.cal.slices.filter fun x => x.slice < 83720 && !(s.cnv.ent x.slice).failed && p x (s.cnv.ent x.slice)

/-- Largest deviation from 8320 at the 8320 level, in 1/256 LSB, over the in-service slices, which is that of the
worst group and bank (R400). A slice that is not listed reads its level exactly. -/
def Cnv.levelDev (c : Cnv) (l : List SliceLevel) : Nat :=
  ((l.filter fun x => c.serves x.slice).map fun x => (x.value - 8320 * 256).natAbs).foldl max 0

/-- Nearest integer to the square root of `n / d`. -/
def sqrtRound (n d : Nat) : Nat := if d = 0 then 0 else (Nat.sqrt (4 * n / d) + 1) / 2

/-- The rms of the corrected value less 256 at zero input, in 1/256 LSB, over the in-service slices (R400). -/
def Cnv.zeroRms (c : Cnv) (l : List SliceLevel) : Nat :=
  sqrtRound (((l.filter fun x => c.serves x.slice).map fun x => (x.value - 256 * 256).natAbs ^ 2).sum) c.serving

/-- Write the accepted values (R396). -/
def State.fgWrite (s : State) : State :=
  let cnt := fun (key : Nat) => (s.cnv.grp key).cnt
  let refs := s.cal.refs.foldl (fun (g : List (Nat × Nat)) x =>
    if x.entry < 10304 ∧ x.entry % 8 ≠ 7 then
      sput grefReset g x.entry (unsext (mean0 x.gain0 x.gain1) 16 + at_ (unsext (mean0 x.off0 x.off1) 12) 16)
    else g) s.cnv.gref
  { s with cnv := { s.cnv with
    slices := smapFrom sliceReset (fgEntry s.cal.slices cnt) 83720 0 s.cnv.slices, gref := refs } }

/-- The run ends now (R390, R395, R396). -/
def State.fgEnd (s : State) : State :=
  let failed := s.fgSlices calFails
  let dis := (s.fgSlices (fun x e => !calFails x e && !calAgrees x e)).length
  let good : Bool := s.cal.refs.all refAgrees && decide (dis ≤ s.rf A.CAL_CFG 16 8)
  let s1 := (if good then s.fgWrite else s).grefApply s.tmg.dacH s.tmg.dacL
  let s2 := { s1 with cal := { s1.cal.ended 1 good with
    state := .idle, passed := none, forced := false
    qCnv := spurOf (s1.cnv.levelDev s1.cal.spur) + at_ (min (s1.cnv.zeroRms s1.cal.rms) 65535) 16
    slices := [], refs := [], spur := [], rms := []
    tref := if good then s1.cal.tj0.getD s1.cal.tref else s1.cal.tref
    trefValid := s1.cal.trefValid || (good && s1.cal.tj0.isSome)
    holdoff := if good then s1.cal.holdoff else some (s1.now + ms 10000) } }
  let s3 := if good then (s2.calResult 1 1 0 (some dis)).calEvent 2 0
    else (s2.calResult 1 2 1 (some dis)).calEvent 3 dis
  let s4 := failed.foldl (fun (a : State) x => a.declareFail (x.slice / 130) (x.slice % 130) none 2) s3
  s4.subsNow.calAfter

/-- The passes complete 38 ms after the start (R390, R394); without ticks the run ends 30 µs later. -/
def State.fgPasses (s : State) (slices : List SliceCal) (refs : List RefCal)
    (spur rms : List SliceLevel) : State :=
  if s.cal.state ≠ .running ∨ s.cal.passed.isSome then s
  else
    let s1 := s.goTo (s.cal.start + ms 38)
    let s2 := { s1 with cal := { s1.cal with
      passed := some s1.now, slices := slices, refs := refs, spur := spur, rms := rms } }
    if s2.ticking then s2 else (s2.goTo (s2.now + us 30)).fgEnd

/-- The FG_CNV run at an SFT (R389, R390): its end, its start at the first SFT after FT m, or FT m. -/
def State.calAtSft (s : State) (ft : Bool) : State :=
  let c := s.cal
  match c.state with
  | .running =>
    match c.passed with
    | some t => if t + us 30 ≤ s.now then s.fgEnd else s
    | none => s
  | .granted =>
    if ¬ s.fgReady then s
    else
      match c.ftM with
      | some m => if m < s.now then s.fgStart else s
      | none =>
        let cont : Bool := match s.tmg.cur with | some x => x.sched.startMode = 0 | none => true
        let fit : Bool := s.tmg.seq = .idle || s.tmg.seq = .armed || cont
        if ft ∧ fit ∧ c.granted + us64 ≤ s.now then { s with cal := { c with ftM := some s.now } } else s
  | _ => s

/-- An FG_CNV run is in progress: triggers are held off (R389), the slice window is closed and
rotation halts (R392). -/
def State.fgRuns (s : State) : Bool := s.cal.state = .running

/-! ### MON (R383, R400) -/

/-- The self-calibration of the monitor converter ends; a MON run ends with it. `ch7` is the
calibrated code of channel 7 after it. -/
def State.monCalDone (s : State) (runs : List (Int × Int × Int × Int)) (ch7 : Int) : State :=
  let (s1, good) := s.monCalEnd runs
  match s1.cal.monRun with
  | none => s1
  | some _ =>
    let s2 := { s1 with cal := { s1.cal.ended 3 good with monRun := none, qMon := unsext ch7 16 + 2 ^ 31 } }
    (if good then (s2.calResult 3 1 0 none).calEvent 2 0 else (s2.calResult 3 2 1 none).calEvent 3 0).calAfter

/-! ### DARK (R399, R400) -/

/-- Round a rational to the nearest integer; the manual does not say how a tie goes (log
entry 10). -/
def roundOpen (q : Q) : Int :=
  let f := q.floor
  let r := (q.sub (Q.int f)).mul (Q.int 2)
  if r = Q.int 1 then f + (Config.openValue 24 [q.num, q.den] % 2 : Nat)
  else if (Q.int 1).lt r then f + 1 else f

/-- A column's place among its bank and path: 20 608 per (bank, path). -/
def colKey (bank path : Nat) (col : Int) : Nat := (2 * bank + path) * 20608 + (col + 64).toNat

/-- The measurement of a column; one that is not listed reads 0 with the slope 65 536. -/
def colOf (l : List ColMeas) (k : Nat) : ColMeas :=
  (l.find? (fun x => colKey x.bank x.path x.col = k)).getD
    { bank := 0, path := 0, col := 0, m0 := 0, s0 := 65536, m1 := 0, s1 := 65536 }

/-- The columns of the group that column `k` lies in. -/
def colGroup (k : Nat) : List Nat := (List.range 64).map (k / 64 * 64 + ·)

/-- `OFF_COL` and `GAIN_COL` of a column in a pass (R399). -/
def colValues (l : List ColMeas) (k : Nat) (second : Bool) : Int × Int :=
  let m := fun (j : Nat) => let x := colOf l j; if second then x.m1 else x.m0
  let sl := fun (j : Nat) => let x := colOf l j; if second then x.s1 else x.s0
  let g := colGroup k
  let mg := Q.mk2 ((g.map m).sum) (64 * 4096)
  let off := roundOpen (((Q.mk2 (m k) 4096).sub mg).mul (Q.int 16))
  let sg := ((g.map sl).sum : Nat)
  let gain :=
    if sl k = 0 then sext (Config.openValue 25 [m k]) 16
    else roundOpen (((Q.mk2 sg (64 * sl k)).sub (Q.int 1)).mul (Q.int 65536))
  (off, gain)

/-- Columns of the groups that the measurements touch. -/
def darkCols (l : List ColMeas) : List Nat :=
  ((l.map fun x => colKey x.bank x.path x.col / 64).eraseDups).flatMap fun g => (List.range 64).map (64 * g + ·)

/-- The map value of a pixel deviation in 1/4096 LSB (R399). -/
def lcgValue (d : Int) : Int := clampI (-128) 127 (roundOpen (Q.mk2 (2 * d) 4096))

/-- The mean of two pass values; a half is rounded by a free value (log entry 10). -/
def passMean (a b : Int) : Int := roundOpen (Q.mk2 (a + b) 2)

/-- Address of a map byte (R153). -/
def lcgAddr (row col : Int) : Nat := 0xED000000 + (row + 32).toNat * 20608 + (col + 64).toNat

/-- The maps that an accepted DARK run writes (R399): column table and LCG map. -/
def darkMaps (m : Memory) (cols : List ColMeas) (pix : List PixMeas) : Memory :=
  let m1 := wipe (wipe m 0xEC900000 329728) 0xED000000 223885312
  let m2 := (darkCols cols).foldl (fun (m : Memory) k =>
    let a := colValues cols k false
    let b := colValues cols k true
    wrLE m (0xEC900000 + 4 * k) 4 (unsext (passMean a.1 b.1) 16 + at_ (unsext (passMean a.2 b.2) 16) 16)) m1
  pix.foldl (fun (m : Memory) x =>
    wrLE m (lcgAddr x.row x.col) 1 (unsext (passMean (lcgValue x.d0) (lcgValue x.d1)) 8)) m2

/-- Light falls on the array (R399): the active pixels lie more than 64 LSB above the black slots. -/
def lightFalls (x : DarkLevel) : Bool := decide (64 * 4096 < x.active - x.black)

/-- A DARK run ends (R399, R400). -/
def State.darkDone (s : State) (light : DarkLevel) (cols : List ColMeas) (pix : List PixMeas) : State :=
  match s.cal.darkRun with
  | none => s
  | some _ =>
    let ks := darkCols cols
    let vs := ks.map fun k => (colValues cols k false, colValues cols k true)
    let colOk := vs.all fun v => within 4 v.1.1 v.2.1 && within 16 v.1.2 v.2.2
    let badPix := (pix.filter fun x => !within 2 (lcgValue x.d0) (lcgValue x.d1)).length
    let agree := colOk && decide (1000 * badPix ≤ 223885312)
    let rms := sqrtRound ((vs.map fun v => 64 * (v.1.1 - v.2.1).natAbs ^ 2).sum) (4 * 20608)
    let s1 := { s with cal := { s.cal.ended 4 (!lightFalls light && agree) with
      darkRun := none, qDark := min rms 65535 + at_ (field s.cal.qDark 16 4) 16 + 2 ^ 31 } }
    if lightFalls light then ((s1.calResult 4 2 2 none).calEvent 3 2).calAfter
    else if ¬ agree then ((s1.calResult 4 2 1 none).calEvent 3 1).calAfter
    else
      let s2 := { s1 with dram := darkMaps s1.dram cols pix }
      ((s2.calResult 4 1 0 none).calEvent 2 0).calAfter

/-- STEP_DONE did not arrive within 100 ms (R397). -/
def State.eqTimeout (s : State) : State :=
  match s.cal.eqRun with
  | none => s
  | some r => ((s.timeUp (r.ready + ms 100)).eqFinish r (fun _ => false) 4).calAfter

/-! ### Registers (R406) -/

/-- Kind running. -/
def Cal.kind (c : Cal) : Nat :=
  if c.state = .running then 1 else if c.eqRun.isSome then 2 else if c.monRun.isSome then 3
  else if c.darkRun.isSome then 4 else 0

/-- Pass in progress; the manual does not say when the DARK run changes passes (log entry 10). -/
def State.calPass (s : State) : Bool :=
  let c := s.cal
  if c.state = .running then decide (c.start + ms 19 ≤ s.now)
  else match c.eqRun, c.monRun, c.darkRun with
    | some r, _, _ => r.pass = 1
    | none, some t, _ => decide (t + ms 6 ≤ s.now)
    | none, none, some t => (Config.openValue 28 [s.now - t]).testBit 0
    | none, none, none => false

/-- `CAL_STATUS`. -/
def State.calStatus (s : State) : Nat :=
  let c := s.cal
  let wait := match c.timer with | some t => min (divUp (t - s.now) (ms 100)) 1023 | none => 0
  c.state.code + at_ c.kind 3 + flag c.forced 6 + flag c.holdoff.isSome 7 + flag s.calPass 8 + at_ wait 16

/-- Live CAL registers. -/
def State.calRead (s : State) (a : Nat) : Option Nat :=
  let c := s.cal
  if a = A.CAL_STATUS then some s.calStatus
  else if a = A.CAL_CTRL ∨ a = A.CAL_EQ_EYE then some 0
  else if a = A.CAL_TREF then some (unsext c.tref 16 + flag c.trefValid 31)
  else if a = A.CAL_RESULT then
    some (c.resFg + at_ c.resEq 2 + at_ c.resMon 4 + at_ c.resDark 6 + at_ c.cause 8 + at_ c.resDis 16)
  else if a = A.CAL_RESULT + 4 then some c.qCnv
  else if a = A.CAL_RESULT + 8 then some c.qRot
  else if a = A.CAL_RESULT + 12 then some c.qEq
  else if a = A.CAL_RESULT + 16 then some c.qMon
  else if a = A.CAL_RESULT + 20 then some c.qDark
  else if a = A.CAL_EQ_STATUS then some (flag c.eqRun.isSome 0 + at_ c.eqTap 1 + at_ c.eqSteps 8)
  else if a = A.CAL_STORE_STATUS then
    some (flag c.unsaved 0 + at_ c.gen 1 + flag c.defOk 2 + flag c.lcgOk 3 + at_ c.storeQ 4 +
      at_ (c.storeSeq % 65536) 16)
  else none

/-- A write of `CAL_EQ_CTRL`: MIN_EYE, then STEP_DONE. -/
def State.eqCtrlWrite (s : State) (v : Word) : State :=
  let s1 := s.setRn A.CAL_EQ_CTRL (v.toNat &&& 0x7F00)
  if wbit v 0 then s1.eqStepDone.calAfter else s1

/-- Writes of CAL registers with behaviour of their own. -/
def State.calWrite (s : State) (a : Nat) (v : Word) : Option State :=
  if a = A.CAL_CTRL then some (s.calCtrlWrite v)
  else if a = A.CAL_CFG then some ((s.setRn a (v.toNat &&& 0x01FFFFFF)).calDelta)
  else if a = A.CAL_EQ_CTRL then some (s.eqCtrlWrite v)
  else if a = A.CAL_EQ_EYE then some (s.eqEye v)
  else none

end Sys2Proof.Machine
end

