-- ==== Sys2Proof/Machine/CalStore.lean ====
section
/-!
DEFINITION. The calibration store in boot flash: sections, the coding of the LCG map, saving and
loading (13_calibration.md R401 to R405).
-/
namespace Sys2Proof.Machine

/-! ### Flash (R308) -/

/-- Bytes of an erase sector (R308). -/
def sectorSize : Nat := 65536

/-- Bytes of an erased flash sector read 1 in every bit (PRESUMED of NOR flash, log entry 4). -/
def erased (n : Nat) : List Byte := List.replicate n 0xFF

/-- Bytes padded with erased bytes to `n`. -/
def padErased (l : List Byte) (n : Nat) : List Byte := l ++ erased (n - l.length)

/-- The sectors that hold `l` from offset `a`, oldest first: offset and contents. -/
def sectorsOf (a : Nat) (l : List Byte) : List (Nat × List Byte) :=
  (List.range (divUp l.length sectorSize)).map fun i =>
    (a + i * sectorSize, padErased ((l.drop (i * sectorSize)).take sectorSize) sectorSize)

/-- Program sectors. -/
def State.programSectors (s : State) (l : List (Nat × List Byte)) : State :=
  { s with flash := l.foldl (fun (m : Memory) x => wrSpan m x.1 x.2) s.flash }

/-- `a` is ahead of `b` under the rule of R309. -/
def seqAhead (a b : Nat) : Bool := decide ((a + 2 ^ 32 - b) % 2 ^ 32 < 2 ^ 31)

/-! ### Coding of the LCG map (R403) -/

/-- `round(v / 2^q)` with ties toward zero. -/
def quant (q : Nat) (v : Int) : Int :=
  let a := (2 * v.natAbs + 2 ^ q - 1) / 2 ^ (q + 1)
  if v < 0 then -(a : Int) else a

/-- The unsigned code u of m. -/
def foldSign (m : Int) : Nat := if 0 ≤ m then 2 * m.natAbs else 2 * m.natAbs - 1

/-- m of the code u. -/
def unfoldSign (u : Nat) : Int := if u % 2 = 0 then (u / 2 : Nat) else -(((u + 1) / 2 : Nat) : Int)

/-- The low `k` bits of `u`, most significant first. -/
def lowBits (u : Nat) : Nat → List Bool
  | 0 => []
  | k + 1 => u.testBit k :: lowBits u k

/-- Value of bits, most significant first. -/
def bitsVal (l : List Bool) : Nat := l.foldl (fun a b => 2 * a + b2n b) 0

/-- One value with parameter `k`. -/
def riceBits (k u : Nat) : List Bool := List.replicate (u / 2 ^ k) true ++ [false] ++ lowBits u k

/-- Bits that a block takes with parameter `k`. -/
def riceCost (us : List Nat) (k : Nat) : Nat := (us.map fun u => u / 2 ^ k + 1 + k).sum

/-- The parameter of a block: fewest bits, the smallest among equals. -/
def riceBest (us : List Nat) : Nat :=
  (List.range 8).foldl (fun (b : Nat) k => if Nat.blt (riceCost us k) (riceCost us b) then k else b) 0

/-- A block of 64 values. -/
def codeBlock (q : Nat) (vs : List Int) : List Bool :=
  let us := vs.map fun v => foldSign (quant q v)
  if us.all (fun u => u = 0) then [false]
  else
    let k := riceBest us
    [true] ++ lowBits k 3 ++ us.flatMap (riceBits k)

/-- Blocks of the map. -/
def lcgBlocks : Nat := 3498208

/-- The coded stream of `n` blocks as bits. -/
def codeBits (q : Nat) : Nat → List Int → List Bool
  | 0, _ => []
  | n + 1, vs => codeBlock q (vs.take 64) ++ codeBits q n (vs.drop 64)

/-- Bits packed into bytes, most significant first; the last byte is filled with zeros. -/
def packMsb : Nat → List Bool → List Byte
  | 0, _ => []
  | n + 1, l => BitVec.ofNat 8 (bitsVal ((l ++ List.replicate 8 false).take 8)) :: packMsb n (l.drop 8)

/-- The coded stream of the LCG map in DRAM. -/
def lcgStream (m : Memory) (q : Nat) : List Byte :=
  let bits := codeBits q lcgBlocks ((rdBytes m 0xED000000 223885312).map fun b => sext b.toNat 8)
  packMsb (divUp bits.length 8) bits

/-- The smallest q in 0 to 8 whose stream fits 28 MiB; 8 always fits. -/
def lcgQ (m : Memory) : Nat :=
  ((List.range 8).find? fun q => decide ((lcgStream m q).length ≤ 29360128)).getD 8

/-- Leading one-bits up to a zero-bit, and the rest. -/
def takeOnes : List Bool → Nat × List Bool
  | true :: r => let x := takeOnes r; (x.1 + 1, x.2)
  | false :: r => (0, r)
  | [] => (0, [])

/-- `n` values with parameter `k`, and the rest. -/
def riceVals (k : Nat) : Nat → List Bool → List Nat × List Bool
  | 0, l => ([], l)
  | n + 1, l =>
    let (u, l1) := takeOnes l
    let (us, l2) := riceVals k n (l1.drop k)
    ((u * 2 ^ k + bitsVal (l1.take k)) :: us, l2)

/-- Decode `n` blocks. -/
def decodeBlocks : Nat → List Bool → List Nat
  | 0, _ => []
  | _ + 1, [] => []
  | n + 1, false :: r => List.replicate 64 0 ++ decodeBlocks n r
  | n + 1, true :: r =>
    let (us, l) := riceVals (bitsVal (r.take 3)) 64 (r.drop 3)
    us ++ decodeBlocks n l

/-- The map bytes of a stream. -/
def lcgDecode (q : Nat) (l : List Byte) : List Byte :=
  (decodeBlocks lcgBlocks (l.flatMap fun b => lowBits b.toNat 8)).map fun u =>
    BitVec.ofNat 8 (unsext (clampI (-128) 127 (unfoldSign u * (2 ^ q : Nat))) 8)

/-! ### Small sets (R402) -/

/-- Start of the store, of small set `g`, of the DEF and LCG sections. -/
def storeBase : Nat := 0x01100000
def setBase (g : Nat) : Nat := storeBase + g * 0x200000
def defBase : Nat := storeBase + 0x400000
def lcgBase : Nat := storeBase + 0xC00000

/-- Header bytes of small set `g`. -/
def State.setHeader (s : State) (g : Nat) : List Byte := rdBytes s.flash (setBase g) 256

/-- Small set `g` is good (R402). -/
def State.setGood (s : State) (g : Nat) : Bool :=
  let h := s.setHeader g
  decide (imgU h 0 4 = 0x53435A52) && decide (imgU h 0xFC 4 = crc32 (h.take 0xFC)) &&
    decide (imgU h 0x0C 8 = s.serialNum)

/-- The good set that boot uses. -/
def State.setInUse (s : State) : Option Nat :=
  match s.setGood 0, s.setGood 1 with
  | true, true =>
    some (if seqAhead (imgU (s.setHeader 0) 8 4) (imgU (s.setHeader 1) 8 4) then 0 else 1)
  | true, false => some 0
  | false, true => some 1
  | false, false => none

/-- Section `i` in the table of a header: OFFSET, SIZE, CRC, SFLAGS. -/
def secEntry (h : List Byte) (i : Nat) : Nat × Nat × Nat × Nat :=
  let o := 0x1C + 16 * i
  (imgU h o 4, imgU h (o + 4) 4, imgU h (o + 8) 4, imgU h (o + 12) 4)

/-- Bytes of section `i` of small set `g`; none when it is absent. -/
def State.secData (s : State) (g i : Nat) : Option (List Byte) :=
  let (o, n, _, f) := secEntry (s.setHeader g) i
  if f.testBit 0 then some (rdBytes s.flash ((if i < 5 then setBase g else storeBase) + o) n) else none

/-- Section `i` is absent or its check word holds. -/
def State.secOk (s : State) (g i : Nat) : Bool :=
  match s.secData g i with
  | some l => crc32 l = (secEntry (s.setHeader g) i).2.2.1
  | none => true

/-- Section `i` is present and matches. -/
def State.secMatch (s : State) (g i : Nat) : Bool := (s.secData g i).isSome && s.secOk g i

/-- The list entries of the defect list that are in use. -/
def defCount (m : Memory) : Nat :=
  (List.range 160).foldl (fun (n : Nat) k =>
    let a := rdLE m (0xEC000000 + 8 * k) 4
    let c := rdLE m (0xEC000004 + 8 * k) 4
    if c = 0 ∨ 1048576 < a + c then n else max n (a + c)) 0

/-- The DEF section of the list now in the maps region (R401). -/
def defBytes (m : Memory) : List Byte := rdBytes m 0xEC000000 1280 ++ rdBytes m 0xEC001000 (8 * defCount m)

/-- The sections WIN, REF, COL, EQ and MON with their set offsets (R402). -/
def State.smallSections (s : State) : List (Nat × List Byte) :=
  let win := (List.range 83720).flatMap fun k => leBytes (s.cnv.word0 s.readingNow k) 4 ++ leBytes (s.cnv.word1 k) 4
  let ref := (List.range 10304).flatMap fun i => leBytes (sget grefReset s.cnv.gref i) 4
  let eq := (List.range 60).flatMap fun p => leBytes (s.rn (A.LNK_EQ + 4 * p)) 4
  let mon := (List.range 16).flatMap fun g => leBytes (s.rn (A.MON_CAL + 4 * g)) 4
  [(0x1000, win), (0xA5000, ref), (0xB0000, rdBytes s.dram 0xEC900000 329728), (0x101000, eq), (0x102000, mon)]

/-- The header of a set. -/
def State.setHeaderBytes (s : State) (seq q : Nat) (secs : List (Nat × List Byte)) (def_ lcg : List Byte) :
    List Byte :=
  let ent := fun (x : Nat × List Byte) (f : Nat) =>
    leBytes x.1 4 ++ leBytes x.2.length 4 ++ leBytes (crc32 x.2) 4 ++ leBytes f 4
  let h := leBytes 0x53435A52 4 ++ leBytes 1 2 ++ leBytes 0 2 ++ leBytes seq 4 ++ leBytes s.serialNum 8 ++
    leBytes s.part.stepping 2 ++ leBytes (unsext s.cal.tref 16) 2 ++ leBytes 0 4 ++
    secs.flatMap (fun x => ent x 1) ++ ent (0x400000, def_) 1 ++ ent (0xC00000, lcg) (1 + 16 * q) ++
    List.replicate 112 0
  h ++ leBytes (crc32 h) 4

/-- The image of a set with its header left erased. -/
def setImage (secs : List (Nat × List Byte)) : List Byte :=
  secs.foldl (fun (l : List Byte) x => padErased l x.1 ++ x.2) (erased 256)

/-- A save programs its sectors in the order of R404: those of DEF and LCG where their check words
differ, those of the set not in use; and last the header. -/
structure SavePlan where
  sectors : List (Nat × List Byte)
  header  : List Byte
  gen     : Nat
  seq     : Nat
  q       : Nat

/-- What a save writes (R404). -/
def State.savePlan (s : State) : SavePlan :=
  let g := 1 - s.cal.gen
  let crcOf := fun (i : Nat) => (secEntry (s.setHeader s.cal.gen) i).2.2.1
  let same := fun (i : Nat) (l : List Byte) => s.setGood s.cal.gen && decide (crc32 l = crcOf i)
  let def_ := defBytes s.dram
  let q := lcgQ s.dram
  let lcg := lcgStream s.dram q
  let secs := s.smallSections
  let seq := wrapAdd s.cal.storeSeq 1 32
  { sectors := (if same 5 def_ then [] else sectorsOf defBase def_) ++
      (if same 6 lcg then [] else sectorsOf lcgBase lcg) ++ sectorsOf (setBase g) (setImage secs)
    header := s.setHeaderBytes seq q secs def_ lcg
    gen := g, seq := seq, q := q }

/-- A save completes (R404). -/
def State.saveGood (s : State) : State :=
  let p := s.savePlan
  let s1 := s.programSectors p.sectors
  { s1 with
    flash := wrSpan s1.flash (setBase p.gen) p.header
    cal := { s1.cal with
      gen := p.gen, storeSeq := p.seq, defOk := true, lcgOk := true, storeQ := p.q, unsaved := false
      qDark := setField s1.cal.qDark 16 4 p.q } }.calEvent 6 0

/-- A save ends early after the sectors `l` (R404); a DEF or LCG section rewritten in part matches no longer. -/
def State.saveBad (s : State) (l : List (Nat × List Byte)) : State :=
  let s1 := s.programSectors l
  { s1 with cal := { s1.cal with
    defOk := s1.cal.defOk && s1.secMatch s1.cal.gen 5, lcgOk := s1.cal.lcgOk && s1.secMatch s1.cal.gen 6 } }.saveFails 0

/-- Why an operation that wrote boot flash ended early (R319, R404): TEMP for a gate that had closed since it
began, FLASH for an error. -/
def State.stopResult (s : State) (x : FlashStop) : MboxResult := if x.gate ∧ s.sys.updShut then .temp else .flash

/-- A save ends (R404): `stop` says where a gate or flash error ended it. The gate is tested once more before
the header, which is the last thing written. -/
def State.saveDone (s : State) (stop : Option FlashStop) : State :=
  let all := s.savePlan.sectors
  let good : Bool := stop.isNone && s.thm.flashGate
  let fin := fun (a : State) =>
    if good then a.saveGood else a.saveBad (match stop with | some x => all.take x.sectors | none => all)
  if s.cal.saveMbox then
    let s1 := fin { s with cal := { s.cal with saveMbox := false } }
    let r : MboxResult := if good then .ok else match stop with | some x => s.stopResult x | none => .temp
    { s1 with sys := { s1.sys with mbox := some (.refused r) } }
  else if s.cal.state = .saving then
    (fin { s with cal := { s.cal with state := .idle, anyOk := false } }).calListEnd
  else s

/-! ### Loading at boot (R405) -/

/-- Words of bytes. -/
def wordAt (l : List Byte) (i : Nat) : Nat := imgU l (4 * i) 4

/-- Change every element of a list of `n` words by index. -/
def forWords (l : List Byte) (n : Nat) (f : State → Nat → Nat → State) (s : State) : State :=
  (List.range n).foldl (fun (a : State) i => f a i (wordAt l i)) s

/-- WIN: coefficient fields and taps. -/
def State.loadWin (s : State) (l : List Byte) : State :=
  (List.range 83720).foldl (fun (a : State) k =>
    let w := wordAt l (2 * k)
    let e := a.cnv.ent k
    a.setEnt k { e with
      offset := field w 0 12, samp := field w 12 6, thr := field w 18 5, valid := w.testBit 24
      gain := field (wordAt l (2 * k + 1)) 0 16 }) s

/-- A retire command of the boot firmware with FORCE (R100, R405). -/
def State.bootRetire (s : State) (key pos spare : Nat) : State :=
  (s.setRn A.CNV_RETIRE (pos + at_ (key % 322) 8 + at_ (key / 322) 17 + at_ 1 18 + at_ spare 19)).retireGo

/-- The stored spare, counted from 1, whose SUB_POS equals a position; 0 when none serves it. -/
def storedSpare (l : List Byte) (key pos : Nat) : Nat :=
  let sub := fun (i : Nat) => field (wordAt l (2 * (130 * key + 128 + i) + 1)) 16 8
  if sub 0 = pos then 1 else if sub 1 = pos then 2 else 0

/-- The substitution map (R405): FAILED spares, then FAILED home slices with their spares. -/
def State.loadSubs (s : State) (l : List Byte) : State :=
  let failed := (List.range 83720).filter fun k => (wordAt l (2 * k)).testBit 25
  let s1 := (failed.filter (fun k => 128 ≤ k % 130)).foldl (fun (a : State) k =>
    a.bootRetire (k / 130) (k % 130) 0) s
  (failed.filter (fun k => k % 130 < 128)).foldl (fun (a : State) k =>
    a.bootRetire (k / 130) (k % 130) (storedSpare l (k / 130) (k % 130))) s1

/-- Apply an optional section. -/
def State.withSec (s : State) (x : Option (List Byte)) (f : State → List Byte → State) : State :=
  match x with
  | some l => f s l
  | none => s

/-- Zero correction maps: column table and LCG map (R312, R405). -/
def State.zeroMaps (s : State) : State :=
  { s with dram := wipe (wipe s.dram 0xEC900000 329728) 0xED000000 223885312 }

/-- Boot step CAL variant 0 (R405); none when the step fails. -/
def State.calLoad (s : State) : Option State :=
  match s.setInUse with
  | none => none
  | some g =>
    if ¬ ([0, 1, 2, 3, 4, 6] : List Nat).all (s.secOk g) then none
    else
      let h := s.setHeader g
      let sec := s.secData g
      let q := field (secEntry h 6).2.2.2 4 4
      let s1 := s.withSec (sec 0) State.loadWin
      let s2 := s1.withSec (sec 1) fun a l => forWords l 10304 (fun b i w =>
        { b with cnv := { b.cnv with gref := sput grefReset b.cnv.gref i (if i % 8 = 7 then 0 else w % 2 ^ 28) } }) a
      let s3 := { s2 with dram := wipe s2.dram 0xED000000 223885312 }
      let s4 := s3.withSec (sec 2) fun a l => { a with dram := wrSpan a.dram 0xEC900000 l }
      let s5 := s4.withSec (sec 6) fun a l => { a with dram := wrSpan a.dram 0xED000000 (lcgDecode q l) }
      let s6 := s5.withSec (sec 3) fun a l => forWords l 60 (fun b i w => b.eqWrite i (mkWord w)) a
      let s7 := s6.withSec (sec 4) fun a l => forWords l 16 (fun b i w => b.setRn (A.MON_CAL + 4 * i) (w % 2 ^ 24)) a
      let s8 := s7.withSec (sec 0) State.loadSubs
      some { s8 with cal := { s8.cal with
        tref := sext (imgU h 0x16 2) 16, trefValid := true, gen := g, storeSeq := imgU h 8 4
        defOk := s.secMatch g 5, lcgOk := s.secMatch g 6, storeQ := if s.secMatch g 6 then q else 0 } }

/-- An empty defect list. -/
def State.emptyDefects (s : State) : State := { s with dram := wipe s.dram 0xEC000000 1280 }

/-- Boot step DEFECT variant 0 (R405); none when the step fails. -/
def State.defLoad (s : State) : Option State :=
  match s.setInUse with
  | none => none
  | some g =>
    if ¬ s.secOk g 5 then none
    else match s.secData g 5 with
      | none => some s.emptyDefects
      | some l =>
        let m := wrSpan (wrSpan s.dram 0xEC000000 (l.take 1280)) 0xEC001000 (l.drop 1280)
        some { s with dram := m }

end Sys2Proof.Machine
end

