-- ==== Sys2Proof/Machine/Boot.lean ====
section
/-!
DEFINITION. Firmware images, the flash directory and the boot sequence
(10_management_and_boot.md R308 to R317, R322, R323).
-/
namespace Sys2Proof.Machine

/-! ### Directory (R309) -/

/-- First 64 bytes of directory copy `c`. -/
def State.dirBytes (s : State) (c : Nat) : List Byte := rdBytes s.flash (c * sectorSize) 64

/-- Directory copy `c` is good. -/
def State.dirGood (s : State) (c : Nat) : Bool :=
  let b := s.dirBytes c
  decide (imgU b 0 4 = 0x52445A52) && decide (crc32 (b.take 0x3C) = imgU b 0x3C 4)

/-- A slot state code of the directory. -/
def slotOf (n : Nat) : SlotState :=
  if n = 1 then .writing else if n = 2 then .valid else if n = 3 then .bad else .empty

/-- Directory copy `c` as read. -/
def State.dirRead (s : State) (c : Nat) : Directory :=
  let b := s.dirBytes c
  { copy := c, seq := imgU b 4 4, active := imgU b 8 1 % 2, stateA := slotOf (imgU b 9 1)
    stateB := slotOf (imgU b 10 1), pflags := imgU b 11 1, defPlan := imgU b 12 4 }

/-- The copy that boot uses, if one is good (R309). -/
def State.dirInUse (s : State) : Option Nat :=
  match s.dirGood 0, s.dirGood 1 with
  | true, true => some (if seqAhead (imgU (s.dirBytes 0) 4 4) (imgU (s.dirBytes 1) 4 4) then 0 else 1)
  | true, false => some 0
  | false, true => some 1
  | false, false => none

/-- Rewrite the directory: the copy not in use, with SEQ increased by 1 (R309). -/
def State.dirWrite (s : State) (d : Directory) : State :=
  let c := 1 - d.copy
  let n := wrapAdd d.seq 1 32
  let b := leBytes 0x52445A52 4 ++ leBytes n 4 ++ leBytes d.active 1 ++ leBytes d.stateA.code 1 ++
    leBytes d.stateB.code 1 ++ leBytes d.pflags 1 ++ leBytes d.defPlan 4 ++ List.replicate 44 0
  { s with
    flash := wrSpan s.flash (c * sectorSize) (padErased (b ++ leBytes (crc32 b) 4) sectorSize)
    sys := { s.sys with dir := { d with copy := c, seq := n } } }

/-- State of slot `i`. -/
def Directory.slot (d : Directory) (i : Nat) : SlotState := if i = 0 then d.stateA else d.stateB

/-- Replace the state of slot `i`. -/
def Directory.setSlot (d : Directory) (i : Nat) (x : SlotState) : Directory :=
  if i = 0 then { d with stateA := x } else { d with stateB := x }

/-- Flash offset of slot `i` (R308). -/
def slotBase (i : Nat) : Nat := if i = 0 then 0x100000 else 0x500000

/-- Bytes of a slot. -/
def slotSize : Nat := 0x400000

/-! ### Firmware images (R310, R311) -/

/-- A core section lies within the image and matches its digest. -/
def fwSectionOk (m : Memory) (base : Nat) (h : List Byte) (o dg : Nat) : Bool :=
  let off := imgU h o 4
  let n := imgU h (o + 4) 4
  decide (n ≤ 0x100000) && decide (off + n ≤ imgU h 8 4) &&
    decide (sha256 (rdBytes m (base + off) n) = (h.drop dg).take 32)

/-- The header is a firmware header for this part. -/
def fwHeaderOk (h : List Byte) (part : Part) : Bool :=
  decide (imgU h 0 4 = 0x57465A52) && decide (imgU h 4 2 = 1) && decide (imgU h 8 4 ≤ slotSize) &&
    decide (imgU h 0xC 4 = 0x2010) && decide (imgU h 0x10 2 ≤ part.stepping) &&
    decide (part.stepping ≤ imgU h 0x12 2)

/-- The image at `base` of `m` is good (R311). -/
def State.fwGood (s : State) (m : Memory) (base : Nat) : Bool :=
  let h := rdBytes m base 0xC0
  fwHeaderOk h s.part &&
    (let sig := rdBytes m (base + 0xC0) 784
     imgZero sig 1 11 && decide (imgU sig 0xC 4 = 65537) &&
       (s.vlt.findSlot s.vlt.fwOk (sigDigest sig)).isSome &&
       pssVerify ((sig.drop 0x10).take 384) ((sig.drop 0x190).take 384) h) &&
    fwSectionOk m base h 0x18 0x28 && fwSectionOk m base h 0x20 0x48

/-- IFACE of the image at `base`. -/
def fwIface (m : Memory) (base : Nat) : Nat := imgU (rdBytes m base 8) 6 2

/-- Digest of the section of core `i` in the image at `base` (R310). -/
def fwDigest (m : Memory) (base i : Nat) : List Byte := rdBytes m (base + (if i = 0 then 0x28 else 0x48)) 32

/-- Slot whose key verified the image at `base`. -/
def State.fwKey (s : State) (m : Memory) (base : Nat) : Nat :=
  (s.vlt.findSlot s.vlt.fwOk (sigDigest (rdBytes m (base + 0xC0) 784))).getD 0

/-- Core `i` loads the section of slot `slot` into its SRAM, from address 0 on (log entry 45), and starts it
(R289, R311, R323, R429). -/
def State.coreLoads (s : State) (i slot : Nat) : State :=
  let b := slotBase slot
  let f := fwIface s.flash b
  let d := fwDigest s.flash b i
  let k := s.fwKey s.flash b
  let h := rdBytes s.flash b 0xC0
  let m := wrSpan [] 0 (rdBytes s.flash (b + imgU h (0x18 + 8 * i) 4) (imgU h (0x1C + 8 * i) 4))
  if i = 0 then
    { s with sram0 := m
             sys := { s.sys with core0 := .run, slot0 := slot, iface0 := f, dig0 := d, key0 := k } }
  else
    { s with sram1 := m
             sys := { s.sys with core1 := .run, slot1 := slot, iface1 := f, dig1 := d, key1 := k } }

/-- Slot `i` is VALID and its image is good. -/
def State.slotGood (s : State) (i : Nat) : Bool :=
  decide (s.sys.dir.slot i = .valid) && s.fwGood s.flash (slotBase i)

/-! ### Outcomes of the steps (R312) -/

/-- How a step ends: its outcome and DETAIL, and the state after it. -/
structure StepEnd where
  state   : State
  outcome : Nat := ocOk
  detail  : Nat := 0

/-- The step has failed. -/
def State.stepBad (s : State) (detail : Nat) : StepEnd := { state := s, outcome := ocFailed, detail := detail }

/-- Change the boot part. -/
def State.modBoot (s : State) (f : Boot → Boot) : State := { s with sys := { s.sys with boot := f s.sys.boot } }

/-- Flash offset of the sector of slot `i` that recovery erases (R322): the interrupted one, or the first. -/
def State.eraseOf (s : State) (i : Nat) : Nat :=
  let u := s.retGet 0x1000 4
  slotBase i + (if u.testBit 31 ∧ field u 16 1 = i then field u 0 16 % 64 else 0) * sectorSize

/-- Recovery of slot `i` left WRITING (R322): the interrupted sector, or the first, is erased. -/
def State.recoverSlot (s : State) (i : Nat) : State × Nat :=
  if s.sys.dir.slot i ≠ .writing then (s, 0)
  else if ¬ s.thm.flashGate then (s.modBoot fun b => { b with eraseDeferred := true }, slotBase i)
  else
    let s1 := { s with flash := wrSpan s.flash (s.eraseOf i) (erased sectorSize) }
    (s1.dirWrite (s1.sys.dir.setSlot i .empty), 0)

/-- The directory copy that step FLASH reads (R309, R312). -/
def State.dirPick (s : State) (v : Nat) : Option Nat :=
  match s.dirInUse with
  | some c => if v = 0 then some c else if s.dirGood (1 - c) then some (1 - c) else none
  | none => none

/-- Step FLASH (R309, R312, R322). -/
def State.bootFlash (s : State) (v : Nat) (b : BootIn) : StepEnd :=
  match s.dirPick v with
  | none => s.stepBad 0
  | some c =>
    if b.err then s.stepBad b.detail
    else
      let s1 := { s with sys := { s.sys with dir := s.dirRead c } }
      let (s2, d0) := s1.recoverSlot 0
      let (s3, d1) := s2.recoverSlot 1
      { state := s3, detail := max d0 d1 }

/-- The slot that step FW_VERIFY takes (R312, R322). -/
def State.bootSlot (s : State) (v : Nat) : Nat :=
  let a := s.sys.dir.active
  if v = 0 ∧ s.sys.dir.slot a = .valid then a else 1 - a

/-- Step FW_VERIFY. -/
def State.bootVerify (s : State) (v : Nat) (b : BootIn) : StepEnd :=
  let i := s.bootSlot v
  let s1 := s.modBoot fun x => { x with slot := i, slotFallback := decide (i ≠ s.sys.dir.active) }
  if b.err ∨ ¬ s1.slotGood i then s1.stepBad (slotBase i) else { state := s1 }

/-- Step FW_START: both sections are loaded and their digests checked (R311, R323). -/
def State.bootFirmware (s : State) (b : BootIn) : StepEnd :=
  let i := s.sys.boot.slot
  if b.err ∨ ¬ s.fwGood s.flash (slotBase i) then s.stepBad (slotBase i)
  else { state := (s.coreLoads 0 i).coreLoads 1 i }

/-- Step DRAM (R312, R313): in variant 0 a training record at 625 MT/s that outlived a warm reset is restored,
unless its check fails; otherwise, and in variant 1 at 500 MT/s always, the interface trains with patterns in
the maps region. -/
def State.bootDram (s : State) (v : Nat) (b : BootIn) : StepEnd :=
  let rate := if v = 1 then 500 else 625
  let restored : Bool := v = 0 ∧ s.sys.training = some rate ∧ ¬ b.retrain
  if b.err then s.stepBad b.detail
  else
    let s1 := if restored then s else
      { s with dram := wipe s.dram 0xED000000 0x1000000, sys := { s.sys with training := some rate } }
    { state := s1.modBoot fun x =>
        { x with dramReady := true, dramLow := decide (v = 1), patterns := !restored } }

/-- An engine that hangs is treated as failed and not tested (R312): datapaths 0 to 81, statistics engines 82 to 89,
link engines 90 to 93. -/
def hungFails (b : BootIn) : BootIn :=
  match b.hung with
  | none => b
  | some k =>
    if k < 82 then { b with dps := k :: b.dps }
    else if k < 90 then { b with stats := true }
    else { b with links := b.links ||| 2 ^ (k - 90) }

/-- Step TEST: the self-tests (R312). -/
def State.bootTest (s : State) (b : BootIn) : StepEnd :=
  let one := fun (a : State) (d : Nat) => a.testResult d (if d < 80 then .home else .idle) (!b.dps.contains d)
  let s1 := ([80, 81] ++ List.range 80).foldl one s
  let lanes := ((List.range 4).map fun g => if b.links.testBit g then (2 ^ 15 - 1) * 2 ^ (15 * g) else 0).sum
  let s2 := if lanes = 0 then s1 else s1.lanesFailReq lanes
  let spared : Bool := b.dps ≠ [] || b.stats || field b.links 0 4 ≠ 0
  let s3 := s2.modBoot fun x => { x with engineSpared := x.engineSpared || spared }
  if b.stats then s3.stepBad b.detail else { state := s3 }

/-- The end of step `k` under variant `v`; none while it has not finished. Step 1 waits for PLL0, at most
10 ms; what follows without a lock the manual does not say, and the model goes on (log entry 38). -/
def State.stepEnd (s : State) (k v : Nat) (b : BootIn) : Option StepEnd :=
  match k with
  | 1 =>
    if s.locked 0 ∨ s.sys.boot.since + ms 10 ≤ s.now then
      some (if b.err then s.stepBad b.detail else { state := s })
    else none
  | 2 =>
    let s1 := s.vaultSense b.sense b.dead
    some (if b.dead ∨ b.err then s1.stepBad b.detail else { state := s1 })
  | 3 => some (s.bootFlash v b)
  | 4 => some (s.bootVerify v b)
  | 5 => some (s.bootFirmware b)
  | 6 => some (s.bootDram v b)
  | 7 => some { state := (s.clkCtrlWrite .mc0 1).lpllWrite .mc0 0xFFFF }
  | 8 =>
    if v = 1 then some { state := s.zeroMaps.modBoot fun x => { x with calDefault := true, patterns := false } }
    else match (if b.err then none else s.calLoad) with
      | some s1 => some { state := s1.modBoot fun x => { x with patterns := false } }
      | none => some (s.stepBad storeBase)
  | 9 =>
    if v = 1 then some { state := s.emptyDefects.modBoot fun x => { x with defectEmpty := true } }
    else match (if b.err then none else s.defLoad) with
      | some s1 => some { state := s1 }
      | none => some (s.stepBad defBase)
  | 10 => if v = 1 then some (s.bootTest (hungFails b)) else if b.hung.isSome then none else some (s.bootTest b)
  | 11 =>
    if v = 1 then some { state := s.modBoot fun x => { x with monUncal := true }, outcome := ocSkipped }
    else if s.mon.calFrom.isSome then none
    else if s.mon.calResult = 1 then some { state := s } else some (s.stepBad s.mon.calResult)
  | 12 =>
    if v = 1 then some { state := s.modBoot fun x => { x with fabricOff := true }, outcome := ocSkipped }
    else some (if b.err then s.stepBad b.detail else { state := s.fabStart })
  | 13 =>
    let p := s.plan.bankA
    if v = 1 then some { state := s, outcome := ocSkipped }
    else if ¬ s.sys.dir.pflags.testBit 0 ∨ p.state = .ready then some { state := s }
    else if p.state = .loading ∨ p.state = .checking then none
    else some (s.stepBad p.cause)
  | _ => some (if b.err then s.stepBad b.detail else { state := s })

/-! ### The sequence (R312, R315, R316) -/

/-- Step `k` starts under variant `v`: its STARTED entry, and what it sets going. -/
def State.bootStart (s : State) (k v : Nat) : State :=
  let s1 := (s.modBoot fun b => { b with
    step := k, variant := v, since := s.now, switched := b.switched || (decide (k = 4) && decide (v = 1)) }).bootNote k v ocStarted 0
  if v = 1 then s1
  else if k = 11 then s1.calMonStart
  else if k = 13 ∧ s1.sys.dir.pflags.testBit 0 then
    (s1.setRn A.PLAN_FLASH_OFFSET (s1.sys.dir.defPlan % 2 ^ 26)).loadCtrlWrite .mc0 0x10
  else s1

/-- Boot ends in SAFE with cause BOOT; the ROM keeps control after steps 3 to 5 (R316, R317). -/
def State.bootSafe (s : State) : State :=
  (s.modBoot fun b => { b with ended := true, recovery := decide (3 ≤ b.step) && decide (b.step ≤ 5) }).enterSafe .boot

/-- Step `k` is exhausted (R316). -/
def State.bootExhausted (s : State) (k : Nat) : State :=
  if 5 ≤ k ∧ k ≤ 13 ∧ ¬ s.slotsUsed then (s.modBoot fun b => { b with forced := true }).bootStart 4 1
  else (s.modBoot fun b => { b with step := k }).bootSafe

/-- Step `k` was exhausted in the boot before (R316): where that ends this boot too, the step is recorded
FAILED with the variant and DETAIL of its last attempt (R17). -/
def State.bootUsedUp (s : State) (k : Nat) : State :=
  let x := s.lastEntry k
  if 5 ≤ k ∧ k ≤ 13 ∧ ¬ s.slotsUsed then s.bootExhausted k
  else (s.bootNote k x.1 ocFailed x.2).bootExhausted k

/-- Step `k` follows under the variant of R316. -/
def State.bootNext (s : State) (k : Nat) : State :=
  match (if s.sys.boot.forced ∧ 5 ≤ k then some 0 else s.bootVariant k) with
  | some v => s.bootStart k v
  | none => s.bootUsedUp k

/-- Step `k` failed under variant `v` (R315, R316). -/
def State.bootFailed (s : State) (k v : Nat) : State :=
  if v = 0 ∧ hasVariant1 k then s.bootStart k 1
  else if k = 10 then s.bootSafe
  else s.bootExhausted k

/-- Boot is complete: STANDBY, and the boot calibration is due (R17, R312, R385). -/
def State.bootComplete (s : State) : State :=
  (s.modBoot fun b => { b with ended := true, calDue := true, commitDue := s.sys.dir.pflags.testBit 1 }).setMode
    .standby

/-- The boot calibration that is due takes the device from STANDBY into CALIBRATE at instant `t` (R17, R385; log
entry 51). -/
def State.bootCalibrate (s : State) (t : Nat) : State :=
  if s.sys.boot.calDue ∧ s.sys.mode = .standby then
    ((s.goTo t).modBoot fun b => { b with calDue := false }).enterCalibrate true
  else s

/-- BOOT_STEP (R312): the step in progress ends; before the first one the ledger is opened. After the last one
the boot calibration begins. -/
def State.bootStep (s : State) (b : BootIn) : State :=
  let k := s.sys.boot.step
  let v := s.sys.boot.variant
  if s.sys.boot.ended ∨ s.sys.mode ≠ .boot then s.bootCalibrate b.at_
  else
    let s0 := (s.goTo b.at_).eccCount b.corrected
    if k = 0 then (s0.bootBegin b.ecc (s0.sys.causeBits + at_ s0.sys.causeLast 8)).bootNext 1
    else
      match s0.stepEnd k v b with
      | none => s
      | some e =>
        let s1 := e.state.bootNote k v e.outcome e.detail
        if e.outcome = ocFailed then s1.bootFailed k v
        else if k = 14 then s1.bootComplete
        else s1.bootNext (k + 1)

end Sys2Proof.Machine
end

