-- ==== Sys2Proof/Machine/Mailbox.lean ====
section
/-!
DEFINITION. The mailbox and its commands, firmware update and recovery, the restart of a core and the
alarm acknowledgement (10_management_and_boot.md R301, R302, R317, R319 to R325).
-/
namespace Sys2Proof.Machine

/-! ### Results (R301) -/

/-- The mailbox reads BUSY (R301, R325). -/
def State.mboxBusy (s : State) : Bool := s.sys.mbox.isSome || s.sys.core0 = .restarting

/-- MC0 posts a result. -/
def State.mboxPost (s : State) (code : Nat) : State :=
  { s with sys := { s.sys with mbox := none, mboxResult := code } }.setInt A.SYS_INT_STATUS 4

/-- MC0 runs firmware, not the boot ROM (R312, R317). -/
def State.mc0Firmware (s : State) : Bool := decide (6 ≤ s.sys.boot.step) && !s.sys.boot.recovery

/-! ### The progress record (R321) -/

/-- The word of `RET_UPD`. -/
def updWord (op slot sector : Nat) : Nat := sector + at_ slot 16 + at_ op 24 + 2 ^ 31

/-- Write `RET_UPD`. -/
def State.updPut (s : State) (op slot sector : Nat) : State := s.retPut 0x1000 4 (updWord op slot sector)

/-- Clear VALID of `RET_UPD`. -/
def State.updClear (s : State) : State := s.retPut 0x1000 4 (s.retGet 0x1000 4 % 2 ^ 31)

/-- The sectors of a slot with the contents that an image `l` gives them. -/
def slotParts (l : List Byte) : List (Nat × List Byte) :=
  (List.range 64).map fun k => (k, padErased ((l.drop (k * sectorSize)).take sectorSize) sectorSize)

/-- Erase sector `k` of slot `i`; the record comes first (R319, R321). -/
def State.eraseSector (s : State) (i k : Nat) : State :=
  let s1 := s.updPut 0 i k
  { s1 with flash := wrSpan s1.flash (slotBase i + k * sectorSize) (erased sectorSize) }

/-- Sectors of slot `i` are erased and programmed in turn, each after its record (R319, R321). -/
def State.flashSectors (s : State) (i : Nat) (l : List (Nat × List Byte)) : State :=
  l.foldl (fun (a : State) x =>
    let b := (a.eraseSector i x.1).updPut 1 i x.1
    { b with flash := wrSpan b.flash (slotBase i + x.1 * sectorSize) x.2 }) s

/-! ### Commands start (R301) -/

/-- A command that needs STANDBY and PERMIT is refused with this result, if it is. -/
def State.serviceRefusal (s : State) : Option MboxResult :=
  if s.sys.mode ≠ .standby then some .mode else if ¬ s.sys.permit then some .permit else none

/-- FW_UPDATE (R319): the image is verified in DRAM, and the slot becomes WRITING. -/
def State.fwUpdateStart (s : State) (addr len : Nat) (activate : Bool) : State × MboxRun :=
  match s.serviceRefusal with
  | some r => (s, .refused r)
  | none =>
    if slotSize < len ∨ 2 ^ 32 < addr + len then (s, .refused .arg)
    else if ¬ (s.fwGood s.dram addr && decide (imgU (rdBytes s.dram addr 12) 8 4 ≤ len)) then (s, .refused .signature)
    else if ¬ s.thm.flashGate then (s, .refused .temp)
    else
      let i := 1 - s.sys.dir.active
      let s1 := (s.dirWrite (s.sys.dir.setSlot i .writing)).updPut 0 i 0
      ({ s1 with sys := { s1.sys with updBusy := true, updShut := false } }, .fwUpdate addr len activate i)

/-- FW_ACTIVATE (R320): it rewrites the directory, which the flash gate admits (R380). -/
def State.fwActivateStart (s : State) (slot : Nat) : State × MboxRun :=
  match s.serviceRefusal with
  | some r => (s, .refused r)
  | none =>
    if 1 < slot then (s, .refused .arg)
    else if ¬ s.slotGood slot then (s, .refused .signature)
    else if ¬ s.thm.flashGate then (s, .refused .temp)
    else (s, .fwActivate slot)

/-- A bank is LOADING or CHECKING. -/
def Bank.busy (b : Bank) : Bool := b.state = .loading || b.state = .checking

/-- Refusal of CORE_RESTART (R324), in the order of its table. -/
def State.restartRefusal (s : State) (core slot : Nat) : Option MboxResult :=
  let f := fwIface s.flash (slotBase slot)
  if 1 < core ∨ 1 < slot then some .arg
  else if f ≠ (if core = 0 then s.sys.iface1 else s.sys.iface0) then some .iface
  else if ¬ s.slotGood slot then some .signature
  else if core = 0 ∧ (s.seals.main.open_ ∨ s.seals.twin.open_) then some .sealing
  else if core = 0 ∧ (s.plan.bankA.busy ∨ s.plan.bankB.busy) then some .loading
  else if core = 1 ∧ (s.sys.mode = .calibrate ∨ s.cal.state ≠ .idle) then some .mode
  else none

/-- CORE_RESTART (R324, R325): the core restarts, its tallies count for 500 ms, and a discovery ends. -/
def State.restartStart (s : State) (core slot : Nat) : State × MboxRun :=
  match s.restartRefusal core slot with
  | some r => (s, .refused r)
  | none =>
    let g := some (s.now + ms 500)
    let s1 :=
      if core = 0 then { s with sys := { s.sys with core0 := .restarting, grace0 := g } }
      else ({ s with sys := { s.sys with core1 := .restarting, grace1 := g } }).discFail
    (s1.wdtGrace, .coreRestart core slot)

/-- MC0 writes a stripe command (R301): `op` is TAKEOVER, RESTORE or TEST. -/
def State.stripeStart (s : State) (op arg : Nat) : State × MboxRun :=
  let cmd := s.rn A.STR_CMD
  let s1 := s.setRn A.STR_CMD (if op = 6 then setField cmd 8 7 arg else setField cmd 0 7 arg)
  let b := if op = 4 then 1 else if op = 5 then 2 else 4
  (s1.strCtrlWrite (mkWord (s1.rn A.STR_CTRL &&& 8 ||| b)), .stripe op)

/-- SAVE_MAPS (R301, R404). -/
def State.saveMapsStart (s : State) : State × MboxRun :=
  match s.serviceRefusal with
  | some r => (s, .refused r)
  | none => ({ s with cal := { s.cal with saveMbox := true }, sys := { s.sys with updShut := false } }, .saveMaps)

/-- RECOVER_WRITE (R317): the boot ROM takes an image for a slot. -/
def State.recoverStart (s : State) (slot len : Nat) : State × MboxRun :=
  if ¬ s.sys.boot.recovery then (s, .refused .mode)
  else if 1 < slot ∨ slotSize < len then (s, .refused .arg)
  else if ¬ s.thm.flashGate then (s, .refused .temp)
  else
    let s1 := s.dirWrite (s.sys.dir.setSlot slot .writing)
    ({ s1 with sys := { s1.sys with updShut := false } }, .recover slot len 0)

/-- What opcode `op` starts. -/
def State.mboxStart (s : State) (op : Nat) : State × MboxRun :=
  let a0 := s.rn A.SYS_MBOX_ARG0
  let a1 := s.rn A.SYS_MBOX_ARG1
  if op = 0x10 then s.recoverStart a0 a1
  else if op = 1 then s.fwUpdateStart a0 a1 (s.rb A.SYS_MBOX_ARG2 0)
  else if op = 2 then s.fwActivateStart a0
  else if op = 7 then s.saveMapsStart
  else if ¬ s.mc0Firmware then (s, .unknown)
  else if op = 3 then s.restartStart a0 a1
  else if op = 4 ∨ op = 5 ∨ op = 6 then s.stripeStart op a0
  else (s, .unknown)

/-- A write of `SYS_MBOX_CMD.OP` (R301); an opcode written while BUSY is ignored. -/
def State.mboxCmd (s : State) (op : Nat) : State :=
  if s.mboxBusy then s
  else
    let x := { s with sys := { s.sys with mboxOp := op } }.mboxStart op
    { x.1 with sys := { x.1.sys with mbox := some x.2 } }

/-! ### Commands end (R301, R319, R320, R324) -/

/-- FW_UPDATE ends (R319): after every sector, or after those of `stop`, where the gate had closed since the
command started (TEMP) or a sector did not read back (FLASH). The gate admits the directory write that ends
it too (R380). -/
def State.fwUpdateEnd (s : State) (addr len : Nat) (activate : Bool) (i : Nat) (stop : Option FlashStop) : State :=
  let all := slotParts (rdBytes s.dram addr len)
  let s0 := { s with sys := { s.sys with updBusy := false } }
  match stop with
  | some x => ((s0.flashSectors i (all.take x.sectors)).updClear).mboxPost (s.stopResult x).code
  | none =>
    let s1 := (s0.flashSectors i all).updClear
    if ¬ s1.fwGood s1.flash (slotBase i) then s1.mboxPost 7
    else if ¬ s1.thm.flashGate then s1.mboxPost 8
    else
      let d := s1.sys.dir.setSlot i .valid
      (s1.dirWrite (if activate then { d with active := i } else d)).mboxPost 1

/-- FW_ACTIVATE ends (R320, R380). -/
def State.fwActivateEnd (s : State) (i : Nat) : State :=
  if ¬ s.slotGood i then s.mboxPost 6
  else if ¬ s.thm.flashGate then s.mboxPost 8
  else (s.dirWrite { s.sys.dir with active := i }).mboxPost 1

/-- A core has restarted (R323, R324); its tallies count as received no longer (R325). -/
def State.restartEnd (s : State) (core slot : Nat) : State :=
  let y := if core = 0 then { s.sys with grace0 := none } else { s.sys with grace1 := none }
  let s0 := State.coreLoads { s with sys := y } core slot
  let s1 :=
    if core = 0 then
      ({ s0 with sys := { s0.sys with restarts0 := satAdd s0.sys.restarts0 1 8 } }).bootPut
          { step := 0x80, variant := 0, outcome := ocOk, core := 0, detail := 0 }
    else { s0 with sys := { s0.sys with restarts1 := satAdd s0.sys.restarts1 1 8 } }
  (s1.setInt A.SYS_INT_STATUS 8).mboxPost 1

/-- A stripe command has ended (R301). -/
def State.stripeEnd (s : State) : State :=
  if s.str.cmdResult = 1 then s
  else { s with sys := { s.sys with mboxRes0 := s.str.cmdResult } }.mboxPost 1

/-- A recovery write ends (R317): the sectors that the image does not reach are erased and programmed too
(R319), with the gate checked first, and the slot is verified. `stop` counts the sectors of the slot. -/
def State.recoverEnd (s : State) (slot len got : Nat) (stop : Option FlashStop) : State :=
  let n := divUp len sectorSize
  let rest := (slotParts []).drop n
  match stop with
  | some x => ((s.flashSectors slot (rest.take (x.sectors - n))).updClear).mboxPost (s.stopResult x).code
  | none =>
    if got < len then s
    else if ¬ s.thm.flashGate then s.updClear.mboxPost 8
    else
      let s1 := (s.flashSectors slot rest).updClear
      if s1.fwGood s1.flash (slotBase slot) then
        (s1.dirWrite { s1.sys.dir.setSlot slot .valid with active := slot }).mboxPost 1
      else s1.mboxPost 6

/-- MBOX_DONE (R301): the running command ends and its result is posted. -/
def State.mboxDone (s : State) (stop : Option FlashStop) : State :=
  match s.sys.mbox with
  | none => s
  | some x =>
    match x with
    | .refused r => s.mboxPost r.code
    | .unknown => s.mboxPost (Config.openValue 29 [(s.sys.mboxOp : Int)] % 16)
    | .fwUpdate addr len act i => s.fwUpdateEnd addr len act i stop
    | .fwActivate i => s.fwActivateEnd i
    | .coreRestart c i => s.restartEnd c i
    | .stripe _ => s.stripeEnd
    | .saveMaps => s
    | .recover i len got => s.recoverEnd i len got stop

/-- A write of `SYS_RCV_DATA` (R317): four image bytes are programmed. Before each sector the gate is
checked, and one that is closed ends the command (R319). Outside a recovery write it is ignored as R125 has it. -/
def State.rcvData (s : State) (who : Who) (v : Word) : State :=
  match s.sys.mbox with
  | some (.recover i len got) =>
    if len ≤ got then s.ignored clsSYS who A.SYS_RCV_DATA
    else if got % sectorSize = 0 ∧ ¬ s.thm.flashGate then s.updClear.mboxPost 8
    else
      let sec := got / sectorSize
      let s1 := (if got % sectorSize = 0 then s.eraseSector i sec else s).updPut 1 i sec
      let s2 := { s1 with flash := wrSpan s1.flash (slotBase i + got) ((leBytes v.toNat 4).take (len - got)) }
      { s2 with sys := { s2.sys with mbox := some (.recover i len (got + 4)) } }
  | _ => s.ignored clsSYS who A.SYS_RCV_DATA

/-- The tallies of a restarted core stop counting as received 500 ms after the command (R325). -/
def State.restartGraceEnd (s : State) (core : Nat) : State :=
  if core = 0 then
    match s.sys.grace0 with
    | some t => let s1 := s.goTo t; { s1 with sys := { s1.sys with grace0 := none } }
    | none => s
  else
    match s.sys.grace1 with
    | some t => let s1 := s.goTo t; { s1 with sys := { s1.sys with grace1 := none } }
    | none => s

/-! ### Alarms (R302) -/

/-- A read of `SYS_ALARM_FIFO` by MC0: the oldest event, removed; 0 when the queue is empty. -/
def State.alarmPop (s : State) : Nat × State :=
  match s.sys.alarms with
  | [] => (0, s)
  | w :: r => (w, { s with sys := { s.sys with alarms := r } })

/-- ACTION TAKEOVER. -/
def State.ackTakeover (s : State) (unit : Nat) : State :=
  let s1 := s.setRn A.STR_CMD (setField (s.rn A.STR_CMD) 0 7 unit)
  s1.strCtrlWrite (mkWord (s1.rn A.STR_CTRL &&& 8 ||| 1))

/-- ACTION RETIRE. -/
def State.ackRetire (s : State) (who : Who) (unit : Nat) : State :=
  let s1 := s.setRn A.CNV_RETIRE (unit % 2 ^ 21)
  s1.cnvCtrlWrite who (mkWord (s1.rn A.CNV_CTRL &&& 1 ||| 4))

/-- ACTION FAIL_LANE. -/
def State.ackFailLane (s : State) (unit : Nat) : State := if unit < 60 then s.lanesFailReq (2 ^ unit) else s

/-- A write of `SYS_ALARM_ACK`; other ACTION codes act as NONE. -/
def State.alarmAck (s : State) (who : Who) (v : Word) : State :=
  let u := wfield v 8 24
  match wfield v 0 3 with
  | 1 => s.ackTakeover u
  | 2 => s.ackRetire who u
  | 3 => s.ackFailLane u
  | _ => s

end Sys2Proof.Machine
end

