-- ==== Sys2Proof/Machine/ModeReq.lean ====
section
/-!
DEFINITION. Mode requests, service permission, host port errors and the SYS registers
(01_architecture.md R17, 10_management_and_boot.md R294, R296 to R300, R326).
-/
namespace Sys2Proof.Machine

/-! ### Port errors (R294) -/

/-- An error bit of `SYS_PORT_STATUS` is set. -/
def State.portError (s : State) (i : Nat) : State :=
  ({ s with sys := { s.sys with
      portErr := s.sys.portErr ||| 2 ^ i, portErrCnt := satAdd s.sys.portErrCnt 1 16 } }.note A.SYS_PORT_STATUS
    (2 ^ i)).setInt A.SYS_INT_STATUS 5

/-- A host write to a register reserved for firmware: ignored, recorded, DENIED. -/
def State.denied (s : State) (cls : Nat) (who : Who) (a : Nat) : State := (s.portError 3).ignored cls who a

/-! ### Mode requests (R298, R299) -/

/-- A mode that can be requested. -/
def modeOf (n : Nat) : Option Mode :=
  if n = 1 then some .standby else if n = 2 then some .monitor else if n = 3 then some .capture
  else if n = 4 then some .calibrate else none

/-- A FW_UPDATE, FW_ACTIVATE or SAVE_MAPS command runs (R299). -/
def State.serviceBusy (s : State) : Bool :=
  match s.sys.mbox with
  | some (.fwUpdate ..) | some (.fwActivate _) | some .saveMaps => true
  | _ => false

/-- DRAM runs at the reduced rate and the live plan asks for more than 460.8 GB/s (R299). -/
def State.dramTooSlow (s : State) : Bool :=
  s.sys.boot.dramLow &&
    match s.plan.live with
    | some i => decide (460800 < (s.plan.bank i).plan.dramLoad)
    | none => false

/-- The cause of refusal of a request for `m` from another mode; none when it is accepted (R17, R298,
R299). -/
def State.modeRefusal (s : State) (m : Mode) : Option Nat :=
  match s.sys.mode with
  | .safe =>
    if m ≠ .standby then some 1
    else if s.safeWord ≠ 0 then some 4
    else if ¬ s.locked 0 then some 8
    else if ¬ s.locked 1 then some 3
    else none
  | .boot | .calibrate => some 1
  | .standby =>
    if s.serviceBusy then some 6
    else if m = .calibrate then none
    else if s.plan.live.isNone then some 2
    else if ¬ s.locked 1 then some 3
    else if s.dramTooSlow then some 5
    else none
  | .monitor | .capture =>
    if m = .calibrate then some 1 else if m.capturing ∧ s.dramTooSlow then some 5 else none

/-- A request is refused (R17, R298). -/
def State.modeRefused (s : State) (code : Nat) : State :=
  ({ s with sys := { s.sys with refuse := code } }.setInt A.SYS_INT_STATUS 2).warn clsSYS 2 0 code

/-- SAFE is left for STANDBY (R17). -/
def State.leaveSafe (s : State) : State :=
  ((({ s with sys := { s.sys with safeActive := 0 } }.setMode .standby).thmLeaveSafe).calDelta).calAfter

/-- A request for mode code `n` (R298). -/
def State.modeRequest (s : State) (n : Nat) : State :=
  let s1 := { s with sys := { s.sys with pendMode := none } }
  match modeOf n with
  | none => s1.modeRefused 7
  | some m =>
    if m = s1.sys.mode then s1
    else
      match s1.modeRefusal m with
      | some c => s1.modeRefused c
      | none =>
        if s1.sys.mode = .safe then s1.leaveSafe
        else if m = .calibrate then s1.enterCalibrate false
        else { s1 with sys := { s1.sys with pendMode := some (m, s1.now) } }

/-- A write of `SYS_MODE_REQ`. -/
def State.modeReqWrite (s : State) (v : Word) : State :=
  let s1 := s.setRn A.SYS_MODE_REQ (wfield v 0 3)
  if wbit v 3 then s1.modeRequest (wfield v 0 3) else s1

/-- A pending mode takes effect at the FT of instant `t` (R17). -/
def State.modeAtFT (s : State) (t : Nat) : State :=
  match s.sys.pendMode with
  | some (m, w) =>
    if w + us64 ≤ t then { s with sys := { s.sys with pendMode := none } }.setMode m else s
  | none => s

/-! ### Service permission (R300) -/

/-- A write of `SYS_SERVICE.UNLOCK`; of several in one cycle the one that R290 applies last decides. -/
def State.serviceWrite (s : State) (who : Who) (v : Word) : State :=
  let k := wfield v 0 16
  if s.sys.mode = .standby ∧ (k = 0x5E41 ∨ k = 0) then
    if s.outranked who A.SYS_SERVICE then s
    else { s with sys := { s.sys with permit := decide (k = 0x5E41) } }.markWriter who A.SYS_SERVICE
  else s.ignored clsSYS who A.SYS_SERVICE

/-! ### SYS registers (R326) -/

/-- `SYS_MODE_STATUS`. -/
def State.modeStatus (s : State) : Nat :=
  let (p, m) := match s.sys.pendMode with | some (m, _) => (true, m.code) | none => (false, 0)
  s.sys.mode.code + flag p 3 + at_ m 4 + at_ s.sys.refuse 8 + at_ s.sys.safeCause 12 + at_ s.safeWord 16

/-- `SYS_BOOT_STATUS`. -/
def Boot.word (b : Boot) : Nat :=
  b.step + flag b.slotFallback 4 + flag b.dramLow 5 + flag b.calDefault 6 + flag b.defectEmpty 7 +
    flag b.engineSpared 8 + flag b.monUncal 9 + flag b.fabricOff 10 + flag b.ledgerLost 11 +
    flag b.recovery 12 + flag b.eraseDeferred 13

/-- `SYS_FW_STATUS`. -/
def Sys.fwWord (y : Sys) : Nat :=
  y.dir.active + at_ y.dir.stateA.code 1 + at_ y.dir.stateB.code 3 + at_ y.slot0 5 + at_ y.slot1 6 +
    flag y.updBusy 7

/-- State of core `i` as read: HALTED by a debugger, and for MC1 while a dump runs (R350). -/
def State.coreCode (s : State) (i : Nat) : Nat :=
  let y := s.sys
  if i = 0 then (if y.dbg0 then 1 else y.core0.code)
  else if y.dbg1 ∨ (s.evl.dump.isSome ∧ y.core1 = .run) then 1
  else y.core1.code

/-- `SYS_MBOX_STATUS`. -/
def State.mboxStatus (s : State) : Nat :=
  flag s.mboxBusy 0 + at_ (if s.mboxBusy then 2 else s.sys.mboxResult) 1 + at_ s.sys.mboxOp 16

/-- `SYS_BULK_STATUS`; BYTES counts whole KiB. -/
def Sys.bulkStatus (y : Sys) : Nat :=
  flag y.bulkDone 0 + flag y.bulkCfgErr 1 + at_ y.bulkRej 2 + at_ (min 65535 (y.bulkBytes / 1024)) 16

/-- The EVL and SEC requests have rules of their own; every other block asserts its request while a
status bit and its enable are 1 (R296). -/
def State.reqOf (s : State) (st en : Nat) : Bool := s.rn st &&& s.rn en ≠ 0

/-- `SYS_INT_SRC` (R296, R326, R345). -/
def State.intSrc (s : State) : Nat :=
  flag (s.reqOf A.SYS_INT_STATUS A.SYS_INT_EN) 0 + flag (s.reqOf A.CLK_INT_STATUS A.CLK_INT_EN) 1 +
  flag (s.reqOf A.PLAN_INT_STATUS A.PLAN_INT_EN) 2 + flag (s.reqOf A.TMG_INT_STATUS A.TMG_INT_EN) 3 +
  flag (s.reqOf A.CNV_INT_STATUS A.CNV_INT_EN) 4 + flag (s.reqOf A.STR_INT_STATUS A.STR_INT_EN) 5 +
  flag (s.reqOf A.STR_SINT_STATUS A.STR_SINT_EN) 6 + flag (s.reqOf A.LNK_INT_STATUS A.LNK_INT_EN) 7 +
  flag (s.reqOf A.FAB_INT_STATUS A.FAB_INT_EN) 8 + flag (s.reqOf A.TIME_INT_STATUS A.TIME_INT_EN) 9 +
  flag (s.reqOf A.MON_INT_STATUS A.MON_INT_EN) 10 + flag (s.reqOf A.THM_INT_STATUS A.THM_INT_EN) 11 +
  flag (s.reqOf A.WDT_INT_STATUS A.WDT_INT_EN) 12 + flag s.evl.req 13 +
  flag (s.reqOf A.CAL_INT_STATUS A.CAL_INT_EN) 14 + flag (s.reqOf A.VLT_INT_STATUS A.VLT_INT_EN) 15 +
  flag (s.reqOf A.SEC_SEAL_INT_STATUS A.SEC_SEAL_INT_EN || s.reqOf A.SEC_INT_STATUS A.SEC_INT_EN) 16

/-- `INT_N` is asserted (R296). -/
def State.intN (s : State) : Bool := s.intSrc &&& s.rn A.SYS_INT_HOST_EN ≠ 0

/-- The interrupt of MC0 and of MC1 is raised (R296). -/
def State.intMc0 (s : State) : Bool := s.intSrc &&& s.rn A.SYS_INT_MC0_EN ≠ 0
def State.intMc1 (s : State) : Bool := s.intSrc &&& s.rn A.SYS_INT_MC1_EN ≠ 0

/-- Live SYS registers. -/
def State.sysRead (s : State) (a : Nat) : Option Nat :=
  let y := s.sys
  if a = A.SYS_MODE_STATUS then some s.modeStatus
  else if a = A.SYS_RESET_CAUSE then some (y.causeBits + at_ y.causeLast 8)
  else if a = A.SYS_INT_SRC then some s.intSrc
  else if a = A.SYS_PORT_STATUS then some (y.portErr + at_ y.portErrCnt 16)
  else if a = A.SYS_SERVICE then some (flag y.permit 16)
  else if a = A.SYS_BOOT_STATUS then some y.boot.word
  else if a = A.SYS_FW_STATUS then some y.fwWord
  else if a = A.SYS_CORE_STATUS then
    some (s.coreCode 0 + at_ (s.coreCode 1) 2 + at_ y.restarts0 16 + at_ y.restarts1 24)
  else if a = A.SYS_MBOX_CMD ∨ a = A.SYS_RESET_CTRL ∨ a = A.SYS_ALARM_ACK ∨ a = A.SYS_RCV_DATA then some 0
  else if a = A.SYS_MBOX_STATUS then some s.mboxStatus
  else if a = A.SYS_MBOX_RES0 then some y.mboxRes0
  else if a = A.SYS_MBOX_RES1 then some y.mboxRes1
  else if a = A.SYS_ALARM_FIFO then some (y.alarms.headD 0)
  else if a = A.SYS_ALARM_STATUS then some (y.alarms.length + at_ y.alarmOvf 16)
  else if a = A.SYS_BULK_STATUS then some y.bulkStatus
  else none

/-- SYS registers that host software may not write (R326). -/
def sysFirmwareOnly (a : Nat) : Bool :=
  a = A.SYS_ALARM_FIFO || a = A.SYS_ALARM_ACK || a = A.SYS_INT_MC0_EN || a = A.SYS_INT_MC1_EN ||
    a = A.SYS_BULK_CTRL || a = A.SYS_BULK_BASE || a = A.SYS_BULK_LEN

/-- Writes of SYS registers with behaviour of their own, but those of resets. -/
def State.sysWrite (s : State) (who : Who) (a : Nat) (v : Word) : Option State :=
  let y := s.sys
  if who = .host ∧ sysFirmwareOnly a then some (s.denied clsSYS who a)
  else if a = A.SYS_MODE_REQ then some (s.modeReqWrite v)
  else if a = A.SYS_RESET_CAUSE then
    some { s with sys := { y with causeBits := y.causeBits - (y.causeBits &&& wfield v 0 5) } }
  else if a = A.SYS_PORT_STATUS then
    some { s with sys := { y with portErr := s.afterClear a y.portErr (wfield v 0 4) } }
  else if a = A.SYS_SERVICE then some (s.serviceWrite who v)
  else if a = A.SYS_MBOX_CMD then some (s.mboxCmd (wfield v 0 8))
  else if a = A.SYS_ALARM_ACK then some (s.alarmAck who v)
  else if a = A.SYS_BULK_CTRL then some (s.bulkCtrlWrite v)
  else if a = A.SYS_RCV_DATA then some (s.rcvData who v)
  else none

end Sys2Proof.Machine
end

