-- ==== Sys2Proof/Machine/Attest.lean ====
section
/-!
DEFINITION. The crypto engine: seal signatures, attestation reports and the SEC registers
(07_frond_output.md R226 to R228, R230, 14_vault_and_security.md R427, R429, R431).
-/
namespace Sys2Proof.Machine

/-! ### Seal signatures -/

/-- The seal key, 32 bytes, unscrambled from its KEYS rows (R409, R427). -/
def Vlt.sealKey (v : Vlt) : List Byte :=
  (List.range 4).flatMap fun i => leBytes (v.row (84 + i) ^^^ v.scramble (84 + i)) 8

/-- Salt of a seal signature: HMAC(seal key, statement) (R427). -/
def Vlt.sealSalt (v : Vlt) (stmt : List Byte) : Nat := ofBE (hmac256 v.sealKey stmt)

/-- A signed statement and its signature in the registers (R230). -/
def State.sealShow (s : State) (stmt sig : List Byte) : State :=
  let n := wrapAdd s.seals.sigSeq 1 32
  { s with seals := { s.seals with stmt := stmt, sig := sig, sigSeq := n, sigSeqEnd := n } }.setInt
    A.SEC_SEAL_INT_STATUS 0

/-- A segment goes out without a signature (R228, R230): `bit` is UNAVAIL or SIGN_FAIL. -/
def State.sealUnsigned (s : State) (stream bit : Nat) : State :=
  let u := wrapAdd s.seals.unsigned_ 1 32
  ({ s with seals := { s.seals with unsigned_ := u } }.setInt A.SEC_SEAL_INT_STATUS bit).warn
    clsSEC 0x8F stream u

/-- The crypto engine ends the front statement (R226 to R228, R230); `bad` when it faults on the
signature. -/
def State.signDone (s : State) (bad : Bool) : State :=
  match s.seals.queue with
  | [] => s
  | x :: rest =>
    let b := s.statementBytes x
    let status := if ¬ x.avail then 1 else if bad then 2 else 0
    let sig := if status = 0 then s.vlt.idk.sign b (s.vlt.sealSalt b) else List.replicate 384 0
    let pkt : SealPkt := { stream := x.stream, subtype := 1, status := status, frame := x.last
                           lanes := x.lanes, payload := b ++ sig }
    let send : Bool := !x.regsOnly && (decide (s.sys.mode = .capture) || !(s.carried x.lanes).isEmpty)
    let s1 := { s with seals := { s.seals with
      queue := rest, due := if send then s.seals.due ++ [pkt] else s.seals.due } }
    if status = 0 then s1.sealShow b sig else s1.sealUnsigned x.stream (if status = 1 then 4 else 3)

/-! ### Attestation (R429) -/

/-- SHA-256 of the live plan image; 0 when no plan is live. -/
def State.liveDigest (s : State) : List Byte :=
  match s.plan.live with
  | some i => sha256 ((s.plan.bank i).data.take (imgU (s.plan.bank i).data 8 4))
  | none => List.replicate 32 0

/-- AFLAGS of the report; bit 3 tells of rows, not of redirection entries. -/
def Vlt.aflags (v : Vlt) : Nat :=
  flag v.restricted 0 + flag v.debugEn 1 + flag v.overridden 2 + flag (v.marg ≠ 0) 3

/-- `PLAN_LIVE_ID`; 0 when no plan is live. -/
def State.liveId (s : State) : Nat :=
  match s.plan.live with
  | some i => (s.plan.bank i).plan.id
  | none => 0

/-- `IDENT_REV` (R437). -/
def Part.rev (p : Part) : Nat := p.stepping + flag p.fern 16

/-- The report as of now, 256 bytes. -/
def State.report (s : State) : List Byte :=
  let v := s.vlt
  let nonce := (List.range 8).flatMap fun i => leBytes (s.rn (A.SEC_ATT_NONCE + 4 * i)) 4
  let chain := if s.seals.main.open_ then s.seals.main.id else List.replicate 16 0
  leBytes 0x54415A52 4 ++ leBytes 1 2 ++ leBytes v.aflags 2 ++ leBytes 0x2010 4 ++
    leBytes s.part.rev 4 ++ leBytes (v.row 66) 8 ++ leBytes (v.row 64) 8 ++ leBytes (v.row 65) 8 ++ nonce ++
    leBytes v.region 4 ++ leBytes v.slots 4 ++ leBytes v.policy 4 ++ leBytes s.sys.fwWord 4 ++
    s.sys.dig0 ++ s.sys.dig1 ++ leBytes (s.sys.key0 + at_ s.sys.key1 3) 1 ++ leBytes s.sys.mode.code 1 ++
    leBytes (rdLE s.ret 0x1040 2) 2 ++ leBytes (rdLE s.ret 4 4) 4 ++ leBytes s.liveId 4 ++
    leBytes s.plan.epoch 4 ++ s.liveDigest ++ leBytes (s.sys.causeBits + at_ s.sys.causeLast 8) 4 ++
    leBytes 0 4 ++ s.tbStamp 0 ++ chain ++ List.replicate 20 0

/-- The crypto engine verifies the signature of the image in a bank that is being checked (R122). -/
def Bank.verifying (b : Bank) : Bool := decide (b.state = .checking) && (sectionOf b.data 0xF0).isSome

/-- A plan is being verified. -/
def State.verifying (s : State) : Bool := s.plan.bankA.verifying || s.plan.bankB.verifying

/-- A write of ATT_GO: the report is taken and queued; with one BUSY it is ignored with a warning. -/
def State.attGo (s : State) (who : Who) : State :=
  if s.vlt.att.isSome then s.ignored clsSEC who A.SEC_CTRL
  else
    let r : Report :=
      { bytes := s.report, behind := s.seals.queue.map (fun x => (x.id, x.segment)), check := s.verifying }
    { s with vlt := { s.vlt with att := some r } }

/-- The verification that the report waits for has ended. -/
def State.attChecked (s : State) : State :=
  if s.verifying then s
  else { s with vlt := { s.vlt with att := s.vlt.att.map fun r => { r with check := false } } }

/-- A statement queued before the report has not left the engine. -/
def State.attBehind (s : State) (r : Report) : Bool :=
  s.seals.queue.any fun x => r.behind.contains (x.id, x.segment)

/-- A report is written with its signature: SEQ, the bytes, SEQ_END, then ATT_DONE. -/
def State.attWrite (s : State) (r : Report) (result : Nat) (sig : List Byte) : State :=
  let n := wrapAdd s.vlt.attSeq 1 32
  { s with vlt := { s.vlt with
      att := none, attResult := result, attSeq := n, attSeqEnd := n, attReport := r.bytes, attSig := sig } }.setInt
    A.SEC_INT_STATUS 2

/-- The engine serves the report, `bad` when it faults on the signature; while an earlier statement or
a plan verification is in progress it does not. -/
def State.attDone (s : State) (bad : Bool) : State :=
  match s.vlt.att with
  | none => s
  | some r =>
    let zero : List Byte := List.replicate 384 0
    if s.attBehind r ∨ r.check then s
    else if ¬ s.vlt.idkAvail then s.attWrite r 2 zero
    else if bad then (s.attWrite r 3 zero).faultEv clsSEC 0x8F 0 0
    else
      let (salt, s1) := s.draw
      s1.attWrite r 1 (s.vlt.idk.sign r.bytes salt)

/-! ### Registers (R431) -/

/-- The crypto engine signs or verifies; a report without an identity key is not signed (R429). -/
def State.engineBusy (s : State) : Bool :=
  s.vlt.idkBusy || (s.vlt.att.isSome && s.vlt.idkAvail) || s.seals.queue.any (·.avail) || s.verifying

/-- `SEC_STATUS`. -/
def State.secStatus (s : State) : Nat :=
  flag s.vlt.idkAvail 0 + at_ s.vlt.idkCause 1 + flag s.vlt.debugEn 4 + flag s.engineBusy 5

/-- Live SEC registers besides those of the seal. -/
def State.secRead (s : State) (a : Nat) : Option Nat :=
  let v := s.vlt
  if a = A.SEC_STATUS then some s.secStatus
  else if a = A.SEC_CTRL then some 0
  else if a = A.SEC_ATT_STATUS then some (flag v.att.isSome 0 + at_ v.attResult 1)
  else if a = A.SEC_ATT_SEQ then some v.attSeq
  else if a = A.SEC_ATT_SEQ_END then some v.attSeqEnd
  else if 0x370100 ≤ a ∧ a < 0x370200 then some (wordOf v.attReport ((a - 0x370100) / 4))
  else if 0x370200 ≤ a ∧ a < 0x370380 then some (wordOf v.attSig ((a - 0x370200) / 4))
  else s.sealRead a

/-- A write of `SEC_CTRL`: IDK_LOAD, then ATT_GO; IDK_LOAD is firmware's (R431). -/
def State.secCtrlWrite (s : State) (who : Who) (w : Word) : State :=
  let s1 :=
    if ¬ wbit w 0 then s else if who = .host then s.denied clsSEC who A.SEC_CTRL else s.idkLoad
  if wbit w 1 then s1.attGo who else s1

/-- Writes of SEC registers with behaviour of their own. -/
def State.secWrite (s : State) (who : Who) (a : Nat) (w : Word) : Option State :=
  if a = A.SEC_CTRL then some (s.secCtrlWrite who w)
  else if a = A.SEC_IDK_ADDR ∧ who = .host then some (s.denied clsSEC who a)
  else if a = A.SEC_SEAL_CTRL then some (s.sealCtrlWrite w)
  else none

end Sys2Proof.Machine
end

