-- ==== Sys2Proof/Machine/Readout.lean ====
section
/-!
DEFINITION. Inside a sub-frame interval: integration and transfer, row slots, the end of the
readout and the switch of the reference DACs (01_architecture.md R21 to R24,
02_array_and_exposure.md R39 to R49, 03_converter_fabric.md R75 to R82).
-/
namespace Sys2Proof.Machine

/-! ### Integration and transfer (R39, R43) -/

/-- The photodiode reset is released (R43). -/
def State.integrationStart (s : State) : State :=
  match s.tmg.integ with
  | some r =>
    if r.started then s
    else
      let s1 := s.goTo (s.afterSft (s.entryOf r).start)
      { s1 with tmg := { s1.tmg with integ := some { r with started := true } } }
  | none => s

/-- Mark the sub-frame of the present interval SETTLING (R48), once. -/
def State.markSettling (s : State) : State :=
  match s.tmg.integ with
  | some r =>
    if r.settling ∨ s.tmg.firstSub then s
    else
      let n := satAdd s.tmg.settleCnt 1 16
      let s1 := { s with tmg := { s.tmg with integ := some { r with settling := true }, settleCnt := n } }
      let s2 := s1.modFrame r.frame fun f => { f with settle := f.settle ||| 2 ^ r.j }
      (s2.setInt A.TMG_INT_STATUS 1).warn clsTMG 1 0 n
  | none => s

/-- The transfer would begin less than 2 µs after the readout ends (R48). -/
def State.transferLate (s : State) (e : Entry) : Bool :=
  s.tmg.reading.isSome && decide (s.afterSft (e.start + e.len) < s.tmg.rdEnd + us 6)

/-- The transfer sequence ends integration (R39); under R48 it is omitted, so that the storage
keeps its samples. -/
def State.globalTransfer (s : State) : State :=
  match s.tmg.integ with
  | some r =>
    if r.moved then s
    else
      let e := s.entryOf r
      let late := s.transferLate e && !s.tmg.firstSub
      let s1 := s.goTo (s.afterSft (e.start + e.len + 14))
      let s2 := if late then s1.markSettling else s1
      let q := (s2.tmg.integ.getD r)
      let q1 := { q with moved := true, omitted := late }
      { s2 with tmg := { s2.tmg with
        integ := some q1, stored := if late then s2.tmg.stored else some q1 } }
  | none => s

/-! ### Row slots (R75, R141) -/

/-- The datapaths process the active slots of the readout up to `n`; they stand still while PLL0 is
in bypass (R278). The proxy of a frame begins with its last sub-frame (R187). -/
def State.process (s : State) (f : Frame) (sub : SubRef) (n : Nat) : State :=
  if s.clk.src0 ≠ .pll ∨ n = 0 then s
  else (if sub.j + 1 = f.cfg.sched.s then s.proxyBegin f.num else s).procUpTo sub n

/-- The codes of row slot `i` are delivered 580 ns after its end (R79). -/
def State.slotDelivered (s : State) (f : Frame) (i : Nat) : Nat :=
  s.seqEdge s.tmg.pos + (i + 1) * f.cfg.sched.rowslot * Config.seqTU + Config.deliverTU

/-- Both banks convert one row each (R75). The datapaths run five slots behind (R141), so that five
more row slots follow the last delivery. The black state follows when the black slots are complete
(R145). The field `slot` counts the slots of the readout, its end (READOUT_COMPLETE) and then the
five slots of the datapaths, whose counts become the counters with the last (R170). -/
def State.rowSlot (s : State) (convs : List Conv) : State :=
  match s.tmg.reading with
  | none => s
  | some sub =>
    match s.frame? sub.frame with
    | none => s
    | some f =>
      let n := f.cfg.plan.win.nSlot
      let k := s.tmg.slot
      let i := if k < n then k else k - 1
      let t := s.slotDelivered f i
      if k = n ∨ n + 5 < k ∨ s.seqEdge s.tmg.nextSft < t then s
      else
        let s1 := s.goTo t
        let s2 := if sub.calib ∨ n ≤ i then s1 else s1.cnvSlot f.cfg.plan.win i convs
        let s3 := { s2 with tmg := { s2.tmg with slot := k + 1 } }
        let s4 :=
          if i = 31 ∧ ¬ sub.calib ∧ s3.clk.src0 = .pll then s3.clampAll f sub.j sub.settling else s3
        let s5 := s4.process f sub (i - 36)
        if k = n + 5 ∧ ¬ sub.calib then s5.latchCounters else s5

/-- The last code of the readout is delivered 580 ns after its end (R79), and the conversion
counts of the readout become the counters (R87). -/
def State.readoutComplete (s : State) : State :=
  match s.tmg.reading with
  | none => s
  | some sub =>
    match s.frame? sub.frame with
    | none => s
    | some f =>
      let n := f.cfg.plan.win.nSlot
      if s.tmg.slot ≠ n then s
      else
        let s1 := s.goTo (s.tmg.rdEnd + Config.deliverTU)
        let s3 := { s1 with tmg := { s1.tmg with slot := n + 1 } }
        (if sub.calib then s3 else s3.cnvReadoutDone).tdacTry

/-! ### Reference switch (R47, R48, R82) -/

/-- The reference DACs take the gain codes of the sub-frame of the present interval (R47). -/
def State.referenceSwitch (s : State) : State :=
  match s.tmg.integ with
  | some r =>
    if s.tmg.switched then s
    else
      let e := s.entryOf r
      let moved : Bool := decide (e.hcg ≠ s.tmg.dacH) || decide (e.lcg ≠ s.tmg.dacL)
      let short : Bool := s.tmg.p + s.seqEdge s.tmg.pos < s.tmg.rdEnd + us 30
      let s1 := s.goTo s.tmg.rdEnd
      let s2 := if moved && short then s1.markSettling else s1
      { s2 with
        tmg := { s2.tmg with dacH := e.hcg, dacL := e.lcg, switched := true }
        cnv := { s2.cnv with gainMoved := moved, switchAt := s.tmg.rdEnd } }.grefApply e.hcg e.lcg
  | none => s

end Sys2Proof.Machine
end

