-- ==== Sys2Proof/Machine/Tick.lean ====
section
/-!
DEFINITION. The ticks: deadlines, the drain, and at a frame tick every change that is due, in one
order, before the frame that starts there (01_architecture.md R20 to R32,
02_array_and_exposure.md R41 to R70, 04_plans.md R126 to R132).
-/
namespace Sys2Proof.Machine

/-! ### Frames in flight (R21, R131) -/

/-- One more SFT has occurred for a frame in flight. -/
def Frame.age (f : Frame) (ft : Bool) : Frame :=
  let first : Bool := ft && f.age1.isSome
  { f with
    sftAge := f.sftAge + 1
    age1 := f.age1.elim (if ft then some 0 else none) (fun n => some (n + 1))
    age2 := f.age2.elim (if first then some 0 else none) (fun n => some (n + 1)) }

/-- The last deadline of the frame has passed (R131). -/
def Frame.isOver (f : Frame) : Bool :=
  f.age2.elim false (fun n => decide (1 ≤ n)) &&
    (!f.cfg.sched.twin || f.age1.elim false (fun n => decide (f.cfg.sched.twinJ + 1 ≤ n)))

/-- Nothing of the frame is left to do. -/
def Frame.gone (f : Frame) : Bool :=
  f.isOver && f.statDone && (!f.emits false || f.main.trailer) && (!f.emits true || f.twin.trailer)

/-- Deadlines of one frame at an SFT (R21, R26, R131, R187). -/
def State.deadlines (s : State) (f : Frame) : State :=
  let s1 := if f.age1 = some 1 then ((s.proxyBegin f.num).proxyEnd f.num false).proxyVoid f.num else s
  let s2 := if f.age2 = some 0 then s1.deliverStat f.num true else s1
  let s3 := if f.age2 = some 1 ∧ f.emits false then s2.cutEmission f.num false else s2
  if f.age1 = some (f.cfg.sched.twinJ + 1) ∧ f.emits true then s3.cutEmission f.num true else s3

/-- Frames that started under bank `i` are in flight (R131). -/
def State.inFlight (s : State) (i : Nat) : Bool := s.frames.any fun f => f.cfg.bank = i && !f.isOver

/-- A DRAINING bank whose last frame has passed its last deadline becomes READY (R131). -/
def State.bankDrained (s : State) (i : Nat) : State :=
  let b := s.plan.bank i
  if b.state = .draining ∧ ¬ s.inFlight i then
    (s.setBank i { b with state := .ready }).setInt A.PLAN_INT_STATUS 5
  else s

/-- Every frame ages, its deadlines are judged, and frames that are done leave. -/
def State.ageFrames (s : State) (ft : Bool) : State :=
  let s1 := { s with frames := s.frames.map fun (f : Frame) => f.age ft }
  let s2 := s1.frames.foldl (fun (a : State) f => a.deadlines f) s1
  ({ s2 with frames := s2.frames.filter fun f => !f.gone }.bankDrained 0).bankDrained 1

/-! ### The drain (R56, R57, R61, R132) -/

/-- The start mode in force is CONTINUOUS. -/
def State.continuous (s : State) : Bool :=
  match s.tmg.cur with
  | some c => c.sched.startMode = 0
  | none => true

/-- Enter a sequencer state. -/
def State.seqTo (s : State) (q : SeqState) : State := { s with tmg := { s.tmg with seq := q } }

/-- Enter DRAIN at an FT: the deadline is the first SFT after the next FT (R57). -/
def State.drainFrom (s : State) : State :=
  { s with tmg := { s.tmg with seq := .drain, drainLeft := s.tmg.s + 1, drainEnd := none, burstLeft := 0 } }

/-- The drain deadline passes (R57, R61); under CONTINUOUS the drain goes on to the next FT
(R132). -/
def State.drainPassed (s : State) : State :=
  if ¬ s.sys.mode.capturing then s.seqTo .idle
  else if ¬ s.continuous then (s.seqTo .armed).setInt A.TMG_INT_STATUS 6
  else { s with tmg := { s.tmg with drainEnd := some s.now } }

/-- One SFT of the drain. -/
def State.drainTick (s : State) : State :=
  if s.tmg.seq = .drain ∧ 0 < s.tmg.drainLeft then
    let s1 := { s with tmg := { s.tmg with drainLeft := s.tmg.drainLeft - 1 } }
    if s.tmg.drainLeft = 1 then s1.drainPassed else s1
  else s

/-! ### Changes at an FT (R30, R31) -/

/-- A change that targets frame `f` at an FT whose frame is `n` (R127, R69, R466): it lands, is
past, or waits. -/
inductive Landing where
  | lands | past | waits
  deriving DecidableEq, Repr

/-- Whether a change with a target lands; `w` is the instant of its write. -/
def landing (target : Nat) (n : Option Nat) (w t : Nat) : Landing :=
  match n with
  | none => .waits
  | some k =>
    let d := (target + 2 ^ 32 - k) % 2 ^ 32
    if d = 0 then (if t < w + us64 then .past else .lands)
    else if 2 ^ 31 ≤ d then .past
    else .waits

/-- Where the pending commit stands at the FT of instant `t` (R127, R128). -/
def State.commitLands (s : State) (c : Commit) (n : Option Nat) (t : Nat) : Landing :=
  match c.when_ with
  | .next => if c.w + us64 ≤ t then .lands else .waits
  | .frame f => landing f n c.w t
  | .time tb sec ns => if (s.tb tb).run ∧ tbOf sec ns 0 ≤ s.tbAt tb t then .lands else .waits

/-- The commit of bank `b` takes effect (R129, R131). -/
def State.commitApply (s : State) (b : Nat) : State :=
  let pl := (s.plan.bank b).plan
  let c := InForce.of b pl s.thm.enforced
  let s1 := s.setBank b { s.plan.bank b with state := .live }
  let s2 : State :=
    match s.plan.live with
    | some o =>
      if o = b then s1 else (s1.setBank o { s1.plan.bank o with state := .draining }).bankDrained o
    | none => s1
  let s3 := { s2 with
    plan := { s2.plan with
      live := some b, epoch := wrapAdd s2.plan.epoch 1 32, firstValid := false, awaitFirst := true }
    tmg := { s2.tmg with cur := some c, liveAwait := false } }
  let s4 := (s3.endCommit 1 0).freshBlackAll
  s4.raise { sev := .info, cls := clsPLAN, code := 0x84, unit := b, detail := s4.plan.epoch,
             cont := leBytes pl.id 4 ++ s4.tbStamp 0 }

/-- The pending commit at the FT of instant `t` (R127 to R129). `n` is the frame that R466 gives the
FT. -/
def State.commitAtFT (s : State) (n : Option Nat) (t : Nat) : State :=
  match s.plan.commit with
  | none => s
  | some c =>
    match s.commitLands c n t with
    | .waits => s
    | .past => s.endCommit 3 0
    | .lands =>
      if s.lanesTooFew (s.plan.bank c.bank).plan.out then s.endCommit 4 13 else s.commitApply c.bank

/-- The pending live set takes effect, or is stale (R67, R68, R70). -/
def State.liveApply (s : State) (l : LiveSet) (c : InForce) : State :=
  let bad := l.bad (some c)
  if bad ≠ [] then s.liveReject 4 bad
  else
    ({ s with
      plan := { s.plan with epoch := wrapAdd s.plan.epoch 1 32 }
      tmg := { s.tmg with
        cur := some { c with sched := l.apply c.sched }
        live := none, liveResult := 1, liveAwait := true } }.setInt A.TMG_INT_STATUS 4).freshBlackAll

/-- The pending live set at the FT of instant `t` (R69). -/
def State.liveAtFT (s : State) (n : Option Nat) (t : Nat) : State :=
  match s.tmg.live, s.inForce with
  | some l, some c =>
    let how : Landing :=
      match l.target with
      | none => if l.go + us64 ≤ t then .lands else .waits
      | some f => landing f n l.go t
    match how with
    | .waits => s
    | .past => s.livePast
    | .lands => s.liveApply l c
  | _, _ => s

/-- Seal chains follow CAPTURE and TWIN (R224); `was` and `wasTwin` hold before the changes. -/
def State.chainsAtFT (s : State) (was wasTwin : Bool) : State :=
  let now_ : Bool := s.sys.mode = .capture
  let twin : Bool := match s.tmg.cur with | some c => c.sched.twin | none => false
  if now_ ∧ ¬ was then (if twin then (s.wantChain false).wantChain true else s.wantChain false)
  else if was ∧ ¬ now_ then (s.endChain true).endChain false
  else if now_ ∧ twin ∧ ¬ wasTwin then s.wantChain true
  else if now_ ∧ wasTwin ∧ ¬ twin then s.endChain true
  else s

/-- The datapaths read the maps region as it stands (R13), and after a warm reset the frame regions
are reinitialised at the first FT in MONITOR or CAPTURE (R14). -/
def State.dramAtFT (s : State) : State :=
  let maps := s.dram.filter fun c => decide (0xEC000000 ≤ c.1) && decide (c.1 ≤ 0xFBFFFFFF)
  let s1 := { s with str := { s.str with maps := maps } }
  if s.str.reinit ∧ s.sys.mode.capturing then
    { s1 with dram := wipe s1.dram 0 0x83E00000, str := { s1.str with reinit := false } }
  else s1

/-- Lanes that the plan in force assigns become ACTIVE at an FT (R202). -/
def State.lanesAtFT (s : State) : State :=
  match s.inForce with
  | some c => s.assignLanes c.plan.out
  | none => s

/-- The grid goes on with S and P in force (R41, R131). -/
def State.gridAtFT (s : State) : State :=
  match s.inForce with
  | some c => { s with tmg := { s.tmg with s := max 1 c.sched.s, p := c.sched.pTU } }
  | none => s

/-- Every change due at the FT of instant `t` (R30, R31): remaps, the commit, enforcement, the live
set, the mode, takeovers, substitutions and bases. -/
def State.changesAtFT (s : State) (t : Nat) : State :=
  let n := s.frameAtFT t
  let was : Bool := s.sys.mode = .capture
  let wasTwin : Bool := match s.inForce with | some c => c.sched.twin | none => false
  let s1 := ((((s.remapsAtFT t).commitAtFT n t).thmAtFT t).liveAtFT n t).modeAtFT t
  let s2 := (((s1.lanesAtFT).takesAtFT t).subsAtFT t).dramAtFT
  (s2.basesAtFT.fabBasesCheck.gridAtFT.monAtFT).chainsAtFT was wasTwin

/-! ### The sequencer at an FT (R55 to R61, R132) -/

/-- The sequencer's state after the changes of the FT at instant `t`, and whether a frame integrates
from there. `trig` holds at the FT of an accepted trigger, `cont` when the start mode was CONTINUOUS
before the changes. -/
def State.seqAtFT (s : State) (t : Nat) (trig cont : Bool) : State × Bool :=
  let act := s.sys.mode.capturing
  let b := match s.tmg.cur with | some c => c.sched.burstLen | none => 0
  match s.tmg.seq with
  | .stopped => (s, false)
  | .idle => if ¬ act then (s, false) else if s.continuous then (s.seqTo .running, true) else (s.seqTo .armed, false)
  | .armed =>
    if ¬ act then (s.seqTo .idle, false) else if s.continuous then (s.seqTo .running, true) else (s, false)
  | .running =>
    if ¬ act then (if trig then s.trigMissed.seqTo .idle else s.drainFrom, false)
    else if s.continuous then ({ s with tmg := { s.tmg with burstLeft := 0 } }, true)
    else if trig then ({ s with tmg := { s.tmg with burstLeft := b - 1 } }, true)
    else if cont ∨ s.tmg.burstLeft = 0 then (s.drainFrom, false)
    else ({ s with tmg := { s.tmg with burstLeft := s.tmg.burstLeft - 1 } }, true)
  | .drain =>
    match s.tmg.drainEnd with
    | some d =>
      if ¬ d < t then (s, false)
      else
        let s1 := { s with tmg := { s.tmg with drainEnd := none } }
        if act && s1.continuous then (s1.seqTo .running, true) else (s1.drainPassed, false)
    | none => (s, false)

/-- The frame that starts at the FT of instant `t` under what is in force (R50, R59). -/
def State.newFrame (s : State) (c : InForce) (t : Nat) : Frame :=
  let k := c.plan.centTb
  { num := s.tmg.nNext, epoch := s.plan.epoch, cfg := c, ft := t, stamp := s.tbStamp k
    tbv := if (s.tb k).run then some (s.tbAt k t) else none
    capture := decide (s.sys.mode = .capture)
    lanes0 := maskOf (s.setLanes 0), lanes1 := maskOf (s.setLanes 1)
    maps := s.str.maps, proxyBase := s.str.proxyBase, reconBase := s.str.reconBase, cfgErr := s.str.cfgErr }

/-- An integrating frame starts at the FT of instant `t` (R50, R55, R59, R70, R129, R223). -/
def State.beginFrame (s : State) (t : Nat) (trig : Bool) : State :=
  match s.tmg.cur with
  | none => s
  | some c =>
    let f := s.newFrame c t
    let n := f.num
    let g := s.tmg
    let s1 := { s with
      frames := s.frames.filter (fun (x : Frame) => x.num ≠ n) ++ [f]
      tmg := { g with
        nLast := n, nNext := wrapAdd n 1 32, integ := some { frame := n, j := 0 }
        accepted := if trig then wrapAdd g.accepted 1 32 else g.accepted
        liveFrame := if g.liveAwait then n else g.liveFrame, liveAwait := false } }.setInt A.TMG_INT_STATUS 0
    let s2 :=
      if s1.plan.awaitFirst then
        { s1 with plan := { s1.plan with awaitFirst := false, first := n, firstValid := true } }.setInt
          A.PLAN_INT_STATUS 2
      else s1
    (s2.beginChain f false).beginChain f true

/-- The work of an FT at instant `t`. -/
def State.ftWork (s : State) (t : Nat) : State :=
  let trig := s.tmg.trigFT
  let cont := s.continuous
  let s1 := s.changesAtFT t
  let s2 := { s1 with tmg := { s1.tmg with trigFT := false, lastFT := t } }
  if s2.plan.live.isNone then s2.stopTicks
  else
    let (s3, go) := s2.seqAtFT t trig cont
    let s4 := if s3.tmg.seq = .idle then s3 else s3.dropRealign
    if go then s4.beginFrame t trig else { s4 with tmg := { s4.tmg with integ := none } }

/-! ### Ticks (R20, R41) -/

/-- The interval before the tick ends: what is left of the readout is abandoned (R26, R49), frames
meet their deadlines, and datapaths that were relieved have finished (R165). -/
def State.endInterval (s : State) (ft : Bool) : State :=
  let s1 := match s.tmg.reading with | some r => s.abandonRest r | none => s
  (s1.drainTick.ageFrames ft).endSwitches

/-- The sub-frame after `r` in its frame. -/
def SubRef.next (r : SubRef) : SubRef := { frame := r.frame, j := r.j + 1 }

/-- The readout of sub-frame `old` begins at the SFT of instant `t` (R21, R42, R90); a calibration run
may start or end here (R389, R390). -/
def State.beginReadout (s : State) (old : Option SubRef) (t : Nat) (ft : Bool) : State :=
  let s0 := s.calAtSft ft
  let r := old.map fun x => { x with calib := s0.fgRuns }
  let cfg : Option InForce :=
    match r.bind (fun x => s0.frame? x.frame) with
    | some f => some f.cfg
    | none => s0.inForce
  let len := match cfg with | some c => tRdTU c.plan.win c.sched | none => 0
  let s1 := { s0 with
    tmg := { s0.tmg with reading := r, slot := 0, rdEnd := t + len, switched := false }
    str := { s0.str with done := 0 } }
  let s2 := s1.cnvAtSft s1.fgRuns
  match r with
  | some x =>
    let s3 := { s2 with cnv := { s2.cnv with settling := x.settling } }
    if x.calib then s3.modFrame x.frame fun f => { f with calib := true } else s3
  | none => s2.tdacTry

/-- SOFT_TRIG edges that awaited this tick are judged after it (R55). -/
def State.softsTaken (s : State) : State := if s.tmg.softs = [] then s else s.softsNow s.fgRuns

/-- The next tick occurs (R20, R41). -/
def State.tick (s : State) (ft : Bool) : State :=
  let t := s.seqEdge s.tmg.nextSft
  let old := s.tmg.integ
  let s1 := (s.goTo t).endInterval ft
  let s2 := { s1 with tmg := { s1.tmg with
    pos := s.tmg.nextSft, fresh := false, j := if ft then 0 else s.tmg.j + 1
    integ := old.map SubRef.next
    firstSub := s1.tmg.firstSub && old.isNone }, cnv := s1.cnv.freeze }
  let s3 := if ft then s2.ftWork t else s2
  (if s3.ticking then s3.beginReadout old t ft else s3).rigFlush.softsTaken

/-- SUB_FRAME_TICK: an SFT that is no FT. -/
def State.subFrameTick (s : State) : State := if s.ticking ∧ ¬ s.tmg.nextIsFT then s.tick false else s

/-- FRAME_TICK: an SFT that is also an FT (R30). -/
def State.frameTick (s : State) : State := if s.ticking ∧ s.tmg.nextIsFT then s.tick true else s

end Sys2Proof.Machine
end

