-- ==== Sys2Proof/Machine/Peek.lean ====
section
/-!
DEFINITION. Reading the address space of 15_register_map.md (R432 to R438): the registers of every
block, the windows, and the reads that have side effects (R436).
-/
namespace Sys2Proof.Machine

/-- The regions of R432 but the DRAM window, each with the class of its block. -/
def blockClass (a : Nat) : Option Nat :=
  if a < 0x60000 then
    some (match a / 0x10000 with
      | 0 => clsSYS | 1 => clsSYS | 2 => clsCLK | 3 => clsPLAN | 4 => clsTMG | _ => clsCNV)
  else if 0x100000 ≤ a ∧ a < 0x153000 then some clsSTR
  else if 0x200000 ≤ a ∧ a < 0x300000 then some clsSTAT
  else if 0x300000 ≤ a ∧ a < 0x3A0000 then
    some (match (a - 0x300000) / 0x10000 with
      | 0 => clsLNK | 1 => clsFAB | 2 => clsTIME | 3 => clsMON | 4 => clsTHM | 5 => clsWDT
      | 6 => clsVLT | 7 => clsSEC | 8 => clsEVL | _ => clsCAL)
  else if 0x400000 ≤ a ∧ a < 0x410000 then some clsSYS
  else if 0x600000 ≤ a ∧ a < 0x700000 then some clsCNV
  else none

/-- The address lies in the DRAM window. -/
def inDramWin (a : Nat) : Bool := decide (0x10000000 ≤ a) && decide (a < 0x20000000)

/-- The address lies in the retained SRAM. -/
def inRet (a : Nat) : Bool := decide (0x400000 ≤ a) && decide (a < 0x402000)

/-- A port at which a burst of the host control port does not advance (R291). -/
def dataPort (a : Nat) : Bool :=
  [A.PLAN_LOAD_DATA, A.SYS_RCV_DATA, A.SYS_ALARM_FIFO, 0x320608, 0x320628, 0x320648].contains a

/-- An address whose read has a side effect, so that it is never prefetched (R292): a data port, or a latching
register (R436). -/
def sideEffect (a : Nat) : Bool :=
  dataPort a || a = A.STR_CENT_FRAME || [0x32000C, 0x32004C, 0x32008C, 0x3200CC].contains a ||
    (decide (A.MON_CH ≤ a) && decide (a < A.MON_CH + 1024) && a % 32 = 0) ||
    (match winTarget a with | .slice _ 0 => true | _ => false)

/-- The word of a register of a block, without any side effect; 0 where none is assigned (R8). -/
def State.peekReg (s : State) (who : Who) (a : Nat) : Nat :=
  let live : Option Nat :=
    match a / 0x10000 with
    | 0x00 => some (if a = A.IDENT_CHIP_ID then 0x2010 else if a = A.IDENT_REV then s.part.rev else 0)
    | 0x01 => s.sysRead a
    | 0x02 => s.clkRead a
    | 0x03 => s.planRead a
    | 0x04 => s.tmgRead a
    | 0x05 => s.cnvRead a
    | 0x30 => s.lnkRead a
    | 0x31 => s.fabRead a
    | 0x32 => s.timeRead who a
    | 0x33 => s.monRead who a
    | 0x34 => s.thmRead a
    | 0x35 => s.wdtRead a
    | 0x36 => s.vltRead a
    | 0x37 => s.secRead a
    | 0x38 => s.evlRead who a
    | 0x39 => s.calRead a
    | _ => s.strRead a
  (live.getD (s.rn a)) % 2 ^ 32

/-- A word of the retained SRAM. While a firmware update runs, which sector `RET_UPD` names and whether it
is erased or programmed depends on times that the manual does not give (free value, log entry 44). -/
def State.retWord (s : State) (o : Nat) : Nat :=
  match s.sys.mbox with
  | some (.fwUpdate _ _ _ i) =>
    let n := Config.openValue 44 [(s.now : Int)]
    if o = 0x1000 then n / 2 % 64 + at_ i 16 + at_ (n % 2) 24 + 2 ^ 31 else rdLE s.ret o 4
  | _ => rdLE s.ret o 4

/-- The word at an aligned address outside the DRAM window, and the state after the read (R433,
R436). `SYS_ALARM_FIFO` is read by MC0 alone (R302). -/
def State.readReg (s : State) (who : Who) (a : Nat) : Nat × State :=
  if a = A.SYS_ALARM_FIFO then (if who = .mc0 then s.alarmPop else (0, s))
  else if 0x320000 ≤ a ∧ a < 0x320100 ∧ a % 64 = 0x0C then s.tbSecLoRead who ((a - 0x320000) / 64)
  else if a = 0x320608 ∨ a = 0x320628 ∨ a = 0x320648 then s.capturePop who ((a - 0x320600) / 32)
  else if A.MON_CH ≤ a ∧ a < A.MON_CH + 1024 ∧ a % 32 = 0 then s.monSumLoRead who ((a - A.MON_CH) / 32)
  else if A.STR_CENT_FRAME ≤ a ∧ a ≤ A.STR_CENT_FRAC then s.centRead who a
  else if 0x600000 ≤ a ∧ a < 0x700000 then s.winRead who a
  else if 0x200000 ≤ a ∧ a < 0x300000 then (s.statWord (a - 0x200000), s)
  else if inRet a then (s.retWord (a - 0x400000), s)
  else if (blockClass a).isNone then (0, if who = .host then s.portError 2 else s)
  else (s.peekReg who a, s)

/-- The aperture of an accessor: `SYS_DRAM_APERTURE.BASE` for the host control port, and the core's own
`aper`, which lies outside the map, for a core (R295, R435). -/
def State.aperture (s : State) (who : Who) (aper : Nat) : Nat :=
  if who = .host then s.rf A.SYS_DRAM_APERTURE 28 4 else aper % 16

/-- DRAM address behind window address `a` (R295). -/
def dramAddr (base a : Nat) : Nat := base * 2 ^ 28 + (a - 0x10000000)

/-- A byte of DRAM as the window shows it (R12): the three frame regions read 0 in MONITOR and CAPTURE. The
patterns of a training are not given (R313; free value, log entry 3). -/
def State.dramByte (s : State) (d : Nat) : Byte :=
  if d < 0x83E00000 ∧ s.sys.mode.capturing then 0
  else if s.sys.boot.patterns ∧ 0xED000000 ≤ d ∧ d < 0xEE000000 ∧ rdByte s.dram d = 0 then
    BitVec.ofNat 8 (Config.openValue 3 [(d : Int)])
  else rdByte s.dram d

/-- A read of the word at `a`, whose low two bits do not count (R291). -/
def State.readWord (s : State) (who : Who) (base a : Nat) : Nat × State :=
  let w := a / 4 * 4
  if inDramWin w then
    let d := dramAddr base w
    (ofLE ((List.range 4).map fun i => s.dramByte (d + i)), s)
  else s.readReg who w

end Sys2Proof.Machine
end

