-- ==== Sys2Proof/Machine/Dump.lean ====
section
/-!
DEFINITION. What the incident dump engine writes (11_supervision.md R348 to R352).
-/
namespace Sys2Proof.Machine

/-- The word at `a` as the engine copies it: data ports and latching registers read as 0 (R350). -/
def State.dumpWord (s : State) (a : Nat) : Nat :=
  if sideEffect a then 0 else (s.readReg .mc0 a).1

/-- The bytes of `n` words from address `a`. -/
def State.dumpWords (s : State) (a n : Nat) : List Byte :=
  (List.range n).flatMap fun i => leBytes (s.dumpWord (a + 4 * i)) 4

/-- Bytes that the manual does not give: core registers and the management SRAM (log entry 31). -/
def State.dumpFree (s : State) (from_ n : Nat) : List Byte :=
  (List.range n).map fun i => BitVec.ofNat 8 (Config.randomBits (s.draws + from_ + i))

/-- The record of a core: the `SYS_CORE_STATUS` field at 0x08, its registers around it. -/
def State.coreRecord (s : State) (from_ status : Nat) : List Byte :=
  s.dumpFree from_ 8 ++ leBytes status 4 ++ s.dumpFree (from_ + 8) 244

/-- Blocks of section REGS in their order. -/
def dumpBlocks : List Nat :=
  [0x000000, 0x010000, 0x020000, 0x030000, 0x040000, 0x050000, 0x300000, 0x310000, 0x320000,
   0x330000, 0x340000, 0x350000, 0x360000, 0x370000, 0x390000]

/-- The management SRAM of a core as the dump holds it: the bytes of a core that has run are what its
firmware left there, which the manual does not give (log entry 31). -/
def State.dumpSram (s : State) (ran : Bool) (m : Memory) (from_ : Nat) : List Byte :=
  if ran then s.dumpFree from_ 0x180000 else rdBytes m 0 0x180000

/-- Contents of section `k` of 2 to 9. -/
def State.dumpSection (s : State) (d : DumpRun) (k : Nat) : List Byte :=
  match k with
  | 2 => s.dumpWords 0x380000 0x4000
  | 3 => s.dumpWords 0x400000 0x800
  | 4 => s.coreRecord 0 d.core0 ++ s.coreRecord 256 (s.coreCode 1)
  | 5 => dumpBlocks.flatMap fun b => s.dumpWords b 0x4000
  | 6 => s.dumpWords 0x100000 0x14C00
  | 7 => s.dumpSram true s.sram0 512
  | 8 => s.dumpSram (s.sys.core1 ≠ .stopped) s.sram1 (512 + 0x180000)
  | 9 => s.dumpWords 0x600000 0x32840
  | _ => []

/-- The header of the dump rewritten with `n` sections done (R350). -/
def State.dumpHeader (s : State) (d : DumpRun) (n : Nat) (crcs : List Nat) (complete : Bool) : State :=
  { s with
    dram := wrSpan s.dram (dumpBase d.slot) (d.header n crcs complete)
    evl := { s.evl with dumpSecs := n } }

/-- Section `k` is copied into the slot and the header rewritten (R350); `crcs` are those of the sections
before it. The manual gives no instant at which a section is copied; the model copies all at the end of
the dump, or where a reset cuts it (log entry 31). -/
def State.dumpCopy (s : State) (d : DumpRun) (k : Nat) (crcs : List Nat) : State × List Nat :=
  let b := s.dumpSection d k
  let c := crcs ++ [if k = 1 then Config.openValue 31 [(d.seq : Int)] % 2 ^ 32 else crc32 b]
  (State.dumpHeader { s with
    dram := if k = 1 then s.dram
      else wrSpan s.dram (dumpBase d.slot + (dumpSections.getD (k - 1) (0, 0)).1) b } d k c false, c)

/-- Sections 1 to `n` copied in turn (R350, R351). -/
def State.dumpWrite (s : State) (d : DumpRun) (n : Nat) (complete : Bool) : State :=
  let x := (List.range n).foldl (fun (a : State × List Nat) k => a.1.dumpCopy d (k + 1) a.2) (s, [])
  let s1 := if complete then x.1.dumpHeader d n x.2 true else x.1
  { s1 with draws := s1.draws + 512 + 0x300000 }

/-- The dump completes within 600 000 MGTCLK cycles (R351): the slot is VALID, NEXT moves on, DUMPS counts
(R349), MC1 is released and the result is DONE. -/
def State.dumpComplete (s : State) : State :=
  match s.evl.dump with
  | none => s
  | some d =>
    let s1 := s.dumpWrite d 9 true
    let w := s1.retGet 0x1050 4
    let s2 := s1.retPut 0x1050 4
      ((d.slot + 1) % 8 + at_ (field w 8 8 ||| 2 ^ d.slot) 8 + at_ d.seq 16)
    { s2 with evl := { s2.evl with dump := none, dumpResult := .done } }.setEvlInt 6

/-- A reset cuts the dump after `n` whole sections (R351). -/
def State.dumpCut (s : State) (n : Nat) : State :=
  match s.evl.dump with
  | none => s
  | some d => s.dumpWrite d (min n 9) false

end Sys2Proof.Machine
end

