-- ==== Sys2Proof/Machine/Reset.lean ====
section
/-!
DEFINITION. Resets, their hold and release, and debugger halts (01_architecture.md R14,
10_management_and_boot.md R305 to R307, 11_supervision.md R329, R334, R335, R337,
14_vault_and_security.md R420, 16_electrical_and_package.md R443, R447, R448, R451).
-/
namespace Sys2Proof.Machine

/-! ### What a reset cuts -/

/-- A fuse programming step after which no bit has taken. -/
def noBurn : Burn := { n0 := 2 ^ 64 - 1, n1 := 2 ^ 64 - 1, t0 := 2 ^ 64 - 1, t1 := 2 ^ 64 - 1 }

/-- Rows of a vault command as far as they got; the steps not made take nothing (R420, R448). -/
def Vlt.cutRows (v : Vlt) : List (Nat × Nat) → List Burn → Vlt
  | [], _ => v
  | (r, t) :: rest, bs =>
    let (v1, _, bs1) := v.program r t bs
    v1.cutRows rest bs1

/-- Boot step FLASH is in progress (R312, R322), and the directory that it reads. -/
def State.recovering (s : State) : Option Directory :=
  if s.sys.mode = .boot ∧ s.sys.boot.step = 3 ∧ ¬ s.sys.boot.ended then (s.dirPick s.sys.boot.variant).map s.dirRead
  else none

/-- Sectors that the operation in progress would program or erase: a firmware update (R319), a recovery write
(R317), a save (R404), or the recovery of boot step FLASH (R322). -/
def State.sectorsDue (s : State) : List (Nat × List Byte) :=
  match s.sys.mbox, s.recovering with
  | some (.fwUpdate addr len _ i), _ => sectorsOf (slotBase i) (padErased (rdBytes s.dram addr len) slotSize)
  | some (.recover i len got), _ =>
    if got < len then
      let a := slotBase i + got / sectorSize * sectorSize
      [(a, rdBytes s.flash a sectorSize)]
    else ((slotParts []).drop (divUp len sectorSize)).map fun x => (slotBase i + x.1 * sectorSize, x.2)
  | _, some d =>
    if s.thm.flashGate then
      ([0, 1].filter fun i => d.slot i = .writing).map fun i => (s.eraseOf i, erased sectorSize)
    else []
  | _, _ => if s.cal.saveMbox ∨ s.cal.state = .saving then s.savePlan.sectors else []

/-- The progress record of a firmware update or a recovery write names the sector in work and its erase or
program (R317, R321). -/
def State.cutRecord (s : State) (k : Nat) (erasing : Bool) : State :=
  match s.sys.mbox with
  | some (.fwUpdate _ _ _ i) => s.updPut (b2n (!erasing)) i k
  | some (.recover i len got) =>
    s.updPut (b2n (!erasing)) i (if got < len then got / sectorSize else divUp len sectorSize + k)
  | _ => s

/-- The directory copy that the operation in progress was writing holds what the reset left of it (R309, R448): for
an update or a recovery write that of its start, where no sector was done, or else that of its end. -/
def State.dirCut (s : State) (c : Cut) : State :=
  let put := fun (k : Nat) => match c.dir with
    | some b => { s with flash := wrSpan s.flash (k * sectorSize) (b.take sectorSize) }
    | none => s
  let k := s.sys.dir.copy
  match s.sys.mbox, s.recovering with
  | some (.fwUpdate _ _ _ _), _ | some (.recover _ _ _), _ => put (if c.sectors = 0 then k else 1 - k)
  | some (.fwActivate _), _ => put (1 - k)
  | _, some d => put (1 - d.copy)
  | _, _ => s

/-- Flash and fuses as a reset finds them (R404, R420, R448): what was programmed stays. -/
def State.interrupted (s : State) (c : Cut) : State :=
  let l := s.sectorsDue
  let s0 := (s.dirCut c).dumpCut c.dump
  let s1 := (s0.programSectors (l.take c.sectors)).cutRecord (min c.sectors (l.length - 1)) c.erasing
  let s2 :=
    match l.drop c.sectors with
    | [] => s1
    | x :: _ => { s1 with flash := wrSpan s1.flash x.1 (c.part_.take sectorSize) }
  match s2.vlt.run with
  | none => s2
  | some r => { s2 with vlt := s2.vlt.cutRows r.rows (c.burns ++ List.replicate 256 noBurn) }

/-! ### Triggers (R305 to R307) -/

/-- The block held in a power-on reset: all state clear but flash and fuses (R305, R448), and the pin as it is
(R447). -/
def State.cold (s : State) (until_ : Nat) : State :=
  { State.reset with
    pending := s.pending, now := s.now, draws := s.draws, flash := s.flash, part := s.part
    vlt := { fuses := s.vlt.fuses }
    sys := { phase := .held until_ true, pinRise := s.sys.pinRise } }

/-- The block held in a warm reset: what R306 keeps, and reset values for the rest. The frame regions
are due for reinitialisation (R14). -/
def State.warm (s : State) (until_ trigEnd causes last : Nat) : State :=
  { s.cold until_ with
    dram := s.dram, ret := s.ret
    str := { reinit := true }
    sys := { phase := .held until_ false, pinRise := s.sys.pinRise
             trigEnd := trigEnd, causeBits := causes, causeLast := last
             training := s.sys.training } }

/-- A supply rise or trip now, with the rails in range from `back` on: the hold ends 2.0 ms after that, or after a
`RESET_N` that is still low then has risen (R305, R443, R447). -/
def State.powerOn (s : State) (back : Nat) : State :=
  s.cold (max back s.sys.pinRise + ms 2)

/-- The watchdog record of R337. -/
def State.wdtRecord (s : State) : State :=
  let n := satAdd (rdLE s.ret 0x1040 2) 1 16
  let c := s.wdt.nmi % 4
  { s with ret := wrLE (wrLE (wrLE s.ret 0x1040 4 (n + at_ c 16)) 0x1044 4 s.wdt.nmi) 0x1048 4 s.wdt.periods }

/-- The hard timer ends in this MGTCLK cycle (R334). A freeze that begins in this cycle comes too late: the last
cycle of the timer is the one before (R9, R335). -/
def State.hardDue (s : State) : Bool :=
  match s.wdt.hardEnd with
  | some e => decide (e = s.mgt) && (match s.wdt.frozen with | some c => decide (e ≤ c) | none => true)
  | none => false

/-- Order of the warm causes in one cycle (R307): PIN, WDT, HOST, FW, which is that of their codes. A
trigger in the cycle of the first one counts for LAST. -/
def State.joinReset (s : State) (code : Nat) : State :=
  { s with sys := { s.sys with
      causeBits := s.sys.causeBits ||| 2 ^ code
      causeLast := if s.now < s.sys.trigEnd then min s.sys.causeLast code else s.sys.causeLast } }

/-- A warm reset trigger with cause `code` at this instant that ends at `end_` (R305, R307). During a
hold it is part of that reset; a power-on hold takes no warm cause, and a low `RESET_N` extends it
(R447). A watchdog whose hard timer ends in the cycle of the trigger triggers too (R307). -/
def State.warmReset (s : State) (code end_ : Nat) (c : Cut) : State :=
  match s.sys.phase with
  | .held u true =>
    if code = 1 then { s with sys := { s.sys with phase := .held (max u (end_ + ms 2)) true } } else s
  | .held u false =>
    let s1 := s.joinReset code
    { s1 with sys := { s1.sys with phase := .held (max u (end_ + us 10)) false } }
  | .run =>
    let both : Bool := code ≠ 2 && s.hardDue
    let i := (if both then s.wdtRecord else s).interrupted c
    let causes := i.sys.causeBits ||| 2 ^ code ||| flag both 2
    i.warm (end_ + us 10) (i.mgtInstant (i.mgt + 1)) causes (if both then min code 2 else code)

/-- A supply excursion: a rail is out of its monitor band for `outNs`, and every rail is back for good after
`backNs` (R443). One that is too short for a trip still breaks the 2.0 ms of a power-on hold. -/
def State.supplyTrip (s : State) (outNs backNs : Nat) (c : Cut) : State :=
  if outNs ≤ 2000 then
    match s.sys.phase with
    | .held u true =>
      let back := s.now + us (max outNs backNs) / 1000
      { s with sys := { s.sys with phase := .held (max u (back + ms 2)) true } }
    | _ => s
  else
    let t := s.now
    let s1 := (if s.sys.phase = .run then s.interrupted c else s).goTo (t + us 2)
    s1.powerOn (t + us (max outNs backNs) / 1000)

/-- `RESET_N` is low for `lowNs` (R305, R447): below 0.9 µs it is ignored and from 1 µs on it acts;
between them the manual leaves it open (log entry 10). -/
def State.pinReset (s : State) (lowNs : Nat) (c : Cut) : State :=
  let (r, s1) := if 900 ≤ lowNs ∧ lowNs < 1000 then s.draw else (0, s)
  let acts : Bool := 1000 ≤ lowNs || (900 ≤ lowNs && r.testBit 0)
  if acts then
    let t := s1.now + us lowNs / 1000
    let s2 := { s1 with sys := { s1.sys with pinRise := max s1.sys.pinRise t } }
    (s2.goTo (s2.now + us (min lowNs 1000) / 1000)).warmReset 1 t c
  else s1

/-- A write of `SYS_RESET_CTRL.KEY` (R305): the key resets with cause HOST or FW; another value is
ignored with a warning. -/
def State.resetWrite (s : State) (who : Who) (v : Word) (c : Cut) : State :=
  if wfield v 0 16 = 0xA5C3 then s.warmReset (if who = .host then 3 else 4) s.now c
  else s.ignored clsSYS who A.SYS_RESET_CTRL

/-- The hard timer ends: the watchdog reset (R334, R337). -/
def State.hardTimerEnd (s : State) (c : Cut) : State :=
  match s.wdt.hardEnd with
  | some e =>
    if s.wdt.frozen.any (· < e) then s
    else
      let s1 := (s.goMgt e).wdtRecord
      s1.warmReset 2 s1.now c
  | none => s

/-! ### Release (R306, R329, R447, R451) -/

/-- The hold ends: the straps are sampled, MC0 starts the boot ROM in BOOT on OSC50, and the watchdog
runs if the vault says so. -/
def State.resetRelease (s : State) (straps : Nat) (root : Bool) : State :=
  match s.sys.phase with
  | .run => s
  | .held u _ =>
    let s1 := s.goTo u
    let s2 := { s1 with
      sys := { s1.sys with phase := .run, release := s1.now, pinRoot := root }
      clk := { s1.clk with strap := straps % 4, mgtT := s1.now, mgtN := 0 } }
    if s2.vlt.hwStart then s2.wdtStartAt s2.mgt true else s2

/-! ### Debugger (R335, R426) -/

/-- A debugger halts core `core`; a disabled port cannot. -/
def State.debugHalt (s : State) (core : Nat) : State :=
  if ¬ s.vlt.debugEn ∨ 2 ≤ core then s
  else
    ({ s with sys := (if core = 0 then { s.sys with dbg0 := true } else { s.sys with dbg1 := true }) }).wdtFreeze

/-- A debugger lets core `core` go on. -/
def State.debugRelease (s : State) (core : Nat) : State :=
  let y := if core = 0 then { s.sys with dbg0 := false } else if core = 1 then { s.sys with dbg1 := false } else s.sys
  let s1 := { s with sys := y }
  if y.dbg0 ∨ y.dbg1 then s1 else s1.wdtThaw

end Sys2Proof.Machine
end

