-- ==== Sys2Proof/Machine/Access.lean ====
section
/-!
DEFINITION. Writes of the register map (15_register_map.md R432 to R436): field types (R5 to R8),
registers reserved for firmware (R294) and the DRAM window (R11 to R13, R352).
-/
namespace Sys2Proof.Machine

/-- RW bits of the plain registers of SYS, CLK, PLAN, TMG and CNV (R326, R288, R138, R70, R106). DESIGN CHOICE (log
entry 46): R138 calls `PLAN_FLASH_OFFSET` a multiple of 16 and gives its low four bits no rule of their own; they
are stored and used as written. -/
def rwLow (a : Nat) : Nat :=
  if a = A.SYS_INT_HOST_EN ∨ a = A.SYS_INT_MC0_EN ∨ a = A.SYS_INT_MC1_EN then 0x1FFFF
  else if a = A.SYS_INT_EN then 0x1FF
  else if a = A.SYS_DRAM_APERTURE then 0xF0000000
  else if A.SYS_MBOX_ARG0 ≤ a ∧ a ≤ A.SYS_MBOX_ARG3 then 0xFFFFFFFF
  else if a = A.SYS_BULK_BASE then 0xFFF00000
  else if a = A.SYS_BULK_LEN then 0xFFFFFFFF
  else if a = A.CLK_INT_EN then 0x3FF
  else if a = A.CLK_GL_CTRL then 1
  else if a = A.PLAN_COMMIT_FRAME ∨ a = A.PLAN_COMMIT_SEC_LO then 0xFFFFFFFF
  else if a = A.PLAN_COMMIT_SEC_HI then 0xFFFF
  else if a = A.PLAN_COMMIT_NS then 0x3FFFFFFF
  else if a = A.PLAN_INT_EN then 0x3F
  else if a = A.PLAN_FLASH_OFFSET then 0x3FFFFFF
  else if a = A.PLAN_RIG_ID ∨ a = A.PLAN_RIG_TARGET0 ∨ a = A.PLAN_RIG_TARGET1 then 0xFFFFFFFF
  else if a = A.TMG_FRAME_PRESET ∨ a = A.TMG_LIVE_TARGET then 0xFFFFFFFF
  else if a = A.TMG_GL_LIMIT then 0xFFFF
  else if a = A.TMG_INT_EN then 0xFF
  else if A.TMG_LSTG ≤ a ∧ a < A.TMG_LSTG + 192 then
    (match a % 16 with | 0 => 0xFFFFF | 4 => 0xFFFFF | 8 => 0x77 | 12 => 0xFFFF | _ => 0)
  else if a = A.CNV_ROT_CFG then 0xFFFF
  else if a = A.CNV_ECLIPSE then 0x1FF
  else if a = A.CNV_INT_EN then 0x3FF
  else if a = A.CNV_RETIRE then 0x1FFFFF
  else if a = A.CNV_TDAC_CTRL then 0x1FFFFFFF
  else if a = A.CNV_TDAC_MASK0 ∨ a = A.CNV_TDAC_MASK1 then 0xFFFFFFFF
  else 0

/-- RW bits of the plain registers of STR, LNK and FAB (R170, R197, R229, R231). -/
def rwStream (a : Nat) : Nat :=
  if a = A.STR_CMD then 0x7F7F
  else if a = A.STR_INT_EN ∨ a = A.STR_SINT_EN then 0x3F
  else if a = A.STR_PROXY_BASE ∨ a = A.STR_RECON_BASE then 0xFFFFF000
  else if a = A.LNK_INT_EN then 0x7F
  else if a = A.LNK_DEVICE then 0xFF
  else if a = A.LNK_DUMP_OFFSET then 0x3FFFFFF
  else if a = A.LNK_DUMP_LEN then 0x7FFFFFF
  else if a = A.LNK_DUMP_LANES0 then 0xFFFFFFFF
  else if a = A.LNK_DUMP_LANES1 then 0xFFFFFFF
  else if a = A.FAB_INT_EN then 0x1FFF
  else if a = A.FAB_PRX_CTRL then 0xFF
  else 0

/-- RW bits of the plain registers of TIME (R270), by offset in the block. -/
def rwTime (o : Nat) : Nat :=
  if o < 0x100 then
    (match o % 64 with
      | 0x18 => 0xFFFFFFFF | 0x20 => 0xFFFFFFFF | 0x24 => 0xFFFFFFFF | 0x28 => 0xFFFF
      | 0x2C => 0xFFFFFFFF | 0x30 => 0x3FFFFFFF | _ => 0)
  else if o < 0x180 then (match o % 64 with | 0x04 => 0xFFF | 0x0C => 0xFFFF | _ => 0)
  else if 0x200 ≤ o ∧ o < 0x260 then (match o % 32 with | 0x00 => 0xFFF0FFF | 0x04 => 0xFFFFFFFF | _ => 0)
  else if 0x300 ≤ o ∧ o < 0x500 then
    (match o % 64 with
      | 0x08 => 0xFFFF | 0x0C => 0xFFFFFFFF | 0x10 => 0x3FFFFFFF | 0x14 => 0xFFFF
      | 0x18 => 0xFFFFFFFF | 0x1C => 0x3FFFFFFF | 0x20 => 0xFFFF | 0x24 => 0xFFFFFFFF | _ => 0)
  else if o = 0x708 then 0x7FF
  else if o = 0x714 then 0xFFFFFFFF
  else 0

/-- RW bits of the plain registers of MON, THM, WDT, VLT, SEC, EVL and CAL (R366, R382, R353, R430, R431,
R230, R354, R406). -/
def rwSuper (a : Nat) : Nat :=
  if a = A.MON_TAP then 0x3FF
  else if a = A.MON_INT_EN then 0x1F
  else if A.MON_CAL ≤ a ∧ a < A.MON_CAL + 64 then 0xFFFFFF
  else if a = A.THM_INT_EN then 0x1FF
  else if a = A.WDT_INT_EN then 7
  else if a = A.VLT_CMD_ARG then 0xFF
  else if a = A.VLT_CMD_DATA_LO ∨ a = A.VLT_CMD_DATA_HI then 0xFFFFFFFF
  else if a = A.VLT_INT_EN then 0x1F
  else if a = A.VLT_OVR_CTRL then 1
  else if a = A.SEC_IDK_ADDR then 0xFFFFFFFF
  else if a = A.SEC_INT_EN then 7
  else if A.SEC_ATT_NONCE ≤ a ∧ a < A.SEC_ATT_NONCE + 32 then 0xFFFFFFFF
  else if a = A.SEC_SEAL_INT_EN then 0x1F
  else if a = A.EVL_CTRL then 0xFF01
  else if a = A.EVL_INT_EN then 0x7F
  else if a = A.EVL_SUM_CTRL then 0xFFFF3F07
  else if a = A.EVL_DUMP_ARG then 0xFFFFFFFF
  else if a = A.CAL_RUN_MASK then 0xF
  else if a = A.CAL_DEFER then 0x3FF
  else if a = A.CAL_INT_EN then 0xFF
  else if a = A.CAL_EQ_LANES0 then 0xFFFFFFFF
  else if a = A.CAL_EQ_LANES1 then 0xFFFFFFF
  else 0

/-- RW bits of a register without behaviour of its own; the other bits are reserved or read-only and
no write changes them (R5, R8). -/
def rwMask (a : Nat) : Nat :=
  if a < 0x60000 then rwLow a
  else if a < 0x320000 then rwStream a
  else if a < 0x330000 then rwTime (a - 0x320000)
  else rwSuper a

/-- Interrupt status registers kept as plain RWC words. -/
def rwcRegs : List Nat :=
  [A.SYS_INT_STATUS, A.CLK_INT_STATUS, A.PLAN_INT_STATUS, A.TMG_INT_STATUS, A.CNV_INT_STATUS,
   A.STR_INT_STATUS, A.STR_SINT_STATUS, A.LNK_INT_STATUS, A.FAB_INT_STATUS, A.TIME_INT_STATUS,
   A.MON_INT_STATUS, A.THM_INT_STATUS, A.WDT_INT_STATUS, A.VLT_INT_STATUS, A.SEC_INT_STATUS,
   A.SEC_SEAL_INT_STATUS, A.CAL_INT_STATUS]

/-! ### Registers reserved for firmware (R294) -/

/-- MON registers (R381). -/
def monAssigned (a : Nat) : Bool :=
  decide (a ≤ A.MON_OVR_CNT) || (decide (A.MON_CAL ≤ a) && decide (a < A.MON_CAL + 64)) ||
    (decide (A.MON_CH ≤ a) && decide (a < A.MON_CH + 1024) && decide ((a - A.MON_CH) % 32 ≤ 0x14))

/-- What a host write to the monitor converter may do (R364): every other register of the block is the firmware's
(R381), and an address that holds none follows R8. -/
def State.monHostMay (s : State) (a : Nat) (v : Word) : Bool :=
  if a = A.MON_INT_STATUS ∨ a = A.MON_INT_EN then true
  else if a = A.MON_SEL ∨ a = A.MON_FILT ∨ a = A.MON_TAP ∨ a = A.MON_ACC_CLR then s.rb A.MON_CTRL 3
  else if a = A.MON_CTRL then
    s.rb A.MON_CTRL 3 && !wbit v 0 && decide (v.toNat &&& 0xC = s.rn A.MON_CTRL &&& 0xC)
  else !monAssigned a

/-- THM registers (R382): the word between `THM_FAIL_EXT` and `THM_EXT_CFG` is unassigned. -/
def thmAssigned (a : Nat) : Bool :=
  decide (a ≤ A.THM_FAIL_EXT) || (decide (A.THM_EXT_CFG ≤ a) && decide (a ≤ A.THM_TH2_PARAM)) || (decide (A.THM_S ≤ a) && decide (a < A.THM_S + 272)) ||
    (decide (A.THM_THR ≤ a) && decide (a < A.THM_THR + 272))

/-- VLT registers that the host control port may write (R430): VENDOR words are rows 0 to 63. -/
def vltHostMay (a : Nat) : Bool :=
  [A.VLT_CMD, A.VLT_CMD_ARG, A.VLT_CMD_DATA_LO, A.VLT_CMD_DATA_HI, A.VLT_INT_STATUS, A.VLT_INT_EN,
    A.VLT_OVR_CTRL].contains a || (decide (A.VLT_SHADOW ≤ a) && decide (a < A.VLT_SHADOW + 512))

/-- VLT registers (R430). -/
def vltAssigned (a : Nat) : Bool :=
  decide (a ≤ A.VLT_OVR_CTRL) || (decide (A.VLT_MARGINAL ≤ a) && decide (a < A.VLT_MARGINAL + 32)) ||
    (decide (0x360080 ≤ a) && decide (a < 0x3600C0)) ||
    (decide (A.VLT_SHADOW ≤ a) && decide (a < A.VLT_SHADOW + 2048))

/-- A host write that R294 turns away in MON, THM, WDT, VLT or EVL; SYS and SEC judge their own. -/
def State.hostDenied (s : State) (a : Nat) (v : Word) : Bool :=
  match a / 0x10000 with
  | 0x33 => !s.monHostMay a v
  | 0x34 => thmAssigned a && a ≠ A.THM_INT_STATUS && a ≠ A.THM_INT_EN
  | 0x35 => [A.WDT_CTRL, A.WDT_CFG, A.WDT_MASK, A.WDT_TALLY].contains a
  | 0x36 => vltAssigned a && !vltHostMay a
  | 0x38 => [A.EVL_CTRL, A.EVL_DUMP_CTRL, A.EVL_DUMP_ARG, A.EVL_FW_ENTRY, A.EVL_FW_DETAIL].contains a
  | _ => false

/-! ### Words -/

/-- A write of PLAN registers with behaviour of their own (R138); a rig commit that it cancels owes
its completion at once (R136). -/
def State.planWrite (s : State) (who : Who) (a : Nat) (v : Word) : Option State :=
  if a = A.PLAN_COMMIT_CTRL then some (s.commitCtrlWrite who v).rigFlush
  else if a = A.PLAN_LOAD_CTRL then some (s.loadCtrlWrite who v)
  else if a = A.PLAN_LOAD_DATA then some (s.loadDataWrite who v)
  else if a = A.PLAN_RIG_CTRL then some (s.rigCtrlWrite v)
  else none

/-- The behaviour that a home chapter gives a write, if it gives one; a time base that stops ends a rig
commit, whose completion leaves at once (R128, R136). -/
def State.homeWrite (s : State) (who : Who) (a : Nat) (v : Word) : Option State :=
  match a / 0x10000 with
  | 0x00 => some s
  | 0x01 => if a = A.SYS_RESET_CTRL then some (s.resetWrite who v {}) else s.sysWrite who a v
  | 0x02 => s.clkWrite who a v
  | 0x03 => s.planWrite who a v
  | 0x04 => s.tmgWrite who a v s.fgRuns
  | 0x05 => s.cnvWrite who a v
  | 0x30 => s.lnkWrite who a v
  | 0x31 => s.fabWrite a v
  | 0x32 => (s.timeWrite who a v).map State.rigFlush
  | 0x33 => s.monWrite who a v
  | 0x34 => s.thmWrite who a v
  | 0x35 => s.wdtWrite who a v
  | 0x36 => s.vltWrite who a v
  | 0x37 => s.secWrite who a v
  | 0x38 => s.evlWrite who a v
  | 0x39 => s.calWrite a v
  | _ => s.strWrite who a v

/-- RW bits of a register with behaviour of its own, whose home chapter keeps them in its word. -/
def homeMask (a : Nat) : Nat :=
  match a / 0x10000 with
  | 0x01 => if a = A.SYS_MODE_REQ then 7 else if a = A.SYS_BULK_CTRL then 0x3F01 else 0
  | 0x02 => if a = A.CLK_CTRL then 1 else if a = A.CLK_LPLL_EN then 0xFFFF else 0
  | 0x03 =>
    if a = A.PLAN_COMMIT_CTRL then 0x67 else if a = A.PLAN_LOAD_CTRL then 1 else if a = A.PLAN_RIG_CTRL then 0xE else 0
  | 0x04 => if a = A.TMG_LIVE_CTRL then 0x0FFF0002 else 0
  | 0x05 => if a = A.CNV_CTRL then 1 else 0
  | 0x30 => if A.LNK_EQ ≤ a ∧ a < A.LNK_EQ + 240 then 0xFFF else 0
  | 0x31 => if a = A.FAB_CTRL then 0x70 else if a = A.FAB_PRX_BASE ∨ a = A.FAB_FWD_BASE then 0xFFFFF000 else 0
  | 0x32 =>
    let o := a - 0x320000
    if o < 0x100 ∧ o % 64 = 0 then (if o < 0x80 then 9 else 1)
    else if o < 0x100 ∧ o % 64 = 0x1C then 0xFFFFFFFF
    else if o = 0x100 ∨ o = 0x140 then 0xFFFFF3FF
    else if 0x300 ≤ o ∧ o < 0x500 ∧ o % 64 = 0 then (if o < 0x400 then 0x7C else 0x3C)
    else if o = 0x600 ∨ o = 0x620 ∨ o = 0x640 then 0x1F else 0
  | 0x33 => if a = A.MON_CTRL then 0xC else if a = A.MON_SEL then 0x371F else if a = A.MON_FILT then 0xFFFFFFF else 0
  | 0x34 => thmLockBits a
  | 0x35 => if a = A.WDT_CFG then 0x3FFFFFFF else if a = A.WDT_MASK then 0xFFFF else 0
  | 0x37 => if a = A.SEC_SEAL_CTRL then 0x1FF01 else 0
  | 0x39 => if a = A.CAL_CFG then 0x01FFFFFF else if a = A.CAL_EQ_CTRL then 0x7F00 else 0
  | _ => if a = A.STR_CTRL then 8 else if a = A.STR_STAT_CTRL then 1 else 0

/-- Such a register stores its RW bits on every write that its writer may make, whatever else holds. -/
def homeStores (who : Who) (a : Nat) : Bool :=
  if [A.SYS_BULK_CTRL, A.CLK_CTRL, A.CLK_LPLL_EN, A.MON_CTRL, A.STR_CTRL].contains a then who ≠ .host
  else homeMask a ≠ 0 && !([0x30, 0x33, 0x34, 0x35].contains (a / 0x10000))

/-- What a write of `v` by `who` brings to a register with behaviour of its own: the RW bits of a writer that
comes later in the order of R290 stand in place of its own. -/
def State.standing (s : State) (who : Who) (a : Nat) (v : Word) : Word :=
  if s.outranked who a then mkWord ((v.toNat - (v.toNat &&& homeMask a)) ||| (s.rn a &&& homeMask a)) else v

/-- The instant of a write to a register whose writes only start, stop or clear something: one that R290 puts before
a write already made in this cycle falls in the next cycle (log entry 40). `VLT_CMD` (R418) and `SYS_SERVICE` (R300)
keep their own order. -/
def State.turn (s : State) (who : Who) (a : Nat) : State :=
  if homeMask a = 0 ∧ s.outranked who a ∧ a ≠ A.SYS_SERVICE ∧ a ≠ A.VLT_CMD then s.goMgt (s.mgt + 1) else s

/-- The writer of a register with behaviour of its own is on record (R290), that of one with RW bits where it
stored them; `t` is what the write makes of `s`. -/
def State.wroteBy (t s : State) (who : Who) (a : Nat) : State :=
  if homeMask a ≠ 0 ∧ (s.outranked who a ∨ (homeStores who a = false ∧ t.reg a = s.reg a)) then t
  else if a = A.SYS_SERVICE ∨ a = A.VLT_CMD then t
  else t.markWriter who a

/-- A write of the whole word of a register (R5, R8, R290, R294). -/
def State.regWrite (s : State) (who : Who) (a : Nat) (v : Word) : State :=
  if who = .host ∧ s.hostDenied a v then s.denied ((blockClass a).getD clsSYS) who a
  else
    match (s.turn who a).homeWrite who a (s.standing who a v) with
    | some s' => s'.wroteBy s who a
    | none =>
      if rwcRegs.contains a then s.clrReg a v.toNat
      else if rwMask a = 0 then s
      else s.storeBy who a (v.toNat &&& rwMask a)

/-- Width of an access in bytes: 1, 2 or 4, and always 4 at the host control port (R434). -/
def accessSize (who : Who) (size : Nat) : Nat :=
  if who = .host then 4 else if size = 1 then 1 else if size = 2 then 2 else 4

/-- A write to the retained SRAM (R327): firmware writes `RET_UPD` and its own area; reserved bytes
stay 0; any other write is ignored with a warning. -/
def State.retWrite (s : State) (who : Who) (a n : Nat) (v : Word) : State :=
  let o := a - 0x400000
  if who = .host then s.ignored clsSYS who a
  else if (0x1000 ≤ o ∧ o < 0x1004) ∨ (0x1100 ≤ o ∧ o < 0x2000) then s.retPut o n (v.toNat % 2 ^ (8 * n))
  else if 0x1008 ≤ o ∧ o < 0x1040 then s
  else s.ignored clsSYS who a

/-- A write through the DRAM window (R11 to R13, R352): the frame regions and the dump region are
never written, the maps region by the host only in STANDBY and CALIBRATE. -/
def State.dramWrite (s : State) (who : Who) (base a n : Nat) (v : Word) : State :=
  let d := dramAddr base a
  let mapsShut := who = .host ∧ ¬ (s.sys.mode = .standby ∨ s.sys.mode = .calibrate)
  if d < 0x83E00000 ∨ 0xFC000000 ≤ d ∨ (0xEC000000 ≤ d ∧ mapsShut) then s.ignored clsSYS who a
  else { s with dram := wrLE s.dram d n (v.toNat % 2 ^ (8 * n)) }

/-- A write of `v` at `addr` by `who` with DRAM aperture `base` (R433, R434). The low address bits below the width do not count in
RET and the DRAM window; elsewhere a narrow or misaligned firmware write is ignored with a
warning. -/
def State.write (s : State) (who : Who) (base addr size : Nat) (v : Word) : State :=
  let n := accessSize who size
  let a := addr / n * n
  if inDramWin a then s.dramWrite who base a n v
  else
    match blockClass a with
    | none => if who = .host then s.portError 2 else s.ignored clsSYS who a
    | some c =>
      if inRet a then s.retWrite who a n v
      else if who ≠ .host ∧ (n ≠ 4 ∨ addr % 4 ≠ 0) then s.ignored c who addr
      else if 0x600000 ≤ a then s.winWrite who a v s.fgRuns
      else if 0x400000 ≤ a ∨ (0x200000 ≤ a ∧ a < 0x300000) then s
      else s.regWrite who a v

end Sys2Proof.Machine
end

