-- ==== Sys2Proof/Machine/Port.lean ====
section
/-!
DEFINITION. The host control port (10_management_and_boot.md R291 to R295): its transactions and
what it sends back.
-/
namespace Sys2Proof.Machine

/-- The address of the word after the one at `a` (R291). -/
def nextAddr (a : Nat) : Nat := if dataPort a then a else (a + 4) % 2 ^ 32

/-- The end of one access within a burst: its events are entered, and a cycle of MGTCLK passes before
the next one (log entry 2). -/
def State.nextAccess (s : State) : State := let s1 := s.fin; s1.goMgt (s1.mgt + 1)

/-- The device is out of reset. -/
def State.released (s : State) : Bool := s.sys.phase = .run

/-- The words of a WRITE from address `a` (R291); what follows a reset that one of them makes is lost. -/
def State.portWords (s : State) (base a : Nat) : List Word → State
  | [] => s
  | w :: r =>
    if ¬ s.released then s
    else
      let s1 := s.write .host base a 4 w
      if r = [] then s1 else s1.nextAccess.portWords base (nextAddr a) r

/-- A WRITE (R291). `partial_`: the transaction ends within a further word, which is discarded. -/
def State.portWrite (s : State) (addr : Nat) (data : List Word) (partial_ : Bool) : State :=
  let s1 := s.portWords (s.aperture .host 0) (addr / 4 * 4) data
  if partial_ ∧ s1.released then s1.portError 1 else s1

/-- `n` words of a READ from address `a`, newest last, with the numbers of the words that a ready token comes
before (R291, R292). -/
def State.portReads (s : State) (base a : Nat) (first : Bool) : Nat → List Word × List Nat × State
  | 0 => ([], [], s)
  | n + 1 =>
    let token : Bool := first || sideEffect a || (inDramWin a && a % 4096 = 0)
    let x := s.readWord .host base a
    let s1 := if n = 0 then x.2 else x.2.nextAccess
    let y := s1.portReads base (nextAddr a) false n
    (mkWord x.1 :: y.1, (if token then [0] else []) ++ y.2.1.map (· + 1), y.2.2)

/-- A READ of `n` words (R291, R292); a word whose first bit went out counts. `partial_`: it ends within
the last one. -/
def State.portRead (s : State) (addr n : Nat) (partial_ : Bool) : State :=
  let x := s.portReads (s.aperture .host 0) (addr / 4 * 4) true n
  let s1 := x.2.2
  let s2 := { s1 with sys := { s1.sys with portOut := x.1, portTokens := x.2.1 } }
  if partial_ then s2.portError 1 else s2

/-- The STATUS byte (R293). -/
def State.statusByte (s : State) : Byte :=
  BitVec.ofNat 8 (1 + flag (s.sys.portErr ≠ 0) 1 + flag s.intN 2 + flag (s.sys.mode = .boot) 3)

/-- A STATUS transaction; while held in reset the data lines stay undriven (R293). -/
def State.portStatus (s : State) : State :=
  { s with sys := { s.sys with statusOut := if s.released then some s.statusByte else none } }

/-- An opcode that is none of R291 (R294). -/
def State.portUnknown (s : State) (op : Byte) : State :=
  if op = 0x02 ∨ op = 0x0B ∨ op = 0x05 then s else s.portError 0

end Sys2Proof.Machine
end

