-- ==== Sys2Proof/Machine/Cmd.lean ====
section
/-!
DEFINITION. What the meanings of commands share: nothing happens while the block is held in reset,
and a command that stands for a register access is that access (log entry 1).
-/
namespace Sys2Proof.Machine

/-- A command of a block that is out of reset; while it is held in reset the command has no effect
(R305). -/
def act (s : State) (f : State) : Out := if s.released then ok f else .next s

/-- A register word with bit `i` written as 1. -/
def force (w : Word) (i : Nat) : Word := w ||| mkWord (2 ^ i)

/-- A write of the register at `a`. -/
def State.poke (s : State) (who : Who) (a : Nat) (w : Word) : State := s.write who (s.aperture who 0) a 4 w

/-- A read of `size` bytes at `addr`: the addressed bytes of the word, with its side effects; below the width of the
access the address bits do not count (R434; log entry 36). -/
def State.readPart (s : State) (who : Who) (base addr size : Nat) : Nat × State :=
  let n := accessSize who size
  let x := s.readWord who base addr
  (x.1 / 2 ^ (8 * (addr % 4 / n * n)) % 2 ^ (8 * n), x.2)

/-- A read of the register at `a` by `r`: the value goes to the host control port or to the core (R434, R436). -/
def State.fetch (s : State) (r : Reader) (a : Nat) : State :=
  let who := r.who
  let x := s.readPart who (s.aperture who 0) (a + r.off.val) r.size
  let v := mkWord x.1
  let y := x.2.sys
  { x.2 with sys := (match who with
    | .host => { y with portOut := [v], portTokens := [0] }
    | .mc0 => { y with coreRead0 := v }
    | .mc1 => { y with coreRead1 := v }) }

/-- A mailbox command: its arguments stand in their registers when the opcode is written (R301). -/
def State.mail (s : State) (who : Who) (op : Nat) (args : List Word) : State :=
  (args.zipIdx.foldl (fun (a : State) x => a.setRn (A.SYS_MBOX_ARG0 + 4 * x.2) x.1.toNat) s).poke who
    A.SYS_MBOX_CMD (mkWord op)

/-- A vault command: its argument stands in its register when the opcode is written (R418). -/
def State.vault (s : State) (who : Who) (op arg : Nat) : State :=
  (s.setRn A.VLT_CMD_ARG (arg % 256)).poke who A.VLT_CMD (mkWord op)

/-- The data words of MINT, written before its opcode (R419); a command of the same cycle whose place it takes has
ended by then, with the data registers that it cleared (R418). -/
def State.vaultData (s : State) (who : Who) (lo hi : Word) : State :=
  ((s.vaultYield who).setRn A.VLT_CMD_DATA_LO lo.toNat).setRn A.VLT_CMD_DATA_HI hi.toNat

/-- A word of `SYS_ALARM_ACK` (R302). -/
def ackWord (action unit : Nat) : Word := mkWord (action + at_ (unit % 2 ^ 24) 8)

/-- A write of `SYS_RESET_CTRL` (R305). A reset may join one that a trigger in the same cycle began
(R307). -/
def State.resetOut (s : State) (who : Who) (w : Word) (cut : Cut) : State :=
  if s.released ∨ wfield w 0 16 = 0xA5C3 then s.resetWrite who w cut else s

/-- A frame is complete, and its proxy goes to the fabric (R24, R248). -/
def State.frameDone (s : State) : State :=
  let x := s.frameComplete
  match x.2 with
  | none => x.1
  | some n => match x.1.frame? n with | some f => x.1.offerProxy f | none => x.1

/-- The checks of a bank end with the keys of the vault (R124, R425). -/
def State.planChecked (s : State) : State :=
  (s.checkDone (s.vlt.findSlot s.vlt.planOk) s.vlt.planSig).attChecked

/-- An edge at the TRIG input at instant `edge`, which R55 recognises after it has been held for 30 ns. DESIGN CHOICE
(log entry 46): whether the sequencer is ARMED is judged when the edge is recognised, not at the edge; the grid is
placed from the edge. -/
def State.trigPin (s : State) (edge : Nat) : State := (s.goTo (edge + ns30)).trigger .pin edge s.fgRuns

/-- The summary that is due (R346): for a new FAULT as soon as 10 ms have passed since the last summary,
else the periodic one, an interval after the last periodic one and 10 ms after any other. -/
def State.summarySend (s : State) : State :=
  if ¬ s.rb A.EVL_SUM_CTRL 0 ∨ s.fab.addr.isNone then s
  else
    let fault := s.evl.sumFault
    let s0 := match s.evl.sumLast with | some t => s.goTo (t + ms 10) | none => s
    let s1 := match s.evl.sumPer with
      | some t => if fault then s0 else s0.goTo (t + ms (s.rf A.EVL_SUM_CTRL 16 16))
      | none => s0
    let s2 := { s1 with evl := { s1.evl with
      sumLast := some s1.now, sumPer := if fault then s1.evl.sumPer else some s1.now, sumFault := false } }
    let dst : Option Nat := if s.rb A.EVL_SUM_CTRL 1 then none else some (s.rf A.EVL_SUM_CTRL 8 6)
    s2.summaryOut dst (if fault then 2 else 1)

end Sys2Proof.Machine
end

