-- ==== Sys2Proof/Machine/CmdCal.lean ====
section
/-!
DEFINITION. Meanings of the commands of calibration (R384 to R406).
-/
namespace Sys2Proof.Machine

/-- GRANT: `CAL_CTRL.GRANT` (R388). -/
def execGrant (who : Who) (w : Word) (s : State) : Out := act s (s.poke who A.CAL_CTRL (force w 0))

/-- DEFER: `CAL_CTRL.DEFER` (R388). -/
def execDefer (who : Who) (w : Word) (s : State) : Out := act s (s.poke who A.CAL_CTRL (force w 1))

/-- RUN_GO: `CAL_CTRL.RUN_GO` (R386). -/
def execRunGo (who : Who) (w : Word) (s : State) : Out := act s (s.poke who A.CAL_CTRL (force w 2))

/-- CAL_ANSWER_TIMEOUT: The answer timer ends (R388). -/
def execCalAnswerTimeout (s : State) : Out := act s s.calAnswerEnd

/-- CAL_DEFER_END: The deferred start or the bound of 60 s is reached (R388). -/
def execCalDeferEnd (s : State) : Out := act s s.calDeferEnd

/-- CAL_HOLDOFF_END: The holdoff of 10 s ends (R384). -/
def execCalHoldoffEnd (s : State) : Out := act s s.calHoldoffEnd

/-- CAL_CLOCK_TIMEOUT: PLL1 is not LOCKED 1 s after CALIBRATE (R385). -/
def execCalClockTimeout (s : State) : Out := act s s.calClockEnd

/-- FG_CNV_PASSES_DONE: Both passes of the FG_CNV run are complete (R393 to R396). -/
def execFgCnvPassesDone (slices : List SliceCal) (refs : List RefCal) (spur rms : List SliceLevel) (s : State) : Out :=
  act s (s.fgPasses slices refs spur rms)

/-- CAL_EQ_EYE_WRITE: `CAL_EQ_EYE` (R397). -/
def execCalEqEyeWrite (who : Who) (w : Word) (s : State) : Out := act s (s.poke who A.CAL_EQ_EYE w)

/-- STEP_DONE: `CAL_EQ_CTRL.STEP_DONE` (R397). -/
def execStepDone (who : Who) (w : Word) (s : State) : Out := act s (s.poke who A.CAL_EQ_CTRL (force w 0))

/-- CAL_EQ_STEP_TIMEOUT: No STEP_DONE for 100 ms (R397). -/
def execCalEqStepTimeout (s : State) : Out := act s s.eqTimeout

/-- DARK_RUN_DONE: The DARK run ends with these measurements (R399). -/
def execDarkRunDone (light : DarkLevel) (cols : List ColMeas) (pix : List PixMeas) (s : State) : Out :=
  act s (s.darkDone light cols pix)

/-- CAL_SAVE_DONE: A calibration store save ends; `stop` says what ended it early, a flash error or the
closed gate, and after how many whole sectors (R404, R380). -/
def execCalSaveDone (stop : Option FlashStop) (s : State) : Out := act s (s.saveDone stop)

end Sys2Proof.Machine
end

