-- ==== Sys2Proof/Machine/CmdClock.lean ====
section
/-!
DEFINITION. Meanings of the commands of clocks (R273 to R282).
-/
namespace Sys2Proof.Machine

/-- REFCLK_MONITOR_WINDOW: A window of 1024 OSC50 cycles ends with `edges` edges of REFCLK (R273). -/
def execRefclkMonitorWindow (edges : Nat) (s : State) : Out := act s (s.refWindow edges)

/-- REFCLK_EDGE_TIMEOUT: No edge of REFCLK for 50 OSC50 cycles after instant `lastEdge` (R273, R282). -/
def execRefclkEdgeTimeout (lastEdge : Nat) (s : State) : Out := act s (s.refTimeout lastEdge)

/-- The next tick is an FT in the SEQCLK cycle of instant `t` (R283). -/
def State.ftBeside (s : State) (t : Nat) : Bool :=
  let o := s.clk.seqOrg % Config.seqTU
  s.ticking && s.tmg.nextIsFT && decide ((s.seqEdge s.tmg.nextSft - o) / Config.seqTU = (t - o) / Config.seqTU)

/-- PLL_LOCK_WINDOW: A lock window of a PLL ends with its count of cycles of the divided VCO (R274, R275). An FT in the SEQCLK cycle in which PLL1 loses its lock still occurs first (R283). -/
def execPllLockWindow (pll : Fin 18) (win : LockCount) (s : State) : Out :=
  let t := s.pllWindow pll.val win.div win.count
  let lost : Bool := pll.val = 1 && s.locked 1 && !t.locked 1
  let t1 := if lost && s.ftBeside (s.windowEnd 1)
    then State.pllWindow { s.frameTick with now := s.windowEnd 1 } pll.val win.div win.count else t
  act s t1.calAfter

/-- PLL_ACQ_SLOW: A PLL has been in ACQUIRE for 20 ms (R275). -/
def execPllAcqSlow (pll : Fin 18) (s : State) : Out := act s (s.acqSlow pll.val)

/-- PLL1_ENABLE_WRITE: `CLK_CTRL.PLL1_EN` (R276). -/
def execPll1EnableWrite (who : Who) (w : Word) (s : State) : Out := act s (s.poke who A.CLK_CTRL w)

/-- LPLL_ENABLE_WRITE: `CLK_LPLL_EN` (R281). -/
def execLpllEnableWrite (who : Who) (w : Word) (s : State) : Out := act s (s.poke who A.CLK_LPLL_EN w)

end Sys2Proof.Machine
end

