-- ==== Sys2Proof/Machine/CmdConv.lean ====
section
/-!
DEFINITION. Meanings of the commands of the converter fabric (R98 to R109).
-/
namespace Sys2Proof.Machine

/-- RETIRE_GO: `CNV_CTRL.RETIRE_GO` (R100). -/
def execRetireGo (who : Who) (w : Word) (s : State) : Out := act s (s.poke who A.CNV_CTRL (force w 2))

/-- TDAC_GO: `CNV_CTRL.TDAC_GO` (R103). -/
def execTdacGo (who : Who) (w : Word) (s : State) : Out := act s (s.poke who A.CNV_CTRL (force w 1))

/-- TDAC_INJECTION_START: An injection that waits starts (R103). -/
def execTdacInjectionStart (s : State) : Out := act s s.tdacStart

/-- TDAC_INJECTION_DONE: The injection completes (R104). -/
def execTdacInjectionDone (convs : List TdacConv) (s : State) : Out := act s (s.tdacDone convs)

/-- CNV_CNT_CLR: `CNV_CTRL.CNT_CLR` (R107). -/
def execCnvCntClr (who : Who) (w : Word) (s : State) : Out := act s (s.poke who A.CNV_CTRL (force w 3))

/-- SLICE_WINDOW_WRITE: A word of the slice-correction window, at byte offset `off` (R109). -/
def execSliceWindowWrite (who : Who) (off : Nat) (v : Word) (s : State) : Out :=
  act s (s.poke who (0x600000 + off % 0x100000) v)

/-- SLICE_WORD0_READ: Word 0 of the entry of slice 41 860·bank + 130·group + position is read (R109, R436). -/
def execSliceWord0Read (r : Reader) (slice : Nat) (s : State) : Out :=
  act s (s.fetch r (0x600000 + 8 * (slice % 83720)))

end Sys2Proof.Machine
end

