-- ==== Sys2Proof/Machine/CmdFabric.lean ====
section
/-!
DEFINITION. Meanings of the commands of the rig fabric (R231 to R252, R303, R304, R346, R347).
-/
namespace Sys2Proof.Machine

/-- LINKINFO_SEND: A port sends its LINKINFO block (R233). -/
def execLinkinfoSend (port : Nat) (s : State) : Out := act s (s.linkinfoSend port)

/-- LINKINFO: A LINKINFO block arrives (R233). -/
def execLinkinfo (port peerPort peerAddr : Nat) (valid : Bool) (serial : Nat) (s : State) : Out :=
  act s (s.linkinfo port peerPort peerAddr valid serial)

/-- PORT_UP: A port in TRAIN goes UP (R233). -/
def execPortUp (port : Nat) (s : State) : Out := act s (s.portUpEvent port)

/-- PORT_DOWN: A port loses block lock, or LINKINFO past its timeout (R233, R245). -/
def execPortDown (port : Nat) (lockLost : Bool) (s : State) : Out := act s (s.portDown port lockLost)

/-- FABRIC_FRAME_SEND: The next frame starts on a port (R236). -/
def execFabricFrameSend (port : Nat) (s : State) : Out := act s (s.frameSend port)

/-- FABRIC_FRAME_FORWARD: A frame arrives and is forwarded or discarded (R235). -/
def execFabricFrameForward (port : Nat) (body : List Byte) (s : State) : Out :=
  act s (s.fabReceive port body)

/-- ACK: An ACK block arrives (R237). -/
def execAck (port cls fseq : Nat) (s : State) : Out := act s (s.ackBlock port cls fseq)

/-- NAK: A NAK block arrives (R237). -/
def execNak (port cls fseq : Nat) (s : State) : Out := act s (s.nakBlock port cls fseq)

/-- HOP_ACK_TIMEOUT: No ACK for 20 µs (R237). -/
def execHopAckTimeout (port : Nat) (s : State) : Out := act s (s.hopTimeout port)

/-- PROBE: A PROBE message arrives (R240). -/
def execProbe (port : Nat) (body : List Byte) (s : State) : Out := act s (s.receiveIf port body 1 (some 1))

/-- REPORT: A REPORT message arrives (R240). -/
def execReport (port : Nat) (body : List Byte) (s : State) : Out := act s (s.receiveIf port body 1 (some 2))

/-- PROBE_TIMEOUT: A probe has no REPORT after 100 µs (R240). -/
def execProbeTimeout (s : State) : Out := act s s.probeTimeout

/-- ASSIGN: An ASSIGN message arrives (R243). -/
def execAssign (port : Nat) (body : List Byte) (s : State) : Out := act s (s.receiveIf port body 1 (some 3))

/-- ASSIGN_ACK: An ASSIGN_ACK message arrives (R244). -/
def execAssignAck (port : Nat) (body : List Byte) (s : State) : Out :=
  act s (s.receiveIf port body 1 (some 4))

/-- LINK_EVENT: A LINK_EVENT message arrives (R245). -/
def execLinkEvent (port : Nat) (body : List Byte) (s : State) : Out :=
  act s (s.receiveIf port body 1 (some 5))

/-- PARTITION: A PARTITION message arrives (R246). -/
def execPartition (port : Nat) (body : List Byte) (s : State) : Out :=
  act s (s.receiveIf port body 1 (some 6))

/-- DISC_GO: `FAB_CTRL.DISC_GO` (R240). -/
def execDiscGo (who : Who) (w : Word) (s : State) : Out := act s (s.poke who A.FAB_CTRL (force w 0))

/-- YIELD: `FAB_CTRL.YIELD` (R241). -/
def execYield (who : Who) (w : Word) (s : State) : Out := act s (s.poke who A.FAB_CTRL (force w 2))

/-- FIRMWARE_CONTROL_MESSAGE: A control message for MC1 arrives (R239). -/
def execFirmwareControlMessage (port : Nat) (body : List Byte) (s : State) : Out :=
  act s (if fb body 6 2 / 256 = 1 then s.receiveIf port body 1 none else s)

/-- EVENT_SUMMARY: An EVENT_SUMMARY message arrives (R347). -/
def execEventSummary (port : Nat) (body : List Byte) (s : State) : Out :=
  act s (s.receiveIf port body 1 (some 0x20))

/-- PROXY_FRAGMENT: A proxy fragment arrives (R249). -/
def execProxyFragment (port : Nat) (body : List Byte) (s : State) : Out :=
  act s (s.receiveIf port body 2 none)

/-- BULK_WRITE: A BULK_WRITE message arrives (R304). -/
def execBulkWrite (port : Nat) (body : List Byte) (s : State) : Out :=
  act s (s.receiveIf port body 3 (some 1))

/-- BULK_END: A BULK_END message arrives (R304). -/
def execBulkEnd (port : Nat) (body : List Byte) (s : State) : Out :=
  act s (s.receiveIf port body 3 (some 2))

/-- BULK_WINDOW_OPEN: `SYS_BULK_CTRL.EN` is set (R304). -/
def execBulkWindowOpen (who : Who) (w : Word) (s : State) : Out :=
  act s (s.poke who A.SYS_BULK_CTRL (force w 0))

end Sys2Proof.Machine
end

