-- ==== Sys2Proof/Machine/CmdLink.lean ====
section
/-!
DEFINITION. Meanings of the commands of the Frond link (R198 to R230).
-/
namespace Sys2Proof.Machine

/-- FRAME_HEADER_SEND: A frame or twin header starts (R210). -/
def execFrameHeaderSend (s : State) : Out := act s s.headerSend

/-- LINE_PACKET_SEND: A line packet starts (R212, R217). -/
def execLinePacketSend (s : State) : Out := act s s.lineSend

/-- RECON_PACKET_SEND: A reconstructed-image packet starts (R189, R212). -/
def execReconPacketSend (s : State) : Out := act s s.reconSend

/-- FRAME_TRAILER_SEND: A frame trailer starts (R213). -/
def execFrameTrailerSend (s : State) : Out := act s s.trailerSend

/-- STAT_PACKET_SEND: A statistics packet starts (R215). -/
def execStatPacketSend (s : State) : Out := act s s.statSend

/-- SEAL_PACKET_SEND: A seal packet starts (R227). -/
def execSealPacketSend (s : State) : Out := act s s.sealSend

/-- DUMP_PACKET_SEND: A dump packet starts (R216). -/
def execDumpPacketSend (s : State) : Out := act s s.dumpSend

/-- LANE_MARKER_SEND: A lane sends its LANE block (R201). -/
def execLaneMarkerSend (s : State) : Out := act s s.markerSend

/-- SEAL_SIGN_DONE: The crypto engine ends a statement, by a fault when `bad` (R226 to R228). -/
def execSealSignDone (bad : Bool) (s : State) : Out := act s (s.signDone bad)

/-- TRAIN_GO: `LNK_CTRL.TRAIN_GO` (R202). -/
def execTrainGo (who : Who) (w : Word) (s : State) : Out := act s (s.poke who A.LNK_CTRL (force w 0))

/-- LANE_OK_WRITE: `LNK_LANE_OK0` or `LNK_LANE_OK1` (R202). -/
def execLaneOkWrite (who : Who) (hi : Bool) (w : Word) (s : State) : Out :=
  act s (s.poke who (if hi then A.LNK_LANE_OK1 else A.LNK_LANE_OK0) w)

/-- LANE_FAIL_REQ: `LNK_FAIL_REQ0` or `LNK_FAIL_REQ1` (R204). -/
def execLaneFailReq (who : Who) (hi : Bool) (w : Word) (s : State) : Out :=
  act s (s.poke who (if hi then A.LNK_FAIL_REQ1 else A.LNK_FAIL_REQ0) w)

/-- LANE_DRIVER_FAULT: The driver of a lane finds an open or a short (R204). -/
def execLaneDriverFault (lane : Fin 60) (kind : Nat) (s : State) : Out :=
  act s (s.driverFault lane.val kind)

/-- EQ_WRITE: `LNK_EQ_p` (R203, R457). -/
def execEqWrite (who : Who) (lane : Fin 60) (w : Word) (s : State) : Out :=
  act s (s.poke who (A.LNK_EQ + 4 * lane.val) w)

/-- LINK_DUMP_GO: `LNK_CTRL.DUMP_GO` (R216). -/
def execLinkDumpGo (who : Who) (w : Word) (s : State) : Out := act s (s.poke who A.LNK_CTRL (force w 1))

/-- LINK_DUMP_ABORT: `LNK_CTRL.DUMP_ABORT` (R216). -/
def execLinkDumpAbort (who : Who) (w : Word) (s : State) : Out := act s (s.poke who A.LNK_CTRL (force w 2))

/-- LINK_DUMP_DONE: All dump packets have been sent (R216). -/
def execLinkDumpDone (s : State) : Out := act s s.linkDumpDone

/-- LNK_CNT_CLR: `LNK_CTRL.CNT_CLR` (R229). -/
def execLnkCntClr (who : Who) (w : Word) (s : State) : Out := act s (s.poke who A.LNK_CTRL (force w 3))

end Sys2Proof.Machine
end

