-- ==== Sys2Proof/Machine/CmdPlan.lean ====
section
/-!
DEFINITION. Meanings of the commands of plan loads, commits and rig commits (R110 to R139).
-/
namespace Sys2Proof.Machine

/-- LOAD_START: `PLAN_LOAD_CTRL.START` (R125). -/
def execLoadStart (who : Who) (w : Word) (s : State) : Out :=
  act s (s.poke who A.PLAN_LOAD_CTRL (force w 1))

/-- LOAD_DATA_WRITE: `PLAN_LOAD_DATA` (R125). -/
def execLoadDataWrite (who : Who) (data : Word) (s : State) : Out :=
  act s (s.poke who A.PLAN_LOAD_DATA data)

/-- LOAD_FINISH: `PLAN_LOAD_CTRL.FINISH` (R125). -/
def execLoadFinish (who : Who) (w : Word) (s : State) : Out :=
  act s (s.poke who A.PLAN_LOAD_CTRL (force w 2))

/-- LOAD_ABORT: `PLAN_LOAD_CTRL.ABORT` (R125). -/
def execLoadAbort (who : Who) (w : Word) (s : State) : Out :=
  act s (s.poke who A.PLAN_LOAD_CTRL (force w 3))

/-- FLASH_GO: `PLAN_LOAD_CTRL.FLASH_GO` (R125). -/
def execFlashGo (who : Who) (w : Word) (s : State) : Out := act s (s.poke who A.PLAN_LOAD_CTRL (force w 4))

/-- FLASH_HEADER_READ: The flash header has been read, with a read error when `err` (R125). -/
def execFlashHeaderRead (err : Bool) (s : State) : Out := act s (s.flashHeaderRead err)

/-- FLASH_COPY_DONE: The flash copy ends (R125). -/
def execFlashCopyDone (err : Bool) (s : State) : Out := act s (s.flashCopyDone err)

/-- PLAN_CHECK_DONE: The checks of CHECKING end (R124, R469); a report that waited for them is taken (R429). -/
def execPlanCheckDone (s : State) : Out := act s s.planChecked

/-- COMMIT_GO: `PLAN_COMMIT_CTRL.GO` (R126). -/
def execCommitGo (who : Who) (w : Word) (s : State) : Out :=
  act s (s.poke who A.PLAN_COMMIT_CTRL (force w 3))

/-- COMMIT_CANCEL: `PLAN_COMMIT_CTRL.CANCEL` (R130). -/
def execCommitCancel (who : Who) (w : Word) (s : State) : Out :=
  act s (s.poke who A.PLAN_COMMIT_CTRL (force w 4))

/-- RIG_COMMIT_GO: `PLAN_RIG_CTRL.GO` (R135). -/
def execRigCommitGo (who : Who) (w : Word) (s : State) : Out :=
  act s (s.poke who A.PLAN_RIG_CTRL (force w 0))

/-- RIG_COMMIT_CANCEL: `PLAN_RIG_CTRL.CANCEL` (R137). -/
def execRigCommitCancel (who : Who) (w : Word) (s : State) : Out :=
  act s (s.poke who A.PLAN_RIG_CTRL (force w 4))

/-- RIG_COMMIT: A RIG_COMMIT message arrives (R136). -/
def execRigCommit (port : Nat) (body : List Byte) (s : State) : Out :=
  act s (s.receiveIf port body 1 (some 0x10))

/-- RIG_ACK: A RIG_ACK message arrives (R137). -/
def execRigAck (port : Nat) (body : List Byte) (s : State) : Out :=
  act s (s.receiveIf port body 1 (some 0x11))

/-- RIG_DONE: A RIG_DONE message arrives (R137). -/
def execRigDone (port : Nat) (body : List Byte) (s : State) : Out :=
  act s (s.receiveIf port body 1 (some 0x12))

/-- RIG_CANCEL: A RIG_CANCEL message arrives (R137). -/
def execRigCancel (port : Nat) (body : List Byte) (s : State) : Out :=
  act s (s.receiveIf port body 1 (some 0x13))

/-- RIG_COMMIT_TIMEOUT: A target is late by 10 ms (R137). -/
def execRigCommitTimeout (s : State) : Out := act s s.rigTimeout

end Sys2Proof.Machine
end

