-- ==== Sys2Proof/Machine/CmdPort.lean ====
section
/-!
DEFINITION. Meanings of the commands of the host control port and plain writes (R5 to R13, R290 to R295, R432 to R436).
-/
namespace Sys2Proof.Machine

/-- WRITE: A WRITE transaction, ending within a further word when `part` (R291). -/
def execWrite (addr : Word) (data : List Word) (part : Bool) (s : State) : Out :=
  act s (s.portWrite addr.toNat data part)

/-- READ: A READ transaction of `n` words, ending within the last one when `part` (R291, R292). -/
def execRead (addr : Word) (n : Nat) (part : Bool) (s : State) : Out := act s (s.portRead addr.toNat n part)

/-- STATUS: A STATUS transaction (R293). -/
def execStatus (s : State) : Out := ok s.portStatus

/-- UNKNOWN_OP: A transaction with another opcode (R294). -/
def execUnknownOp (op : Byte) (s : State) : Out := act s (s.portUnknown op)

/-- REGISTER_WRITE: A write by an accessor; `aper` is the aperture of a core (R5, R435). -/
def execRegisterWrite (who : Who) (aper : Nat) (addr : Word) (size : Nat) (v : Word) (s : State) : Out :=
  act s (s.write who (s.aperture who aper) addr.toNat size v)

/-- DRAM_WINDOW_WRITE: A write through a DRAM window at byte offset `off` (R12, R13, R352). -/
def execDramWindowWrite (who : Who) (aper : Nat) (off : Nat) (size : Nat) (v : Word) (s : State) : Out :=
  act s (s.write who (s.aperture who aper) (0x10000000 + off % 0x10000000) size v)

end Sys2Proof.Machine
end

