-- ==== Sys2Proof/Machine/CmdSensor.lean ====
section
/-!
DEFINITION. Meanings of the commands of sub-frame and frame ticks, integration, readout and rotation (R21 to R48, R75 to R105).
-/
namespace Sys2Proof.Machine

/-- SUB_FRAME_TICK: The next sub-frame tick, which is no frame tick (R41). -/
def execSubFrameTick (s : State) : Out := act s s.subFrameTick

/-- FRAME_TICK: The next frame tick, with every change due at it (R30, R31). -/
def execFrameTick (s : State) : Out := act s s.frameTick.calDelta

/-- INTEGRATION_START: START_j after the SFT: integration begins (R43). -/
def execIntegrationStart (s : State) : Out := act s s.integrationStart

/-- GLOBAL_TRANSFER: The transfer sequence of the sub-frame ends (R39). -/
def execGlobalTransfer (s : State) : Out := act s s.globalTransfer

/-- ROW_SLOT: One row slot of the readout in progress (R75). -/
def execRowSlot (convs : List Conv) (s : State) : Out := act s (s.rowSlot convs)

/-- REFERENCE_SWITCH: SFT + t_rd: the reference DACs switch (R47). -/
def execReferenceSwitch (s : State) : Out := act s s.referenceSwitch

/-- READOUT_COMPLETE: The last code of the readout is delivered (R79). -/
def execReadoutComplete (s : State) : Out := act s s.readoutComplete

/-- ROTATION_EVALUATE: The rotation step is evaluated (R91 to R97). -/
def execRotationEvaluate (meas : List GroupMeas) (s : State) : Out := act s (s.rotationEvaluate meas)

/-- FRAME_COMPLETE: A frame's finished values are in the frame buffer (R24); its proxy is offered to the fabric (R248). -/
def execFrameComplete (s : State) : Out := act s s.frameDone

/-- STAT_DELIVERY: A statistics set is delivered (R195). -/
def execStatDelivery (s : State) : Out := act s s.statDelivery

end Sys2Proof.Machine
end

