-- ==== Sys2Proof/Machine/CmdStripe.lean ====
section
/-!
DEFINITION. Meanings of the commands of the stripe datapaths and statistics (R162 to R168, R196, R197).
-/
namespace Sys2Proof.Machine

/-- TAKEOVER_GO: `STR_CTRL.TAKEOVER_GO` (R163, R168). -/
def execTakeoverGo (who : Who) (w : Word) (s : State) : Out := act s (s.poke who A.STR_CTRL (force w 0))

/-- RESTORE_GO: `STR_CTRL.RESTORE_GO` (R163, R168). -/
def execRestoreGo (who : Who) (w : Word) (s : State) : Out := act s (s.poke who A.STR_CTRL (force w 1))

/-- TEST_GO: `STR_CTRL.TEST_GO` (R167, R168). -/
def execTestGo (who : Who) (w : Word) (s : State) : Out := act s (s.poke who A.STR_CTRL (force w 2))

/-- DATAPATH_FAULT: Datapath `dp` detects fault `kind` of its FAULT register (R162). -/
def execDatapathFault (dp : Fin 82) (kind : Nat) (s : State) : Out := act s (s.dpFault dp.val kind)

/-- SELFTEST_DONE: The self-test of R167 ends. -/
def execSelftestDone (pass : Bool) (s : State) : Out := act s (s.selftestDone pass)

/-- SPARE_SELFTEST: An idle spare has run its periodic self-test (R167). -/
def execSpareSelftest (dp : Nat) (pass : Bool) (s : State) : Out := act s (s.spareSelftest dp pass)

/-- STAT_HOLD_WRITE: `STR_STAT_CTRL.HOLD` (R196). -/
def execStatHoldWrite (who : Who) (w : Word) (s : State) : Out := act s (s.poke who A.STR_STAT_CTRL w)

/-- CENTROID_FRAME_READ: `STR_CENT_FRAME` is read (R197, R436). -/
def execCentroidFrameRead (r : Reader) (s : State) : Out := act s (s.fetch r A.STR_CENT_FRAME)

end Sys2Proof.Machine
end

