-- ==== Sys2Proof/Machine/CmdSuper.lean ====
section
/-!
DEFINITION. Meanings of the commands of watchdog, event ledger and incident dump (R328 to R354).
-/
namespace Sys2Proof.Machine

/-- WDT_START: `WDT_CTRL.START` (R329). -/
def execWdtStart (who : Who) (w : Word) (s : State) : Out := act s (s.poke who A.WDT_CTRL (force w 0))

/-- WDT_LOCK: `WDT_CTRL.LOCK` (R330). -/
def execWdtLock (who : Who) (w : Word) (s : State) : Out := act s (s.poke who A.WDT_CTRL (force w 2))

/-- WDT_TALLY: `WDT_TALLY` (R331, R333). -/
def execWdtTally (who : Who) (w : Word) (s : State) : Out := act s (s.poke who A.WDT_TALLY w)

/-- WDT_WINDOW_OPEN: The tally window opens (R328). -/
def execWdtWindowOpen (s : State) : Out := act s s.wdtWindowOpen

/-- WDT_PERIOD_END: The expiry cycle of the period (R332, R334). -/
def execWdtPeriodEnd (s : State) : Out := act s s.wdtPeriodEnd

/-- WDT_HARD_TIMER_END: The hard timer ends (R334, R337). -/
def execWdtHardTimerEnd (cut : Cut) (s : State) : Out := act s (s.hardTimerEnd cut)

/-- EVL_ACK: `EVL_ACK` (R344). -/
def execEvlAck (who : Who) (w : Word) (s : State) : Out := act s (s.poke who A.EVL_ACK w)

/-- EVL_FW_ENTRY: `EVL_FW_ENTRY` (R344). -/
def execEvlFwEntry (who : Who) (w : Word) (s : State) : Out := act s (s.poke who A.EVL_FW_ENTRY w)

/-- EVL_HOLDOFF_END: The holdoff of the EVL request ends (R345). -/
def execEvlHoldoffEnd (s : State) : Out := act s s.evlHoldoffEnd

/-- EVENT_SUMMARY_SEND: The device sends an EVENT_SUMMARY that is due (R346). -/
def execEventSummarySend (s : State) : Out := act s s.summarySend

/-- INCIDENT_DUMP_GO: `EVL_DUMP_CTRL.GO` (R348). -/
def execIncidentDumpGo (who : Who) (w : Word) (s : State) : Out :=
  act s (s.poke who A.EVL_DUMP_CTRL (force w 0))

/-- INCIDENT_DUMP_COMPLETE: The dump engine finishes a slot (R351). -/
def execIncidentDumpComplete (s : State) : Out := act s s.dumpComplete

end Sys2Proof.Machine
end

