-- ==== Sys2Proof/Machine/CmdSys.lean ====
section
/-!
DEFINITION. Meanings of the commands of modes, mailbox commands, alarms and resets (R296 to R327).
-/
namespace Sys2Proof.Machine

/-- MODE_REQUEST: `SYS_MODE_REQ` with GO (R298). -/
def execModeRequest (who : Who) (w : Word) (s : State) : Out :=
  act s (s.poke who A.SYS_MODE_REQ (force w 3))

/-- SERVICE_UNLOCK: `SYS_SERVICE.UNLOCK` (R300). -/
def execServiceUnlock (who : Who) (w : Word) (s : State) : Out := act s (s.poke who A.SYS_SERVICE w)

/-- FW_UPDATE: Mailbox FW_UPDATE (R301, R319). -/
def execFwUpdate (who : Who) (addr len : Word) (flags : Word) (s : State) : Out :=
  act s (s.mail who 1 [addr, len, flags])

/-- FW_ACTIVATE: Mailbox FW_ACTIVATE (R301, R320). -/
def execFwActivate (who : Who) (slot : Word) (s : State) : Out := act s (s.mail who 2 [slot])

/-- CORE_RESTART: Mailbox CORE_RESTART (R301, R324). -/
def execCoreRestart (who : Who) (core slot : Word) (s : State) : Out := act s (s.mail who 3 [core, slot])

/-- STRIPE_TAKEOVER: Mailbox STRIPE_TAKEOVER (R301). -/
def execStripeTakeover (who : Who) (stripe : Word) (s : State) : Out := act s (s.mail who 4 [stripe])

/-- STRIPE_RESTORE: Mailbox STRIPE_RESTORE (R301). -/
def execStripeRestore (who : Who) (stripe : Word) (s : State) : Out := act s (s.mail who 5 [stripe])

/-- STRIPE_TEST: Mailbox STRIPE_TEST (R301). -/
def execStripeTest (who : Who) (dp : Word) (s : State) : Out := act s (s.mail who 6 [dp])

/-- SAVE_MAPS: Mailbox SAVE_MAPS (R301). -/
def execSaveMaps (who : Who) (s : State) : Out := act s (s.mail who 7 [])

/-- RECOVER_WRITE: Mailbox RECOVER_WRITE (R301, R317). -/
def execRecoverWrite (who : Who) (slot len : Word) (s : State) : Out := act s (s.mail who 0x10 [slot, len])

/-- RECOVERY_DATA_WRITE: `SYS_RCV_DATA` (R317). -/
def execRecoveryDataWrite (who : Who) (data : Word) (s : State) : Out :=
  act s (s.poke who A.SYS_RCV_DATA data)

/-- MBOX_DONE: The mailbox command ends; `stop` says what ended its flash work early, a flash error or the closed
gate, and after how many whole sectors (R301, R380). -/
def execMboxDone (stop : Option FlashStop) (s : State) : Out := act s (s.mboxDone stop)

/-- RESTART_TALLY_GRACE_END: 500 ms after a core restart (R325). -/
def execRestartTallyGraceEnd (core : Nat) (s : State) : Out := act s (s.restartGraceEnd core)

/-- ALARM_FIFO_READ: `SYS_ALARM_FIFO` is read (R302, R436). -/
def execAlarmFifoRead (r : Reader) (s : State) : Out := act s (s.fetch r A.SYS_ALARM_FIFO)

/-- ALARM_ACK_NONE: `SYS_ALARM_ACK` with ACTION NONE (R302). -/
def execAlarmAckNone (who : Who) (unit : Nat) (s : State) : Out :=
  act s (s.poke who A.SYS_ALARM_ACK (ackWord 0 unit))

/-- ALARM_ACK_TAKEOVER: `SYS_ALARM_ACK` with ACTION TAKEOVER (R302). -/
def execAlarmAckTakeover (who : Who) (unit : Nat) (s : State) : Out :=
  act s (s.poke who A.SYS_ALARM_ACK (ackWord 1 unit))

/-- ALARM_ACK_RETIRE: `SYS_ALARM_ACK` with ACTION RETIRE (R302). -/
def execAlarmAckRetire (who : Who) (unit : Nat) (s : State) : Out :=
  act s (s.poke who A.SYS_ALARM_ACK (ackWord 2 unit))

/-- ALARM_ACK_FAIL_LANE: `SYS_ALARM_ACK` with ACTION FAIL_LANE (R302). -/
def execAlarmAckFailLane (who : Who) (unit : Nat) (s : State) : Out :=
  act s (s.poke who A.SYS_ALARM_ACK (ackWord 3 unit))

/-- POWER_ON_RESET: The supplies rise (R305, R446). -/
def execPowerOnReset (s : State) : Out := ok (s.powerOn s.now)

/-- SUPPLY_TRIP: A rail is out of its band for `outNs` and the rails are back `backNs` later (R443, R448). -/
def execSupplyTrip (outNs backNs : Nat) (cut : Cut) (s : State) : Out := ok (s.supplyTrip outNs backNs cut)

/-- PIN_RESET: `RESET_N` is low for `lowNs` (R305, R447). -/
def execPinReset (lowNs : Nat) (cut : Cut) (s : State) : Out := ok (s.pinReset lowNs cut)

/-- HOST_RESET: A host write of `SYS_RESET_CTRL.KEY` (R305). -/
def execHostReset (w : Word) (cut : Cut) (s : State) : Out := ok (s.resetOut .host w cut)

/-- FIRMWARE_RESET: A firmware write of `SYS_RESET_CTRL.KEY` (R305). -/
def execFirmwareReset (mc1 : Bool) (w : Word) (cut : Cut) (s : State) : Out :=
  ok (s.resetOut (if mc1 then .mc1 else .mc0) w cut)

/-- RESET_RELEASE: The reset hold ends with these straps (R306, R451). -/
def execResetRelease (straps : Nat) (root : Bool) (s : State) : Out := ok (s.resetRelease straps root)

/-- BOOT_STEP: A boot step ends (R312 to R317). -/
def execBootStep (b : BootIn) (s : State) : Out := act s ((s.bootStep b).calDelta)

/-- DEBUG_HALT: The debugger halts a core (R335, R426). -/
def execDebugHalt (core : Nat) (s : State) : Out := act s (s.debugHalt core)

/-- DEBUG_RELEASE: The debugger releases a core (R335). -/
def execDebugRelease (core : Nat) (s : State) : Out := act s (s.debugRelease core)

end Sys2Proof.Machine
end

