-- ==== Sys2Proof/Machine/CmdThermal.lean ====
section
/-!
DEFINITION. Meanings of the commands of the monitor converter and thermal management (R355 to R382).
-/
namespace Sys2Proof.Machine

/-- MON_OUTPUT: The monitor filter produces an output (R356). -/
def execMonOutput (raw : Int) (s : State) : Out := act s (s.monOutput raw)

/-- MON_CONFIG_WRITE: `MON_FILT` or `MON_SEL` (R364). -/
def execMonConfigWrite (who : Who) (filt : Bool) (w : Word) (s : State) : Out :=
  act s (s.poke who (if filt then A.MON_FILT else A.MON_SEL) w)

/-- MON_ACC_CLR: `MON_ACC_CLR` (R361). -/
def execMonAccClr (who : Who) (w : Word) (s : State) : Out := act s (s.poke who A.MON_ACC_CLR w)

/-- ACC_CLR_ALL: `MON_CTRL.ACC_CLR_ALL` (R361). -/
def execAccClrAll (who : Who) (w : Word) (s : State) : Out := act s (s.poke who A.MON_CTRL (force w 1))

/-- MON_SUM_LO_READ: `MON_CHc_SUM_LO` is read (R361, R436). -/
def execMonSumLoRead (r : Reader) (ch : Fin 32) (s : State) : Out :=
  act s (s.fetch r (A.MON_CH + 32 * ch.val))

/-- MON_CAL_GO: `MON_CTRL.CAL_GO` (R362). -/
def execMonCalGo (who : Who) (w : Word) (s : State) : Out := act s (s.poke who A.MON_CTRL (force w 0))

/-- MON_CAL_DONE: The monitor self-calibration ends with these measurements (R362, R400). -/
def execMonCalDone (runs : List (Int × Int × Int × Int)) (ch7 : Int) (s : State) : Out :=
  act s (s.monCalDone runs ch7)

/-- THM_EXT_SCAN: The external temperature scan starts (R363). -/
def execThmExtScan (s : State) : Out := act s s.extScan

/-- THM_EXT_SCAN_END: The external scan ends with the outputs of its phases (R363). -/
def execThmExtScanEnd (phases : List (List Int)) (s : State) : Out := act s (s.extScanEnd phases)

/-- THM_SENSOR_WINDOW: The 1 ms sensor window ends (R367, R368). -/
def execThmSensorWindow (wins : List SensorWin) (s : State) : Out := act s ((s.sensorWindow wins).calDelta)

/-- THM_GRACE_END: The grace timer ends (R374). -/
def execThmGraceEnd (s : State) : Out := act s s.graceEnd

/-- THM_CRIT_TIMER_END: The CRIT timer ends (R374). -/
def execThmCritTimerEnd (s : State) : Out := act s s.critTimerEnd

/-- THM_PERSIST_TIMER_END: The persist timer ends (R374). -/
def execThmPersistTimerEnd (s : State) : Out := act s s.persistEnd

/-- THM_RELEASE_TIMER_END: The release timer ends (R374). -/
def execThmReleaseTimerEnd (s : State) : Out := act s s.releaseEnd

/-- ALERT_PIN_RELEASE: `THERM_ALERT_N` may be released (R377). -/
def execAlertPinRelease (s : State) : Out := act s s.alertRelease

/-- THM_LOCK: `THM_CTRL.LOCK` (R382). -/
def execThmLock (who : Who) (w : Word) (s : State) : Out := act s (s.poke who A.THM_CTRL (force w 0))

/-- THRESHOLD_WRITE: `THM_THR_i` (R372). -/
def execThresholdWrite (who : Who) (sensor : Fin 68) (w : Word) (s : State) : Out :=
  act s (s.poke who (A.THM_THR + 4 * sensor.val) w)

end Sys2Proof.Machine
end

