-- ==== Sys2Proof/Machine/CmdTime.lean ====
section
/-!
DEFINITION. Meanings of the commands of time bases, PTP, pulses and captures (R253 to R270).
-/
namespace Sys2Proof.Machine

/-- TB_INC_WRITE: `TIME_TBk_INC_LO` (R254). -/
def execTbIncWrite (who : Who) (tb : Fin 4) (w : Word) (s : State) : Out :=
  act s (s.poke who (tbReg tb.val 0x1C) w)

/-- STEP_GO: `TIME_TBk_CTRL.STEP_GO` (R254). -/
def execStepGo (who : Who) (tb : Fin 4) (w : Word) (s : State) : Out :=
  act s (s.poke who (tbReg tb.val 0) (force w 2))

/-- SET_GO: `TIME_TBk_CTRL.SET_GO` (R254). -/
def execSetGo (who : Who) (tb : Fin 4) (w : Word) (s : State) : Out :=
  act s (s.poke who (tbReg tb.val 0) (force w 1))

/-- TB_RUN_WRITE: `TIME_TBk_CTRL.RUN` (R253). -/
def execTbRunWrite (who : Who) (tb : Fin 4) (w : Word) (s : State) : Out :=
  act s (s.poke who (tbReg tb.val 0) w)

/-- TB_SEC_LO_READ: `TIME_TBk_SEC_LO` is read (R254, R436). -/
def execTbSecLoRead (r : Reader) (tb : Fin 4) (s : State) : Out := act s (s.fetch r (tbReg tb.val 0x0C))

/-- SYNC: A Sync arrives, on port 3 from MC1 (R259). -/
def execSync (port : Nat) (body : List Byte) (s : State) : Out := act s (s.receivePtp port body (· = 0))

/-- FOLLOW_UP: A Follow_Up arrives (R260). -/
def execFollowUp (port : Nat) (body : List Byte) (s : State) : Out := act s (s.receivePtp port body (· = 8))

/-- PTP_GENERAL_MESSAGE: An Announce, Signaling or Management message arrives (R257). -/
def execPtpGeneralMessage (port : Nat) (body : List Byte) (s : State) : Out :=
  act s (s.receivePtp port body (11 ≤ ·))

/-- DELAY_REQ: A Delay_Req or Delay_Resp arrives (R257). -/
def execDelayReq (port : Nat) (body : List Byte) (s : State) : Out :=
  act s (s.receivePtp port body (fun t => t = 1 || t = 9))

/-- PDELAY_REQ_SEND: The Pdelay_Req of a port and domain is due (R261). -/
def execPdelayReqSend (port domain : Nat) (s : State) : Out := act s (s.pdSend port domain)

/-- PDELAY_REQ: A Pdelay_Req arrives (R261). -/
def execPdelayReq (port : Nat) (body : List Byte) (s : State) : Out :=
  act s (s.receivePtp port body (· = 2))

/-- PDELAY_RESP: A Pdelay_Resp arrives (R261). -/
def execPdelayResp (port : Nat) (body : List Byte) (s : State) : Out :=
  act s (s.receivePtp port body (· = 3))

/-- PDELAY_RESP_FOLLOW_UP: A Pdelay_Resp_Follow_Up arrives (R261). -/
def execPdelayRespFollowUp (port : Nat) (body : List Byte) (s : State) : Out :=
  act s (s.receivePtp port body (· = 10))

/-- PDELAY_TIMEOUT: An exchange is incomplete at the next request (R261). -/
def execPdelayTimeout (port domain : Nat) (s : State) : Out := act s (s.pdTimeout port domain)

/-- PENDING_ENTRY_EVICT: A pending entry is older than 1 s (R260). -/
def execPendingEntryEvict (s : State) : Out := act s s.pendEvict

/-- DOMAIN_LOST_TIMEOUT: LOST_N intervals pass without Sync (R262). -/
def execDomainLostTimeout (domain : Nat) (s : State) : Out := act s (s.domLost domain)

/-- XCHK_SAMPLE: TB0 passes a whole second (R265). -/
def execXchkSample (s : State) : Out := act s s.xchkSample

/-- ARM_GO: `TIME_TPOi_CTRL.ARM_GO` (R266). -/
def execArmGo (who : Who) (tpo : Fin 8) (w : Word) (s : State) : Out :=
  act s (s.poke who (tpoReg tpo.val 0) (force w 0))

/-- DISARM: `TIME_TPOi_CTRL.DISARM` (R266). -/
def execDisarm (who : Who) (tpo : Fin 8) (w : Word) (s : State) : Out :=
  act s (s.poke who (tpoReg tpo.val 0) (force w 1))

/-- TPO_FIRE: A pulse generator fires (R266). -/
def execTpoFire (tpo : Fin 8) (s : State) : Out := act s (s.tpoFire tpo.val s.fgRuns)

/-- CAPTURE_EDGE: An edge of TRIG, GENLOCK or SYNC_IN at instant `edge` (R268). -/
def execCaptureEdge (input : Fin 3) (edge : Nat) (falling : Bool) (s : State) : Out :=
  act s (s.captureEdge input.val edge falling)

/-- CAPTURE_POP: `TIME_CAPx_POP` is read (R268, R436). -/
def execCapturePop (r : Reader) (input : Fin 3) (s : State) : Out := act s (s.fetch r (capReg input.val 8))

/-- CAPTURE_CLEAR: `TIME_CAPx_CTRL.CLR` (R268). -/
def execCaptureClear (who : Who) (input : Fin 3) (w : Word) (s : State) : Out :=
  act s (s.poke who (capReg input.val 0) (force w 5))

end Sys2Proof.Machine
end

