-- ==== Sys2Proof/Machine/CmdTiming.lean ====
section
/-!
DEFINITION. Meanings of the commands of triggers, genlock, the sequencer start and live sets (R53 to R71, R284 to R286).
-/
namespace Sys2Proof.Machine

/-- SOFT_TRIG: `TMG_CTRL.SOFT_TRIG` (R55). -/
def execSoftTrig (who : Who) (w : Word) (s : State) : Out := act s (s.poke who A.TMG_CTRL (force w 0))

/-- TRIG_EDGE: An edge of TRIG at instant `edge`, held for 30 ns (R55). -/
def execTrigEdge (edge : Nat) (s : State) : Out := act s (s.trigPin edge)

/-- REALIGN: `TMG_CTRL.REALIGN` (R54). -/
def execRealign (who : Who) (w : Word) (s : State) : Out := act s (s.poke who A.TMG_CTRL (force w 1))

/-- PRESET_LOAD: `TMG_CTRL.PRESET_LOAD` (R59). -/
def execPresetLoad (who : Who) (w : Word) (s : State) : Out := act s (s.poke who A.TMG_CTRL (force w 2))

/-- TMG_CNT_CLR: `TMG_CTRL.CNT_CLR` (R71). -/
def execTmgCntClr (who : Who) (w : Word) (s : State) : Out := act s (s.poke who A.TMG_CTRL (force w 3))

/-- GENLOCK_EDGE: A transition of GENLOCK, which counts if it has the polarity in POL and holds for 30 ns (R284,
R285, R54). -/
def execGenlockEdge (edge : PinEdge) (s : State) : Out :=
  act s (if s.glQualifies edge.heldNs edge.rising then s.genlockEdge edge.at_ else s)

/-- SEQUENCER_START: The sequencer places its first FT (R53). -/
def execSequencerStart (s : State) : Out := act s s.sequencerStart

/-- LIVE_GO: `TMG_LIVE_CTRL.GO` (R67). -/
def execLiveGo (who : Who) (w : Word) (s : State) : Out := act s (s.poke who A.TMG_LIVE_CTRL (force w 0))

/-- LIVE_COPY: `TMG_LIVE_CTRL.COPY` (R67). -/
def execLiveCopy (who : Who) (w : Word) (s : State) : Out := act s (s.poke who A.TMG_LIVE_CTRL (force w 2))

end Sys2Proof.Machine
end

