-- ==== Sys2Proof/Machine/CmdVault.lean ====
section
/-!
DEFINITION. Meanings of the commands of vault, keys, attestation and seal control (R407 to R431).
-/
namespace Sys2Proof.Machine

/-- MINT: Vault command MINT of a row (R418, R419). -/
def execMint (who : Who) (row : Nat) (lo hi : Word) (s : State) : Out :=
  act s ((s.vaultData who lo hi).vault who 1 row)

/-- FINALISE: Vault command FINALISE (R422). -/
def execFinalise (who : Who) (region : Nat) (s : State) : Out := act s (s.vault who 2 region)

/-- CLOSE: Vault command CLOSE (R422). -/
def execClose (who : Who) (region : Nat) (s : State) : Out := act s (s.vault who 3 region)

/-- REVOKE: Vault command REVOKE (R422). -/
def execRevoke (who : Who) (slot : Nat) (s : State) : Out := act s (s.vault who 4 slot)

/-- VAULT_CMD_DONE: The vault command ends after these programming steps (R420). -/
def execVaultCmdDone (burns : List Burn) (s : State) : Out := act s (s.vaultDone burns)

/-- VAULT_LOCK_SET: `VLT_LOCK_SET` (R415). -/
def execVaultLockSet (who : Who) (w : Word) (s : State) : Out := act s (s.poke who A.VLT_LOCK_SET w)

/-- SHADOW_OVERRIDE_WRITE: A VENDOR shadow word is written (R423). -/
def execShadowOverrideWrite (who : Who) (word : Nat) (w : Word) (s : State) : Out :=
  act s (s.poke who (A.VLT_SHADOW + 4 * (word % 128)) w)

/-- IDK_LOAD: `SEC_CTRL.IDK_LOAD` (R428). -/
def execIdkLoad (who : Who) (w : Word) (s : State) : Out := act s (s.poke who A.SEC_CTRL (force w 0))

/-- IDK_LOAD_DONE: The key unwrap ends (R428). -/
def execIdkLoadDone (s : State) : Out := act s s.idkDone

/-- ATT_GO: `SEC_CTRL.ATT_GO` (R429). -/
def execAttGo (who : Who) (w : Word) (s : State) : Out := act s (s.poke who A.SEC_CTRL (force w 1))

/-- ATT_DONE: The attestation report is signed, or the engine fails when `bad` (R429). -/
def execAttDone (bad : Bool) (s : State) : Out := act s (s.attDone bad)

/-- CLOSE_GO: `SEC_SEAL_CTRL.CLOSE_GO` (R225). -/
def execCloseGo (who : Who) (w : Word) (s : State) : Out := act s (s.poke who A.SEC_SEAL_CTRL (force w 1))

/-- ASSIGN_TIMEOUT: An ASSIGN has no ASSIGN_ACK in time (R244). -/
def execAssignTimeout (s : State) : Out := act s s.assignTimeout

end Sys2Proof.Machine
end

