-- ==== Sys2Proof/Machine/Dispatch.lean ====
section
/-!
DEFINITION. One arm for each command of the table: the call of its meaning, or the refusal by name.
-/
namespace Sys2Proof.Machine

/-- The effect of a command on everything but the queue. -/
def exec (i : Instr) (s : State) : Host.Outcome State Fault Refusal :=
  match i with
  | .subFrameTick => Sys2Proof.Machine.execSubFrameTick s
  | .frameTick => Sys2Proof.Machine.execFrameTick s
  | .integrationStart => Sys2Proof.Machine.execIntegrationStart s
  | .globalTransfer => Sys2Proof.Machine.execGlobalTransfer s
  | .rowSlot convs => Sys2Proof.Machine.execRowSlot convs s
  | .referenceSwitch => Sys2Proof.Machine.execReferenceSwitch s
  | .readoutComplete => Sys2Proof.Machine.execReadoutComplete s
  | .rotationEvaluate meas => Sys2Proof.Machine.execRotationEvaluate meas s
  | .frameComplete => Sys2Proof.Machine.execFrameComplete s
  | .statDelivery => Sys2Proof.Machine.execStatDelivery s
  | .frameHeaderSend => Sys2Proof.Machine.execFrameHeaderSend s
  | .linePacketSend => Sys2Proof.Machine.execLinePacketSend s
  | .reconPacketSend => Sys2Proof.Machine.execReconPacketSend s
  | .frameTrailerSend => Sys2Proof.Machine.execFrameTrailerSend s
  | .statPacketSend => Sys2Proof.Machine.execStatPacketSend s
  | .sealPacketSend => Sys2Proof.Machine.execSealPacketSend s
  | .dumpPacketSend => Sys2Proof.Machine.execDumpPacketSend s
  | .laneMarkerSend => Sys2Proof.Machine.execLaneMarkerSend s
  | .sealSignDone bad => Sys2Proof.Machine.execSealSignDone bad s
  | .trainGo who w => Sys2Proof.Machine.execTrainGo who w s
  | .laneOkWrite who hi w => Sys2Proof.Machine.execLaneOkWrite who hi w s
  | .laneFailReq who hi w => Sys2Proof.Machine.execLaneFailReq who hi w s
  | .laneDriverFault lane kind => Sys2Proof.Machine.execLaneDriverFault lane kind s
  | .eqWrite who lane w => Sys2Proof.Machine.execEqWrite who lane w s
  | .linkDumpGo who w => Sys2Proof.Machine.execLinkDumpGo who w s
  | .linkDumpAbort who w => Sys2Proof.Machine.execLinkDumpAbort who w s
  | .linkDumpDone => Sys2Proof.Machine.execLinkDumpDone s
  | .lnkCntClr who w => Sys2Proof.Machine.execLnkCntClr who w s
  | .loadStart who w => Sys2Proof.Machine.execLoadStart who w s
  | .loadDataWrite who data => Sys2Proof.Machine.execLoadDataWrite who data s
  | .loadFinish who w => Sys2Proof.Machine.execLoadFinish who w s
  | .loadAbort who w => Sys2Proof.Machine.execLoadAbort who w s
  | .flashGo who w => Sys2Proof.Machine.execFlashGo who w s
  | .flashHeaderRead err => Sys2Proof.Machine.execFlashHeaderRead err s
  | .flashCopyDone err => Sys2Proof.Machine.execFlashCopyDone err s
  | .planCheckDone => Sys2Proof.Machine.execPlanCheckDone s
  | .commitGo who w => Sys2Proof.Machine.execCommitGo who w s
  | .commitCancel who w => Sys2Proof.Machine.execCommitCancel who w s
  | .rigCommitGo who w => Sys2Proof.Machine.execRigCommitGo who w s
  | .rigCommitCancel who w => Sys2Proof.Machine.execRigCommitCancel who w s
  | .rigCommit port body => Sys2Proof.Machine.execRigCommit port body s
  | .rigAck port body => Sys2Proof.Machine.execRigAck port body s
  | .rigDone port body => Sys2Proof.Machine.execRigDone port body s
  | .rigCancel port body => Sys2Proof.Machine.execRigCancel port body s
  | .rigCommitTimeout => Sys2Proof.Machine.execRigCommitTimeout s
  | .softTrig who w => Sys2Proof.Machine.execSoftTrig who w s
  | .trigEdge edge => Sys2Proof.Machine.execTrigEdge edge s
  | .realign who w => Sys2Proof.Machine.execRealign who w s
  | .presetLoad who w => Sys2Proof.Machine.execPresetLoad who w s
  | .tmgCntClr who w => Sys2Proof.Machine.execTmgCntClr who w s
  | .genlockEdge edge => Sys2Proof.Machine.execGenlockEdge edge s
  | .sequencerStart => Sys2Proof.Machine.execSequencerStart s
  | .liveGo who w => Sys2Proof.Machine.execLiveGo who w s
  | .liveCopy who w => Sys2Proof.Machine.execLiveCopy who w s
  | .retireGo who w => Sys2Proof.Machine.execRetireGo who w s
  | .tdacGo who w => Sys2Proof.Machine.execTdacGo who w s
  | .tdacInjectionStart => Sys2Proof.Machine.execTdacInjectionStart s
  | .tdacInjectionDone convs => Sys2Proof.Machine.execTdacInjectionDone convs s
  | .cnvCntClr who w => Sys2Proof.Machine.execCnvCntClr who w s
  | .sliceWindowWrite who off v => Sys2Proof.Machine.execSliceWindowWrite who off v s
  | .sliceWord0Read r slice => Sys2Proof.Machine.execSliceWord0Read r slice s
  | .takeoverGo who w => Sys2Proof.Machine.execTakeoverGo who w s
  | .restoreGo who w => Sys2Proof.Machine.execRestoreGo who w s
  | .testGo who w => Sys2Proof.Machine.execTestGo who w s
  | .datapathFault dp kind => Sys2Proof.Machine.execDatapathFault dp kind s
  | .selftestDone pass => Sys2Proof.Machine.execSelftestDone pass s
  | .spareSelftest dp pass => Sys2Proof.Machine.execSpareSelftest dp pass s
  | .statHoldWrite who w => Sys2Proof.Machine.execStatHoldWrite who w s
  | .centroidFrameRead r => Sys2Proof.Machine.execCentroidFrameRead r s
  | .linkinfoSend port => Sys2Proof.Machine.execLinkinfoSend port s
  | .linkinfo port peerPort peerAddr valid serial => Sys2Proof.Machine.execLinkinfo port peerPort peerAddr valid serial s
  | .portUp port => Sys2Proof.Machine.execPortUp port s
  | .portDown port lockLost => Sys2Proof.Machine.execPortDown port lockLost s
  | .fabricFrameSend port => Sys2Proof.Machine.execFabricFrameSend port s
  | .fabricFrameForward port body => Sys2Proof.Machine.execFabricFrameForward port body s
  | .ack port cls fseq => Sys2Proof.Machine.execAck port cls fseq s
  | .nak port cls fseq => Sys2Proof.Machine.execNak port cls fseq s
  | .hopAckTimeout port => Sys2Proof.Machine.execHopAckTimeout port s
  | .probe port body => Sys2Proof.Machine.execProbe port body s
  | .report port body => Sys2Proof.Machine.execReport port body s
  | .probeTimeout => Sys2Proof.Machine.execProbeTimeout s
  | .assign port body => Sys2Proof.Machine.execAssign port body s
  | .assignAck port body => Sys2Proof.Machine.execAssignAck port body s
  | .linkEvent port body => Sys2Proof.Machine.execLinkEvent port body s
  | .partition port body => Sys2Proof.Machine.execPartition port body s
  | .discGo who w => Sys2Proof.Machine.execDiscGo who w s
  | .yield who w => Sys2Proof.Machine.execYield who w s
  | .firmwareControlMessage port body => Sys2Proof.Machine.execFirmwareControlMessage port body s
  | .eventSummary port body => Sys2Proof.Machine.execEventSummary port body s
  | .proxyFragment port body => Sys2Proof.Machine.execProxyFragment port body s
  | .bulkWrite port body => Sys2Proof.Machine.execBulkWrite port body s
  | .bulkEnd port body => Sys2Proof.Machine.execBulkEnd port body s
  | .bulkWindowOpen who w => Sys2Proof.Machine.execBulkWindowOpen who w s
  | .tbIncWrite who tb w => Sys2Proof.Machine.execTbIncWrite who tb w s
  | .stepGo who tb w => Sys2Proof.Machine.execStepGo who tb w s
  | .setGo who tb w => Sys2Proof.Machine.execSetGo who tb w s
  | .tbRunWrite who tb w => Sys2Proof.Machine.execTbRunWrite who tb w s
  | .tbSecLoRead r tb => Sys2Proof.Machine.execTbSecLoRead r tb s
  | .sync port body => Sys2Proof.Machine.execSync port body s
  | .followUp port body => Sys2Proof.Machine.execFollowUp port body s
  | .ptpGeneralMessage port body => Sys2Proof.Machine.execPtpGeneralMessage port body s
  | .delayReq port body => Sys2Proof.Machine.execDelayReq port body s
  | .pdelayReqSend port domain => Sys2Proof.Machine.execPdelayReqSend port domain s
  | .pdelayReq port body => Sys2Proof.Machine.execPdelayReq port body s
  | .pdelayResp port body => Sys2Proof.Machine.execPdelayResp port body s
  | .pdelayRespFollowUp port body => Sys2Proof.Machine.execPdelayRespFollowUp port body s
  | .pdelayTimeout port domain => Sys2Proof.Machine.execPdelayTimeout port domain s
  | .pendingEntryEvict => Sys2Proof.Machine.execPendingEntryEvict s
  | .domainLostTimeout domain => Sys2Proof.Machine.execDomainLostTimeout domain s
  | .xchkSample => Sys2Proof.Machine.execXchkSample s
  | .armGo who tpo w => Sys2Proof.Machine.execArmGo who tpo w s
  | .disarm who tpo w => Sys2Proof.Machine.execDisarm who tpo w s
  | .tpoFire tpo => Sys2Proof.Machine.execTpoFire tpo s
  | .captureEdge input edge falling => Sys2Proof.Machine.execCaptureEdge input edge falling s
  | .capturePop r input => Sys2Proof.Machine.execCapturePop r input s
  | .captureClear who input w => Sys2Proof.Machine.execCaptureClear who input w s
  | .refclkMonitorWindow edges => Sys2Proof.Machine.execRefclkMonitorWindow edges s
  | .refclkEdgeTimeout lastEdge => Sys2Proof.Machine.execRefclkEdgeTimeout lastEdge s
  | .pllLockWindow pll win => Sys2Proof.Machine.execPllLockWindow pll win s
  | .pllAcqSlow pll => Sys2Proof.Machine.execPllAcqSlow pll s
  | .pll1EnableWrite who w => Sys2Proof.Machine.execPll1EnableWrite who w s
  | .lpllEnableWrite who w => Sys2Proof.Machine.execLpllEnableWrite who w s
  | .write addr data part => Sys2Proof.Machine.execWrite addr data part s
  | .read addr n part => Sys2Proof.Machine.execRead addr n part s
  | .status => Sys2Proof.Machine.execStatus s
  | .unknownOp op => Sys2Proof.Machine.execUnknownOp op s
  | .registerWrite who aper addr size v => Sys2Proof.Machine.execRegisterWrite who aper addr size v s
  | .dramWindowWrite who aper off size v => Sys2Proof.Machine.execDramWindowWrite who aper off size v s
  | .modeRequest who w => Sys2Proof.Machine.execModeRequest who w s
  | .serviceUnlock who w => Sys2Proof.Machine.execServiceUnlock who w s
  | .fwUpdate who addr len flags => Sys2Proof.Machine.execFwUpdate who addr len flags s
  | .fwActivate who slot => Sys2Proof.Machine.execFwActivate who slot s
  | .coreRestart who core slot => Sys2Proof.Machine.execCoreRestart who core slot s
  | .stripeTakeover who stripe => Sys2Proof.Machine.execStripeTakeover who stripe s
  | .stripeRestore who stripe => Sys2Proof.Machine.execStripeRestore who stripe s
  | .stripeTest who dp => Sys2Proof.Machine.execStripeTest who dp s
  | .saveMaps who => Sys2Proof.Machine.execSaveMaps who s
  | .recoverWrite who slot len => Sys2Proof.Machine.execRecoverWrite who slot len s
  | .recoveryDataWrite who data => Sys2Proof.Machine.execRecoveryDataWrite who data s
  | .mboxDone stop => Sys2Proof.Machine.execMboxDone stop s
  | .restartTallyGraceEnd core => Sys2Proof.Machine.execRestartTallyGraceEnd core s
  | .alarmFifoRead r => Sys2Proof.Machine.execAlarmFifoRead r s
  | .alarmAckNone who unit => Sys2Proof.Machine.execAlarmAckNone who unit s
  | .alarmAckTakeover who unit => Sys2Proof.Machine.execAlarmAckTakeover who unit s
  | .alarmAckRetire who unit => Sys2Proof.Machine.execAlarmAckRetire who unit s
  | .alarmAckFailLane who unit => Sys2Proof.Machine.execAlarmAckFailLane who unit s
  | .powerOnReset => Sys2Proof.Machine.execPowerOnReset s
  | .supplyTrip outNs backNs cut => Sys2Proof.Machine.execSupplyTrip outNs backNs cut s
  | .pinReset lowNs cut => Sys2Proof.Machine.execPinReset lowNs cut s
  | .hostReset w cut => Sys2Proof.Machine.execHostReset w cut s
  | .firmwareReset mc1 w cut => Sys2Proof.Machine.execFirmwareReset mc1 w cut s
  | .resetRelease straps root => Sys2Proof.Machine.execResetRelease straps root s
  | .bootStep b => Sys2Proof.Machine.execBootStep b s
  | .debugHalt core => Sys2Proof.Machine.execDebugHalt core s
  | .debugRelease core => Sys2Proof.Machine.execDebugRelease core s
  | .wdtStart who w => Sys2Proof.Machine.execWdtStart who w s
  | .wdtLock who w => Sys2Proof.Machine.execWdtLock who w s
  | .wdtTally who w => Sys2Proof.Machine.execWdtTally who w s
  | .wdtWindowOpen => Sys2Proof.Machine.execWdtWindowOpen s
  | .wdtPeriodEnd => Sys2Proof.Machine.execWdtPeriodEnd s
  | .wdtHardTimerEnd cut => Sys2Proof.Machine.execWdtHardTimerEnd cut s
  | .evlAck who w => Sys2Proof.Machine.execEvlAck who w s
  | .evlFwEntry who w => Sys2Proof.Machine.execEvlFwEntry who w s
  | .evlHoldoffEnd => Sys2Proof.Machine.execEvlHoldoffEnd s
  | .eventSummarySend => Sys2Proof.Machine.execEventSummarySend s
  | .incidentDumpGo who w => Sys2Proof.Machine.execIncidentDumpGo who w s
  | .incidentDumpComplete => Sys2Proof.Machine.execIncidentDumpComplete s
  | .monOutput raw => Sys2Proof.Machine.execMonOutput raw s
  | .monConfigWrite who filt w => Sys2Proof.Machine.execMonConfigWrite who filt w s
  | .monAccClr who w => Sys2Proof.Machine.execMonAccClr who w s
  | .accClrAll who w => Sys2Proof.Machine.execAccClrAll who w s
  | .monSumLoRead r ch => Sys2Proof.Machine.execMonSumLoRead r ch s
  | .monCalGo who w => Sys2Proof.Machine.execMonCalGo who w s
  | .monCalDone runs ch7 => Sys2Proof.Machine.execMonCalDone runs ch7 s
  | .thmExtScan => Sys2Proof.Machine.execThmExtScan s
  | .thmExtScanEnd phases => Sys2Proof.Machine.execThmExtScanEnd phases s
  | .thmSensorWindow wins => Sys2Proof.Machine.execThmSensorWindow wins s
  | .thmGraceEnd => Sys2Proof.Machine.execThmGraceEnd s
  | .thmCritTimerEnd => Sys2Proof.Machine.execThmCritTimerEnd s
  | .thmPersistTimerEnd => Sys2Proof.Machine.execThmPersistTimerEnd s
  | .thmReleaseTimerEnd => Sys2Proof.Machine.execThmReleaseTimerEnd s
  | .alertPinRelease => Sys2Proof.Machine.execAlertPinRelease s
  | .thmLock who w => Sys2Proof.Machine.execThmLock who w s
  | .thresholdWrite who sensor w => Sys2Proof.Machine.execThresholdWrite who sensor w s
  | .grant who w => Sys2Proof.Machine.execGrant who w s
  | .defer_ who w => Sys2Proof.Machine.execDefer who w s
  | .runGo who w => Sys2Proof.Machine.execRunGo who w s
  | .calAnswerTimeout => Sys2Proof.Machine.execCalAnswerTimeout s
  | .calDeferEnd => Sys2Proof.Machine.execCalDeferEnd s
  | .calHoldoffEnd => Sys2Proof.Machine.execCalHoldoffEnd s
  | .calClockTimeout => Sys2Proof.Machine.execCalClockTimeout s
  | .fgCnvPassesDone slices refs spur rms => Sys2Proof.Machine.execFgCnvPassesDone slices refs spur rms s
  | .calEqEyeWrite who w => Sys2Proof.Machine.execCalEqEyeWrite who w s
  | .stepDone who w => Sys2Proof.Machine.execStepDone who w s
  | .calEqStepTimeout => Sys2Proof.Machine.execCalEqStepTimeout s
  | .darkRunDone light cols pix => Sys2Proof.Machine.execDarkRunDone light cols pix s
  | .calSaveDone stop => Sys2Proof.Machine.execCalSaveDone stop s
  | .mint who row lo hi => Sys2Proof.Machine.execMint who row lo hi s
  | .finalise who region => Sys2Proof.Machine.execFinalise who region s
  | .close_ who region => Sys2Proof.Machine.execClose who region s
  | .revoke who slot => Sys2Proof.Machine.execRevoke who slot s
  | .vaultCmdDone burns => Sys2Proof.Machine.execVaultCmdDone burns s
  | .vaultLockSet who w => Sys2Proof.Machine.execVaultLockSet who w s
  | .shadowOverrideWrite who word w => Sys2Proof.Machine.execShadowOverrideWrite who word w s
  | .idkLoad who w => Sys2Proof.Machine.execIdkLoad who w s
  | .idkLoadDone => Sys2Proof.Machine.execIdkLoadDone s
  | .attGo who w => Sys2Proof.Machine.execAttGo who w s
  | .attDone bad => Sys2Proof.Machine.execAttDone bad s
  | .closeGo who w => Sys2Proof.Machine.execCloseGo who w s
  | .assignTimeout => Sys2Proof.Machine.execAssignTimeout s

end Sys2Proof.Machine
end

