-- ==== Sys2Proof/Machine/Idle.lean ====
section
/-!
DEFINITION. What the block does while no command waits.
-/
namespace Sys2Proof.Machine

/-- One MGTCLK cycle passes (log entry 7): device time moves to the next MGTCLK edge. -/
def idle (s : State) : State := s.goMgt (s.mgt + 1)

end Sys2Proof.Machine
end

