-- ==== Sys2Proof/Machine/Step.lean ====
section
/-!
DEFINITION. One step: the command at the front of the queue, or one MGTCLK cycle of idling.
-/
namespace Sys2Proof.Machine

/-- Take the command at the front of the queue and run it; on an empty queue one MGTCLK cycle
passes (log entry 7). -/
def step (s : State) : Host.Outcome State Fault Refusal :=
  match s.pending with
  | [] => .next (Sys2Proof.Machine.idle s)
  | c :: rest => exec c { s with pending := rest }

/-- `s` with the command that a table word spells in front of its queue; the table gives no bits,
so no word spells one. -/
def State.withFetchWord (s : State) (nbits w : Nat) : State :=
  match Sys2Proof.decodeTableWord nbits w with
  | some c => { s with pending := c :: s.pending }
  | none => s

end Sys2Proof.Machine
end

