-- ==== Sys2Proof/Safety.lean ====
section
/-!
DEFINITION. What the statements mean by a command that completes, by a memory and a ledger in order, and
by a state between two commands.
-/
set_option Elab.async false

namespace Sys2Proof.Machine

/-- Command `c` completes at `s`: exec answers a next state, and `P` holds of it. -/
def Runs (c : Instr) (s : State) (P : State → Prop) : Prop :=
  ∃ t, Sys2Proof.Machine.exec c s = .next t ∧ P t

/-- The byte memories of the device are in their one canonical form. -/
def State.memsOk (s : State) : Prop :=
  Memory.wf s.dram = true ∧ Memory.wf s.ret = true ∧ Memory.wf s.flash = true ∧
    Memory.wf s.sram0 = true ∧ Memory.wf s.sram1 = true

/-- The ring of the event ledger is within its bounds: 1024 slots, a head among them, and no more
unacknowledged entries than slots, and so it was before the last cycle that raised an event
(11_supervision.md R339, R341, R343, R344). -/
def Evl.inBounds (e : Evl) : Prop :=
  e.head < ringSize ∧ e.used ≤ ringSize ∧ e.before.head < ringSize ∧ e.before.used ≤ ringSize

/-- The ledger as it stood before the events of the present MGTCLK cycle, with those events (R343). -/
def State.ledgerNow (s : State) : Evl := s.evl.opened s.mgt s.usSince

/-- Events of severity `v` that the present cycle has raised so far. -/
def Evl.raised (e : Evl) (v : Sev) : Nat := (e.past.filter fun x => x.sev = v).length

/-- Between two commands no event waits to be entered (R343), the request is low while it is held off, and
otherwise it is high exactly while a status bit and its enable are both 1 (R296, R345). -/
def State.evlSettled (s : State) : Prop :=
  s.evl.staged = [] ∧
  (s.evl.hold.isSome = true → s.evl.req = false) ∧
  (s.evl.hold = none → (s.evl.req = true ↔ s.evl.intStatus.toNat &&& s.rn A.EVL_INT_EN ≠ 0))

/-- Everything but the queue and the ledger is as before: `t` differs from `s` at most in the fields that
the end of a command's cycle changes, the EVL block and the note of R6. -/
def State.sameBut (s t : State) : Prop := t = { s with evl := t.evl, rwc := t.rwc }

/-- A packet of `type` has started on lane `p` of set `set` at instant `at_`: it occupies the lane, its
SEQ is the set's next, and device time is not before its start (07_frond_output.md R207). -/
def State.sentOn (s t : State) (p set type at_ : Nat) : Prop :=
  (∃ x, (t.lane p).flight = some x ∧ x.type = type ∧ x.set = set ∧ x.endAt = at_ + packetTU x.body.length ∧
    (t.lane p).freeAt = x.endAt) ∧
  t.lnk.seqOf set = wrapAdd (s.lnk.seqOf set) 1 32 ∧
  t.now = max s.now at_ ∧
  ∀ q, q ≠ p → t.lane q = s.lane q

/-- Lane `p` is named by the word `w` of the low or the high register of a lane mask (R202, R204). -/
def laneNamed (hi : Bool) (w : Word) (p : Nat) : Bool :=
  if hi then decide (32 ≤ p) && w.getLsbD (p - 32) else decide (p < 32) && w.getLsbD p

/-- A link dump may start (R216): offset and length are multiples of 4096 within 64 MiB, and the mode is
CAPTURE, or STANDBY with a mask of READY lanes. -/
def State.dumpAsked (s : State) : Prop :=
  let off := s.rf A.LNK_DUMP_OFFSET 0 26
  let len := s.rf A.LNK_DUMP_LEN 0 27
  let mask := s.rn A.LNK_DUMP_LANES0 + s.rf A.LNK_DUMP_LANES1 0 28 * 2 ^ 32
  (off % 4096 = 0 ∧ len % 4096 = 0 ∧ 4096 ≤ len ∧ off + len ≤ 67108864) ∧
  (s.sys.mode = .capture ∨
    (s.sys.mode = .standby ∧ (∃ p < 60, mask.testBit p = true) ∧
      ∀ p < 60, mask.testBit p = true → (s.lane p).state = .ready))

/-- While the ticks do not run, no takeover and no change of datapaths waits (R30, R163). -/
def State.takesQuiet (s : State) : Prop := s.ticking = false → s.str.takes = [] ∧ s.str.switches = []

/-- A write of the slice-correction window by `who` may take effect (R109, R392). -/
def State.windowOpen (s : State) (who : Who) : Prop :=
  s.fgRuns = false ∧ (who = .host → s.sys.mode = .standby ∨ s.sys.mode = .calibrate)

/-- The command of `CNV_RETIRE` is one that R100 refuses with INVALID. -/
def State.retireInvalid (s : State) : Prop :=
  129 < s.rf A.CNV_RETIRE 0 8 ∨ 321 < s.rf A.CNV_RETIRE 8 9 ∨ s.rf A.CNV_RETIRE 19 2 = 3 ∨
    (s.rf A.CNV_RETIRE 19 2 ≠ 0 ∧ 128 ≤ s.rf A.CNV_RETIRE 0 8) ∨
    (s.cnv.ent (130 * (322 * s.rf A.CNV_RETIRE 17 1 + s.rf A.CNV_RETIRE 8 9) + s.rf A.CNV_RETIRE 0 8)).failed = true

/-- The spare that the command of `CNV_RETIRE` needs is free (R100). -/
def State.retireServed (s : State) : Prop :=
  let key := 322 * s.rf A.CNV_RETIRE 17 1 + s.rf A.CNV_RETIRE 8 9
  let sp := s.rf A.CNV_RETIRE 19 2
  (sp = 0 → s.cnv.freeSpares key ≠ []) ∧ (sp ≠ 0 → s.cnv.spareFree key (sp - 1) = true)

/-- The value that the last read put out at the port of `who` (R290, R436). -/
def State.readBack (s : State) : Who → Word
  | .host => s.sys.portOut.headD 0
  | .mc0 => s.sys.coreRead0
  | .mc1 => s.sys.coreRead1

/-- The bytes of the word `v` that a read of the reader's size addresses (R434). -/
def partOf (r : Reader) (v : Nat) : Nat :=
  let n := accessSize r.who r.size
  v / 2 ^ (8 * (r.off.val / n * n)) % 2 ^ (8 * n)

/-- A read has answered the word `v` to its accessor (R292, R436). -/
def State.answers (t : State) (who : Who) (v : Nat) : Prop :=
  match who with
  | .host => t.sys.portOut = [mkWord v]
  | .mc0 => t.sys.coreRead0 = mkWord v
  | .mc1 => t.sys.coreRead1 = mkWord v

/-- A good time-class frame with body `b` arrives on port `p`, is carried, is accepted for domain `d` and
is for this device (R234, R235, R238, R256). -/
def State.hearsPtp (s : State) (p : Nat) (b : List Byte) (d : Nat) : Prop :=
  s.portUp p = true ∧ lenOk b = true ∧ crcOk b = true ∧ fb b 4 2 = b.length ∧ fb b 2 1 = 0 ∧ s.carries 0 = true ∧
  s.ptpAccept b = some d ∧
  (128 ≤ fb b 0 1 ∨ ∃ a, s.fab.addr = some a ∧
    (fb b 0 1 = a ∧ a < 64 ∨ (64 ≤ fb b 0 1 ∧ fb b 0 1 < 128 ∧ s.fab.tree.testBit p = true)))

/-- The message answers the exchange of port `p` and domain `d` that is in progress (R261). -/
def State.answersUs (s : State) (p d : Nat) (b : List Byte) : Prop :=
  (s.pdelay p d).busy = true ∧ ptpSeq b = (s.pdelay p d).seq ∧ (b.drop 60).take 10 = s.portId p

/-- The parts of the state but the registers, the note of R6 and the event ledger, which every command's
end of cycle may change. -/
inductive Field where
  | pending | now | draws | dram | ret | sram0 | sram1 | flash | part | sys | clk | tmg
  | plan | cnv | str | time | frames | lnk | seals | vlt | fab | mon | thm | cal | wdt
  deriving DecidableEq, Repr

/-- `t` holds the same as `s` in this part. -/
def Field.same (f : Field) (s t : State) : Prop :=
  match f with
  | .pending => t.pending = s.pending
  | .now => t.now = s.now
  | .draws => t.draws = s.draws
  | .dram => t.dram = s.dram
  | .ret => t.ret = s.ret
  | .sram0 => t.sram0 = s.sram0
  | .sram1 => t.sram1 = s.sram1
  | .flash => t.flash = s.flash
  | .part => t.part = s.part
  | .sys => t.sys = s.sys
  | .clk => t.clk = s.clk
  | .tmg => t.tmg = s.tmg
  | .plan => t.plan = s.plan
  | .cnv => t.cnv = s.cnv
  | .str => t.str = s.str
  | .time => t.time = s.time
  | .frames => t.frames = s.frames
  | .lnk => t.lnk = s.lnk
  | .seals => t.seals = s.seals
  | .vlt => t.vlt = s.vlt
  | .fab => t.fab = s.fab
  | .mon => t.mon = s.mon
  | .thm => t.thm = s.thm
  | .cal => t.cal = s.cal
  | .wdt => t.wdt = s.wdt

/-- Every part but the queue and what the part number fixes. -/
def Field.moving : List Field :=
  [.now, .draws, .dram, .ret, .sram0, .sram1, .flash, .sys, .clk, .tmg, .plan, .cnv, .str, .time,
       .frames, .lnk, .seals, .vlt, .fab, .mon, .thm, .cal, .wdt]

/-- The parts of the state that a command may change, beside the registers and the event ledger: those of
its own block, and of the blocks that its rules name. A command that may enter or leave a mode (R15 to R22),
and an access to any register, reaches most of them. -/
def mayChange : Sys2Proof.Instr → List Field
  | .sealSignDone _ => [.seals]
  | .flashHeaderRead _ | .flashCopyDone _ => [.plan]
  | .retireGo _ _ | .tdacGo _ _ | .cnvCntClr _ _ => [.cnv]
  | .takeoverGo _ _ | .restoreGo _ _ | .testGo _ _ | .statHoldWrite _ _ => [.str]
  | .linkinfo _ _ _ _ _ | .ack _ _ _ | .nak _ _ _ => [.fab]
  | .bulkWindowOpen _ _ | .status | .unknownOp _ | .serviceUnlock _ _ | .alarmFifoRead _ => [.sys]
  | .dramWindowWrite _ _ _ _ _ => [.dram]
  | .wdtWindowOpen | .evlAck _ _ | .evlFwEntry _ _ | .evlHoldoffEnd => [.now]
  | .monConfigWrite _ _ _ | .accClrAll _ _ | .monCalGo _ _ => [.mon]
  | .thresholdWrite _ _ _ => [.thm]
  | .mint _ _ _ _ | .finalise _ _ | .close_ _ _ | .revoke _ _ | .vaultCmdDone _ => [.vlt]
  | .integrationStart => [.now, .tmg]
  | .statPacketSend | .dumpPacketSend | .laneMarkerSend | .linkDumpDone => [.now, .lnk]
  | .loadStart _ _ | .loadFinish _ _ | .loadAbort _ _ | .flashGo _ _ | .commitGo _ _ | .commitCancel _ _
  | .rigCommitGo _ _ | .rigCommitCancel _ _ => [.plan, .fab]
  | .planCheckDone => [.plan, .vlt]
  | .rigCommitTimeout => [.now, .plan]
  | .liveGo _ _ | .liveCopy _ _ => [.tmg, .plan]
  | .tdacInjectionStart => [.now, .cnv]
  | .sliceWindowWrite _ _ _ | .sliceWord0Read _ _ => [.sys, .cnv]
  | .centroidFrameRead _ => [.sys, .str]
  | .linkinfoSend _ | .portUp _ | .hopAckTimeout _ | .probeTimeout | .eventSummarySend | .assignTimeout =>
      [.now, .fab]
  | .discGo _ _ | .yield _ _ => [.time, .fab]
  | .pdelayTimeout _ _ | .domainLostTimeout _ | .xchkSample => [.now, .time]
  | .pllAcqSlow _ => [.now, .clk]
  | .restartTallyGraceEnd _ => [.now, .sys]
  | .debugHalt _ | .debugRelease _ => [.sys, .wdt]
  | .wdtStart _ _ | .wdtLock _ _ => [.now, .wdt]
  | .monAccClr _ _ | .thmExtScan => [.now, .mon]
  | .monSumLoRead _ _ => [.sys, .mon]
  | .alertPinRelease | .thmLock _ _ => [.now, .thm]
  | .vaultLockSet _ _ | .shadowOverrideWrite _ _ _ => [.now, .vlt]
  | .idkLoadDone => [.seals, .vlt]
  | .attDone _ => [.draws, .vlt]
  | .globalTransfer => [.now, .tmg, .frames]
  | .linePacketSend | .reconPacketSend => [.now, .frames, .lnk]
  | .sealPacketSend => [.now, .lnk, .seals]
  | .laneDriverFault _ _ | .eqWrite _ _ _ => [.sys, .frames, .lnk]
  | .loadDataWrite _ _ => [.now, .plan, .fab]
  | .softTrig _ _ | .trigEdge _ | .realign _ _ | .presetLoad _ _ | .tmgCntClr _ _ => [.now, .tmg, .plan]
  | .sequencerStart => [.now, .tmg, .str]
  | .tdacInjectionDone _ => [.now, .draws, .cnv]
  | .datapathFault _ _ => [.sys, .str, .frames]
  | .portDown _ _ | .pdelayReqSend _ _ | .pendingEntryEvict => [.now, .time, .fab]
  | .tbIncWrite _ _ _ | .stepGo _ _ _ | .setGo _ _ _ | .tbRunWrite _ _ _ | .armGo _ _ _ | .disarm _ _ _
  | .captureClear _ _ _ => [.plan, .time, .fab]
  | .tbSecLoRead _ _ | .capturePop _ _ => [.sys, .plan, .time]
  | .captureEdge _ _ _ => [.now, .draws, .time]
  | .incidentDumpGo _ _ => [.now, .dram, .ret]
  | .incidentDumpComplete => [.draws, .dram, .ret]
  | .monOutput _ => [.now, .draws, .mon]
  | .calHoldoffEnd => [.now, .mon, .cal]
  | .closeGo _ _ => [.sys, .seals, .vlt]
  | .referenceSwitch => [.now, .tmg, .cnv, .frames]
  | .readoutComplete => [.now, .sys, .tmg, .cnv]
  | .statDelivery => [.sys, .str, .frames, .lnk]
  | .frameHeaderSend | .frameTrailerSend => [.now, .frames, .lnk, .seals]
  | .trainGo _ _ | .laneOkWrite _ _ _ | .laneFailReq _ _ _ | .linkDumpGo _ _ | .linkDumpAbort _ _
  | .lnkCntClr _ _ => [.now, .sys, .frames, .lnk]
  | .selftestDone _ | .spareSelftest _ _ => [.now, .sys, .str, .frames]
  | .fabricFrameSend _ => [.now, .draws, .time, .fab]
  | .recoveryDataWrite _ _ => [.now, .ret, .flash, .sys]
  | .resetRelease _ _ => [.now, .sys, .clk, .wdt]
  | .wdtTally _ _ | .wdtPeriodEnd => [.now, .dram, .ret, .wdt]
  | .idkLoad _ _ | .attGo _ _ => [.now, .sys, .seals, .vlt]
  | .rotationEvaluate _ => [.now, .draws, .sys, .cnv, .cal]
  | .frameComplete => [.dram, .sys, .str, .frames, .fab]
  | .genlockEdge _ => [.now, .clk, .tmg, .cnv, .str]
  | .tpoFire _ => [.now, .tmg, .plan, .str, .time]
  | .mboxDone _ => [.ret, .sram0, .sram1, .flash, .sys]
  | .rigCommit _ _ | .rigAck _ _ | .rigDone _ _ | .rigCancel _ _ | .fabricFrameForward _ _ | .probe _ _
  | .report _ _ | .assign _ _ | .assignAck _ _ | .linkEvent _ _ | .partition _ _
  | .firmwareControlMessage _ _ | .eventSummary _ _ | .proxyFragment _ _ | .bulkWrite _ _ | .bulkEnd _ _
  | .sync _ _ | .followUp _ _ | .ptpGeneralMessage _ _ | .delayReq _ _ | .pdelayReq _ _ | .pdelayResp _ _
  | .pdelayRespFollowUp _ _ => [.draws, .dram, .sys, .plan, .time, .fab]
  | .read _ _ _ => [.now, .sys, .cnv, .str, .time, .mon]
  | .alarmAckNone _ _ | .alarmAckTakeover _ _ | .alarmAckRetire _ _ | .alarmAckFailLane _ _ =>
      [.now, .sys, .cnv, .str, .frames, .lnk]
  | .stepDone _ _ => [.sys, .plan, .lnk, .vlt, .mon, .cal]
  | .rowSlot _ => [.now, .dram, .sys, .tmg, .cnv, .str, .frames]
  | .grant _ _ | .defer_ _ _ | .runGo _ _ | .calAnswerTimeout | .calDeferEnd | .calClockTimeout
  | .calEqEyeWrite _ _ | .calEqStepTimeout => [.now, .sys, .plan, .lnk, .vlt, .mon, .cal]
  | .darkRunDone _ _ _ => [.dram, .sys, .plan, .lnk, .vlt, .mon, .cal]
  | .calSaveDone _ => [.flash, .sys, .plan, .lnk, .vlt, .mon, .cal]
  | .fwUpdate _ _ _ _ | .fwActivate _ _ | .coreRestart _ _ _ | .stripeTakeover _ _ | .stripeRestore _ _
  | .stripeTest _ _ | .saveMaps _ | .recoverWrite _ _ _ => [.now, .ret, .flash, .sys, .str, .fab, .cal, .wdt]
  | .monCalDone _ _ => [.now, .draws, .sys, .plan, .lnk, .vlt, .mon, .cal]
  | .fgCnvPassesDone _ _ _ _ => [.now, .sys, .plan, .cnv, .lnk, .vlt, .mon, .cal]
  | .pll1EnableWrite _ _ | .lpllEnableWrite _ _ =>
      [.now, .dram, .clk, .tmg, .plan, .cnv, .str, .time, .frames, .lnk, .seals, .fab, .mon, .thm, .cal]
  | .subFrameTick | .frameTick =>
      [.now, .draws, .dram, .sys, .tmg, .plan, .cnv, .str, .frames, .lnk, .seals, .vlt, .fab, .mon, .thm,
       .cal]
  | .thmGraceEnd | .thmCritTimerEnd | .thmPersistTimerEnd | .thmReleaseTimerEnd =>
      [.now, .dram, .ret, .sys, .tmg, .plan, .cnv, .str, .time, .frames, .lnk, .seals, .vlt, .fab, .mon,
       .thm, .cal]
  | .refclkMonitorWindow _ | .refclkEdgeTimeout _ =>
      [.now, .dram, .ret, .sys, .clk, .tmg, .plan, .cnv, .str, .time, .frames, .lnk, .seals, .vlt, .fab,
       .mon, .thm, .cal]
  | .pllLockWindow _ _ =>
      [.now, .draws, .dram, .sys, .clk, .tmg, .plan, .cnv, .str, .time, .frames, .lnk, .seals, .vlt, .fab,
       .mon, .thm, .cal]
  | .thmSensorWindow _ =>
      [.now, .dram, .ret, .flash, .sys, .tmg, .plan, .cnv, .str, .time, .frames, .lnk, .seals, .vlt, .fab,
       .mon, .thm, .cal]
  | .modeRequest _ _ =>
      [.now, .dram, .ret, .flash, .sys, .tmg, .plan, .cnv, .str, .time, .frames, .lnk, .seals, .vlt, .fab,
       .mon, .thm, .cal, .wdt]
  | .thmExtScanEnd _ =>
      [.now, .draws, .dram, .ret, .flash, .sys, .tmg, .plan, .cnv, .str, .time, .frames, .lnk, .seals, .vlt,
       .fab, .mon, .thm, .cal]
  | .bootStep _ =>
      [.now, .dram, .ret, .sram0, .sram1, .flash, .sys, .clk, .tmg, .plan, .cnv, .str, .time, .frames, .lnk,
       .seals, .vlt, .fab, .mon, .thm, .cal]
  | .write _ _ _ | .registerWrite _ _ _ _ _ | .powerOnReset | .supplyTrip _ _ _ | .pinReset _ _
  | .hostReset _ _ | .firmwareReset _ _ _ | .wdtHardTimerEnd _ => Field.moving

/-- The register blocks (the upper half of a register's address, R432) whose registers a command may
change. -/
def blocksOf : Sys2Proof.Instr → List Nat
  | .integrationStart | .frameHeaderSend | .linePacketSend | .reconPacketSend | .statPacketSend
  | .sealPacketSend | .dumpPacketSend | .laneMarkerSend | .sequencerStart | .tdacInjectionStart
  | .sliceWord0Read _ _ | .linkinfoSend _ | .linkinfo _ _ _ _ _ | .fabricFrameSend _ | .ack _ _ _
  | .pendingEntryEvict | .status | .dramWindowWrite _ _ _ _ _ | .restartTallyGraceEnd _ | .resetRelease _ _
  | .debugRelease _ | .wdtWindowOpen | .evlHoldoffEnd | .eventSummarySend | .incidentDumpComplete
  | .thmExtScan | .alertPinRelease => []
  | .globalTransfer | .referenceSwitch => [4]
  | .sealSignDone _ | .idkLoadDone | .attDone _ => [0x37]
  | .linkDumpDone => [0x30]
  | .loadStart _ _ | .loadDataWrite _ _ | .loadFinish _ _ | .loadAbort _ _ | .flashGo _ _
  | .flashHeaderRead _ | .flashCopyDone _ | .planCheckDone | .commitGo _ _ | .commitCancel _ _
  | .rigCommitGo _ _ | .rigCommitCancel _ _ | .rigCommitTimeout => [3]
  | .retireGo _ _ | .tdacGo _ _ | .tdacInjectionDone _ | .cnvCntClr _ _ => [5]
  | .takeoverGo _ _ | .restoreGo _ _ | .testGo _ _ | .statHoldWrite _ _ | .centroidFrameRead _ => [0x15]
  | .portUp _ | .nak _ _ _ | .hopAckTimeout _ | .probeTimeout | .assignTimeout => [0x31]
  | .bulkWindowOpen _ _ | .unknownOp _ | .serviceUnlock _ _ | .recoveryDataWrite _ _ | .mboxDone _
  | .alarmFifoRead _ => [1]
  | .pdelayReqSend _ _ | .pdelayTimeout _ _ | .domainLostTimeout _ | .xchkSample | .captureEdge _ _ _ => [0x32]
  | .pllAcqSlow _ => [2]
  | .debugHalt _ | .wdtStart _ _ | .wdtLock _ _ | .wdtTally _ _ | .wdtPeriodEnd => [0x35]
  | .evlAck _ _ | .evlFwEntry _ _ | .incidentDumpGo _ _ => [0x38]
  | .monOutput _ | .monConfigWrite _ _ _ | .monAccClr _ _ | .accClrAll _ _ | .monSumLoRead _ _
  | .monCalGo _ _ => [0x33]
  | .thmLock _ _ | .thresholdWrite _ _ _ => [0x34]
  | .calHoldoffEnd => [0x39]
  | .mint _ _ _ _ | .finalise _ _ | .close_ _ _ | .revoke _ _ | .vaultCmdDone _ | .vaultLockSet _ _
  | .shadowOverrideWrite _ _ _ => [0x36]
  | .rowSlot _ | .datapathFault _ _ | .selftestDone _ | .spareSelftest _ _ => [1, 0x15]
  | .readoutComplete | .rotationEvaluate _ | .sliceWindowWrite _ _ _ => [1, 5]
  | .frameTrailerSend => [0x30, 0x37]
  | .trainGo _ _ | .laneOkWrite _ _ _ | .laneFailReq _ _ _ | .laneDriverFault _ _ | .eqWrite _ _ _
  | .linkDumpGo _ _ | .linkDumpAbort _ _ | .lnkCntClr _ _ => [1, 0x30]
  | .softTrig _ _ | .trigEdge _ | .realign _ _ | .presetLoad _ _ | .tmgCntClr _ _ | .liveGo _ _
  | .liveCopy _ _ => [3, 4]
  | .genlockEdge _ => [2, 4]
  | .portDown _ _ | .discGo _ _ | .yield _ _ => [0x31, 0x32]
  | .tbIncWrite _ _ _ | .stepGo _ _ _ | .setGo _ _ _ | .tbRunWrite _ _ _ | .tbSecLoRead _ _ | .armGo _ _ _
  | .disarm _ _ _ | .capturePop _ _ | .captureClear _ _ _ => [3, 0x32]
  | .idkLoad _ _ | .attGo _ _ | .closeGo _ _ => [1, 0x37]
  | .frameComplete | .fwUpdate _ _ _ _ | .fwActivate _ _ | .coreRestart _ _ _ | .stripeTakeover _ _
  | .stripeRestore _ _ | .stripeTest _ _ | .saveMaps _ | .recoverWrite _ _ _ => [1, 0x15, 0x31]
  | .statDelivery => [1, 0x15, 0x30]
  | .tpoFire _ => [3, 4, 0x32]
  | .read _ _ _ => [1, 0x15, 0x33]
  | .rigCommit _ _ | .rigAck _ _ | .rigDone _ _ | .rigCancel _ _ | .fabricFrameForward _ _ | .probe _ _
  | .report _ _ | .assign _ _ | .assignAck _ _ | .linkEvent _ _ | .partition _ _
  | .firmwareControlMessage _ _ | .eventSummary _ _ | .proxyFragment _ _ | .bulkWrite _ _ | .bulkEnd _ _
  | .sync _ _ | .followUp _ _ | .ptpGeneralMessage _ _ | .delayReq _ _ | .pdelayReq _ _ | .pdelayResp _ _
  | .pdelayRespFollowUp _ _ => [1, 3, 0x31, 0x32]
  | .alarmAckNone _ _ | .alarmAckTakeover _ _ | .alarmAckRetire _ _ | .alarmAckFailLane _ _ =>
      [1, 5, 0x15, 0x30]
  | .grant _ _ | .defer_ _ _ | .runGo _ _ | .calAnswerTimeout | .calDeferEnd | .calClockTimeout
  | .calEqEyeWrite _ _ | .stepDone _ _ | .calEqStepTimeout | .darkRunDone _ _ _ | .calSaveDone _ =>
      [1, 3, 0x30, 0x39]
  | .monCalDone _ _ => [1, 3, 0x30, 0x33, 0x39]
  | .fgCnvPassesDone _ _ _ _ => [1, 3, 5, 0x30, 0x39]
  | .subFrameTick | .frameTick => [1, 3, 4, 5, 0x15, 0x30, 0x31, 0x33, 0x34, 0x37, 0x39]
  | .pll1EnableWrite _ _ | .lpllEnableWrite _ _ => [2, 3, 4, 5, 0x15, 0x30, 0x31, 0x32, 0x33, 0x34, 0x37, 0x39]
  | .modeRequest _ _ | .thmExtScanEnd _ | .thmSensorWindow _ | .thmGraceEnd | .thmCritTimerEnd
  | .thmPersistTimerEnd | .thmReleaseTimerEnd => [1, 3, 4, 5, 0x15, 0x30, 0x31, 0x32, 0x33, 0x34, 0x37, 0x39]
  | .refclkMonitorWindow _ | .refclkEdgeTimeout _ | .pllLockWindow _ _ =>
      [1, 2, 3, 4, 5, 0x15, 0x30, 0x31, 0x32, 0x33, 0x34, 0x37, 0x39]
  | .bootStep _ => [1, 2, 3, 4, 5, 0x15, 0x30, 0x31, 0x32, 0x33, 0x34, 0x36, 0x37, 0x39]
  | .write _ _ _ | .registerWrite _ _ _ _ _ | .powerOnReset | .supplyTrip _ _ _ | .pinReset _ _
  | .hostReset _ _ | .firmwareReset _ _ _ | .wdtHardTimerEnd _ => List.range 64

/-- The classes and codes of events are bytes (R339, R340). -/
def Event.inRange (e : Event) : Prop := e.cls < 256 ∧ e.code < 256

/-- Event `a` is entered before event `b` of the same cycle, or they rank alike (R343): faults, then
warnings, then information; then by class; then by code. -/
def Event.notAfter (a b : Event) : Prop :=
  b.sev.code < a.sev.code ∨
    (a.sev = b.sev ∧ (a.cls < b.cls ∨ (a.cls = b.cls ∧ a.code ≤ b.code)))

/-- The newest primary entry, if it is unacknowledged, and how far back from the head it lies (R342). -/
def Evl.newestOpen (e : Evl) : Option (Nat × LedgerRec) :=
  match e.newest (fun _ => true) 2 with
  | some (k, r) => if k ≤ e.used then some (k, r) else none
  | none => none

/-- The event repeats the newest primary entry (R342). -/
def Evl.repeats (e : Evl) (ev : Event) : Prop :=
  ∃ k r, e.newestOpen = some (k, r) ∧ r.sev = ev.sev ∧ r.cls = ev.cls ∧ r.code = ev.code ∧ r.unit = ev.unit ∧
    r.rep < 16383

/-- A load start for bank `i` is not refused (R123, R325): the bank is neither LIVE nor DRAINING nor the
target of the pending commit, no bank is LOADING or CHECKING, and MC0 is not restarting. -/
def State.loadFree (s : State) (i : Nat) : Prop :=
  (s.plan.bank i).state ≠ .live ∧ (s.plan.bank i).state ≠ .draining ∧ (∀ c, s.plan.commit = some c → c.bank ≠ i) ∧
  s.plan.loadBusy = false ∧ s.sys.core0 ≠ .restarting

/-- The limit of R123 on the bytes of an image, with `n` bytes `data` received: 4 MiB, and IMAGE_SIZE once
it has been received. -/
def imageLimit (data : List Byte) (n : Nat) : Nat :=
  if n < 12 then 4194304 else min (imgU data 8 4) 4194304

/-- The cause with which a request to commit is refused, in the order of R126. -/
def State.commitCause (s : State) (bank when_ tb ns : Nat) : Option Nat :=
  if s.sys.mode = .boot ∨ s.sys.mode = .calibrate ∨ s.sys.mode = .safe then some 14
  else if ((s.plan.bank bank).state ≠ .ready ∧ (s.plan.bank bank).state ≠ .live) ∨
    (when_ = 1 ∧ s.plan.live = none) then some 15
  else if s.plan.commit.isSome then some 16
  else if s.lanesTooFew (s.plan.bank bank).plan.out then some 13
  else if when_ = 2 ∧ (s.tb tb).run = false then some 17
  else if when_ = 3 ∨ (when_ = 2 ∧ 999999999 < ns) then some 23
  else none

/-- The instant that a commit names is past or nearer than 64 µs (R127). -/
def State.commitPast (s : State) (when_ tb frame sec ns w : Nat) : Prop :=
  (when_ = 1 ∧ s.targetPast frame w = true) ∨ (when_ = 2 ∧ tbOf sec ns 0 < s.tbAt tb w + 64000 * nsUnit)

/-- A good frame with body `b`, of class `cls` and message `msg`, arrives on port `p` and is carried in the
present mode; one that is acknowledged is new there and finds room (R234, R237, R238). -/
def State.arrives (s : State) (p : Nat) (b : List Byte) (cls msg : Nat) : Prop :=
  s.portUp p = true ∧ lenOk b = true ∧ crcOk b = true ∧ fb b 4 2 = b.length ∧ fb b 2 1 = cls ∧ fb b 6 2 = msg ∧
  s.carries cls = true ∧ (cls = 1 ∨ cls = 3 → ((s.fport p).seenOf cls).has (fb b 8 4) = false ∧ s.classFull cls = false)

/-- A frame that has arrived on port `p` is for this device: it is LOCAL, or for its own address, or a broadcast
from a tree port (R235), and a control message is not one accepted before from its source (R237). -/
def State.forUs (s : State) (p : Nat) (b : List Byte) : Prop :=
  (fb b 2 1 = 1 → 64 ≤ fb b 1 1 ∨ s.midSeen (fb b 1 1) (fb b 12 2) = false) ∧
    (128 ≤ fb b 0 1 ∨ ∃ a, s.fab.addr = some a ∧
      (fb b 0 1 = a ∧ a < 64 ∨ (64 ≤ fb b 0 1 ∧ fb b 0 1 < 128 ∧ s.fab.tree.testBit p = true)))

/-- Such a frame is delivered to this device. -/
def State.hears (s : State) (p : Nat) (b : List Byte) (cls msg : Nat) : Prop :=
  s.arrives p b cls msg ∧ s.forUs p b

/-- The instant of an edge at the GENLOCK input, with the 0.3125 ns resolution of R284. -/
def State.glInstant (s : State) (e : Nat) : Nat :=
  let o := s.clk.seqOrg % Config.seqTU
  if e ≤ o then e else o + (e - o) / vcoTU * vcoTU

/-- The set that a write `w` of `TMG_LIVE_CTRL` with GO snapshots: COPY acts first (R67); RW bits follow R290. -/
def State.liveSetOf (s : State) (who : Who) (w : Word) : LiveSet :=
  let v := s.standing who A.TMG_LIVE_CTRL w
  { entries := (List.range 12).map (if wbit w 2 then s.liveCopy else s).stagingEntry
    mask := wfield v 16 12
    target := if wbit v 1 then some (s.rn A.TMG_LIVE_TARGET) else none
    go := s.seqEdge s.now }

/-- A register without behaviour of its own, written whole by `who`: R5 and R8 alone say what the write of
`w` does (R432 to R434). -/
def State.plainWrite (s : State) (who : Who) (a : Nat) (w : Word) : Prop :=
  a % 4 = 0 ∧ a < 0x400000 ∧ ¬ (0x200000 ≤ a ∧ a < 0x300000) ∧ (blockClass a).isSome = true ∧
    (who = .host → s.hostDenied a w = false) ∧
    (s.turn who a).homeWrite who a (s.standing who a w) = none

/-- What R5 and R8 leave in the registers after a write of `w` at `a`: RW bits take the word, RWC bits
written as 1 clear (none that the device has just set, R6), all other bits and registers stay; the word of
a writer that R290 puts after `who` in the same MGTCLK cycle stands. -/
def State.writtenTo (s t : State) (who : Who) (a : Nat) (w : Word) : Prop :=
  (∀ b, b ≠ a → t.reg b = s.reg b) ∧
  (rwcRegs.contains a = false → rwMask a ≠ 0 →
    t.rn a = if s.outranked who a then s.rn a else w.toNat &&& rwMask a) ∧
  (rwcRegs.contains a = false → rwMask a = 0 → t.rn a = s.rn a) ∧
  (rwcRegs.contains a = true → s.justSet a = 0 → ∀ i, t.rb a i = (s.rb a i && !wbit w i)) ∧
  t = { s with regs := t.regs, rwc := t.rwc, evl := t.evl }

/-- A write of the DRAM window at DRAM byte `d` by `who` is turned away (R12, R13, R352). -/
def State.dramShut (s : State) (who : Who) (d : Nat) : Prop :=
  d < 0x83E00000 ∨ 0xFC000000 ≤ d ∨
    (0xEC000000 ≤ d ∧ who = .host ∧ s.sys.mode ≠ .standby ∧ s.sys.mode ≠ .calibrate)

/-- The mailbox has taken opcode `op` as run `r` (R301). -/
def State.mailed (t : State) (op : Nat) (r : MboxRun) : Prop := t.sys.mbox = some r ∧ t.sys.mboxOp = op

/-- A command that R301 gives in STANDBY with service permission only is refused for the mode, then for
PERMIT; otherwise `p` says what it does. -/
def State.served (s : State) (c : Instr) (op : Nat) (p : Prop) : Prop :=
  (s.sys.mode ≠ .standby → Runs c s fun t => t.mailed op (.refused .mode)) ∧
  (s.sys.mode = .standby → s.sys.permit = false → Runs c s fun t => t.mailed op (.refused .permit)) ∧
  (s.sys.mode = .standby → s.sys.permit = true → p)

/-- The mailbox answers `code`: it is free again, and `SYS_INT_STATUS.MBOX` is set (R301). -/
def State.mailAnswer (t : State) (code : Nat) : Prop :=
  t.sys.mbox = none ∧ t.sys.mboxResult = code ∧ t.rb A.SYS_INT_STATUS 4 = true

/-- The FW_UPDATE image of `len` bytes at `addr` of DRAM is whole and good (R319). -/
def State.imageGood (s : State) (addr len : Nat) : Prop :=
  s.fwGood s.dram addr = true ∧ imgU (rdBytes s.dram addr 12) 8 4 ≤ len

/-- The block as a power-on reset holds it until `u` (R305, R448): everything at reset but flash, fuses and
what is outside the device. -/
def State.coldHeld (s t : State) (u now : Nat) : Prop :=
  t.sys.phase = .held u true ∧ t.sys.causeBits = 1 ∧ t.sys.causeLast = 0 ∧ t.regs = [] ∧ t.dram = [] ∧
    t.ret = [] ∧ t.frames = [] ∧ t.plan = {} ∧ t.tmg = {} ∧ t.now = now ∧ t.pending = s.pending

/-- The block as a warm reset with cause `code` holds it until `u` (R306, R307): registers at reset, and
DRAM, retained SRAM and the causes kept. -/
def State.warmHeld (s t : State) (code u : Nat) : Prop :=
  t.sys.phase = .held u false ∧ t.sys.causeBits = s.sys.causeBits ||| 2 ^ code ∧ t.sys.causeLast = code ∧
    t.regs = [] ∧ t.dram = s.dram ∧ t.ret = s.ret ∧ t.flash = s.flash ∧ t.vlt.fuses = s.vlt.fuses ∧
    t.frames = [] ∧ t.plan = {} ∧ t.tmg = {} ∧ t.sys.mode = .boot ∧ t.pending = s.pending

/-- No operation is in progress that a reset would cut short: no dump, no fuse programming, no flash recovery,
save, firmware update, activation or recovery write; and no hard timer runs that could end with the reset. -/
def State.nothingCut (s : State) : Prop :=
  s.evl.dump = none ∧ s.vlt.run = none ∧ s.recovering = none ∧ s.cal.saveMbox = false ∧ s.cal.state ≠ .saving ∧
    s.wdt.hardEnd = none ∧ (∀ a l c i, s.sys.mbox ≠ some (.fwUpdate a l c i)) ∧
    (∀ i, s.sys.mbox ≠ some (.fwActivate i)) ∧ ∀ i l g, s.sys.mbox ≠ some (.recover i l g)

/-- `who` may write the monitor's selection, filter and clear registers: firmware, and the host while
HOST_EN is set (R364). -/
def State.monMay (s : State) (who : Who) : Prop := who = .host → s.rb A.MON_CTRL 3 = true

/-- Channel `c` as a clear leaves it: empty, but for an output that lands in the same cycle (R361). -/
def State.accCleared (s : State) (c : Nat) : MonAcc :=
  match s.mon.landed with
  | some l => if l.at_ = s.mgt ∧ l.ch = c then ({} : MonAcc).land l.kind l.code else {}
  | none => {}

/-- The selection and filter words that a write of `MON_FILT` or `MON_SEL` would leave. -/
def State.monWords (s : State) (filt : Bool) (w : Word) : Nat × Nat :=
  if filt then (s.rn A.MON_SEL, w.toNat &&& 0xFFFFFFF) else (w.toNat &&& 0x371F, s.rn A.MON_FILT)

/-- Slices of a completed FG_CNV run that disagree without failing (R395). -/
def State.disagreeing (s : State) (l : List SliceCal) : Nat :=
  (l.filter fun x => x.slice < 83720 && !(s.cnv.ent x.slice).failed &&
    (!calFails x (s.cnv.ent x.slice) && !calAgrees x (s.cnv.ent x.slice))).length

/-- The eye report `w` is taken into a LINK_EQ run (R397). -/
def EqRun.reported (r : EqRun) (w : Word) : EqRun :=
  { r with lanes := r.lanes.map fun x =>
      if x.1 = wfield w 0 6 then (x.1, { x.2 with report := some (wfield w 8 8) }) else x }

/-- The lanes of a LINK_EQ run after one step of its tap (R397). -/
def EqRun.stepped (r : EqRun) : List (Nat × EqLane) := r.lanes.map fun x => (x.1, x.2.step r.tap)

/-- A DARK run in CALIBRATE is one of the run list (R383, R387). -/
def Cal.darkListed (c : Cal) : Prop := c.inList = true → c.darkRun ≠ none → 4 ∈ c.list

/-- Command `c` is refused by the vault with result `n`: nothing starts and no fuse changes, and WRITER stays that of
a command that runs (R418, R430). -/
def State.vaultTurnsAway (s : State) (c : Instr) (who : Who) (n : Nat) : Prop :=
  let run := (s.vaultYield who).vlt.run
  Runs c s fun t => t.vlt.result = n ∧ t.vlt.run = run ∧ t.vlt.fuses = s.vlt.fuses ∧
    t.vlt.writer = (if run.isSome then (s.vaultYield who).vlt.writer else who.code) ∧ t.rb A.VLT_INT_STATUS 1 = true

/-- Command `c` starts the vault on the rows of `r` (R418). -/
def State.vaultStarts (s : State) (c : Instr) (r : VaultRun) : Prop :=
  Runs c s fun t => t.vlt.run = some r ∧ t.vlt.result = 0 ∧ t.vlt.fuses = s.vlt.fuses ∧ t.vlt.shadow = s.vlt.shadow

/-- The checks of R418 in their order, `ok` for the argument; `p` holds when all are passed. A writer that R290
puts before another writer of `VLT_CMD` in the same cycle finds the vault BUSY, and one that it puts after it takes
the other's place. -/
def State.vaultJudged (s : State) (c : Instr) (who : Who) (ok p : Prop) : Prop :=
  let run := (s.vaultYield who).vlt.run
  (∀ x, s.vlt.turn = some x → x.cycle = s.mgt →
    (writerRank who < writerRank x.by_ → Runs c s fun t => t.vlt = s.vlt ∧ t.rb A.VLT_INT_STATUS 1 = true) ∧
    (writerRank x.by_ < writerRank who → x.started = true → run = none)) ∧
  ((∀ x, s.vlt.turn = some x → x.cycle ≠ s.mgt) → s.vaultLate who = false ∧ run = s.vlt.run) ∧
  (s.vaultLate who = false → run ≠ none → s.vaultTurnsAway c who 2) ∧
  (s.vaultLate who = false → run = none → s.vlt.restricted = true → s.vaultTurnsAway c who 3) ∧
  (s.vaultLate who = false → run = none → s.vlt.restricted = false →
    (s.sys.mode ≠ .standby ∨ s.sys.permit = false → s.vaultTurnsAway c who 4) ∧
    (s.sys.mode = .standby → s.sys.permit = true →
      (s.thm.mintGate = false → s.vaultTurnsAway c who 5) ∧
      (s.thm.mintGate = true → (¬ ok → s.vaultTurnsAway c who 6) ∧ (ok → p))))

/-- The row of `r` reads as at the normal margin now. -/
def Vlt.reads0 (v : Vlt) (r : Nat) : Nat := v.normal (v.phys r)

end Sys2Proof.Machine
end

