-- ==== Sys2Proof/Certificates/Slice0/Obligations.lean ====
section
/-!
DEFINITION. The statements for the provers. A statement about several commands is the conjunction of
claims, each a proposition of its own in `Sys2Proof.Claims`; what a claim says stands above it. `Runs c s P`
says that command `c` completes at `s` in a state of which `P` holds.
-/
set_option Elab.async false

namespace Sys2Proof.Claims
open Sys2Proof.Machine

/-- A command changes the memories, vault, watchdog, monitor, thermal and calibration parts of the state
only where mayChange lists them for it: all others are equal after it. -/
def MemoriesAndFusesStay : Prop :=
  ∀ (c : Instr) (s t : State) (f : Field), Sys2Proof.Machine.exec c s = .next t →
    f ∈ [Field.pending, .part, .dram, .ret, .sram0, .sram1, .flash, .vlt, .wdt, .draws, .mon, .thm, .cal] →
    f ∉ mayChange c → f.same s t

/-- A command changes device time and the timing, plan, converter, stripe, frame, link, seal, system, clock,
time-base and fabric parts only where mayChange lists them for it. -/
def PathAndTimeStay : Prop :=
  ∀ (c : Instr) (s t : State) (f : Field), Sys2Proof.Machine.exec c s = .next t →
    f ∈ [Field.now, .tmg, .plan, .cnv, .str, .frames, .lnk, .seals, .sys, .clk, .time, .fab] →
    f ∉ mayChange c → f.same s t

/-- While the ticks run, SUB_FRAME_TICK moves the grid to the next SFT and counts the sub-frame j on, the
frame numbers staying, and FRAME_TICK, where the next tick is an FT, moves it to that FT with j = 0
(R41, R42). SOFT_TRIG edges that awaited the tick are judged after it, and then none waits (R55; log
entry 46); where none waited, the grid stands at the tick. -/
def TicksMoveTheGrid : Prop :=
  ∀ s : State, s.released = true → s.ticking = true →
    (s.tmg.nextIsFT = false → Runs .subFrameTick s fun t =>
      s.seqEdge s.tmg.nextSft ≤ t.now ∧ t.tmg.softs = [] ∧
      (s.tmg.softs = [] → t.tmg.pos = s.tmg.nextSft ∧ t.tmg.fresh = false ∧ t.tmg.j = s.tmg.j + 1 ∧
        t.tmg.nNext = s.tmg.nNext ∧ t.tmg.nLast = s.tmg.nLast)) ∧
    (s.tmg.nextIsFT = true → Runs .frameTick s fun t =>
      s.seqEdge s.tmg.nextSft ≤ t.now ∧ t.tmg.softs = [] ∧
      (s.tmg.softs = [] → t.tmg.pos = s.tmg.nextSft ∧ t.tmg.fresh = false ∧ t.tmg.j = 0))

/-- The start of integration lies START after the SFT of the sub-frame (R43). GLOBAL_TRANSFER, 14 µs after
its end (log entry 35), moves the charge and makes the sub-frame the stored one, in the first sub-frame
of a run and whenever the last readout is over by then; else the sub-frame is OMITTED and SETTLING and
the stored one stays (R39). REFERENCE_SWITCH loads the references of the entry after the last readout
(R47). The instants are those the model derives (log entries 2 and 35). -/
def IntegrationAndTransfer : Prop :=
  ∀ (s : State) (r : SubRef), s.released = true → s.tmg.integ = some r →
    (r.started = false → Runs .integrationStart s fun t =>
      t.tmg = { s.tmg with integ := some { r with started := true } } ∧
      t.now = max s.now (s.afterSft (s.entryOf r).start)) ∧
    (r.moved = false → s.tmg.firstSub = true ∨ s.transferLate (s.entryOf r) = false → Runs .globalTransfer s fun t =>
      t.tmg = { s.tmg with integ := some { r with moved := true, omitted := false }
                           stored := some { r with moved := true, omitted := false } } ∧
      t.now = max s.now (s.afterSft ((s.entryOf r).start + (s.entryOf r).len + 14)) ∧ t.frames = s.frames) ∧
    (r.moved = false → s.tmg.firstSub = false → s.transferLate (s.entryOf r) = true → Runs .globalTransfer s fun t =>
      t.tmg.integ = some { r with moved := true, omitted := true, settling := true } ∧
      t.tmg.stored = s.tmg.stored) ∧
    (s.tmg.switched = false → Runs .referenceSwitch s fun t =>
      t.tmg.dacH = (s.entryOf r).hcg ∧ t.tmg.dacL = (s.entryOf r).lcg ∧ t.tmg.switched = true ∧
      t.now = max s.now s.tmg.rdEnd)

/-- A ROW_SLOT whose data are delivered before the next tick takes the readout one row slot on, and
READOUT_COMPLETE ends it no sooner than the delivery delay after its end (R75, R79; the five further row
slots of the pipeline are the model's reading, log entry 35). -/
def ReadoutAdvances : Prop :=
  ∀ (s : State) (sub : SubRef) (f : Frame), s.released = true → s.tmg.reading = some sub →
    s.frame? sub.frame = some f →
    (∀ convs, s.tmg.slot < f.cfg.plan.win.nSlot →
      s.slotDelivered f s.tmg.slot ≤ s.seqEdge s.tmg.nextSft →
      Runs (.rowSlot convs) s fun t => t.tmg.slot = s.tmg.slot + 1 ∧
        s.slotDelivered f s.tmg.slot ≤ t.now) ∧
    (s.tmg.slot = f.cfg.plan.win.nSlot →
      Runs .readoutComplete s fun t => t.tmg.slot = s.tmg.slot + 1 ∧ s.tmg.rdEnd + Config.deliverTU ≤ t.now)

/-- ROTATION_EVALUATE ends the rotation step that is due, when the cycle of the instant 10 µs after the
readout time of the sub-frame is over (R95; log entry 40), with or without a readout in it, and where no
step is due or steps do not run it changes nothing in the converter block (R88, R91, R94). -/
def RotationStepEnds : Prop :=
  ∀ (s : State) (c : InForce) (meas : List GroupMeas), s.released = true → s.stepPlan = some c →
    (s.cnv.evalDue = true → s.stepsRun = true → Runs (.rotationEvaluate meas) s fun t =>
      t.cnv.evalDue = false ∧
      let at_ := max s.now (s.seqEdge s.tmg.pos + tRdTU c.plan.win c.sched + us 10)
      t.now = max at_ (s.mgtInstant (s.clk.mgtAt at_ + 1))) ∧
    (s.cnv.evalDue = false ∨ s.stepsRun = false → Runs (.rotationEvaluate meas) s fun t => t.cnv = s.cnv)

/-- FRAME_COMPLETE marks the oldest frame complete whose rows are all finished (R24), and STAT_DELIVERY
hands its statistics set off: the sequence number counts on, the set is the newest, and it is shown
unless HOLD keeps the window's set, which counts a missed one (R195, R196). -/
def FramesComplete : Prop :=
  ∀ (s : State) (f : Frame), s.released = true →
    (s.frames.find? (fun f => !f.complete && max f.cfg.plan.win.nTop f.cfg.plan.win.nBot ≤ f.rows && 0 < f.rows)
        = some f →
      Runs .frameComplete s fun t => ∃ g ∈ t.frames, g.num = f.num ∧ g.complete = true) ∧
    (s.frames.find? (!·.statDone) = some f → f.complete = true → s.frame? f.num = some f →
      Runs .statDelivery s fun t =>
        t.str.statSeq = wrapAdd s.str.statSeq 1 32 ∧
        (∃ x, t.str.newest = some x ∧ x.frame = f.num ∧ x.epoch = f.epoch ∧ x.seq = t.str.statSeq) ∧
        (s.holdNow = false → t.str.shown = t.str.newest ∧ t.str.missed = s.str.missed) ∧
        (s.holdNow = true → s.rb A.STR_STAT_CTRL 0 = true →
          t.str.shown = s.str.shown ∧
          ((∀ x, s.str.held = some x → x.1 ≠ s.mgt) → t.str.missed = satAdd s.str.missed 1 16)) ∧
        t.rn A.STR_STAT_FRAME = f.num % 2 ^ 32)

/-- A write of TRAIN_GO in STANDBY or CALIBRATE takes every lane whose link PLL is locked, and which has no
driver fault, to TRAIN, and a write of LNK_LANE_OK takes each named lane in TRAIN to READY or, with no
logical lane, to SPARE; CAUSE and mapping stay (R202). -/
def LanesTrainAndLock : Prop :=
  ∀ (s : State) (who : Who) (w : Word), s.released = true →
    (s.sys.mode = .standby ∨ s.sys.mode = .calibrate → Runs (.trainGo who w) s fun t =>
      ∀ p < 60, (t.lane p).state =
          (if s.locked (2 + p / 4) ∧ ((s.lane p).state = .failed → (s.lane p).fault = 0) ∧ s.eqHolds p = false then .train
            else (s.lane p).state) ∧
        (t.lane p).cause = (s.lane p).cause ∧ (t.lane p).logical = (s.lane p).logical) ∧
    (∀ hi, Runs (.laneOkWrite who hi w) s fun t =>
      ∀ p < 60, (t.lane p).state =
          (if laneNamed hi w p = true ∧ (s.lane p).state = .train ∧ s.eqHolds p = false then
            (if (s.lane p).logical.isSome then .ready else .spare)
          else (s.lane p).state) ∧
        (t.lane p).cause = (s.lane p).cause ∧ (t.lane p).logical = (s.lane p).logical)

/-- LNK_FAIL_REQ and a driver fault fail a lane, with cause 4 or the fault's kind and LANE_FAIL set; a
driver fault that goes away only clears the fault (R204). -/
def LanesFail : Prop :=
  ∀ (s : State), s.released = true →
    (∀ who hi w, Runs (.laneFailReq who hi w) s fun t =>
      ∀ p < 60, laneNamed hi w p = true → (s.lane p).state ≠ .off → (s.lane p).state ≠ .failed →
        (t.lane p).state = .failed ∧ (t.lane p).cause = 4 ∧ t.rb A.LNK_INT_STATUS 0 = true) ∧
    (∀ (p : Fin 60) kind, kind = 2 ∨ kind = 3 → Runs (.laneDriverFault p kind) s fun t =>
      (t.lane p).fault = kind ∧
      ((s.lane p).state ≠ .off → (s.lane p).state ≠ .failed →
        (t.lane p).state = .failed ∧ (t.lane p).cause = kind ∧ t.rb A.LNK_INT_STATUS 0 = true)) ∧
    (∀ (p : Fin 60), Runs (.laneDriverFault p 0) s fun t =>
      (t.lane p).fault = 0 ∧ (t.lane p).state = (s.lane p).state)

/-- A write of LNK_EQ is taken, and only that register changes, unless the lane is ACTIVE in MONITOR or
CAPTURE or the taps sum to more than 24 steps; then it is ignored and EQ_REFUSED is set (R203, R457). -/
def EqualiserWrites : Prop :=
  ∀ (s : State) (who : Who) (p : Fin 60) (w : Word), s.released = true →
    let v := s.standing who (A.LNK_EQ + 4 * p.val) w
    (((s.lane p).state ≠ .active ∨ s.sys.mode.capturing = false) → wfield v 0 4 + wfield v 4 5 ≤ 24 →
      Runs (.eqWrite who p w) s fun t =>
        t.reg (A.LNK_EQ + 4 * p.val) = (v &&& 0xFFF) ∧ t.sameBut { s with regs := t.regs }) ∧
    (((s.lane p).state = .active ∧ s.sys.mode.capturing = true) ∨ 24 < wfield v 0 4 + wfield v 4 5 →
      Runs (.eqWrite who p w) s fun t =>
        t.reg (A.LNK_EQ + 4 * p.val) = s.reg (A.LNK_EQ + 4 * p.val) ∧ t.rb A.LNK_INT_STATUS 6 = true)

/-- DUMP_GO starts a link dump exactly when R216 lets it and else leaves REFUSED, also while a dump runs,
which goes on; ABORT ends a running dump, the last packet completes it, and CNT_CLR clears the link's
counters (R216, R229). DUMP_ABORT acts before a DUMP_GO of the same write (log entry 9). -/
def LinkDumps : Prop :=
  ∀ (s : State) (who : Who) (w : Word), s.released = true →
    (s.lnk.dumpOn = false → wbit w 0 = false → Runs (.linkDumpGo who w) s fun t =>
      (s.dumpAsked → t.lnk.dumpOn = true ∧ t.lnk.dumpRes = .busy ∧ t.lnk.dumpOff = s.rf A.LNK_DUMP_OFFSET 0 26 ∧
        t.lnk.dumpLen = s.rf A.LNK_DUMP_LEN 0 27 ∧ (t.lnk.dumpOwn = true ↔ s.sys.mode = .standby)) ∧
      (¬ s.dumpAsked → t.lnk.dumpOn = false ∧ t.lnk.dumpRes = .refused ∧ t.rb A.LNK_INT_STATUS 5 = true) ∧
      t.lnk.dumpSent = 0) ∧
    (s.lnk.dumpOn = true → wbit w 0 = false → wbit w 2 = false → Runs (.linkDumpGo who w) s fun t =>
      t.lnk.dumpOn = true ∧ t.lnk.dumpRes = .refused ∧ t.lnk.dumpSent = s.lnk.dumpSent ∧
      t.lnk.dumpOwn = s.lnk.dumpOwn ∧ t.rb A.LNK_INT_STATUS 5 = true) ∧
    (s.lnk.dumpOn = true → wbit w 1 = false → Runs (.linkDumpAbort who w) s fun t =>
      t.lnk.dumpOn = false ∧ t.lnk.dumpRes = .aborted ∧ t.lnk.dumpOwn = false ∧ t.rb A.LNK_INT_STATUS 5 = true) ∧
    (s.lnk.dumpOn = true → s.lnk.dumpLen ≤ 4096 * s.lnk.dumpSent → Runs .linkDumpDone s fun t =>
      t.lnk.dumpOn = false ∧ t.lnk.dumpRes = .done ∧ t.lnk.dumpOwn = false ∧ t.rb A.LNK_INT_STATUS 5 = true) ∧
    (Runs (.lnkCntClr who w) s fun t =>
      t.lnk.framesSent = 0 ∧ t.lnk.framesDamaged = 0 ∧ t.lnk.lostPkts = 0 ∧ t.lnk.statDropped = 0)

/-- LANE_MARKER_SEND sends the marker that is due first: it counts on that lane alone (R201). SEAL_SIGN_DONE
takes the oldest statement off the queue; its seal packet, with status 0, 1 or 2 and an unsigned one
with a signature of zeros, is due unless the statement is for the registers only (R226 to R228). An
unsigned statement waits for SEAL_SIGN_DONE as a signed one does (log entry 39). Registers that only
signed statements update follow R230. -/
def MarkersAndStatements : Prop :=
  ∀ s : State, s.released = true →
    (∀ p t, s.nextMarker = some (p, t) → s.beforeTick t = true → Runs .laneMarkerSend s fun u =>
      (u.lane p).markAt = t ∧ (u.lane p).markDue = false ∧
      (u.lane p).marks = wrapAdd (s.lane p).marks 1 32 ∧ (u.lane p).freeAt = t + blocksTU 1 ∧ (u.lane p).state = (s.lane p).state ∧
      u.now = max s.now t ∧ ∀ q, q ≠ p → u.lane q = s.lane q) ∧
    (∀ x rest bad, s.seals.queue = x :: rest → Runs (.sealSignDone bad) s fun t =>
      t.seals.queue = rest ∧
      (∃ k : SealPkt, k.stream = x.stream ∧ k.subtype = 1 ∧ k.frame = x.last ∧
        k.status = (if x.avail = false then 1 else if bad then 2 else 0) ∧
        k.payload = s.statementBytes x ++ (if x.avail = false ∨ bad = true then List.replicate 384 0
          else s.vlt.idk.sign (s.statementBytes x) (s.vlt.sealSalt (s.statementBytes x))) ∧
        t.seals.due = if x.regsOnly = false ∧ (s.sys.mode = .capture ∨ s.carried x.lanes ≠ [])
          then s.seals.due ++ [k] else s.seals.due) ∧
      (x.avail = true → bad = false → t.seals.sigSeq = wrapAdd s.seals.sigSeq 1 32 ∧
        t.rb A.SEC_SEAL_INT_STATUS 0 = true) ∧
      (x.avail = false → t.seals.unsigned_ = wrapAdd s.seals.unsigned_ 1 32 ∧
        t.rb A.SEC_SEAL_INT_STATUS 4 = true) ∧
      (x.avail = true → bad = true → t.seals.unsigned_ = wrapAdd s.seals.unsigned_ 1 32 ∧
        t.rb A.SEC_SEAL_INT_STATUS 3 = true))

/-- A load start, by the port or from flash, takes the bank to LOADING with no bytes received, unless R123
refuses it, when the bank keeps all but its CAUSE, 16 (R123, R125, R325). The other bank stays. -/
def PlanLoadsStart : Prop :=
  ∀ (s : State) (who : Who) (w : Word) (c : Instr) (kind : LoadKind), s.released = true →
    (c = .loadStart who w ∧ wfield w 2 3 = 0 ∧ kind = .port ∨
      c = .flashGo who w ∧ wfield w 1 3 = 0 ∧ kind = .flashHeader (s.rf A.PLAN_FLASH_OFFSET 0 26)) →
    let i := wfield (s.standing who A.PLAN_LOAD_CTRL w) 0 1
    (s.loadFree i → Runs c s fun t =>
      (t.plan.bank i).state = .loading ∧ (t.plan.bank i).kind = kind ∧
      (t.plan.bank i).count = 0 ∧ t.plan.loadCount = 0 ∧
      t.plan.bank (1 - wfield w 0 1) = s.plan.bank (1 - wfield w 0 1)) ∧
    (¬ s.loadFree i → Runs c s fun t =>
      t.plan.bank i = { s.plan.bank i with cause := 16 } ∧
      t.plan.bank (1 - wfield w 0 1) = s.plan.bank (1 - wfield w 0 1) ∧
      t.rb A.PLAN_INT_STATUS 1 = true)

/-- Each word of PLAN_LOAD_DATA appends four bytes while they stay within the image's limit, and else leaves
the bank INVALID with cause 19; with no load under way the write is ignored with a warning (R123, R125). -/
def PlanLoadsTakeData : Prop :=
  ∀ (s : State) (who : Who) (v : Word) (i : Nat), s.released = true →
    (s.plan.loading = some i → (s.plan.bank i).kind = .port →
      let b := s.plan.bank i
      Runs (.loadDataWrite who v) s fun t =>
        t.plan.loadCount = min (b.count + 4) 4194304 ∧
        (b.count + 4 ≤ imageLimit (b.data ++ leBytes v.toNat 4) (b.count + 4) →
          t.plan.bank i = { b with data := b.data ++ leBytes v.toNat 4, count := b.count + 4 }) ∧
        (imageLimit (b.data ++ leBytes v.toNat 4) (b.count + 4) < b.count + 4 →
          (t.plan.bank i).state = .invalid ∧ (t.plan.bank i).cause = 19 ∧ t.rb A.PLAN_INT_STATUS 1 = true)) ∧
    (s.plan.loading = none →
      Sys2Proof.Machine.exec (.loadDataWrite who v) s =
        .next (((s.turn who A.PLAN_LOAD_DATA).ignored clsPLAN who A.PLAN_LOAD_DATA).markWriter who A.PLAN_LOAD_DATA).fin)

/-- FINISH takes a whole image to CHECKING and a short or long one to INVALID with cause 1 at offset 8;
ABORT empties the bank; the flash header and copy commands go on or leave INVALID with cause 1 (R123,
R125). -/
def PlanLoadsEnd : Prop :=
  ∀ (s : State) (who : Who) (w : Word) (i : Nat), s.released = true → s.plan.loading = some i →
    (wfield w 1 1 = 0 → wfield w 3 2 = 0 → (s.plan.bank i).kind = .port → Runs (.loadFinish who w) s fun t =>
      if 12 ≤ (s.plan.bank i).count ∧ (s.plan.bank i).count = imgU (s.plan.bank i).data 8 4 then
        t.plan.bank i = { s.plan.bank i with state := .checking }
      else (t.plan.bank i).state = .invalid ∧ (t.plan.bank i).cause = 1 ∧ (t.plan.bank i).errofs = 8) ∧
    (wfield w 1 2 = 0 → wfield w 4 1 = 0 → Runs (.loadAbort who w) s fun t =>
      (t.plan.bank i).state = .empty ∧ (t.plan.bank i).count = 0 ∧ (t.plan.bank i).data = []) ∧
    (∀ o err, (s.plan.bank i).kind = .flashHeader o → Runs (.flashHeaderRead err) s fun t =>
      if err = false ∧ flashHeaderBad (rdBytes s.flash o 256) = false then
        (t.plan.bank i).state = .loading ∧ (t.plan.bank i).kind = .flashCopy o ∧
        (t.plan.bank i).data = rdBytes s.flash o 256 ∧ t.plan.loadCount = 256
      else (t.plan.bank i).state = .invalid ∧ (t.plan.bank i).cause = 1) ∧
    (∀ o err, (s.plan.bank i).kind = .flashCopy o → Runs (.flashCopyDone err) s fun t =>
      let n := imgU (s.plan.bank i).data 8 4
      if err = false ∧ 12 ≤ n ∧ imgU (rdBytes s.flash o n) 8 4 = n then
        (t.plan.bank i).state = .checking ∧ (t.plan.bank i).data = rdBytes s.flash o n ∧ t.plan.loadCount = n
      else (t.plan.bank i).state = .invalid ∧ (t.plan.bank i).cause = 1)

/-- PLAN_CHECK_DONE leaves the bank INVALID with the first failing check's cause and offset, or READY with
the plan its image expands to; SIGNED and KEY_SLOT tell of a signature that verified in either case
(R122, R124, R469; which field of a row is named is log entry 46). -/
def PlanChecksEnd : Prop :=
  ∀ (s : State) (i : Nat), s.released = true →
    ((i = 0 ∧ s.plan.bankA.state = .checking) ∨
      (i = 1 ∧ s.plan.bankA.state ≠ .checking ∧ s.plan.bankB.state = .checking)) →
    let b := s.plan.bank i
    let verdict := checkImage b.data b.count s.part (s.vlt.findSlot s.vlt.planOk) s.vlt.planSig
    let key := verifiedSlot b.data (s.vlt.findSlot s.vlt.planOk)
    (∀ c o, verdict = some (c, o) → Runs .planCheckDone s fun t =>
      (t.plan.bank i).state = .invalid ∧ (t.plan.bank i).cause = c ∧ (t.plan.bank i).errofs = o ∧
      (t.plan.bank i).signed = key.isSome ∧ (t.plan.bank i).keySlot = key.getD 0 ∧
      t.rb A.PLAN_INT_STATUS 1 = true) ∧
    (verdict = none → Runs .planCheckDone s fun t =>
      (t.plan.bank i).state = .ready ∧ (t.plan.bank i).plan = readPlan b.data ∧ (t.plan.bank i).data = b.data ∧
      (t.plan.bank i).signed = key.isSome ∧ (t.plan.bank i).keySlot = key.getD 0 ∧
      t.rb A.PLAN_INT_STATUS 0 = true)

/-- RIG_COMMIT_GO is REFUSED when its instant is nearer than 1 ms, malformed, or a rig commit runs, and else
starts one for the targets written; RIG_COMMIT_CANCEL withdraws the commit of the devices that have
acknowledged (R135, R137). The layout of the messages is log entry 18. -/
def RigCommitsRun : Prop :=
  ∀ (s : State) (who : Who) (w : Word), s.released = true →
    (wbit w 4 = false →
      let sec := s.rn A.PLAN_COMMIT_SEC_HI % 65536 * 2 ^ 32 + s.rn A.PLAN_COMMIT_SEC_LO
      let ns := s.rf A.PLAN_COMMIT_NS 0 30
      let v := s.standing who A.PLAN_RIG_CTRL w
      let tb := wfield v 1 2
      (tbOf sec ns 0 < s.tbNow tb + 1000000 * nsUnit ∨ 999999999 < ns ∨ s.plan.rig.run = true →
        Runs (.rigCommitGo who w) s fun t => t.plan.rig = { s.plan.rig with state := .refused }) ∧
      (s.tbNow tb + 1000000 * nsUnit ≤ tbOf sec ns 0 → ns ≤ 999999999 → s.plan.rig.run = false →
        let targets := s.rn A.PLAN_RIG_TARGET0 + s.rn A.PLAN_RIG_TARGET1 * 2 ^ 32
        (targets = 0 → Runs (.rigCommitGo who w) s fun t =>
          t.plan.rig.state = .complete ∧ t.plan.rig.run = false ∧ t.rb A.PLAN_INT_STATUS 4 = true) ∧
        (targets ≠ 0 → (∀ a, s.fab.addr = some a → targets.testBit a = false) → Runs (.rigCommitGo who w) s fun t =>
          t.plan.rig = { state := .waitAck, targets := targets, run := true, wait := true, goAt := s.mgt
                         tb := tb, sec := sec, ns := ns }) ∧
        (∀ a own, targets = 2 ^ a → a < 64 → s.fab.addr = some own → own ≠ a → (s.fab.route a).reach = true →
          s.portUp (s.fab.route a).active = true → Runs (.rigCommitGo who w) s fun t =>
            (t.fport (s.fab.route a).active).ctlQ = (s.fport (s.fab.route a).active).ctlQ ++
              [{ cls := 1, body := mkFrame a own 1 0x10 s.fab.mid s.fab.gen (beBytes (wfield v 3 1) 1 ++
                beBytes tb 1 ++ beBytes sec 6 ++ beBytes ns 4 ++ beBytes (s.rn A.PLAN_RIG_ID) 4) }]))) ∧
    (wbit w 0 = false → s.plan.rig.run = false → Runs (.rigCommitCancel who w) s fun t =>
      t.plan = s.plan ∧ t.fab = s.fab) ∧
    (wbit w 0 = false → ∀ a own, s.plan.rig.run = true →
      maskLess s.plan.rig.ack (s.plan.rig.done ||| s.plan.rig.fail) = 2 ^ a → a < 64 → s.fab.addr = some own → own ≠ a →
      (s.fab.route a).reach = true → s.portUp (s.fab.route a).active = true →
      Runs (.rigCommitCancel who w) s fun t => t.plan = s.plan ∧
        (t.fport (s.fab.route a).active).ctlQ = (s.fport (s.fab.route a).active).ctlQ ++
          [{ cls := 1, body := mkFrame a own 1 0x13 s.fab.mid s.fab.gen [] }]) ∧
    (wbit w 0 = false → ∀ a c, s.fab.addr = some a → a < 64 → s.plan.rig.run = true →
      maskLess s.plan.rig.ack (s.plan.rig.done ||| s.plan.rig.fail) = 2 ^ a →
      s.plan.commit = some c → c.origin = some a → s.cancelOk c (s.seqEdge s.now) = true →
      Runs (.rigCommitCancel who w) s fun t => t.plan.commit = none ∧ t.plan.result = 5)

/-- RIG_COMMIT_TIMEOUT fails the targets that have not acknowledged, or, when all have, those that have not
reported DONE, and records the timeout (R137). -/
def RigCommitsTimeOut : Prop :=
  ∀ s : State, s.released = true → s.plan.rig.run = true →
    let r := s.plan.rig
    let noAck := maskLess r.targets (r.ack ||| r.nak ||| r.fail)
    let noDone := maskLess r.ack (r.done ||| r.fail)
    (noAck ≠ 0 → Runs .rigCommitTimeout s fun t =>
      t.plan.rig.fail = r.fail ||| noAck ∧ t.plan.rig.timedOut = true ∧
      (t.plan.rig.run = false → t.plan.rig.state = .timeout)) ∧
    (noAck = 0 → noDone ≠ 0 → (s.tb r.tb).run = true → Runs .rigCommitTimeout s fun t =>
      t.plan.rig.fail = r.fail ||| noDone ∧ t.plan.rig.timedOut = true ∧
      (t.plan.rig.run = false → t.plan.rig.state = .timeout))

/-- RIG_COMMIT to this device pends a commit of its bank for its origin, or refuses it with cause 18 for
another plan, and the target records that refusal as its own commit (log entry 20); RIG_ACK, RIG_DONE
and RIG_CANCEL from a target settle its bit or withdraw its commit, and a RIG_ACK in the cycle of the
timeout still counts (R9, R136, R137; log entry 40). The layout of the messages is log entry 18. Stated
for a commit with one target. -/
def RigMessagesAct : Prop :=
  ∀ (s : State) (p : Nat) (b : List Byte), s.released = true →
    let src := fb b 1 1 % 64
    let r := s.plan.rig
    (s.hears p b 1 0x10 → (s.plan.bank (fb b 16 1 % 2)).idWord ≠ fb b 28 4 → Runs (.rigCommit p b) s fun t =>
      t.plan.writer = 3 ∧ t.plan.result = 2 ∧ t.plan.cause = 18 ∧ t.plan.commit = s.plan.commit) ∧
    (s.hears p b 1 0x10 → (s.plan.bank (fb b 16 1 % 2)).idWord = fb b 28 4 →
      s.commitCause (fb b 16 1 % 2) 2 (fb b 17 1 % 4) (fb b 24 4) = none →
      s.tbAt (fb b 17 1 % 4) (s.seqEdge s.now) + 64000 * nsUnit ≤ tbOf (fb b 18 6) (fb b 24 4) 0 →
      Runs (.rigCommit p b) s fun t => t.plan.writer = 3 ∧ ∃ c, t.plan.commit = some c ∧
        c.bank = fb b 16 1 % 2 ∧ c.origin = some src ∧ c.when_ = .time (fb b 17 1 % 4) (fb b 18 6) (fb b 24 4)) ∧
    ((∀ x, s.plan.rigLapse = some x → x.at_ ≠ s.mgt) → s.hears p b 1 0x11 → r.run = true → r.targets.testBit src = true → (r.ack ||| r.nak ||| r.fail).testBit src = false →
      Runs (.rigAck p b) s fun t =>
        if fb b 16 1 = 1 then t.plan.rig.ack = r.ack ||| 2 ^ src else t.plan.rig.nak = r.nak ||| 2 ^ src) ∧
    (∀ x, s.plan.rigLapse = some x → x.at_ = s.mgt → x.ack = true → x.rig.run = true → s.hears p b 1 0x11 →
      x.rig.targets.testBit src = true → (x.rig.ack ||| x.rig.nak ||| x.rig.fail).testBit src = false →
      Runs (.rigAck p b) s fun t => t.plan.rig.fail.testBit src = false ∧
        if fb b 16 1 = 1 then t.plan.rig.ack = x.rig.ack ||| 2 ^ src else t.plan.rig.nak = x.rig.nak ||| 2 ^ src) ∧
    ((∀ x, s.plan.rigLapse = some x → x.at_ ≠ s.mgt) → s.hears p b 1 0x12 → r.run = true → r.targets.testBit src = true → r.ack.testBit src = true →
      (r.done ||| r.fail).testBit src = false →
      Runs (.rigDone p b) s fun t =>
        if fb b 16 1 = 1 then t.plan.rig.done = r.done ||| 2 ^ src else t.plan.rig.fail = r.fail ||| 2 ^ src) ∧
    (∀ c, s.hears p b 1 0x13 → s.plan.commit = some c → c.origin = some src → s.cancelOk c (s.seqEdge s.now) = true →
      Runs (.rigCancel p b) s fun t => t.plan.commit = none ∧ t.plan.result = 5)

/-- LINKINFO is heard and its instant kept, LINKINFO_SEND forms its block (the byte order of the serial
number is log entry 18) and records the instant, a port in TRAIN comes UP while LINKINFO arrives and
takes the peer's fields from what it heard, and a port that falls counts it and trains again while it is
enabled (R232, R233, R245). PORT_DOWN acts at the end of its cycle (R9; log entry 40). -/
def PortsTrainAndFall : Prop :=
  ∀ (s : State) (p : Nat), s.released = true → p < 3 →
    let x := s.fport p
    (∀ peerPort peerAddr valid serial, x.state ≠ .down →
      Runs (.linkinfo p peerPort peerAddr valid serial) s fun t =>
        (t.fport p).lastInfo = some s.mgt ∧ (t.fport p).peer = x.peer ∧ (t.fport p).state = x.state ∧
        (t.fport p).heard = { port := peerPort % 4, addr := peerAddr % 64, valid := valid, serial := serial % 2 ^ 40 }) ∧
    (x.state ≠ .down → Runs (.linkinfoSend p) s fun t => (t.fport p).infoSent = some t.mgt ∧ x.freeAt ≤ t.now ∧
      (t.fport p).infoBlock = beBytes 0x87 1 ++ beBytes p 1 ++
        beBytes (s.fab.addr.getD 0 % 64 + flag s.fab.addr.isSome 7) 1 ++ beBytes (s.serialNum % 2 ^ 40) 5) ∧
    (∀ c l, x.state = .train → x.since = some c → x.lastInfo = some l →
      max s.mgt (c + mgtUs 100) ≤ l + mgtUs 40 → Runs (.portUp p) s fun t =>
        (t.fport p).state = .up ∧ (t.fport p).peer = x.heard ∧ (t.fport p).unacked = [] ∧
        (t.fport p).seenCtl = {} ∧ (t.fport p).seenBulk = {} ∧
        t.rb A.FAB_INT_STATUS 1 = true) ∧
    (∀ lost, x.state = .up → (lost = false → x.lastInfo ≠ none) → Runs (.portDown p lost) s fun t =>
        (t.fport p).state = (if s.portEnabled p = true ∧ s.fabRuns = true then .train else .down) ∧
        (t.fport p).downCnt = satAdd x.downCnt 1 16 ∧ t.rb A.FAB_INT_STATUS 0 = true)

/-- A port sends time frames first, then control frames with the port's next FSEQ and eight attempts counted
down, then proxies by turns of their sources (R236, R237, R250). -/
def FramesLeaveByPriority : Prop :=
  ∀ (s : State) (p : Nat), s.released = true → s.portUp p = true →
    let x := s.fport p
    (∀ f r, x.timeQ = f :: r → s.carries 0 = true → Runs (.fabricFrameSend p) s fun t =>
      (∃ more, (t.fport p).timeQ.map (·.body) = r.map (·.body) ++ more) ∧ (t.fport p).ctlQ = x.ctlQ ∧ (t.fport p).unacked = x.unacked) ∧
    (∀ f r, (x.timeQ = [] ∨ s.carries 0 = false) → x.again 1 = none → x.ctlQ = f :: r →
      Runs (.fabricFrameSend p) s fun t =>
        (t.fport p).ctlQ = r ∧ (t.fport p).ctlSeq = wrapAdd x.ctlSeq 1 32 ∧
        (t.fport p).sent = reCrc (setBytes f.body 8 (beBytes x.ctlSeq 4)) ∧
        (t.fport p).freeAt = max s.now x.freeAt + wireTU (t.fport p).sent ∧
        ∃ u, (t.fport p).unacked = x.unacked ++ [u] ∧ u.fseq = x.ctlSeq ∧ u.tx.body = f.body ∧
          u.tx.tries = f.tries - 1) ∧
    (∀ a q l, (x.timeQ = [] ∨ s.carries 0 = false) → x.again 1 = none → x.ctlQ = [] → s.carries 2 = true →
      x.nextSource = some a → takeFrag a x.proxies = some (q, l) → Runs (.fabricFrameSend p) s fun t =>
        (t.fport p).sent = q ∧ (t.fport p).proxies = l ∧ (t.fport p).lastSrc = a)

/-- ACK drops the frame it names from those unacknowledged; NAK and the 20 µs of HOP_ACK_TIMEOUT, judged at
the end of their cycle (R9; log entry 40), send it again, or give it up as lost after a control frame's
last attempt (R237). -/
def FramesAreAcknowledged : Prop :=
  ∀ (s : State) (p cls fseq : Nat) (u : Unacked), s.released = true → s.portUp p = true →
    let x := s.fport p
    (x.owed cls fseq = some u → Runs (.ack p cls fseq) s fun t =>
      t.fport p = { x with unacked := x.unacked.erase u }) ∧
    (x.owed cls fseq = some u → Runs (.nak p cls fseq) s fun t =>
      if u.tx.cls = 1 ∧ u.tx.tries = 0 then
        (t.fport p).unacked = x.unacked.erase u ∧ t.fab.ctlLost = wrapAdd s.fab.ctlLost 1 32 ∧
        t.rb A.FAB_INT_STATUS 9 = true
      else (t.fport p).unacked = { u with ended := none } :: x.unacked.erase u) ∧
    (x.unacked.find? (fun u => u.ended.isSome) = some u → Runs (.hopAckTimeout p) s fun t =>
      s.mgtInstant (u.ended.getD 0 + mgtUs 20 + 1) ≤ t.now ∧
      if u.tx.cls = 1 ∧ u.tx.tries = 0 then
        (t.fport p).unacked = x.unacked.erase u ∧ t.fab.ctlLost = wrapAdd s.fab.ctlLost 1 32
      else (t.fport p).unacked = { u with ended := none } :: x.unacked.erase u)

/-- A frame with a wrong CRC is counted and answered NAK, a frame seen before is acknowledged and dropped,
one whose TTL is spent is dropped and counted, and one for another device goes on to the active port of
its route with the TTL stepped (R235, R237, R238). How the frames seen are held is log entry 18. -/
def FramesAreForwarded : Prop :=
  ∀ (s : State) (p : Nat) (b : List Byte), s.released = true → s.portUp p = true →
    let x := s.fport p
    let cls := fb b 2 1
    (¬ (lenOk b = true ∧ crcOk b = true ∧ fb b 4 2 = b.length) → Runs (.fabricFrameForward p b) s fun t =>
      (t.fport p).crcCnt = wrapAdd x.crcCnt 1 32 ∧
      (t.fport p).lastAck = if crcOk b = false ∧ (cls = 1 ∨ cls = 3) then some (false, cls, fb b 8 4) else x.lastAck) ∧
    (lenOk b = true → crcOk b = true → fb b 4 2 = b.length →
      (cls = 1 ∨ cls = 3) → (cls = 1 → s.forMc1 b = true → s.sys.core1 ≠ .restarting) →
      ((x.seenOf cls).has (fb b 8 4) = true → Runs (.fabricFrameForward p b) s fun t =>
        t.fport p = { x with lastAck := some (true, cls, fb b 8 4) }) ∧
      ((x.seenOf cls).has (fb b 8 4) = false → s.classFull cls = true → Runs (.fabricFrameForward p b) s fun t =>
        t.fport p = { x with lastAck := some (false, cls, fb b 8 4) }) ∧
      ((x.seenOf cls).has (fb b 8 4) = false → s.classFull cls = false → s.carries cls = true → ∀ a, s.fab.addr = some a → fb b 0 1 < 64 → fb b 0 1 ≠ a →
        (fb b 3 1 ≤ 1 → Runs (.fabricFrameForward p b) s fun t =>
          t.fab.ttlDrop = wrapAdd s.fab.ttlDrop 1 32 ∧ t.rb A.FAB_INT_STATUS 8 = true) ∧
        (1 < fb b 3 1 → ∀ q, s.fab.route (fb b 0 1) = q → q.reach = true → s.portUp q.active = true →
          Runs (.fabricFrameForward p b) s fun t => ∀ b1, stepTtl b = some b1 →
            (if cls = 1 then (t.fport q.active).ctlQ = (s.fport q.active).ctlQ ++ [{ cls := cls, body := b1 }]
            else (t.fport q.active).bulkQ = (s.fport q.active).bulkQ ++ [{ cls := cls, body := b1 }]))))

/-- A PROBE that has reached its end is answered with a REPORT, and makes a lower root yield; a REPORT to
the root enters the node; PROBE_TIMEOUT, judged at the end of its cycle (R9; log entry 40), asks two
times more before it gives the link up (R240, R241). -/
def DiscoveryExplores : Prop :=
  ∀ (s : State) (p : Nat) (b : List Byte), s.released = true →
    let newer (k n : Nat) : Prop := s.fab.role = .root ∧ (s.fab.rank < k ∨ (s.fab.rank = k ∧ n < s.serialNum))
    (s.hears p b 1 1 → fb b 16 1 = 0 → Runs (.probe p b) s fun t =>
      (∃ src gen tail, (t.fport p).ctlQ = (s.fport p).ctlQ ++
        [{ cls := 1, body := mkFrame 0x80 src 1 2 s.fab.mid gen (beBytes s.serialNum 8 ++ tail) }]) ∧
      (newer (fb b 41 1) (fb b 33 8) → t.fab.role = .member ∧ t.fab.rank = 0 ∧ t.rb A.FAB_INT_STATUS 6 = true)) ∧
    (∀ x, s.hears p b 1 2 → fb b 28 16 % 4 = 3 → ¬ newer (fb b 25 1) (fb b 16 8) → s.fab.disc.probe = some x →
      x.path.head? = some p → Runs (.report p b) s fun t =>
        ∃ y ∈ t.fab.disc.nodes, y.serial = fb b 16 8) ∧
    (∀ x, s.fab.disc.probe = some x → Runs .probeTimeout s fun t =>
      s.mgtInstant (x.at_ + mgtUs 100 + 1) ≤ t.now ∧
      (x.tries < 3 → ∃ c, t.fab.disc.probe = some { x with tries := x.tries + 1, at_ := c }) ∧
      (3 ≤ x.tries → ∀ y, t.fab.disc.probe = some y → y.tries = 1))

/-- DISC_GO makes the device a root of rank 2, also where YIELD is set in the same write, which acts first
(log entry 9), and YIELD makes a root a member with no map and no discovery in progress (R240, R241). -/
def RootsBeginAndYield : Prop :=
  ∀ (s : State) (who : Who) (w : Word), s.released = true →
    (Runs (.discGo who w) s fun t => t.fab.role = .root ∧ t.fab.rank = 2) ∧
    (wbit w 0 = false → s.fab.role = .root → Runs (.yield who w) s fun t =>
      t.fab.role = .member ∧ t.fab.rank = 0 ∧ t.fab.map = [] ∧ t.fab.disc = {} ∧ t.rb A.FAB_INT_STATUS 6 = true)

/-- Firmware messages go to MC1, event summaries to the rig-summary window, bulk writes that the window
allows, by SYS_BULK_BASE and LEN as they stand (log entry 46), to DRAM and others to the REJECTED count,
BULK_END to MC0, and proxy fragments to the receive ring (R239, R249, R304, R347). -/
def MessagesAreDelivered : Prop :=
  ∀ (s : State) (p : Nat) (b : List Byte), s.released = true →
    (∀ m, s.hears p b 1 m → 0x100 ≤ m → m ≤ 0x1FF → s.sys.core1 ≠ .restarting →
      Runs (.firmwareControlMessage p b) s fun t => t.fab.toMc1 = s.fab.toMc1 ++ [b]) ∧
    (s.hears p b 1 0x20 → s.rb A.EVL_SUM_CTRL 2 = true → b.length = 56 → Runs (.eventSummary p b) s fun t =>
      rdBytes t.evl.rigSum (64 * (fb b 1 1 % 64)) 36 = (b.drop 16).take 36 ∧ t.evl.intStatus.getLsbD 5 = true) ∧
    (s.hears p b 3 1 → Runs (.bulkWrite p b) s fun t =>
      let off := fb b 16 4
      let n := fb b 24 2
      if s.bulkFrom b = true ∧ (n ≤ 2048 ∧ n % 8 = 0 ∧ 28 + n + 4 ≤ b.length) ∧ off + n ≤ s.rn A.SYS_BULK_LEN then
        t.dram = wrBytes s.dram (s.rn A.SYS_BULK_BASE / 0x100000 * 0x100000 + off) ((b.drop 28).take n) ∧
        t.sys.bulkBytes = s.sys.bulkBytes + n ∧ t.sys.bulkRej = s.sys.bulkRej
      else t.dram = s.dram ∧ t.sys.bulkBytes = s.sys.bulkBytes ∧ t.sys.bulkRej = satAdd s.sys.bulkRej 1 14) ∧
    (s.hears p b 3 2 → s.bulkFrom b = true → Runs (.bulkEnd p b) s fun t =>
      t.sys.bulkDone = true ∧ t.fab.toMc0 = s.fab.toMc0 ++ [b] ∧ t.rb A.SYS_INT_STATUS 7 = true) ∧
    (s.hears p b 2 1 → s.rb A.FAB_PRX_CTRL 7 = true → s.fab.cfgErr = false → fb b 32 2 = 0 → 1 < fb b 34 2 →
      Runs (.proxyFragment p b) s fun t => ∃ x ∈ t.fab.rx, x.source = fb b 16 1 % 64 ∧ x.pseq = fb b 28 4 ∧
        x.next = 1 ∧ x.frags = fb b 34 2 ∧ x.good = true) ∧
    (s.hears p b 2 1 → s.rb A.FAB_PRX_CTRL 7 = true → s.fab.cfgErr = false → fb b 32 2 = 0 → fb b 34 2 = 1 →
      Runs (.proxyFragment p b) s fun t =>
        rdByte t.dram (s.rxSlot (fb b 16 1 % 64) (fb b 28 4) + 0x0C) = 1 ∧ t.rb A.FAB_INT_STATUS 11 = true)

/-- The bulk window opens for firmware where its area is free and aligned, and else stays shut with CFG_ERR;
a host write is DENIED (R304). -/
def BulkWindowOpens : Prop :=
  ∀ (s : State) (w : Word), s.released = true →
    let a := s.rn A.SYS_BULK_BASE / 0x100000 * 0x100000
    let n := s.rn A.SYS_BULK_LEN
    let good := areaOk a n = true ∧ s.clearOfR190 a n = true ∧ apart a n s.fab.prxBase 0x40000000 = true ∧
      apart a n s.fab.fwdBase 0x6000000 = true
    (∀ who, who ≠ .host → s.outranked who A.SYS_BULK_CTRL = false → good → Runs (.bulkWindowOpen who w) s fun t =>
      t.rb A.SYS_BULK_CTRL 0 = true ∧ t.sys.bulkDone = false ∧ t.sys.bulkCfgErr = false) ∧
    (∀ who, who ≠ .host → s.outranked who A.SYS_BULK_CTRL = false → ¬ good → Runs (.bulkWindowOpen who w) s fun t =>
      t.rb A.SYS_BULK_CTRL 0 = false ∧ t.sys.bulkCfgErr = true) ∧
    (∀ who, who ≠ .host → s.outranked who A.SYS_BULK_CTRL = true → Runs (.bulkWindowOpen who w) s fun t =>
      s.rb A.SYS_BULK_CTRL 0 = false → t.rb A.SYS_BULK_CTRL 0 = false) ∧
    Sys2Proof.Machine.exec (.bulkWindowOpen .host w) s = .next (s.denied clsSYS .host A.SYS_BULK_CTRL).fin

/-- RUN starts or stops a time base and keeps its value, SET_GO sets it, STEP_GO steps it by signed seconds
and nanoseconds, and an increment within R253's bounds takes effect from that value on, while one
outside leaves the old increment and sets INC_REFUSED (R253, R254). -/
def TimeBasesAreWritten : Prop :=
  ∀ (s : State) (who : Who) (k : Fin 4) (w : Word), s.released = true →
    let v := s.standing who (tbReg k 0) w
    (Runs (.tbRunWrite who k w) s fun t => wbit w 1 = false → wbit w 2 = false →
      (t.tb k).run = wbit v 0 ∧ (t.tb k).at s.mgt % tbMod = s.tbNow k % tbMod ∧ t.now = s.now) ∧
    (Runs (.setGo who k w) s fun t => (t.tb k).run = wbit v 0 ∧ (wbit w 2 = false →
      (t.tb k).at s.mgt % tbMod = tbOf (field (s.rn (tbReg k 0x28)) 0 16 * 2 ^ 32 + s.rn (tbReg k 0x2C))
        (field (s.rn (tbReg k 0x30)) 0 30) 0 % tbMod)) ∧
    (Runs (.stepGo who k w) s fun t => (t.tb k).run = wbit v 0 ∧ (wbit w 1 = false →
      (((t.tb k).at s.mgt : Nat) : Int) % (tbMod : Int) = ((s.tbNow k : Int) +
        sext (s.rn (tbReg k 0x20)) 32 * (secUnit : Int) + sext (s.rn (tbReg k 0x24)) 32 * (nsUnit : Int)) % (tbMod : Int))) ∧
    (let inc := s.rn (tbReg k 0x18) * nsUnit + (s.standing who (tbReg k 0x1C) w).toNat;
      (incOk inc = true → Runs (.tbIncWrite who k w) s fun t =>
        (t.tb k).prog = inc ∧ (t.tb k).at s.mgt % tbMod = s.tbNow k % tbMod) ∧
      (incOk inc = false → Runs (.tbIncWrite who k w) s fun t =>
        t.tb k = s.tb k ∧ t.rn (tbReg k 0x18) = (s.tb k).prog / nsUnit % 2 ^ 32 ∧
        t.rn (tbReg k 0x1C) = (s.tb k).prog % nsUnit ∧ t.rb A.TIME_INT_STATUS 10 = true))

/-- Stopping the time base that a pending commit waits for ends the commit with result 6 (R128). -/
def StoppedTimeBaseEndsCommit : Prop :=
  ∀ (s : State) (who : Who) (k : Fin 4) (w : Word) (c : Commit) (sec ns : Nat), s.released = true →
    s.plan.commit = some c → c.when_ = .time k sec ns → (s.tb k).run = true → wbit (s.standing who (tbReg k 0) w) 0 = false →
    Runs (.tbRunWrite who k w) s fun t =>
      t.plan.commit = none ∧ t.plan.result = 6 ∧ t.rb A.PLAN_INT_STATUS 3 = true

/-- A read of TIME_TBk_SEC_LO answers the seconds of now, or the bytes of them that a narrow read addresses
(R434), and latches the rest for its reader; a read of TIME_CAPx_SEC_LO pops the oldest capture for its
reader (R254, R268, R436). -/
def TimeReadsLatch : Prop :=
  ∀ (s : State) (r : Reader), s.released = true →
    (∀ k : Fin 4, Runs (.tbSecLoRead r k) s fun t =>
      t.answers r.who (partOf r (tbSec (s.tbNow k) % 2 ^ 32)) ∧ (t.tb k).latched r.who = s.tbNow k ∧
      (t.tb k).at t.mgt = s.tbNow k) ∧
    (∀ x : Fin 3, Runs (.capturePop r x) s fun t =>
      (t.time.cap x).queue = (s.time.cap x).queue.drop 1 ∧
      (t.time.cap x).popped r.who = (s.time.cap x).queue.head? ∧
      ∀ e, (s.time.cap x).queue.head? = some e → t.answers r.who (partOf r (tbSec (e.val * 65536) % 2 ^ 32)))

/-- An enabled edge of the chosen polarity is queued among at most eight captures, and a further one counts
as an overflow; CLEAR empties the queue and keeps the count (R268). -/
def CapturesQueue : Prop :=
  ∀ (s : State) (x : Fin 3), s.released = true →
    (∀ edge falling, let ctrl := s.rn (capReg x 0)
      (ctrl.testBit 0 = true → (field ctrl 3 2 = 2 ∨ (field ctrl 3 2 = 0 ∧ falling = false) ∨
          (field ctrl 3 2 = 1 ∧ falling = true)) →
        ((s.time.cap x).queue.length < 8 → Runs (.captureEdge x edge falling) s fun t =>
          ∃ e, (t.time.cap x).queue = (s.time.cap x).queue ++ [e] ∧ e.falling = falling ∧
            ((s.time.cap x).queue = [] → t.rb A.TIME_INT_STATUS 7 = true)) ∧
        (8 ≤ (s.time.cap x).queue.length → Runs (.captureEdge x edge falling) s fun t =>
          (t.time.cap x).queue = (s.time.cap x).queue ∧
          (t.time.cap x).ovf = satAdd (s.time.cap x).ovf 1 16 ∧ t.rb A.TIME_INT_STATUS 6 = true)) ∧
      (ctrl.testBit 0 = false → Runs (.captureEdge x edge falling) s fun t => t.time = s.time)) ∧
    (∀ who w, Runs (.captureClear who x w) s fun t =>
      (t.time.cap x).queue = [] ∧ (t.time.cap x).ovf = (s.time.cap x).ovf ∧
      t.rn (capReg x 0) = wfield (s.standing who (capReg x 0) w) 0 5)

/-- ARM_GO arms a generator with the start, period and width written when they meet R266, and is refused
otherwise; DISARM keeps its counts; TPO_FIRE marks it fired, counts the pulse and keeps it armed only
when cyclic, by the MODE and TB that CTRL holds at the fire (R266; log entry 50). -/
def PulsesAreArmedAndFire : Prop :=
  ∀ (s : State) (i : Fin 8), s.released = true →
    (∀ who w, wbit w 1 = false →
      let v := s.standing who (tpoReg i 0) w
      let start := tbOf (field (s.rn (tpoReg i 0x08)) 0 16 * 2 ^ 32 + s.rn (tpoReg i 0x0C))
        (field (s.rn (tpoReg i 0x10)) 0 30) (field (s.rn (tpoReg i 0x14)) 0 16 * 65536)
      let per := tbOf (s.rn (tpoReg i 0x18)) (field (s.rn (tpoReg i 0x1C)) 0 30) (field (s.rn (tpoReg i 0x20)) 0 16 * 65536)
      let width := s.rn (tpoReg i 0x24)
      let good := 10 ≤ width ∧ (wbit v 2 = true → 100 * nsUnit ≤ per ∧ (width + 10) * nsUnit ≤ per)
      (good → Runs (.armGo who i w) s fun t =>
        (t.tpo i).armed = true ∧ t.tpoCyclic i = wbit v 2 ∧ t.tpoTb i = wfield v 3 2 ∧
        (t.tpo i).start = start ∧ (t.tpo i).per = per ∧ (t.tpo i).width = width) ∧
      (¬ good → Runs (.armGo who i w) s fun t => t.tpo i = s.tpo i)) ∧
    (∀ who w, Runs (.disarm who i w) s fun t =>
      (t.tpo i).armed = false ∧ (t.tpo i).count = (s.tpo i).count ∧ (t.tpo i).fired = (s.tpo i).fired) ∧
    ((s.tpo i).armed = true → (s.tb (s.tpoTb i)).run = true → Runs (.tpoFire i) s fun t =>
      (t.tpo i).fired = true ∧ (t.tpo i).count = wrapAdd (s.tpo i).count 1 32 ∧
      (t.tpo i).armed = s.tpoCyclic i ∧ (t.tpo i).m = (s.tpo i).m + 1)

/-- XCHK_SAMPLE stores time base 0 less time base 1, and beyond TIME_XCHK_LIMIT sets the status bit (R265). -/
def CrossCheckSamples : Prop :=
  ∀ s : State, s.released = true → (s.tb 0).run = true → (s.tb 1).run = true →
    Runs .xchkSample s fun t =>
      t.time.xchkValid = true ∧ t.time.xchk = tbDiff (t.tbNow 0) (t.tbNow 1) ∧
      (s.rn A.TIME_XCHK_LIMIT * nsUnit < t.time.xchk.natAbs → t.rb A.TIME_INT_STATUS 3 = true)

/-- A Sync is measured against the domain on its port, Follow_Up and the general messages are handed to MC1
with the domain's state, and end-to-end delay requests are dropped and counted (R257, R259, R260). The
layout of the messages and the port identity are PRESUMED (log entry 19). -/
def SyncsAreMeasured : Prop :=
  ∀ (s : State) (p : Nat) (b : List Byte) (d : Nat), s.released = true → p < 3 → s.hearsPtp p b d →
    (ptpType b = 0 → (s.dom d).state ≠ .disabled → Runs (.sync p b) s fun t =>
      (t.dom d).lastSync = s.mgt ∧ (t.dom d).inPort = p ∧ (t.dom d).last = linkSum b + s.linkDelay p d ∧
      (t.dom d).suspect = decide ((t.dom d).state ≠ .qualified)) ∧
    (ptpType b = 8 → s.sys.core1 ≠ .restarting → Runs (.followUp p b) s fun t =>
      ∃ y, t.time.toMc1 = s.time.toMc1 ++ [y] ∧ y.msg = ptpMsg b ∧ y.state = (s.dom d).state) ∧
    (ptpType b = 11 ∨ ptpType b = 12 ∨ ptpType b = 13 → s.sys.core1 ≠ .restarting →
      Runs (.ptpGeneralMessage p b) s fun t =>
        ∃ y, t.time.toMc1 = s.time.toMc1 ++ [y] ∧ y.msg = ptpMsg b ∧ y.state = (s.dom d).state) ∧
    (ptpType b = 1 ∨ ptpType b = 9 → Runs (.delayReq p b) s fun t =>
      (t.dom d).e2e = satAdd (s.dom d).e2e 1 16 ∧ t.time.toMc1 = s.time.toMc1)

/-- A pending Sync entry is dropped at the end of the cycle in which its lifetime ends, and
DOMAIN_LOST_TIMEOUT takes an enabled domain to LOST at the end of its cycle (R9, R260, R262; log entry
40). That the reference is cleared on LOST is the model's reading (log entry 19). -/
def PtpEntriesAndDomainsExpire : Prop :=
  ∀ s : State, s.released = true →
    (∀ e r, s.time.pend = e :: r → Runs .pendingEntryEvict s fun t =>
      t.time.pend = r ∧ s.mgtInstant (e.at_ + 400000000 + 1) ≤ t.now ∧
      (t.fport e.port).timeQ = e.handTo (s.fport e.port).timeQ) ∧
    (∀ d, d < 2 → (s.dom d).state ≠ .disabled → (s.dom d).state ≠ .lost → Runs (.domainLostTimeout d) s fun t =>
      (t.dom d).state = .lost ∧ (t.dom d).ref = none ∧ t.rb A.TIME_INT_STATUS d = true)

/-- A LOCKED PLL loses lock in a window beyond 1000 ppm, or in a second window beyond 100 ppm, and else
stays LOCKED; an ACQUIRE PLL locks after four windows within 100 ppm; 20 ms of acquiring set ACQ_SLOW
(R275); DEV lies within 1 ppm of the deviation of the count from the one that the ratio implies (R274). -/
def LockWindowsMovePlls : Prop :=
  ∀ (s : State) (i : Fin 18) (div n : Nat), s.released = true → 1600000 ≤ div → div ≤ 3200000 →
    let p := s.clk.pll i
    let off : Int := 1000000 * ((256 * n : Nat) - (s.clk.implied div : Int))
    let within := fun (ppm : Nat) => off.natAbs ≤ ppm * s.clk.implied div
    let dev := fun (t : State) => off - s.clk.implied div < (t.clk.pll i).dev * s.clk.implied div ∧
      (t.clk.pll i).dev * s.clk.implied div < off + s.clk.implied div
    (p.state = .locked → (¬ within 1000 ∨ (¬ within 100 ∧ p.bad = true)) → Runs (.pllLockWindow i ⟨div, n⟩) s fun t =>
      (t.clk.pll i).state = .acquire ∧ (t.clk.pll i).lossCnt = satAdd p.lossCnt 1 16 ∧ dev t ∧
      t.rb A.CLK_INT_STATUS (pllBit i) = true) ∧
    (p.state = .locked → within 1000 → (within 100 ∨ p.bad = false) → Runs (.pllLockWindow i ⟨div, n⟩) s fun t =>
      (t.clk.pll i).state = .locked ∧ dev t ∧ ((t.clk.pll i).bad = true ↔ ¬ within 100)) ∧
    (p.state = .acquire → p.skip = false → within 100 → Runs (.pllLockWindow i ⟨div, n⟩) s fun t =>
      if 3 ≤ p.good then (t.clk.pll i).state = .locked ∧ t.rb A.CLK_INT_STATUS (pllBit i + 1) = true
      else (t.clk.pll i).state = .acquire ∧ (t.clk.pll i).good = p.good + 1) ∧
    (p.state = .acquire → p.skip = false → ¬ within 100 → Runs (.pllLockWindow i ⟨div, n⟩) s fun t =>
      (t.clk.pll i).state = .acquire ∧ (t.clk.pll i).good = 0) ∧
    (p.state = .acquire → p.told = false → Runs (.pllAcqSlow i) s fun t =>
      (t.clk.pll i).acqSlow = true ∧ (t.clk.pll i).state = .acquire ∧ p.since + ms 20 ≤ t.now ∧
      t.rb A.CLK_INT_STATUS 9 = true)

/-- Firmware's write of PLL1_EN or CLK_LPLL_EN sends an OFF PLL to ACQUIRE while REFCLK is good and a
cleared bit turns its PLL OFF; a host write is ignored with a warning (R276, R281). -/
def PllsAreEnabled : Prop :=
  ∀ (s : State) (who : Who) (w : Word), s.released = true → who ≠ .host →
    (Runs (.pll1EnableWrite who w) s fun t =>
      (t.clk.pll 1).state = (if wbit (s.standing who A.CLK_CTRL w) 0 then
        (if (s.clk.pll 1).state = .off ∧ s.clk.refOk = true then .acquire else (s.clk.pll 1).state) else .off)) ∧
    (Runs (.lpllEnableWrite who w) s fun t => ∀ q < 16,
      (t.clk.pll (2 + q)).state = (if wbit (s.standing who A.CLK_LPLL_EN w) q then
        (if (s.clk.pll (2 + q)).state = .off ∧ s.clk.refOk = true then .acquire else (s.clk.pll (2 + q)).state)
        else .off)) ∧
    Sys2Proof.Machine.exec (.pll1EnableWrite .host w) s = .next (s.ignored clsCLK .host A.CLK_CTRL).fin ∧
    Sys2Proof.Machine.exec (.lpllEnableWrite .host w) s = .next (s.ignored clsCLK .host A.CLK_LPLL_EN).fin

/-- START runs a stopped watchdog from the next cycle, or in a freeze from its end, and does nothing to
another, LOCK locks, and the host's writes are DENIED (R328 to R330, R335). A write that R290 puts
before one of its cycle acts in the next cycle (log entry 40). -/
def WatchdogIsStartedAndLocked : Prop :=
  ∀ (s : State) (w : Word), s.released = true →
    (∀ who, who ≠ .host →
      (s.wdt.state = .stopped → Runs (.wdtStart who w) s fun t =>
        t.wdt.state = .running ∧ t.wdt.hwStart = false ∧
        t.wdt.start = (match s.wdt.frozen with
          | some f => min f ((s.turn who A.WDT_CTRL).mgt + 1)
          | none => (s.turn who A.WDT_CTRL).mgt + 1) ∧
        (s.sys.grace0 = none → s.sys.grace1 = none → t.wdt.counted = 0)) ∧
      (s.wdt.state ≠ .stopped → Runs (.wdtStart who w) s fun t =>
        t.wdt.state = s.wdt.state ∧ t.wdt.start = s.wdt.start) ∧
      (Runs (.wdtLock who w) s fun t => t.wdt.locked = true)) ∧
    Sys2Proof.Machine.exec (.wdtStart .host w) s = .next (s.denied clsWDT .host A.WDT_CTRL).fin ∧
    Sys2Proof.Machine.exec (.wdtLock .host w) s = .next (s.denied clsWDT .host A.WDT_CTRL).fin ∧
    Sys2Proof.Machine.exec (.wdtTally .host w) s = .next (s.denied clsWDT .host A.WDT_TALLY).fin

/-- A first TALLY of a task within the window counts it, one before the window or a second under STRICT
expires the watchdog with its cause, a second otherwise is recorded as DUP, and a write without the key
is a warning; in the cycle of a new START a tally is one of the period before, and with none before it
does nothing (R331, R333). A write that R290 puts before one of its cycle acts in the next cycle (log
entry 40). -/
def TalliesCount : Prop :=
  ∀ (s : State) (who : Who) (w : Word) (i : Nat), s.released = true → who ≠ .host → i < 8 →
    let u := s.turn who A.WDT_TALLY
    (wfield w 16 16 = 0x7A11 → wfield w 0 8 = 2 ^ i → s.wdt.state = .running → s.wdt.mask.testBit i = true →
      s.wdt.start ≤ u.wdtClock →
      (wdtOpen s.wdt.cfg ≤ u.wdtCycle → u.wdtCycle + 1 ≠ wdtN s.wdt.cfg → s.wdt.counted.testBit i = false →
        Runs (.wdtTally who w) s fun t =>
          t.wdt = { s.wdt with counted := s.wdt.counted ||| 2 ^ i } ∧ t.dram = s.dram ∧ t.sys = s.sys) ∧
      (u.wdtCycle < wdtOpen s.wdt.cfg → Runs (.wdtTally who w) s fun t =>
          t.wdt.state = .expired ∧ t.wdt.nmiCause = .early ∧ t.wdt.nmiTask = i ∧
          t.wdt.hardEnd = some (u.wdtClock + 2 ^ 20) ∧ t.rb A.WDT_INT_STATUS 1 = true) ∧
      (wdtOpen s.wdt.cfg ≤ u.wdtCycle → s.wdt.counted.testBit i = true → s.wdt.strict = false →
        Runs (.wdtTally who w) s fun t =>
          t.wdt = { s.wdt with dup := s.wdt.dup ||| 2 ^ i } ∧ t.rb A.WDT_INT_STATUS 0 = true) ∧
      (wdtOpen s.wdt.cfg ≤ u.wdtCycle → s.wdt.counted.testBit i = true → s.wdt.strict = true →
        Runs (.wdtTally who w) s fun t =>
          t.wdt.state = .expired ∧ t.wdt.nmiCause = .dup ∧ t.wdt.nmiTask = i)) ∧
    (wfield w 16 16 = 0x7A11 → wfield w 0 8 = 2 ^ i → s.wdt.state = .running → u.wdtClock < s.wdt.start →
      (s.wdt.former = none → Runs (.wdtTally who w) s fun t => t.wdt = s.wdt) ∧
      (∀ p, s.wdt.former = some p → p.mask.testBit i = true → p.counted.testBit i = true →
        (p.strict = false → Runs (.wdtTally who w) s fun t =>
          t.wdt = { s.wdt with dup := s.wdt.dup ||| 2 ^ i }) ∧
        (p.strict = true → Runs (.wdtTally who w) s fun t =>
          t.wdt.state = .expired ∧ t.wdt.nmiCause = .dup ∧ t.wdt.nmiTask = i ∧ t.wdt.periods = p.periods))) ∧
    (wfield w 16 16 ≠ 0x7A11 → Sys2Proof.Machine.exec (.wdtTally who w) s =
      .next ((u.warn clsWDT 0x86 who.code w.toNat).markWriter who A.WDT_TALLY).fin)

/-- A period with every task counted is followed by the next; one with a task missing expires the watchdog,
raises NMI and starts the hard timer, whose end is a warm reset with cause 2 (R332, R334, R337). A
freeze that begins in a later cycle does not stop what is due (R9, R335). -/
def WatchdogPeriodsEnd : Prop :=
  ∀ s : State, s.released = true →
    (s.wdt.state = .running → s.wdt.frozen = none → Runs .wdtWindowOpen s fun t =>
      t.wdt = s.wdt ∧ t.now = max s.now (s.mgtInstant (s.wdt.start + wdtOpen s.wdt.cfg))) ∧
    (s.wdt.state = .running → s.wdt.stops (s.wdt.start + wdtN s.wdt.cfg - 1) = false →
      (s.wdtMissing = 0 → 0 < wdtN s.wdt.cfg → Runs .wdtPeriodEnd s fun t =>
        t.wdt.state = .running ∧ t.wdt.start = s.wdt.start + wdtN s.wdt.cfg ∧
        t.wdt.periods = wrapAdd s.wdt.periods 1 32 ∧
        (s.sys.grace0 = none → s.sys.grace1 = none → t.wdt.counted = 0)) ∧
      (s.wdtMissing ≠ 0 → Runs .wdtPeriodEnd s fun t =>
        t.wdt.state = .expired ∧ t.wdt.nmiCause = .expiry ∧ t.wdt.missing = s.wdtMissing ∧
        t.wdt.hardEnd = some (t.wdtClock + 2 ^ 20) ∧ t.rb A.WDT_INT_STATUS 1 = true)) ∧
    (∀ e cut, s.wdt.hardEnd = some e → (∀ f, s.wdt.frozen = some f → e ≤ f) → Runs (.wdtHardTimerEnd cut) s fun t =>
      t.released = false ∧ t.sys.causeLast = 2 ∧ t.sys.causeBits.testBit 2 = true ∧ s.mgtInstant e ≤ t.now ∧
      t.wdt = {} ∧ t.vlt.shadow = [])

/-- EVL_ACK by the reader named in ACK_OWNER acknowledges up to the index written, and all where it is the
head, before the events of its own MGTCLK cycle are entered; another writer, or too many entries,
changes no entry and sets ACK_ERR (R344). A write that R290 puts before one of its cycle acts in the
next cycle (log entry 40). -/
def LedgerIsAcknowledged : Prop :=
  ∀ (s : State) (who : Who) (w : Word), s.released = true → s.evlSettled → s.evl.inBounds →
    let e := (s.turn who A.EVL_ACK).ledgerNow
    let i := wfield w 0 10
    let n := if i = e.head then e.used else (i + 1024 - e.tail) % 1024
    (who = s.ackOwner → n ≤ e.used → Runs (.evlAck who w) s fun t =>
      t.evl.before.used = e.used - n ∧ t.evl.past = e.past ∧ t.evl.ackErr = s.evl.ackErr ∧
      (e.past = [] → t.evl.used = e.used - n ∧ t.evl.tail = i ∧ t.evl.head = e.head ∧ t.evl.ring = e.ring)) ∧
    (who ≠ s.ackOwner ∨ e.used < n → Runs (.evlAck who w) s fun t =>
      t.evl.used = s.evl.used ∧ t.evl.ring = s.evl.ring ∧ t.evl.ackErr = true)

/-- EVL_FW_ENTRY enters a firmware event of severity 0 to 2 and counts it beside the events of its cycle,
severity 3 does nothing, and the host is DENIED (R341, R343, R344). -/
def FirmwareEventsEnter : Prop :=
  ∀ (s : State) (who : Who) (w : Word), s.released = true → s.evlSettled → who ≠ .host →
    let e := (s.turn who A.EVL_FW_ENTRY).ledgerNow
    let faults := fun (t : State) (k : Nat) =>
      t.evl.totalFault % 2 ^ 32 = (e.totalFault + e.raised .fault + k) % 2 ^ 32
    let warns := fun (t : State) (k : Nat) =>
      t.evl.totalWarn % 2 ^ 32 = (e.totalWarn + e.raised .warn + k) % 2 ^ 32
    (wfield w 0 2 = 2 → Runs (.evlFwEntry who w) s fun t =>
      faults t 1 ∧ warns t 0 ∧ t.evl.intStatus.getLsbD 0 = true) ∧
    (wfield w 0 2 = 1 → Runs (.evlFwEntry who w) s fun t =>
      warns t 1 ∧ faults t 0 ∧ (t.evl.intStatus.getLsbD 1 = true ∨ t.evl.intStatus.getLsbD 3 = true)) ∧
    (wfield w 0 2 = 0 → Runs (.evlFwEntry who w) s fun t =>
      faults t 0 ∧ warns t 0 ∧ (t.evl.intStatus.getLsbD 2 = true ∨ t.evl.intStatus.getLsbD 3 = true)) ∧
    (wfield w 0 2 = 3 → Sys2Proof.Machine.exec (.evlFwEntry who w) s =
      .next ((s.turn who A.EVL_FW_ENTRY).markWriter who A.EVL_FW_ENTRY).fin) ∧
    Sys2Proof.Machine.exec (.evlFwEntry .host w) s = .next (s.denied clsEVL .host A.EVL_FW_ENTRY).fin

/-- At the end of the holdoff the request is high exactly while a status bit and its enable are both 1
(R345); EVENT_SUMMARY_SEND sends a summary, no two within 10 ms, the periodic ones an interval apart
(R346). -/
def HoldoffAndSummaries : Prop :=
  ∀ s : State, s.released = true → s.evlSettled →
    (∀ a b, s.evl.hold = some (a, b) → Runs .evlHoldoffEnd s fun t =>
      t.evl.hold = none ∧ s.mgtInstant b ≤ t.now ∧
      (t.evl.req = true ↔ s.evl.intStatus.toNat &&& s.rn A.EVL_INT_EN ≠ 0)) ∧
    (s.rb A.EVL_SUM_CTRL 0 = true → s.fab.addr ≠ none → Runs .eventSummarySend s fun t =>
      t.evl.sumLast = some t.now ∧ t.evl.sumFault = false ∧ t.fab.mid = wrapAdd s.fab.mid 1 16 ∧
      (∀ l, s.evl.sumLast = some l → l + ms 10 ≤ t.now) ∧
      (s.evl.sumFault = true → t.evl.sumPer = s.evl.sumPer) ∧
      (s.evl.sumFault = false → t.evl.sumPer = some t.now ∧
        ∀ l, s.evl.sumPer = some l → l + ms (s.rf A.EVL_SUM_CTRL 16 16) ≤ t.now))

/-- DUMP_GO by a core starts a dump in the slot that NEXT names, whose VALID bit it clears, with no DRAM
ends at once as NO_DRAM, and during a dump starts none; the dump ends with its nine sections written,
the slot VALID, DUMPS counted and NEXT advanced (R348 to R351). What a second DUMP_GO leaves of NMI is
the model's reading (log entry 31). -/
def IncidentDumpsRun : Prop :=
  ∀ (s : State) (w : Word), s.released = true →
    (∀ who, who ≠ .host →
      (s.evl.dump = none → s.sys.boot.dramReady = true → Runs (.incidentDumpGo who w) s fun t =>
        (∃ d, t.evl.dump = some d ∧ d.slot = field (rdLE s.ret 0x1050 4) 0 3 ∧
          d.trigger = (if who = .mc1 then .mc1 else .mc0) ∧ d.mode = s.sys.mode.code) ∧
        t.evl.dumpSlot = field (rdLE s.ret 0x1050 4) 0 3 ∧
        rdLE t.ret 0x1050 4 % 8 = field (rdLE s.ret 0x1050 4) 0 3 ∧
        (rdLE t.ret 0x1050 4).testBit (8 + field (rdLE s.ret 0x1050 4) 0 3) = false) ∧
      (s.evl.dump = none → s.sys.boot.dramReady = false → Runs (.incidentDumpGo who w) s fun t =>
        t.evl.dump = none ∧ t.evl.dumpResult = .noDram ∧ t.evl.intStatus.getLsbD 6 = true ∧ t.dram = s.dram) ∧
      (∀ d, s.evl.dump = some d → Runs (.incidentDumpGo who w) s fun t =>
        t.evl.dump = some { d with nmi := s.wdt.nmi } ∧ t.dram = s.dram ∧ t.ret = s.ret)) ∧
    (∀ d, s.evl.dump = some d → Runs .incidentDumpComplete s fun t =>
      t.evl.dump = none ∧ t.evl.dumpResult = .done ∧ t.evl.dumpSecs = 9 ∧ t.evl.intStatus.getLsbD 6 = true ∧
      (d.slot < 8 → d.seq < 65536 → rdLE t.ret 0x1050 4 =
        (d.slot + 1) % 8 + 256 * (field (rdLE s.ret 0x1050 4) 8 8 ||| 2 ^ d.slot) + 65536 * d.seq)) ∧
    Sys2Proof.Machine.exec (.incidentDumpGo .host w) s = .next (s.denied clsEVL .host A.EVL_DUMP_CTRL).fin

/-- SOFT_TRIG and the TRIG edge, where the live plan uses that trigger, start the sequence from ARMED 2 µs
later at a SEQCLK edge, and otherwise count as missed in MONITOR and CAPTURE (R55, R56). A SOFT_TRIG
edge that a tick comes before or with waits for that tick, and ARMED is judged when a TRIG edge is
recognised (log entry 46). -/
def TriggersAreTaken : Prop :=
  ∀ (s : State) (c : InForce) (who : Who) (w : Word) (e : Nat), s.released = true →
    s.tmg.cur = some c →
    let missed := if wbit w 3 then 0 else s.tmg.missed
    let edge := s.seqEdge (s.turn who A.TMG_CTRL).now
    let waits := s.ticking = true ∧ s.seqEdge s.tmg.nextSft ≤ edge
    (s.plan.live ≠ none → c.sched.isTrigger .soft = true → ¬ waits →
      (s.tmg.seq = .armed → s.fgRuns = false → Runs (.softTrig who w) s fun t =>
        t.tmg.seq = .running ∧ t.tmg.trigFT = true ∧ t.tmg.fresh = true ∧
        t.tmg.pos = s.seqEdge (edge + us 2) ∧ t.tmg.missed = missed) ∧
      (s.tmg.seq ≠ .armed ∨ s.fgRuns = true → s.sys.mode.capturing = true → Runs (.softTrig who w) s fun t =>
        t.tmg.seq = s.tmg.seq ∧ t.tmg.missed = satAdd missed 1 16 ∧ t.rb A.TMG_INT_STATUS 2 = true)) ∧
    (waits → Runs (.softTrig who w) s fun t =>
      t.tmg.seq = s.tmg.seq ∧ t.tmg.pos = s.tmg.pos ∧ t.tmg.missed = missed ∧
      t.tmg.softs = s.tmg.softs ++ [edge]) ∧
    (s.plan.live = none ∨ c.sched.isTrigger .soft = false → Runs (.softTrig who w) s fun t =>
      t.tmg.seq = s.tmg.seq ∧ t.tmg.missed = missed) ∧
    (s.plan.live ≠ none → c.sched.isTrigger .pin = true →
      (s.tmg.seq = .armed → s.fgRuns = false → Runs (.trigEdge e) s fun t =>
        t.tmg.seq = .running ∧ t.tmg.trigFT = true ∧ t.tmg.fresh = true ∧
        t.tmg.pos = s.seqEdge (e + us 2) ∧ t.tmg.missed = s.tmg.missed ∧ t.now = max s.now (e + ns30)) ∧
      (s.tmg.seq ≠ .armed ∨ s.fgRuns = true → s.sys.mode.capturing = true → Runs (.trigEdge e) s fun t =>
        t.tmg = { s.tmg with missed := satAdd s.tmg.missed 1 16 } ∧ t.rb A.TMG_INT_STATUS 2 = true) ∧
      (s.tmg.seq ≠ .armed → s.sys.mode.capturing = false → Runs (.trigEdge e) s fun t =>
        t.tmg = s.tmg)) ∧
    (s.plan.live = none ∨ c.sched.isTrigger .pin = false → Runs (.trigEdge e) s fun t => t.tmg = s.tmg)

/-- REALIGN is taken in IDLE only, PRESET_LOAD in STANDBY with the sequencer IDLE or STOPPED only, and
CNT_CLR clears the counters (R54, R59, R71). The order of several bits of one write is the model's
reading (log entry 9), and so is that a write which R290 puts before one of its cycle acts in the next
(log entry 40). -/
def TimingControlsAct : Prop :=
  ∀ (s : State) (who : Who) (w : Word), s.released = true →
    (s.tmg.seq = .idle → Runs (.realign who w) s fun t =>
      t.tmg.realign = some (s.turn who A.TMG_CTRL).now ∧ t.tmg.pos = s.tmg.pos ∧ t.tmg.seq = .idle) ∧
    (s.tmg.seq ≠ .idle → Runs (.realign who w) s fun t => t.tmg.realign = s.tmg.realign) ∧
    (s.tmg.seq ≠ .idle → wbit w 0 = false → wbit w 2 = false → wbit w 3 = false →
      Sys2Proof.Machine.exec (.realign who w) s =
        .next (((s.turn who A.TMG_CTRL).ignored clsTMG who A.TMG_CTRL).markWriter who A.TMG_CTRL).fin) ∧
    (s.sys.mode = .standby → (s.tmg.seq = .idle ∨ s.tmg.seq = .stopped) → Runs (.presetLoad who w) s fun t =>
      t.tmg.nNext = s.rn A.TMG_FRAME_PRESET ∧ t.tmg.seq = s.tmg.seq) ∧
    (s.sys.mode ≠ .standby ∨ (s.tmg.seq ≠ .idle ∧ s.tmg.seq ≠ .stopped) → Runs (.presetLoad who w) s fun t =>
      t.tmg.nNext = s.tmg.nNext) ∧
    (s.sys.mode ≠ .standby ∨ (s.tmg.seq ≠ .idle ∧ s.tmg.seq ≠ .stopped) →
      wbit w 0 = false → wbit w 1 = false → wbit w 3 = false →
      Sys2Proof.Machine.exec (.presetLoad who w) s =
        .next (((s.turn who A.TMG_CTRL).ignored clsTMG who A.TMG_CTRL).markWriter who A.TMG_CTRL).fin) ∧
    (Runs (.tmgCntClr who w) s fun t => t.tmg.accepted = 0 ∧ t.tmg.settleCnt = 0 ∧
      (wbit w 0 = false → t.tmg.missed = 0)) ∧
    (wbit w 0 = false → wbit w 1 = false → wbit w 2 = false → Runs (.tmgCntClr who w) s fun t =>
      t.tmg = { s.tmg with accepted := 0, missed := 0, settleCnt := 0 })

/-- A GENLOCK edge of the polarity in POL that holds for 30 ns is captured with its resolution and its
period measured; it starts a grid that waits for it, or an IDLE grid that a REALIGN waits on, 50 µs
later with the divider phase reset, and else moves no tick; any other edge does nothing (R53, R54, R284,
R285). -/
def GenlockEdgesAlign : Prop :=
  ∀ (s : State) (e h : Nat) (up : Bool), s.released = true → 30 ≤ h → up = !s.rb A.CLK_GL_CTRL 0 →
    let x := s.glInstant e
    (Runs (.genlockEdge ⟨e, h, up⟩) s fun t => t.clk.glLast = some x ∧ t.clk.glSeen = some x ∧
      t.now = max s.now (e + ns30) ∧
      ∀ l, s.clk.glLast = some l → t.clk.glValid = s.locked 1 ∧
        t.clk.glPeriod = min ((x - l) / s.clk.seqPer) (2 ^ 31 - 1)) ∧
    (∀ k, k < 30 → Sys2Proof.Machine.exec (.genlockEdge ⟨e, k, up⟩) s = .next s.fin) ∧
    Sys2Proof.Machine.exec (.genlockEdge ⟨e, h, !up⟩) s = .next s.fin ∧
    (∀ sch base tm, s.startPlan = some (sch, base, tm) → sch.startMode = 0 → sch.phaseSrc = 1 →
      s.phaseOk base tm x = true → Runs (.genlockEdge ⟨e, h, up⟩) s fun t =>
        t.tmg.seq = .idle ∧ t.tmg.fresh = true ∧ t.tmg.pos = x + 34560 ∧ t.tmg.s = max 1 sch.s ∧
        t.tmg.p = sch.pTU ∧ t.clk.seqOrg = (x + 34560) % Config.seqTU ∧ t.clk.aligned = true) ∧
    (∀ r, s.startPlan = none → s.tmg.realign = some r → s.tmg.seq = .idle → r + Config.seqTU ≤ e →
      Runs (.genlockEdge ⟨e, h, up⟩) s fun t =>
        t.tmg.realign = none ∧ t.tmg.seq = .idle ∧ t.tmg.fresh = true ∧ t.tmg.j = 0 ∧ t.tmg.pos = x + 34560 ∧
        t.clk.seqOrg = (x + 34560) % Config.seqTU ∧ t.clk.alignCnt = wrapAdd s.clk.alignCnt 1 16) ∧
    (s.startPlan = none → s.tmg.realign = none ∨ s.tmg.seq ≠ .idle → Runs (.genlockEdge ⟨e, h, up⟩) s fun t =>
      t.tmg.pos = s.tmg.pos ∧ t.tmg.fresh = s.tmg.fresh ∧ t.tmg.seq = s.tmg.seq ∧
      t.tmg.realign = s.tmg.realign ∧ t.clk.seqOrg = s.clk.seqOrg)

/-- SEQUENCER_START starts the grid of the live plan anew 64 µs after the lock of PLL 1 (R62), or that of
the pending commit, in IDLE, with the plan's S and period, at the first SEQCLK edge no sooner than 64 µs
after the commit and the lock of PLL 1, or at its time; with GENLOCK as the phase source it leaves it to
the edge (R53, R127). -/
def GridStarts : Prop :=
  ∀ (s : State) (c : Commit), s.released = true → s.ticking = false → s.locked 1 = true → s.sys.mode = .standby →
    (∀ b f, s.plan.live = some b → s.tmg.cur = some f → f.sched.startMode ≠ 0 ∨ f.sched.phaseSrc = 0 →
      Runs .sequencerStart s fun t =>
        t.tmg.seq = .idle ∧ t.tmg.fresh = true ∧ t.tmg.j = 0 ∧ t.tmg.s = max 1 f.sched.s ∧
        t.tmg.p = f.sched.pTU ∧ t.tmg.pos = s.seqEdge (max (s.seqEdge s.clk.lock1 + us64) s.now) ∧
        t.now = max s.now t.tmg.pos) ∧
    (s.plan.live = none → s.plan.commit = some c →
    let sch := (s.plan.bank c.bank).plan.sched
    let base := max c.w (s.seqEdge s.clk.lock1) + us64
    (sch.startMode ≠ 0 ∨ sch.phaseSrc = 0 →
      (c.when_ = .next → Runs .sequencerStart s fun t =>
        t.tmg.seq = .idle ∧ t.tmg.fresh = true ∧ t.tmg.j = 0 ∧ t.tmg.s = max 1 sch.s ∧ t.tmg.p = sch.pTU ∧
        t.tmg.pos = s.seqEdge (max base s.now) ∧ t.now = max s.now t.tmg.pos) ∧
      (∀ tb sec ns, c.when_ = .time tb sec ns → Runs .sequencerStart s fun t =>
        t.tmg.seq = .idle ∧ t.tmg.fresh = true ∧ t.tmg.s = max 1 sch.s ∧ t.tmg.p = sch.pTU ∧
        t.tmg.pos = s.seqEdge (max (max base
          (s.seqEdge (s.mgtInstant ((s.tb tb).reach (tbOf sec ns 0))))) s.now))) ∧
    (sch.startMode = 0 → sch.phaseSrc ≠ 0 → Runs .sequencerStart s fun t =>
      t.tmg = s.tmg ∧ t.tmg.seq = .stopped))

/-- RETIRE_GO is INVALID, finds no spare, or is accepted: while the ticks run the substitution waits for its
tick, and else it happens at once and the slice is failed; CNT_CLR clears the counters (R98 to R100,
R107). That a refused second RETIRE_GO leaves the first pending is log entry 46. -/
def SlicesAreRetired : Prop :=
  ∀ (s : State) (who : Who) (w : Word), s.released = true →
    let key := 322 * s.rf A.CNV_RETIRE 17 1 + s.rf A.CNV_RETIRE 8 9
    let pos := s.rf A.CNV_RETIRE 0 8
    let sp := s.rf A.CNV_RETIRE 19 2
    let force := s.rb A.CNV_RETIRE 18
    (s.retireInvalid → Runs (.retireGo who w) s fun t =>
      t.cnv.retireResult = 4 ∧ t.cnv.slices = s.cnv.slices ∧ t.cnv.subs = s.cnv.subs) ∧
    (¬ s.retireInvalid → ¬ s.retireServed → force = false → Runs (.retireGo who w) s fun t =>
      t.cnv.retireResult = 3 ∧ t.cnv.slices = s.cnv.slices ∧ t.cnv.subs = s.cnv.subs) ∧
    (¬ s.retireInvalid → s.retireServed ∨ force = true →
      (s.ticking = true → Runs (.retireGo who w) s fun t =>
        t.cnv.retireResult = 1 ∧ t.cnv.slices = s.cnv.slices ∧
        t.cnv.subs = s.cnv.subs.filter (fun q => q.req = none) ++
          [{ key := key, pos := pos, spare := if sp = 0 then none else some (sp - 1), force := force
             req := some (s.seqEdge s.now), at_ := s.now }]) ∧
      (s.ticking = false → Runs (.retireGo who w) s fun t =>
        (t.cnv.ent (130 * key + pos)).failed = true ∧
        (t.cnv.retireResult = 2 ∨ t.cnv.retireResult = 5) ∧ t.rb A.CNV_INT_STATUS 1 = true)) ∧
    (Runs (.cnvCntClr who w) s fun t =>
      t.cnv.steps = 0 ∧ t.cnv.voids = 0 ∧ t.cnv.rejects = 0 ∧ t.cnv.cycles = 0)

/-- TDAC_GO is refused when its fields are bad, waits for a slot while the grid reads, and else runs at
once; its end leaves the results of the masked columns with the mean of one conversion its code (R103,
R104). The result of a column that no slice serves is log entry 46. -/
def InjectionsRun : Prop :=
  ∀ (s : State) (who : Who) (w : Word), s.released = true →
    let ctrl := s.rn A.CNV_TDAC_CTRL
    let mask := s.rn A.CNV_TDAC_MASK0 + s.rn A.CNV_TDAC_MASK1 * 2 ^ 32
    let bad := mask = 0 ∨ 321 < field ctrl 13 9 ∨ field ctrl 26 3 = 7
    (s.cnv.tdac.isSome = true → Runs (.tdacGo who w) s fun t => t.cnv.tdac = s.cnv.tdac) ∧
    (s.cnv.tdac = none → bad → Runs (.tdacGo who w) s fun t =>
      t.cnv.tdac = none ∧ t.cnv.tdacDone = true ∧ t.cnv.tdacResult = 4 ∧ t.rb A.CNV_INT_STATUS 8 = true) ∧
    (s.cnv.tdac = none → ¬ bad → s.gridQuiet = true → Runs (.tdacGo who w) s fun t =>
      t.cnv.tdac = some { ctrl := ctrl, mask := mask, run := some s.now } ∧ t.cnv.tdacDone = false ∧
      t.cnv.tdacA = field ctrl 26 3 ∧ t.cnv.tdacB = field ctrl 26 3) ∧
    (s.cnv.tdac = none → ¬ bad → s.gridQuiet = false → Runs (.tdacGo who w) s fun t =>
      t.cnv.tdac = some { ctrl := ctrl, mask := mask, run := none } ∧ t.cnv.tdacDone = false) ∧
    (∀ x, s.cnv.tdac = some x → x.run = none →
      (s.gridQuiet = true → Runs .tdacInjectionStart s fun t =>
        t.cnv.tdac = some { x with run := some s.now } ∧ t.cnv.tdacA = field x.ctrl 26 3 ∧
        t.cnv.tdacB = field x.ctrl 26 3 ∧ t.now = s.now) ∧
      (s.gridQuiet = false → ∀ at_, s.tdacSlotAt x = some at_ → Runs .tdacInjectionStart s fun t =>
        t.cnv.tdac = some { x with run := some at_ } ∧ t.cnv.tdacA = s.tmg.dacH ∧ t.cnv.tdacB = s.tmg.dacL ∧
        t.now = max s.now at_)) ∧
    (∀ x begun convs, s.cnv.tdac = some x → x.run = some begun → Runs (.tdacInjectionDone convs) s fun t =>
      t.cnv.tdac = none ∧ t.cnv.tdacDone = true ∧ t.cnv.tdacResult = 1 ∧
      t.cnv.tdacReps = field x.ctrl 22 4 + 1 ∧ t.rb A.CNV_INT_STATUS 8 = true ∧
      t.now = max s.now (begun + (us 1 + (field x.ctrl 22 4 + 1) * s.tSlot) + Config.deliverTU) ∧
      ∀ c y, field x.ctrl 22 4 = 0 → c < 64 → x.mask.testBit c = true →
        convs.find? (fun y => y.col = c ∧ y.rep = 0) = some y →
        sget (fun _ => 0) t.cnv.tdacRes c =
          (decisionCode y.a).1 + flag (decisionCode y.a).2 14 + at_ (decisionCode y.b).1 16 +
            flag (decisionCode y.b).2 30 + 2 ^ 31)

/-- TAKEOVER_GO and RESTORE_GO are answered INVALID, NOSPARE or REFUSED, or pend until a tick, or act at
once while the ticks do not run, which is the model's reading (log entry 35); host writes are ignored
(R163, R168). That nothing waits while the ticks are stopped is stated as an invariant of its own. -/
def TakesAreCommanded : Prop :=
  ∀ (s : State) (who : Who) (w : Word), s.released = true →
    let stripe := s.rf A.STR_CMD 0 7
    let pending := fun (r : Bool) => ({ stripe := stripe, restore := r, fault := false, at_ := s.seqEdge s.now } : Take)
    (∀ c ∈ [Instr.takeoverGo .host w, .restoreGo .host w, .testGo .host w],
      Sys2Proof.Machine.exec c s = .next (s.ignored clsSTR .host A.STR_CTRL).fin) ∧
    (who ≠ .host → wbit w 1 = false → wbit w 2 = false →
      (79 < stripe → Runs (.takeoverGo who w) s fun t => t.str.cmdResult = 4 ∧ t.str.takes = s.str.takes) ∧
      (stripe ≤ 79 → s.idleSpares = [] → Runs (.takeoverGo who w) s fun t =>
        t.str.cmdResult = 3 ∧ t.str.takes = s.str.takes) ∧
      (stripe ≤ 79 → s.idleSpares ≠ [] → (∀ x ∈ s.str.takes, x.stripe = stripe → x.fault = false) →
        (s.ticking = true → Runs (.takeoverGo who w) s fun t =>
          t.str.cmdResult = 1 ∧ t.str.takes = s.str.takes.filter (fun x => x.stripe ≠ stripe) ++ [pending false]) ∧
        (s.ticking = false → s.takesQuiet → s.serving stripe ∉ s.idleSpares → Runs (.takeoverGo who w) s fun t =>
          ∃ d, s.idleSpares.head? = some d ∧ (t.dp d).state = .serving ∧ (t.dp d).stripe = stripe ∧
            t.serving stripe = d ∧ t.str.takes = [] ∧ t.str.cmdResult = 2 ∧ t.rb A.STR_INT_STATUS 1 = true ∧
            (t.dp (s.serving stripe)).state = .failed))) ∧
    (who ≠ .host → wbit w 0 = false → wbit w 2 = false →
      (79 < stripe ∨ s.serving stripe = stripe → Runs (.restoreGo who w) s fun t =>
        t.str.cmdResult = 4 ∧ t.str.takes = s.str.takes) ∧
      (stripe ≤ 79 → s.serving stripe ≠ stripe → (s.dp stripe).state ≠ .standby → Runs (.restoreGo who w) s fun t =>
        t.str.cmdResult = 5 ∧ t.str.takes = s.str.takes) ∧
      (stripe ≤ 79 → s.serving stripe ≠ stripe → (s.dp stripe).state = .standby → s.ticking = true →
        (∀ x ∈ s.str.takes, x.stripe = stripe → x.fault = false) → Runs (.restoreGo who w) s fun t =>
          t.str.cmdResult = 1 ∧ t.str.takes = s.str.takes.filter (fun x => x.stripe ≠ stripe) ++ [pending true]))

/-- TEST_GO is INVALID, REFUSED (during another test too, log entry 46) or starts a self-test; its end
leaves the datapath as it was, or FAILED with the fault bit; the spares test themselves every 4 s
(R167). -/
def DatapathsTestThemselves : Prop :=
  ∀ (s : State) (who : Who) (w : Word), s.released = true →
    let d := s.rf A.STR_CMD 8 7
    (who ≠ .host → wbit w 0 = false → wbit w 1 = false →
      (81 < d → Runs (.testGo who w) s fun t => t.str.cmdResult = 4 ∧ t.str.dps = s.str.dps) ∧
      (d ≤ 81 → s.str.test ≠ none ∨ (s.dp d).state = .testing ∨
          (((s.dp d).state = .home ∨ (s.dp d).state = .serving) ∧ s.tmg.seq ≠ .stopped) →
        Runs (.testGo who w) s fun t => t.str.cmdResult = 5 ∧ t.str.dps = s.str.dps ∧ t.str.test = s.str.test) ∧
      (d ≤ 81 → s.str.test = none → (s.dp d).state ≠ .testing →
          (((s.dp d).state ≠ .home ∧ (s.dp d).state ≠ .serving) ∨ s.tmg.seq = .stopped) →
        Runs (.testGo who w) s fun t =>
          t.str.cmdResult = 1 ∧ (t.dp d).state = .testing ∧ (t.dp d).back = (s.dp d).state ∧
          t.str.test = some (d, s.now))) ∧
    (∀ k begun, s.str.test = some (k, begun) →
      (Runs (.selftestDone true) s fun t =>
        t.str.test = none ∧ t.str.cmdResult = 2 ∧ (t.dp k).testPass = true ∧
        (t.dp k).state = (if (s.dp k).back = .failed then (if k < 80 then .standby else .idle) else (s.dp k).back) ∧
        t.now = max s.now (begun + us 2000)) ∧
      (s.takesQuiet → Runs (.selftestDone false) s fun t =>
        t.str.test = none ∧ t.str.cmdResult = 2 ∧ (t.dp k).testPass = false ∧ (t.dp k).state = .failed ∧
        (t.dp k).fault.testBit 3 = true)) ∧
    (∀ k, k = 80 ∨ k = 81 → (s.dp k).state = .idle →
      let last := if k = 80 then s.str.spare80 else s.str.spare81
      let n := (s.now - last) / ms 4000
      (Runs (.spareSelftest k true) s fun t =>
        (t.dp k).state = .idle ∧ (t.dp k).testPass = true ∧ t.rb A.STR_INT_STATUS 4 = true ∧
        t.now = max s.now (last + (if s.spareTesting k then n else n + 1) * ms 4000 + us 2000)) ∧
      (s.takesQuiet → Runs (.spareSelftest k false) s fun t =>
        (t.dp k).state = .failed ∧ (t.dp k).testPass = false ∧ (t.dp k).fault.testBit 3 = true ∧
        k ∉ t.idleSpares))

/-- A fault of a serving datapath pends an automatic takeover where one is allowed and a spare is idle, else
leaves it serving and FAILING with its status bit set; in both cases a pending restore of its stripe
ends REFUSED; and it damages the frame it reads (R162, R163). -/
def DatapathFaultsAreHandled : Prop :=
  ∀ (s : State) (dp : Fin 82) (kind : Nat), s.released = true →
    let x := s.dp dp
    let serves := x.stripe < 80 ∧ s.serves x.stripe = dp.val
    let works := x.stripe < 80 ∧ s.serving x.stripe = dp.val
    (Runs (.datapathFault dp kind) s fun t =>
      (t.dp dp).fault.testBit kind = true ∧ t.rb A.STR_INT_STATUS 0 = true) ∧
    (serves → s.rb A.STR_CTRL 3 = true → s.idleSpares ≠ [] → s.ticking = true →
      (∀ y ∈ s.str.takes, y.stripe ≠ x.stripe) → Runs (.datapathFault dp kind) s fun t =>
        t.str.takes = s.str.takes ++
          [{ stripe := x.stripe, restore := false, fault := true, at_ := s.now }]) ∧
    (serves → s.rb A.STR_CTRL 3 = false ∨ s.idleSpares = [] → Runs (.datapathFault dp kind) s fun t =>
      (t.dp dp).failing = true ∧ t.str.takes = s.str.takes.filter (fun y => !(y.stripe = x.stripe && y.restore)) ∧
      ((∃ y ∈ s.str.takes, y.stripe = x.stripe ∧ y.restore = true) → t.str.cmdResult = 5) ∧
      (x.failing = false → t.rb A.STR_INT_STATUS 3 = true)) ∧
    (∀ r f, works → s.tmg.reading = some r → s.frames.find? (fun g => g.num = r.frame) = some f →
      s.str.done < min (s.tmg.slot - 32) (f.cfg.plan.win.nSlot - 32) → Runs (.datapathFault dp kind) s fun t =>
        ∃ g ∈ t.frames, g.num = r.frame ∧ g.damaged = true)

/-- A write of HOLD keeps the shown set or shows the newest, and a read of STR_CENT_FRAME, in any width
(R434), freezes the centroid for its reader (R196, R197, R436). -/
def StatisticsAreHeld : Prop :=
  ∀ (s : State) (who : Who) (w : Word), s.released = true →
    let v := s.standing who A.STR_STAT_CTRL w
    (wbit v 0 = true → Runs (.statHoldWrite who w) s fun t =>
      t.rb A.STR_STAT_CTRL 0 = true ∧ t.str.shown = s.str.shown ∧ t.str.missed = 0) ∧
    (wbit v 0 = false → Runs (.statHoldWrite who w) s fun t =>
      t.rb A.STR_STAT_CTRL 0 = false ∧ t.str.shown = s.str.newest ∧ t.str.missed = s.str.missed) ∧
    (∀ r : Reader, Runs (.centroidFrameRead r) s fun t =>
      t.readBack r.who = mkWord (partOf r s.str.cent.frame) ∧ t.str.frozen r.who = some s.str.cent)

/-- A WRITE of several words is the write of its first followed, one MGTCLK cycle on, by that of the rest; a
part of a word sets PARTIAL, also in a READ (log entry 36); a READ answers every word; another opcode is
UNKNOWN_OP (R291 to R294). One cycle between the words is the model's choice (log entry 2). -/
def TransactionsRunWordByWord : Prop :=
  ∀ (s u : State) (addr w v : Word) (rest : List Word) (part : Bool), s.released = true →
    (Sys2Proof.Machine.exec (.write addr [w] false) s = .next u → u.released = true →
      u.aperture .host 0 = s.aperture .host 0 →
      Sys2Proof.Machine.exec (.write addr (w :: v :: rest) part) s =
        Sys2Proof.Machine.exec (.write (mkWord (nextAddr (addr.toNat / 4 * 4))) (v :: rest) part)
          (u.goMgt (u.mgt + 1))) ∧
    (Runs (.write addr [] true) s fun t => t.sys.portErr.testBit 1 = true) ∧
    (∀ n, Runs (.read addr (n + 1) part) s fun t =>
      t.sys.portOut.length = n + 1 ∧
      t.sys.portOut.head? = some (mkWord (s.readWord .host (s.aperture .host 0) (addr.toNat / 4 * 4)).1) ∧
      t.sys.portTokens.head? = some 0 ∧ (part = true → t.sys.portErr.testBit 1 = true)) ∧
    (∀ op : Byte, op ≠ 0x02 → op ≠ 0x0B → op ≠ 0x05 →
      Sys2Proof.Machine.exec (.unknownOp op) s = .next (s.portError 0).fin ∧
      (s.portError 0).sys.portErr.testBit 0 = true)

/-- The STATUS byte has READY, PORT_ERR, INT and BOOT as R293 gives them, and the data lines are undriven in
reset (R293). That the port answers from the release on is the model's choice (log entry 34). -/
def StatusAnswers : Prop :=
  ∀ s : State,
    (s.released = true → Runs .status s fun t => ∃ b, t.sys.statusOut = some b ∧
      b.getLsbD 0 = true ∧ b.getLsbD 1 = decide (s.sys.portErr ≠ 0) ∧ b.getLsbD 2 = s.intN ∧
      b.getLsbD 3 = decide (s.sys.mode = .boot) ∧ b.getLsbD 4 = false ∧ b.getLsbD 5 = false ∧
      b.getLsbD 6 = false ∧ b.getLsbD 7 = false) ∧
    (s.released = false → Runs .status s fun t => t.sys.statusOut = none)

/-- A write of the DRAM window outside the host's regions, to the dump region, or by the host to the maps in
another mode than STANDBY and CALIBRATE is ignored with a warning, and else changes exactly its bytes
(R12, R13, R352). An unaligned narrow access acts with its low address bits cleared (log entry 36). -/
def DramWindowIsGuarded : Prop :=
  ∀ (s : State) (who : Who) (aper off size : Nat) (v : Word), s.released = true →
    let n := accessSize who size
    let a := (0x10000000 + off % 0x10000000) / n * n
    let d := dramAddr (s.aperture who aper) a
    (s.dramShut who d → Sys2Proof.Machine.exec (.dramWindowWrite who aper off size v) s =
      .next (s.ignored clsSYS who a).fin) ∧
    (¬ s.dramShut who d → Runs (.dramWindowWrite who aper off size v) s fun t =>
      rdLE t.dram d n = v.toNat % 2 ^ (8 * n) ∧ (∀ q, q < d ∨ d + n ≤ q → rdByte t.dram q = rdByte s.dram q) ∧
      t = { s with dram := t.dram, evl := t.evl, rwc := t.rwc })

/-- A core writes the retained words and scratch that are the firmware's, exactly its bytes; the host, and
the device's records, are ignored with a warning (R327). Records protected from firmware, and an
unaligned narrow access that acts with its low address bits cleared, are the model's reading (log entry
36). -/
def RetainedMemoryIsGuarded : Prop :=
  ∀ (s : State) (who : Who) (aper o size : Nat) (v : Word), s.released = true → o < 0x2000 →
    let n := accessSize who size
    let p := o / n * n
    (who ≠ .host → (0x1000 ≤ p ∧ p < 0x1004) ∨ (0x1100 ≤ p ∧ p < 0x2000) →
      Runs (.registerWrite who aper (mkWord (0x400000 + o)) size v) s fun t =>
        rdLE t.ret p n = v.toNat % 2 ^ (8 * n) ∧ (∀ q, q < p ∨ p + n ≤ q → rdByte t.ret q = rdByte s.ret q) ∧
        t = { s with ret := t.ret, evl := t.evl, rwc := t.rwc }) ∧
    (who = .host ∨ p < 0x1000 ∨ (0x1004 ≤ p ∧ p < 0x1008) ∨ (0x1040 ≤ p ∧ p < 0x1100) →
      Sys2Proof.Machine.exec (.registerWrite who aper (mkWord (0x400000 + o)) size v) s =
        .next (s.ignored clsSYS who (0x400000 + p)).fin)

/-- UNLOCK sets or clears PERMIT in STANDBY, the last of a cycle by R290 deciding (R300); MC0 reads the
alarm queue's oldest word or its addressed bytes (R434); the four alarm acknowledgements act as the
writes they stand for (R302, R436). A write that R290 puts before one of its cycle acts in the next
cycle (log entry 40). -/
def ServiceAndAlarmsAct : Prop :=
  ∀ (s : State) (who : Who) (w : Word), s.released = true →
    (s.sys.mode = .standby → wfield w 0 16 = 0x5E41 ∨ wfield w 0 16 = 0 → Runs (.serviceUnlock who w) s fun t =>
      t.sys = if s.outranked who A.SYS_SERVICE then s.sys
        else { s.sys with permit := decide (wfield w 0 16 = 0x5E41) }) ∧
    (s.sys.mode ≠ .standby ∨ (wfield w 0 16 ≠ 0x5E41 ∧ wfield w 0 16 ≠ 0) →
      Sys2Proof.Machine.exec (.serviceUnlock who w) s = .next (s.ignored clsSYS who A.SYS_SERVICE).fin) ∧
    (∀ r : Reader,
      (∀ x l, r.who = .mc0 → s.sys.alarms = x :: l → Runs (.alarmFifoRead r) s fun t =>
        t.sys = { s.sys with alarms := l, coreRead0 := mkWord (partOf r x) }) ∧
      (s.sys.alarms = [] ∨ r.who ≠ .mc0 → Runs (.alarmFifoRead r) s fun t =>
        t.sys.alarms = s.sys.alarms ∧ t.readBack r.who = 0)) ∧
    (∀ unit, ∀ c ∈ [Instr.alarmAckNone .host unit, .alarmAckTakeover .host unit, .alarmAckRetire .host unit,
        .alarmAckFailLane .host unit],
      Sys2Proof.Machine.exec c s =
        .next (((s.turn .host A.SYS_ALARM_ACK).denied clsSYS .host A.SYS_ALARM_ACK).markWriter .host A.SYS_ALARM_ACK).fin) ∧
    (∀ unit, who ≠ .host →
      let u := s.turn who A.SYS_ALARM_ACK
      Sys2Proof.Machine.exec (.alarmAckNone who unit) s = .next (u.markWriter who A.SYS_ALARM_ACK).fin ∧
      (let stripe := unit % 128
       stripe ≤ 79 → s.idleSpares ≠ [] → s.ticking = true → (∀ x ∈ s.str.takes, x.stripe ≠ stripe) →
        Runs (.alarmAckTakeover who unit) s fun t =>
          t.rf A.STR_CMD 0 7 = stripe ∧ t.str.cmdResult = 1 ∧
          t.str.takes = s.str.takes ++
            [{ stripe := stripe, restore := false, fault := false, at_ := s.seqEdge u.now }]) ∧
      (Runs (.alarmAckRetire who unit) s fun t => t.rn A.CNV_RETIRE = unit % 2 ^ 21 ∧
        t.cnv.retireResult ≠ 0 ∧ (129 < unit % 256 → t.cnv.retireResult = 4)) ∧
      (unit < 60 → (s.lane unit).state ≠ .off → (s.lane unit).state ≠ .failed →
        Runs (.alarmAckFailLane who unit) s fun t =>
          (t.lane unit).state = .failed ∧ (t.lane unit).cause = 4))

/-- A busy mailbox takes nothing; otherwise a command is refused for mode, PERMIT, argument, signature or
temperature, or runs; a command that writes the directory needs the flash gate (R301, R317, R319, R320,
R380). -/
def MailboxTakesCommands : Prop :=
  ∀ (s : State) (who : Who) (a b c : Word), s.released = true →
    (s.mboxBusy = true → ∀ i ∈ [Instr.fwUpdate who a b c, .fwActivate who a, .coreRestart who a b,
        .stripeTakeover who a, .stripeRestore who a, .stripeTest who a, .saveMaps who, .recoverWrite who a b],
      Runs i s fun t => t = { s.turn who A.SYS_MBOX_CMD with regs := t.regs, evl := t.evl, rwc := t.rwc }) ∧
    (s.mboxBusy = false →
      s.served (.fwUpdate who a b c) 1
        (let i := 1 - s.sys.dir.active
         (slotSize < b.toNat ∨ 2 ^ 32 < a.toNat + b.toNat → Runs (.fwUpdate who a b c) s fun t =>
            t.mailed 1 (.refused .arg) ∧ t.flash = s.flash) ∧
         (b.toNat ≤ slotSize → a.toNat + b.toNat ≤ 2 ^ 32 → ¬ s.imageGood a.toNat b.toNat →
            Runs (.fwUpdate who a b c) s fun t => t.mailed 1 (.refused .signature) ∧ t.flash = s.flash) ∧
         (b.toNat ≤ slotSize → a.toNat + b.toNat ≤ 2 ^ 32 → s.imageGood a.toNat b.toNat →
            (s.thm.flashGate = false → Runs (.fwUpdate who a b c) s fun t =>
              t.mailed 1 (.refused .temp) ∧ t.flash = s.flash) ∧
            (s.thm.flashGate = true → Runs (.fwUpdate who a b c) s fun t =>
              t.mailed 1 (.fwUpdate a.toNat b.toNat (wbit c 0) i) ∧ t.sys.updBusy = true ∧
              t.sys.dir.slot i = .writing ∧ rdLE t.ret 0x1000 4 = updWord 0 i 0))) ∧
      s.served (.fwActivate who a) 2
        ((1 < a.toNat → Runs (.fwActivate who a) s fun t => t.mailed 2 (.refused .arg)) ∧
         (a.toNat ≤ 1 → s.slotGood a.toNat = false → Runs (.fwActivate who a) s fun t =>
            t.mailed 2 (.refused .signature)) ∧
         (a.toNat ≤ 1 → s.slotGood a.toNat = true → s.thm.flashGate = false → Runs (.fwActivate who a) s fun t =>
            t.mailed 2 (.refused .temp)) ∧
         (a.toNat ≤ 1 → s.slotGood a.toNat = true → s.thm.flashGate = true → Runs (.fwActivate who a) s fun t =>
            t.mailed 2 (.fwActivate a.toNat))) ∧
      s.served (.saveMaps who) 7
        (Runs (.saveMaps who) s fun t => t.mailed 7 .saveMaps ∧ t.cal.saveMbox = true) ∧
      (s.sys.boot.recovery = false → Runs (.recoverWrite who a b) s fun t => t.mailed 0x10 (.refused .mode)) ∧
      (s.sys.boot.recovery = true →
        (1 < a.toNat ∨ slotSize < b.toNat → Runs (.recoverWrite who a b) s fun t => t.mailed 0x10 (.refused .arg)) ∧
        (a.toNat ≤ 1 → b.toNat ≤ slotSize → s.thm.flashGate = false → Runs (.recoverWrite who a b) s fun t =>
          t.mailed 0x10 (.refused .temp)) ∧
        (a.toNat ≤ 1 → b.toNat ≤ slotSize → s.thm.flashGate = true → Runs (.recoverWrite who a b) s fun t =>
          t.mailed 0x10 (.recover a.toNat b.toNat 0) ∧ t.sys.dir.slot a.toNat = .writing)))

/-- CORE_RESTART restarts the core it names or is refused, and the stripe commands act through STR_CMD as
their writes do (R301, R324, R325). -/
def CoresAndStripesAreCommanded : Prop :=
  ∀ (s : State) (who : Who) (a b : Word), s.released = true → s.mboxBusy = false → s.mc0Firmware = true →
    let at_ := (s.turn who A.SYS_MBOX_CMD).now
    (1 < a.toNat ∨ 1 < b.toNat → s.restartRefusal a.toNat b.toNat = some .arg) ∧
    (∀ r, s.restartRefusal a.toNat b.toNat = some r → Runs (.coreRestart who a b) s fun t =>
      t.mailed 3 (.refused r) ∧ t.sys.core0 = s.sys.core0 ∧ t.sys.core1 = s.sys.core1) ∧
    (s.restartRefusal a.toNat b.toNat = none → Runs (.coreRestart who a b) s fun t =>
      t.mailed 3 (.coreRestart a.toNat b.toNat) ∧
      (a.toNat = 0 → t.sys.core0 = .restarting ∧ t.sys.grace0 = some (at_ + ms 500) ∧
        t.sys.core1 = s.sys.core1) ∧
      (a.toNat = 1 → t.sys.core1 = .restarting ∧ t.sys.grace1 = some (at_ + ms 500) ∧
        t.sys.core0 = s.sys.core0)) ∧
    (Runs (.stripeTakeover who a) s fun t => t.mailed 4 (.stripe 4) ∧ t.rf A.STR_CMD 0 7 = a.toNat % 128 ∧
      (79 < a.toNat % 128 → t.str.cmdResult = 4) ∧
      (a.toNat % 128 ≤ 79 → s.idleSpares = [] → t.str.cmdResult = 3)) ∧
    (Runs (.stripeRestore who a) s fun t => t.mailed 5 (.stripe 5) ∧ t.rf A.STR_CMD 0 7 = a.toNat % 128 ∧
      (79 < a.toNat % 128 ∨ s.serving (a.toNat % 128) = a.toNat % 128 → t.str.cmdResult = 4)) ∧
    (Runs (.stripeTest who a) s fun t => t.mailed 6 (.stripe 6) ∧ t.rf A.STR_CMD 8 7 = a.toNat % 128 ∧
      (81 < a.toNat % 128 → t.str.cmdResult = 4) ∧
      (a.toNat % 128 ≤ 81 → s.str.test = none → (s.dp (a.toNat % 128)).state = .idle →
        t.str.cmdResult = 1 ∧ t.str.test = some (a.toNat % 128, at_)))

/-- MBOX_DONE answers the running command's result: an update's image stands in flash before its slot is
VALID, only after OK; a stop answers TEMP where a closed flash gate made it and else FLASH; an activated
slot becomes the active one while the gate is open; a restarted core runs its slot; a stripe command
answers its result; and recovery takes every sector of its slot, its words going to flash as they come
(R301, R317, R319, R320, R324, R325, R380). Erased flash reads 0xFF (PRESUMED, log entry 4), and the
gate is judged at the event (log entry 36). -/
def MailboxCommandsEnd : Prop :=
  ∀ (s : State) (stop : Option FlashStop), s.released = true →
    (∀ r, s.sys.mbox = some (.refused r) → Runs (.mboxDone stop) s fun t => t.mailAnswer r.code) ∧
    (∀ addr len act i, s.sys.mbox = some (.fwUpdate addr len act i) →
      (Runs (.mboxDone stop) s fun t => t.sys.mbox = none ∧ t.sys.updBusy = false ∧
        (rdLE t.ret 0x1000 4).testBit 31 = false ∧
        (t.sys.mboxResult = 1 → t.sys.dir.slot i = .valid ∧ (act = true → t.sys.dir.active = i))) ∧
      (∀ x, stop = some x → Runs (.mboxDone stop) s fun t =>
        t.mailAnswer (if x.gate ∧ s.sys.updShut then 8 else 7) ∧ t.sys.dir = s.sys.dir) ∧
      (stop = none → i < 2 → len ≤ slotSize → Runs (.mboxDone stop) s fun t =>
        (t.mailAnswer 7 ∨ t.mailAnswer (if s.thm.flashGate then 1 else 8)) ∧
        ∀ k, k < len → rdByte t.flash (slotBase i + k) = rdByte s.dram (addr + k))) ∧
    (∀ i, s.sys.mbox = some (.fwActivate i) →
      (s.slotGood i = true → s.thm.flashGate = true → Runs (.mboxDone stop) s fun t =>
        t.mailAnswer 1 ∧ t.sys.dir.active = i) ∧
      (s.slotGood i = true → s.thm.flashGate = false → Runs (.mboxDone stop) s fun t =>
        t.mailAnswer 8 ∧ t.sys.dir = s.sys.dir ∧ t.flash = s.flash) ∧
      (s.slotGood i = false → Runs (.mboxDone stop) s fun t => t.mailAnswer 6 ∧ t.sys.dir = s.sys.dir)) ∧
    (∀ c i, s.sys.mbox = some (.coreRestart c i) → Runs (.mboxDone stop) s fun t => t.mailAnswer 1 ∧
      t.rb A.SYS_INT_STATUS 8 = true ∧
      (c = 0 → t.sys.core0 = .run ∧ t.sys.grace0 = none ∧ t.sys.slot0 = i ∧ t.sys.restarts0 = satAdd s.sys.restarts0 1 8) ∧
      (c ≠ 0 → t.sys.core1 = .run ∧ t.sys.grace1 = none ∧ t.sys.slot1 = i ∧ t.sys.restarts1 = satAdd s.sys.restarts1 1 8)) ∧
    (∀ op, s.sys.mbox = some (.stripe op) → s.str.cmdResult ≠ 1 → Runs (.mboxDone stop) s fun t =>
      t.mailAnswer 1 ∧ t.sys.mboxRes0 = s.str.cmdResult) ∧
    (∀ i len got, s.sys.mbox = some (.recover i len got) →
      (∀ x, stop = some x → Runs (.mboxDone stop) s fun t =>
        t.mailAnswer (if x.gate ∧ s.sys.updShut then 8 else 7)) ∧
      (stop = none → len ≤ got → 63 * sectorSize < len → s.thm.flashGate = true → Runs (.mboxDone stop) s fun t =>
        if s.fwGood s.flash (slotBase i) = true then
          t.mailAnswer 1 ∧ t.sys.dir.slot i = .valid ∧ t.sys.dir.active = i
        else t.mailAnswer 6 ∧ t.sys.dir = s.sys.dir) ∧
      (stop = none → len ≤ got → s.thm.flashGate = false →
        Runs (.mboxDone stop) s fun t => t.mailAnswer 8 ∧ t.flash = s.flash) ∧
      (stop = none → len ≤ got → s.thm.flashGate = true → i < 2 → Runs (.mboxDone stop) s fun t =>
        (t.mailAnswer 6 ∨ (t.mailAnswer 1 ∧ t.sys.dir.slot i = .valid ∧ t.sys.dir.active = i)) ∧
        ∀ k, len + sectorSize ≤ k → k < slotSize → rdByte t.flash (slotBase i + k) = 0xFF) ∧
      (∀ who v, got < len → (got % sectorSize = 0 → s.thm.flashGate = true) →
        Runs (.recoveryDataWrite who v) s fun t =>
          t.sys.mbox = some (.recover i len (got + 4)) ∧
          rdBytes t.flash (slotBase i + got) (min 4 (len - got)) = (leBytes v.toNat 4).take (len - got) ∧
          (got % sectorSize = 0 → ∀ k, 4 ≤ k → k < sectorSize → rdByte t.flash (slotBase i + got + k) = 0xFF)) ∧
      (∀ who v, got < len → got % sectorSize = 0 → s.thm.flashGate = false →
        Runs (.recoveryDataWrite who v) s fun t => t.mailAnswer 8 ∧ t.flash = s.flash)) ∧
    (∀ who v, (∀ i len got, s.sys.mbox = some (.recover i len got) → len ≤ got) →
      Sys2Proof.Machine.exec (.recoveryDataWrite who v) s =
        .next (((s.turn who A.SYS_RCV_DATA).ignored clsSYS who A.SYS_RCV_DATA).markWriter who A.SYS_RCV_DATA).fin) ∧
    (∀ x, s.sys.grace0 = some x → Runs (.restartTallyGraceEnd 0) s fun t =>
      t.sys = { s.sys with grace0 := none } ∧ t.now = max s.now x) ∧
    (∀ x, s.sys.grace1 = some x → Runs (.restartTallyGraceEnd 1) s fun t =>
      t.sys = { s.sys with grace1 := none } ∧ t.now = max s.now x)

/-- A power-on reset, a long enough trip of the supply, RESET_N, and the host's and firmware's keyed writes
hold the block in reset with their causes, clearing what R305 to R307 say and keeping the rest; a hard
timer that ends in the cycle of a host reset joins it; short pulses and other keys do not, but a rail
that leaves its band in a power-on hold starts its 2 ms anew (R305 to R307, R443, R446 to R448). -/
def ResetsHoldTheBlock : Prop :=
  ∀ (s : State) (cut : Cut),
    (Runs .powerOnReset s fun t => s.coldHeld t (max s.now s.sys.pinRise + ms 2) s.now ∧ t.flash = s.flash ∧
      t.vlt.fuses = s.vlt.fuses) ∧
    (∀ outNs backNs, outNs ≤ 2000 →
      ((∀ u, s.sys.phase ≠ .held u true) →
        Sys2Proof.Machine.exec (.supplyTrip outNs backNs cut) s = .next s.fin) ∧
      (∀ u, s.sys.phase = .held u true → Runs (.supplyTrip outNs backNs cut) s fun t =>
        t.sys = { s.sys with
          phase := .held (max u (s.now + us (max outNs backNs) / 1000 + ms 2)) true } ∧ t.now = s.now)) ∧
    (∀ outNs backNs, 2000 < outNs → Runs (.supplyTrip outNs backNs cut) s fun t =>
      s.coldHeld t (max (s.now + us (max outNs backNs) / 1000) s.sys.pinRise + ms 2) (s.now + us 2) ∧
      (s.nothingCut → t.flash = s.flash ∧ t.vlt.fuses = s.vlt.fuses)) ∧
    (s.released = true → s.nothingCut →
      (∀ lowNs, 1000 ≤ lowNs → Runs (.pinReset lowNs cut) s fun t =>
        s.warmHeld t 1 (s.now + us lowNs / 1000 + us 10) ∧ t.now = s.now + us 1) ∧
      (∀ w, wfield w 0 16 = 0xA5C3 → Runs (.hostReset w cut) s fun t =>
        s.warmHeld t 3 (s.now + us 10) ∧ t.now = s.now) ∧
      (∀ mc1 w, wfield w 0 16 = 0xA5C3 → Runs (.firmwareReset mc1 w cut) s fun t =>
        s.warmHeld t 4 (s.now + us 10) ∧ t.now = s.now)) ∧
    (s.released = true → s.hardDue = true → ∀ w, wfield w 0 16 = 0xA5C3 → Runs (.hostReset w cut) s fun t =>
      t.sys.phase = .held (s.now + us 10) false ∧ t.sys.causeLast = 2 ∧
      t.sys.causeBits = (s.sys.causeBits ||| 8 ||| 4)) ∧
    (∀ lowNs, lowNs < 900 → Sys2Proof.Machine.exec (.pinReset lowNs cut) s = .next s.fin) ∧
    (s.released = true → ∀ w, wfield w 0 16 ≠ 0xA5C3 →
      Sys2Proof.Machine.exec (.hostReset w cut) s = .next (s.ignored clsSYS .host A.SYS_RESET_CTRL).fin ∧
      ∀ mc1, Sys2Proof.Machine.exec (.firmwareReset mc1 w cut) s =
        .next (s.ignored clsSYS (if mc1 then .mc1 else .mc0) A.SYS_RESET_CTRL).fin)

/-- A reset cause that comes while the block is held joins the one in progress (R307), and RESET_RELEASE
lets it run from the end of the hold, with straps and ROOT sampled and the watchdog running where the
fuses start it (R306, R329, R451). -/
def HeldResetsJoinAndRelease : Prop :=
  ∀ (s : State) (u : Nat),
    (s.sys.phase = .held u false →
      (∀ w cut, wfield w 0 16 = 0xA5C3 → Runs (.hostReset w cut) s fun t =>
        t.sys.phase = .held (max u (s.now + us 10)) false ∧ t.sys.causeBits = s.sys.causeBits ||| 8 ∧
        t.sys.causeLast = if s.now < s.sys.trigEnd then min s.sys.causeLast 3 else s.sys.causeLast)) ∧
    (s.sys.phase = .held u true →
      (∀ w cut, Sys2Proof.Machine.exec (.hostReset w cut) s = .next s.fin) ∧
      (∀ lowNs cut, 1000 ≤ lowNs → Runs (.pinReset lowNs cut) s fun t =>
        t.sys.phase = .held (max u (s.now + us lowNs / 1000 + ms 2)) true ∧
        t.sys.causeBits = s.sys.causeBits)) ∧
    (∀ p straps root, s.sys.phase = .held u p → Runs (.resetRelease straps root) s fun t =>
      t.released = true ∧ t.now = max s.now u ∧ t.sys.release = max s.now u ∧ t.clk.strap = straps % 4 ∧
      t.sys.pinRoot = root ∧ t.sys.mode = s.sys.mode ∧ t.regs = s.regs ∧
      (s.vlt.hwStart = true → t.wdt.state = .running ∧ t.wdt.hwStart = true) ∧
      (s.vlt.hwStart = false → t.wdt = s.wdt)) ∧
    (s.released = true → ∀ straps root,
      Sys2Proof.Machine.exec (.resetRelease straps root) s = .next s.fin)

/-- BOOT_STEP waits for PLL 0 for 10 ms at step 1, trains DRAM or goes on with the low rate, ends in SAFE
for recovery or self-test, or ends boot in STANDBY, from which the next BOOT_STEP enters CALIBRATE with
the boot list (R310 to R317, R385; log entry 51). -/
def BootStepsEnd : Prop :=
  ∀ (s : State) (b : BootIn), s.released = true →
    (s.sys.boot.ended = true ∨ s.sys.mode ≠ .boot →
      (s.sys.boot.calDue = false ∨ s.sys.mode ≠ .standby → Runs (.bootStep b) s fun t =>
        t.sys.boot = s.sys.boot ∧ t.sys.mode = s.sys.mode) ∧
      (s.sys.boot.calDue = true → s.sys.mode = .standby → Runs (.bootStep b) s fun t =>
        t.sys.mode = .calibrate ∧ t.cal.bootList = true ∧ t.sys.boot.calDue = false ∧
        max s.now b.at_ ≤ t.now)) ∧
    (s.sys.boot.ended = false → s.sys.mode = .boot →
      (s.sys.boot.step = 1 → s.locked 0 = false → max s.now b.at_ < s.sys.boot.since + ms 10 →
        Sys2Proof.Machine.exec (.bootStep b) s = .next s.fin) ∧
      (s.sys.boot.step = 1 → s.locked 0 = true → b.err = false → Runs (.bootStep b) s fun t =>
        t.sys.boot.step = 2 ∧ max s.now b.at_ ≤ t.now) ∧
      (s.sys.boot.step = 6 → b.err = false → Runs (.bootStep b) s fun t =>
        t.sys.boot.dramReady = true ∧ t.sys.boot.dramLow = decide (s.sys.boot.variant = 1) ∧
        t.sys.training = some (if s.sys.boot.variant = 1 then 500 else 625)) ∧
      (s.sys.boot.step = 6 → b.err = true → s.sys.boot.variant = 0 → Runs (.bootStep b) s fun t =>
        t.sys.boot.step = 6 ∧ t.sys.boot.variant = 1 ∧ t.sys.boot.dramReady = s.sys.boot.dramReady ∧
        t.sys.mode = .boot ∧ t.now = max s.now b.at_) ∧
      (s.sys.boot.step = 3 → s.sys.boot.variant = 1 → s.dirInUse = none → Runs (.bootStep b) s fun t =>
        t.sys.mode = .safe ∧ t.sys.boot.ended = true ∧ t.sys.boot.recovery = true ∧
        t.sys.safeCause = SafeCause.boot.code) ∧
      (s.sys.boot.step = 10 → s.sys.boot.variant = 1 → b.stats = true → Runs (.bootStep b) s fun t =>
        t.sys.mode = .safe ∧ t.sys.boot.ended = true ∧ t.sys.boot.recovery = false) ∧
      (s.sys.boot.step = 14 → b.err = false → Runs (.bootStep b) s fun t =>
        t.sys.mode = .standby ∧ t.sys.boot.ended = true ∧ t.sys.boot.calDue = true ∧
        t.rb A.SYS_INT_STATUS 0 = true ∧ t.rb A.SYS_INT_STATUS 1 = true))

/-- With debug enabled a halt freezes the watchdog from the next cycle, and the release of the last halted
core moves its period and hard timer on by the time frozen; without, nothing happens (R335, R426). -/
def DebuggerHaltsCores : Prop :=
  ∀ (s : State) (core : Nat), s.released = true →
    (s.vlt.debugEn = true → core < 2 → Runs (.debugHalt core) s fun t =>
      (if core = 0 then t.sys = { s.sys with dbg0 := true } else t.sys = { s.sys with dbg1 := true }) ∧
      t.wdt = (if s.wdt.frozen = none then { s.wdt with frozen := some (s.mgt + 1) } else s.wdt) ∧
      (s.wdt.frozen = none → t.rb A.WDT_INT_STATUS 2 = true)) ∧
    (s.vlt.debugEn = false → Sys2Proof.Machine.exec (.debugHalt core) s = .next s.fin) ∧
    (∀ x, s.wdt.frozen = some x → (core = 0 ∧ s.sys.dbg1 = false) ∨ (core = 1 ∧ s.sys.dbg0 = false) →
      Runs (.debugRelease core) s fun t =>
        t.sys.dbg0 = false ∧ t.sys.dbg1 = false ∧ t.wdt.frozen = none ∧
        t.wdt.start = s.wdt.start + (s.mgt + 1 - x) ∧
        t.wdt.hardEnd = s.wdt.hardEnd.map (· + (s.mgt + 1 - x))) ∧
    (∀ x, s.wdt.frozen = some x → (core = 0 ∧ s.sys.dbg1 = true) ∨ (core = 1 ∧ s.sys.dbg0 = true) →
      Runs (.debugRelease core) s fun t => t.wdt = s.wdt)

/-- Each output of the monitor converter counts in its channel's accumulator, as INVALID while the filter
settles, as OVR beyond full scale, and else in sum, count, minimum and maximum until the count is full;
other channels stay (R356 to R361). -/
def MonitorOutputsAreTaken : Prop :=
  ∀ (s : State) (raw : Int), s.released = true →
    let c := s.mon.ch
    let x := s.mon.acc c
    let code := (s.monCode s.mon.gain raw).1
    (s.rf (A.MON_CAL + 4 * s.mon.gain) 0 24 = 0 → s.rf (A.MON_CAL + 0x20 + 4 * s.mon.gain) 0 24 = 0 → code = raw) ∧
    (s.monRuns = false → Runs (.monOutput raw) s fun t => t.mon = s.mon ∧ t.now = s.now) ∧
    (s.monRuns = true →
      (Runs (.monOutput raw) s fun t =>
        t.now = max s.now (s.mgtInstant (max s.mgt (s.mon.from_ + 250 * s.mon.dec))) ∧
        ∀ k, k ≠ c → t.mon.acc k = s.mon.acc k) ∧
      (s.mon.skip ≠ 0 → Runs (.monOutput raw) s fun t =>
        t.mon.acc c = { x with invalid := satAdd x.invalid 1 16 } ∧ t.mon.skip = s.mon.skip - 1) ∧
      (s.mon.skip = 0 → -monMax ≤ code → code ≤ monMax → x.full = false → Runs (.monOutput raw) s fun t =>
        (t.mon.acc c).sum = sext (unsext (x.sum + code) 48) 48 ∧ (t.mon.acc c).count = x.count + 1 ∧
        (t.mon.acc c).min_ = some (match x.min_ with | some m => min m code | none => code) ∧
        (t.mon.acc c).max_ = some (match x.max_ with | some m => max m code | none => code) ∧
        ((t.mon.acc c).full = true ↔ x.count + 1 = 16777215) ∧ t.mon.skip = s.mon.skip) ∧
      (s.mon.skip = 0 → -monMax ≤ code → code ≤ monMax → x.full = true → Runs (.monOutput raw) s fun t =>
        (t.mon.acc c).sum = x.sum ∧ (t.mon.acc c).count = x.count) ∧
      (s.mon.skip = 0 → monMax < code ∨ code < -monMax → Runs (.monOutput raw) s fun t =>
        (t.mon.acc c).ovr = satAdd x.ovr 1 16 ∧ (t.mon.acc c).sum = x.sum ∧ (t.mon.acc c).count = x.count ∧
        t.mon.skip = 3 ∧ t.mon.ovrCnt = wrapAdd s.mon.ovrCnt 1 32 ∧ t.rb A.MON_INT_STATUS 0 = true))

/-- The monitor's registers are the firmware's, and the host's while HOST_EN is set; a filter that R364
refuses changes nothing and sets CFG_REFUSED, one at the frame rate leaves a stopped converter stopped
(R357), and a clear clears exactly the accumulators named, but an output of the same cycle is taken
after it (R361, R362, R364). -/
def MonitorIsCommanded : Prop :=
  ∀ (s : State) (who : Who) (filt : Bool) (w : Word), s.released = true →
    let a := if filt then A.MON_FILT else A.MON_SEL
    let x := s.monWords filt (s.standing who a w)
    (¬ s.monMay who →
      Sys2Proof.Machine.exec (.monConfigWrite who filt w) s = .next (s.denied clsMON who a).fin ∧
      Sys2Proof.Machine.exec (.monAccClr who w) s = .next (s.denied clsMON who A.MON_ACC_CLR).fin ∧
      Sys2Proof.Machine.exec (.accClrAll who w) s = .next (s.denied clsMON who A.MON_CTRL).fin) ∧
    (Sys2Proof.Machine.exec (.monCalGo .host w) s = .next (s.denied clsMON .host A.MON_CTRL).fin) ∧
    (s.monMay who →
      (monRefuses x.1 x.2 = true → Runs (.monConfigWrite who filt w) s fun t =>
        t.rn A.MON_SEL = s.rn A.MON_SEL ∧ t.rn A.MON_FILT = s.rn A.MON_FILT ∧ t.mon = s.mon ∧
        t.rb A.MON_INT_STATUS 3 = true) ∧
      (monRefuses x.1 x.2 = false → s.mon.calFrom ≠ none → Runs (.monConfigWrite who filt w) s fun t =>
        t.rn a = (if filt then x.2 else x.1) ∧ t.mon = s.mon) ∧
      (monRefuses x.1 x.2 = false → s.mon.calFrom = none → Runs (.monConfigWrite who filt w) s fun t =>
        t.rn a = (if filt then x.2 else x.1) ∧ t.mon.sel = x.1 ∧ t.mon.filt = x.2 ∧
        (field x.2 2 2 ≠ 3 ∨ s.mon.valid = true → ∀ d, filtDec x.2 s.monPeriod = some d →
          t.mon.dec = d ∧ t.mon.valid = true) ∧
        (field x.2 2 2 = 3 → s.mon.valid = false → t.mon.dec = s.mon.dec ∧ t.mon.valid = false) ∧
        (x.1 ≠ s.mon.sel → t.mon.order ≤ t.mon.skip)) ∧
      (Runs (.monAccClr who w) s fun t => ∀ c, c < 32 →
        t.mon.acc c = if wbit w c then (s.turn who A.MON_ACC_CLR).accCleared c else s.mon.acc c)) ∧
    (who ≠ .host →
      (Runs (.accClrAll who w) s fun t => ∀ c, c < 32 → t.mon.acc c = s.accCleared c) ∧
      (s.mon.calFrom = none → Runs (.monCalGo who w) s fun t => t.mon.calFrom = some s.mgt) ∧
      (s.mon.calFrom ≠ none → Runs (.monCalGo who w) s fun t => t.mon.calFrom = s.mon.calFrom)) ∧
    (s.rb A.MON_CTRL 3 = true → wbit w 0 = false → w.toNat &&& 0xC = s.rn A.MON_CTRL &&& 0xC →
      Runs (.accClrAll .host w) s fun t => (∀ c, c < 32 → t.mon.acc c = s.accCleared c) ∧ t.rn A.MON_CTRL = s.rn A.MON_CTRL)

/-- A read of MON_SUM_LO, in any width (R434), latches the accumulator for its reader; MON_CAL ends with
agreeing runs taken and disagreeing ones rejected; an external scan begins no sooner than its interval
and ends after its phases (R361 to R363, R400, R436). -/
def MonitorReadsAndCalibrates : Prop :=
  ∀ (s : State) (r : Reader) (ch : Fin 32), s.released = true →
    (Runs (.monSumLoRead r ch) s fun t =>
      t.readBack r.who = mkWord (partOf r (unsext (s.mon.acc ch).sum 48 % 2 ^ 32)) ∧
      t.mon.seen ch r.who = s.mon.acc ch ∧ t.mon.acc ch = s.mon.acc ch) ∧
    (∀ runs ch7 c, s.mon.calFrom = some c →
      (Runs (.monCalDone runs ch7) s fun t =>
        (s.cal.queue = [] → s.cal.inList = false → t.mon.calFrom = none) ∧ t.rb A.MON_INT_STATUS 1 = true ∧
        t.mon.calResult = (if monAgrees runs then 1 else 2) ∧
        (monAgrees runs = true → t.mon.uncal = false) ∧
        s.mgtInstant (max s.mgt (c + mgtMs 12)) ≤ t.now) ∧
      (s.cal.monRun ≠ none → Runs (.monCalDone runs ch7) s fun t =>
        t.cal.resMon = (if monAgrees runs then 1 else 2) ∧ t.cal.qMon = unsext ch7 16 + 2 ^ 31)) ∧
    (s.extPoints ≠ [] → s.mon.scan = none → s.mon.calFrom = none → Runs .thmExtScan s fun t =>
      t.mon.scan = some t.mgt ∧ t.mon.lastScan = t.mgt ∧
      t.now = max s.now (s.mgtInstant (max s.mgt (s.mon.lastScan + mgtMs (10 * s.rf A.THM_EXT_CFG 8 8))))) ∧
    (∀ phases c, s.mon.scan = some c → Runs (.thmExtScanEnd phases) s fun t =>
      t.mon.scan = none ∧ t.mon.order ≤ t.mon.skip ∧
      s.mgtInstant (max s.mgt (c + mgtMs (7 * (s.extPoints.map extPhases).sum))) ≤ t.now)

/-- The grace, critical, persistence and release timers move the thermal state as R374 gives: at a tick
while the ticks run, else at once, and into SAFE for the two shutdown timers; the release timer waits
for readings that are due in the cycle of its end (R9, R374; log entry 40). -/
def ThermalTimersEnd : Prop :=
  ∀ (s : State) (e : Nat), s.released = true → s.sys.mode ≠ .safe → s.thm.condX = false →
    (s.thm.condZ = false →
      (s.thm.grace = some e → s.thm.state = .alert → s.ticking = true → Runs .thmGraceEnd s fun t =>
        t.thm.state = .pending ∧ t.thm.grace = none ∧ t.now = max s.now e) ∧
      (s.thm.grace = some e → s.thm.state = .alert → s.ticking = false → Runs .thmGraceEnd s fun t =>
        t.thm.state = .enforced ∧ t.thm.enforced = true ∧ t.thm.grace = none) ∧
      (s.thm.release = some e → s.sampleDue e = true → Runs .thmReleaseTimerEnd s fun t =>
        t.thm = s.thm ∧ t.now = s.now) ∧
      (s.thm.release = some e → s.sampleDue e = false → s.thm.state = .enforced → s.thm.condT = false →
        s.ticking = true → Runs .thmReleaseTimerEnd s fun t =>
          t.thm.state = .releasing ∧ t.thm.enforced = s.thm.enforced ∧ t.now = max s.now e) ∧
      (s.thm.release = some e → s.sampleDue e = false → s.thm.state = .enforced → s.thm.condT = false →
        s.ticking = false → Runs .thmReleaseTimerEnd s fun t => t.thm.enforced = false ∧
          (t.thm.state = .normal ∨ t.thm.state = .warm))) ∧
    (s.thm.state ≠ .safe →
      (s.thm.critEnd = some e → Runs .thmCritTimerEnd s fun t =>
        t.sys.mode = .safe ∧ t.sys.safeCause = SafeCause.thermal.code ∧ t.thm.state = .safe ∧
        t.rb A.THM_INT_STATUS 7 = true ∧ max s.now e ≤ t.now) ∧
      (s.thm.persist = some e → Runs .thmPersistTimerEnd s fun t =>
        t.sys.mode = .safe ∧ t.sys.safeCause = SafeCause.thermal.code ∧ t.thm.state = .safe ∧
        t.rb A.THM_INT_STATUS 7 = true))

/-- THERM_ALERT_N is released no sooner than 100 ms after it was asserted (R377); LOCK locks; a threshold is
written by firmware alone, in order and unlocked (R372, R382). -/
def ThermalPinAndLock : Prop :=
  ∀ (s : State) (who : Who) (sensor : Fin 68) (w : Word), s.released = true →
    let a := A.THM_THR + 4 * sensor.val
    let v := s.standing who a w
    (s.thm.pinLow = true → s.pinWanted = false → Runs .alertPinRelease s fun t =>
      t.thm.pinLow = false ∧ t.now = max s.now (s.thm.pinAt + ms 100)) ∧
    (s.pinWanted = true → Runs .alertPinRelease s fun t => t.thm = s.thm) ∧
    Sys2Proof.Machine.exec (.thmLock .host w) s = .next (s.denied clsTHM .host A.THM_CTRL).fin ∧
    Sys2Proof.Machine.exec (.thresholdWrite .host sensor w) s = .next (s.denied clsTHM .host a).fin ∧
    (who ≠ .host →
      (Runs (.thmLock who w) s fun t => t.thm = { s.thm with lock := true }) ∧
      (s.thm.lock = true → v ≠ s.reg a → Sys2Proof.Machine.exec (.thresholdWrite who sensor w) s =
        .next (s.lockViolation clsTHM who a).fin) ∧
      (s.thm.lock = false → ¬ (wfield v 0 8 < wfield v 8 8 ∧ wfield v 8 8 < wfield v 16 8 ∧ wfield v 16 8 ≤ 125) →
        Sys2Proof.Machine.exec (.thresholdWrite who sensor w) s = .next (s.ignored clsTHM who a).fin) ∧
      (s.thm.lock = false → wfield v 0 8 < wfield v 8 8 → wfield v 8 8 < wfield v 16 8 → wfield v 16 8 ≤ 125 →
        Runs (.thresholdWrite who sensor w) s fun t =>
          t.reg a = v ∧ t = { s with regs := t.regs, evl := t.evl, rwc := t.rwc }))

/-- GRANT, DEFER and the timeouts of a calibration request grant, defer and force it: at a tick while the
ticks run, at once otherwise; a timeout is judged at the end of its cycle (R9, R388; log entry 40). -/
def CalibrationIsGranted : Prop :=
  ∀ (s : State) (who : Who) (w : Word), s.released = true →
    let now := (s.turn who A.CAL_CTRL).now
    (s.cal.waits = true →
      (s.ticking = true → Runs (.grant who w) s fun t =>
        t.cal.state = .granted ∧ t.cal.timer = none ∧ t.cal.granted = now ∧ t.cal.ftM = none) ∧
      (s.ticking = false → s.locked 1 = true → s.cal.runs = false → s.cal.queue = [] → wbit w 2 = false →
        Runs (.grant who w) s fun t =>
          t.cal.state = .running ∧ t.cal.start = now ∧ t.cal.passed = none ∧ t.rb A.CAL_INT_STATUS 1 = true) ∧
      (wbit w 0 = false → Runs (.defer_ who w) s fun t =>
        t.cal.state = .deferred ∧
        t.cal.timer = some (min (now + ms (100 * s.rf A.CAL_DEFER 0 10)) (s.cal.tReq + ms 60000)))) ∧
    (s.cal.waits = false →
      (wbit w 2 = false → Runs (.grant who w) s fun t => t.cal = s.cal) ∧
      (wbit w 2 = false → Runs (.defer_ who w) s fun t => t.cal = s.cal)) ∧
    (∀ x, s.cal.timer = some x → s.ticking = true →
      (s.cal.state = .requested → Runs .calAnswerTimeout s fun t =>
        t.cal.state = .granted ∧ t.cal.timer = none ∧ t.cal.forced = false ∧ t.now = (s.timeUp x).now) ∧
      (s.cal.state = .deferred → Runs .calDeferEnd s fun t =>
        t.cal.state = .granted ∧ t.cal.timer = none ∧ t.now = (s.timeUp x).now ∧
        (s.cal.tReq + ms 60000 ≤ x → t.cal.forced = true ∧ t.rb A.CAL_INT_STATUS 4 = true) ∧
        (x < s.cal.tReq + ms 60000 → t.cal.forced = false)))

/-- RUN_GO of one kind starts it where its mode and the engine let it, and else rejects it with cause 7; the
holdoff and the clock wait end (R384 to R386). One kind at a time is stated; a list runs in its order. A
DARK run is taken to be one of the list of its CALIBRATE. -/
def CalibrationRunsAreOrdered : Prop :=
  ∀ (s : State) (who : Who) (w : Word), s.released = true → wbit w 0 = false → wbit w 1 = false →
    s.cal.darkListed →
    let u := s.turn who A.CAL_CTRL
    let mask := s.rf A.CAL_RUN_MASK 0 4
    (mask = 1 → s.sys.mode.allowsCal 1 = true → s.cal.state = .idle → s.ticking = true → Runs (.runGo who w) s fun t =>
      t.cal.state = .granted ∧ t.cal.granted = u.now ∧ t.cal.forced = false) ∧
    (mask = 1 → s.sys.mode.allowsCal 1 = false ∨ s.cal.state ≠ .idle → s.cal.queue = [] → Runs (.runGo who w) s fun t =>
      t.cal.resFg = 2 ∧ t.cal.cause = 7 ∧ t.rb A.CAL_INT_STATUS 3 = true) ∧
    (mask = 2 → s.sys.mode.allowsCal 2 = false ∨ s.cal.eqRun ≠ none → s.cal.queue = [] →
      Runs (.runGo who w) s fun t => t.cal.resEq = 2 ∧ t.cal.cause = 7 ∧ t.rb A.CAL_INT_STATUS 3 = true) ∧
    (mask = 4 → s.sys.mode.allowsCal 3 = true → s.cal.runs = false → s.cal.queue = [] → s.mon.calFrom = none →
      Runs (.runGo who w) s fun t =>
        t.cal.monRun = some u.now ∧ t.mon.calFrom = some u.mgt ∧ t.cal.queue = []) ∧
    (mask = 8 → s.sys.mode = .calibrate → s.cal.runs = false → s.cal.queue = [] → s.cal.state ≠ .granted →
      Runs (.runGo who w) s fun t => t.cal.darkRun = some u.now ∧ t.cal.queue = []) ∧
    (mask = 8 → s.sys.mode ≠ .calibrate → s.cal.queue = [] → Runs (.runGo who w) s fun t =>
      t.cal.resDark = 2 ∧ t.cal.cause = 7 ∧ t.rb A.CAL_INT_STATUS 3 = true) ∧
    (∀ x, s.cal.holdoff = some x → Runs .calHoldoffEnd s fun t => t.cal.holdoff = none ∧ t.now = max s.now x) ∧
    (∀ x, s.cal.clockBy = some x →
      (s.locked 1 = true → Runs .calClockTimeout s fun t =>
        t.cal = { s.cal with clockBy := none } ∧ t.now = (s.timeUp x).now) ∧
      (s.locked 1 = false → s.cal.waits = true ∨ s.cal.state = .granted → s.cal.queue = [] → Runs .calClockTimeout s fun t =>
        t.cal.resFg = 3 ∧ t.cal.cause = 5 ∧ t.cal.clockBy = none ∧ t.rb A.CAL_INT_STATUS 3 = true))

/-- The passes of an FG_CNV run end it: judged at the next tick while the ticks run (R390, log entry 32),
else at once, which is the model's reading (log entry 32), accepted when the references agree and no
more slices disagree than CAL_CFG allows (R393 to R396). -/
def ForegroundPassesEnd : Prop :=
  ∀ (s : State) (slices : List SliceCal) (refs : List RefCal) (spur rms : List SliceLevel), s.released = true →
    s.cal.state = .running → s.cal.passed = none →
    let dis := s.disagreeing slices
    let good := refs.all refAgrees = true ∧ dis ≤ s.rf A.CAL_CFG 16 8
    (s.ticking = true → Runs (.fgCnvPassesDone slices refs spur rms) s fun t =>
      t.cal.state = .running ∧ t.cal.passed = some t.now ∧ t.now = max s.now (s.cal.start + ms 38) ∧
      t.cal.slices = slices ∧ t.cal.refs = refs ∧ t.cnv = s.cnv) ∧
    (s.ticking = false → s.cal.queue = [] →
      (good → Runs (.fgCnvPassesDone slices refs spur rms) s fun t =>
        t.cal.resFg = 1 ∧ t.cal.resDis = min dis 65535 ∧ t.rb A.CAL_INT_STATUS 2 = true ∧
        t.cal.passed = none ∧ (∀ x, s.cal.tj0 = some x → t.cal.tref = x ∧ t.cal.trefValid = true)) ∧
      (¬ good → Runs (.fgCnvPassesDone slices refs spur rms) s fun t =>
        t.cal.resFg = 2 ∧ t.cal.resDis = min dis 65535 ∧ t.rb A.CAL_INT_STATUS 3 = true ∧
        t.cal.tref = s.cal.tref ∧ t.cal.holdoff ≠ none ∧ t.cnv.gref = s.cnv.gref))

/-- An eye report enters a LINK_EQ run, STEP_DONE steps every lane, then the next tap and the second pass,
and the run ends accepted when every lane agrees and its eye is at least MIN_EYE (R398); 100 ms without
STEP_DONE, judged at the end of that cycle (R9; log entry 40), end it and restore the old settings
(R397). -/
def EqualiserRunsStep : Prop :=
  ∀ (s : State) (who : Who) (w : Word) (r : EqRun), s.released = true → s.cal.eqRun = some r →
    (Runs (.calEqEyeWrite who w) s fun t => t.cal = { s.cal with eqRun := some (r.reported w) }) ∧
    (r.stepped.any (fun x => x.2.dir ≠ 3) = true → Runs (.stepDone who w) s fun t =>
      ∃ x, t.cal.eqRun = some x ∧ x.steps = min 255 (r.steps + 1) ∧ x.tap = r.tap ∧ x.pass = r.pass ∧
        x.lanes = r.stepped ∧ x.ready = s.now ∧ t.rb A.CAL_INT_STATUS 5 = true) ∧
    (r.stepped.any (fun x => x.2.dir ≠ 3) = false →
      (r.tap < 2 → Runs (.stepDone who w) s fun t =>
        ∃ x, t.cal.eqRun = some x ∧ x.tap = r.tap + 1 ∧ x.pass = r.pass ∧ t.rb A.CAL_INT_STATUS 5 = true) ∧
      (2 ≤ r.tap → r.pass = 0 → Runs (.stepDone who w) s fun t =>
        ∃ x, t.cal.eqRun = some x ∧ x.tap = 0 ∧ x.pass = 1 ∧ t.rb A.CAL_INT_STATUS 5 = true) ∧
      (2 ≤ r.tap → r.pass ≠ 0 → s.cal.queue = [] → Runs (.stepDone who w) s fun t =>
        t.cal.eqRun = none ∧
        (t.cal.resEq = 1 ↔ ∀ x ∈ r.stepped, (x.2.settle r.tap).agrees = true ∧
          wfield (s.standing who A.CAL_EQ_CTRL w) 8 7 ≤ (x.2.settle r.tap).eye))) ∧
    (r.lanes ≠ [] → s.cal.queue = [] → s.cal.darkListed → Runs .calEqStepTimeout s fun t =>
      t.cal.eqRun = none ∧ t.cal.resEq = 2 ∧ t.cal.cause = 4 ∧ t.now = (s.timeUp (r.ready + ms 100)).now ∧
      ∀ x ∈ r.lanes, x.1 < 60 → (∀ y ∈ r.lanes, y.1 = x.1 → y = x) → t.rn (A.LNK_EQ + 4 * x.1) = x.2.old % 2 ^ 32)

/-- A DARK run writes both maps or is rejected and writes none, with light on the array with cause 2; a save
makes the other generation current, or fails, changes none and sets UNSAVED, TEMP where a closed gate
ended it (R399, R404). -/
def DarkRunsAndSavesEnd : Prop :=
  ∀ (s : State), s.released = true →
    (∀ light cols pix x, s.cal.darkRun = some x → s.cal.queue = [] →
      (Runs (.darkRunDone light cols pix) s fun t => t.cal.darkRun = none ∧
        ((t.cal.resDark = 1 ∧ lightFalls light = false ∧ t.dram = darkMaps s.dram cols pix) ∨
          (t.cal.resDark = 2 ∧ t.dram = s.dram))) ∧
      (lightFalls light = true → Runs (.darkRunDone light cols pix) s fun t =>
        t.cal.resDark = 2 ∧ t.cal.cause = 2 ∧ t.dram = s.dram)) ∧
    (∀ stop : Option FlashStop, s.cal.saveMbox = true ∨ s.cal.state = .saving →
      (stop = none → s.thm.flashGate = true → Runs (.calSaveDone stop) s fun t =>
        t.cal.gen = 1 - s.cal.gen ∧ t.cal.storeSeq = wrapAdd s.cal.storeSeq 1 32 ∧ t.cal.unsaved = false ∧
        t.rb A.CAL_INT_STATUS 6 = true ∧
        rdBytes t.flash (setBase (1 - s.cal.gen)) s.savePlan.header.length = s.savePlan.header ∧
        (s.cal.saveMbox = true → t.sys.mbox = some (.refused .ok))) ∧
      (stop ≠ none ∨ s.thm.flashGate = false → Runs (.calSaveDone stop) s fun t =>
        t.cal.gen = s.cal.gen ∧ t.cal.storeSeq = s.cal.storeSeq ∧ t.cal.unsaved = true ∧
        t.rb A.CAL_INT_STATUS 7 = true ∧
        (s.cal.saveMbox = true → t.sys.mbox = some (.refused (match stop with
          | some x => if x.gate ∧ s.sys.updShut then .temp else .flash
          | none => .temp)))))

/-- MINT runs in every state: the first check of R418 and R419 that fails gives its result and starts
nothing, and else it starts on the row's word OR the data, a KEYS row scrambled and its data registers
cleared. Of the writers of one cycle the last by R290 is judged and the others end BUSY; WRITER stays
that of a command that runs (R418, R419, R430). -/
def MintsAreJudged : Prop :=
  ∀ (s : State) (who : Who) (row : Nat) (lo hi : Word), s.released = true →
    let c := Instr.mint who row lo hi
    let r := row % 256
    let data := lo.toNat + hi.toNat * 2 ^ 32
    let f := s.vlt.mintFault r data
    ((60 ≤ r ∧ r < 64) ∨ r = 130 ∨ r = 177 ∨ 224 ≤ r → f = 7) ∧
    (r < 60 → s.vlt.vendor = .good ∨ s.vlt.vendor = .fail → f = 8) ∧
    (80 ≤ r → r < 108 → s.vlt.finalised r = false → s.vlt.identity ≠ .good → f = 9) ∧
    s.vaultJudged c who True
      ((f ≠ 0 → s.vaultTurnsAway c who f) ∧
       (f = 0 → ¬ (80 ≤ r ∧ r < 112) →
         s.vaultStarts c { op := 1, arg := r, rows := [(r, s.vlt.reads0 r ||| data)] }) ∧
       (f = 0 → 80 ≤ r → r < 112 →
         s.vaultStarts c { op := 1, arg := r, rows := [(r, s.vlt.reads0 r ||| (data ^^^ s.vlt.scramble r))] } ∧
         Runs c s fun t => t.rn A.VLT_CMD_DATA_LO = 0 ∧ t.rn A.VLT_CMD_DATA_HI = 0))

/-- FINALISE, CLOSE and REVOKE run in every state: each is refused with the result of the first check of
R418 or R422 that fails, and else starts on the rows that R422 names (R418, R422). -/
def VaultCommandsAreJudged : Prop :=
  ∀ (s : State) (who : Who) (x : Nat), s.released = true → x < 256 →
    let v := s.vlt
    s.vaultJudged (.finalise who x) who (x < 3)
      (let st := if x = 0 then v.vendor else if x = 1 then v.identity else v.keys
       let g := (regionRows x).2.2.1
       let rows := (List.range 4).map fun i => (g + i, digestRow (regionDigest x v.reads0) i)
       (st = .good → s.vaultTurnsAway (.finalise who x) who 8) ∧
       (st ≠ .good → (∀ y ∈ rows, andNot (v.reads0 y.1) y.2 = 0) →
         ((∃ y ∈ requiredRows x, v.reads0 y = 0) → s.vaultTurnsAway (.finalise who x) who 9) ∧
         ((∀ y ∈ requiredRows x, v.reads0 y ≠ 0) → (x = 1 → v.reads0 67 = 1) →
           (∀ y, (regionRows x).1 ≤ y → y < g + 4 → v.reads0 y = v.tight (v.phys y)) →
           s.vaultStarts (.finalise who x) { op := 2, arg := x, rows := rows }))) ∧
    s.vaultJudged (.close_ who x) who (x = 3 ∨ x = 4)
      (let slots := if x = 3 then [0, 1, 2, 3] else [4, 5, 6, 7]
       let lock := if x = 3 then v.lockPolicy else v.lockCustomer
       let r := if x = 3 then 130 else 177
       let weak := ∃ k ∈ slots, ∃ y ∈ slotRows k, v.marginal y = true
       (lock = true → s.vaultTurnsAway (.close_ who x) who 8) ∧
       (lock = false → weak → s.vaultTurnsAway (.close_ who x) who 9) ∧
       (lock = false → ¬ weak →
         s.vaultStarts (.close_ who x) { op := 3, arg := x, rows := [(r, v.reads0 r ||| 1)] })) ∧
    s.vaultJudged (.revoke who x) who (x < 8)
      (let left := ∃ k < 8, k ≠ x ∧ v.fwOk k = true
       (¬ left → s.vaultTurnsAway (.revoke who x) who 11) ∧
       (left → s.vaultStarts (.revoke who x) { op := 4, arg := x, rows := [(129, v.reads0 129 ||| 2 ^ x)] }))

/-- A vault command that runs ends in DONE (1), GATE (5) or NOSPARE (10), sets CMD_DONE or CMD_REFUSED, and
changes no shadow but the bit of a REVOKE; a mint gate closed when a further row begins ends it, one
open throughout never does; a good row then reads its target at both margins (R418, R420 to R422). -/
def VaultCommandsEnd : Prop :=
  ∀ (s : State) (x : VaultRun), s.released = true → s.vlt.run = some x →
    (∀ burns, Runs (.vaultCmdDone burns) s fun t => t.vlt.run = none ∧
      (t.vlt.result = 1 ∨ t.vlt.result = 5 ∨ t.vlt.result = 10) ∧
      ((∀ b ∈ burns, b.at_ = none) → gateAt x.gates s.now = false → 2 ≤ x.rows.length → t.vlt.result ≠ 1) ∧
      ((∀ g ∈ x.gates, g.2 = true) → t.vlt.result ≠ 5) ∧
      (x.op ≠ 4 → t.vlt.shadow = s.vlt.shadow) ∧
      (t.vlt.result = 1 → t.rb A.VLT_INT_STATUS 0 = true) ∧
      (t.vlt.result ≠ 1 → t.rb A.VLT_INT_STATUS 1 = true) ∧
      (t.vlt.result = 1 → x.op = 4 → (t.vlt.row 129).testBit x.arg = true)) ∧
    (∀ r target, x.rows = [(r, target)] → r < 256 →
      let p := s.vlt.phys r
      andNot (s.vlt.normal p) target = 0 → andNot (s.vlt.tight p) target = 0 →
      Runs (.vaultCmdDone []) s fun t =>
        t.vlt.result = 1 ∧ t.vlt.normal p = target ∧ t.vlt.tight p = target ∧ t.vlt.lastRow = r)

/-- Firmware sets the region locks and nothing clears them; a shadow override is taken only where R423 lets
it, changes one half of one row, and else is ignored with a warning (R415, R423). -/
def LocksAndOverrides : Prop :=
  ∀ (s : State) (who : Who) (w : Word) (k : Nat), s.released = true → k < 128 →
    let may := k < 120 ∧ (s.vlt.vendor = .blank ∨ s.vlt.vendor = .open_) ∧ s.rb A.VLT_OVR_CTRL 0 = true ∧
      s.sys.mode = .standby ∧ s.sys.permit = true
    Sys2Proof.Machine.exec (.vaultLockSet .host w) s = .next (s.denied clsVLT .host A.VLT_LOCK_SET).fin ∧
    (who ≠ .host → Runs (.vaultLockSet who w) s fun t =>
      t.vlt = { s.vlt with
        lockPolicy := s.vlt.lockPolicy || wbit w 0, lockCustomer := s.vlt.lockCustomer || wbit w 1 }) ∧
    (may → Runs (.shadowOverrideWrite who k w) s fun t =>
      t.vlt.row (k / 2) = setField (s.vlt.row (k / 2)) (if k % 2 = 1 then 32 else 0) 32 w.toNat ∧
      t.vlt.overridden = true ∧ t.vlt.fuses = s.vlt.fuses ∧ ∀ r, r ≠ k / 2 → t.vlt.row r = s.vlt.row r) ∧
    (¬ may → Sys2Proof.Machine.exec (.shadowOverrideWrite who k w) s =
      .next (((s.turn who (A.VLT_SHADOW + 4 * k)).ignored clsVLT who (A.VLT_SHADOW + 4 * k)).markWriter who
        (A.VLT_SHADOW + 4 * k)).fin)

/-- IDK_LOAD starts once, and its end makes the key that the blob unwraps to available or leaves the cause
of the first check that failed (R428; the test message is open, log entry 6). -/
def IdentityKeyIsLoaded : Prop :=
  ∀ (s : State) (who : Who) (w : Word), s.released = true →
    let blob := rdBytes s.dram (s.rn A.SEC_IDK_ADDR) 0x560
    let c := s.vlt.idkFault blob
    (who ≠ .host → Runs (.idkLoad who w) s fun t =>
      t.vlt.idkBusy = (if s.vlt.idkAvail = true ∨ s.vlt.idkCause ≠ 0 then s.vlt.idkBusy else true) ∧
      t.vlt.idkAvail = s.vlt.idkAvail) ∧
    (wbit w 1 = false → Sys2Proof.Machine.exec (.idkLoad .host w) s =
      .next (((s.turn .host A.SEC_CTRL).denied clsSEC .host A.SEC_CTRL).markWriter .host A.SEC_CTRL).fin) ∧
    (s.vlt.idkBusy = true → Runs .idkLoadDone s fun t => t.vlt.idkBusy = false ∧
      if c = 0 then
        t.vlt.idkAvail = true ∧ s.vlt.unwrapped blob = some t.vlt.idk ∧ t.seals.avail = true ∧
          t.rb A.SEC_INT_STATUS 0 = true
      else t.vlt.idkAvail = s.vlt.idkAvail ∧ t.vlt.idkCause = c ∧ t.rb A.SEC_INT_STATUS 1 = true) ∧
    (s.vlt.identity ≠ .good ∨ s.vlt.keys ≠ .good ∨ s.vlt.restricted = true → c = 1)

/-- ATT_GO snapshots the report; its end, once the statements before it are signed, publishes it signed
under the loaded key with some salt, or unsigned with zeros; CLOSE_GO ends the segments of the open
chains (R121, R225, R429). -/
def AttestationReports : Prop :=
  ∀ (s : State) (who : Who) (w : Word), s.released = true →
    (s.vlt.att = none → Runs (.attGo who w) s fun t => ∃ r, t.vlt.att = some r ∧
      r.bytes = (s.turn who A.SEC_CTRL).report ∧
      r.behind = s.seals.queue.map (fun x => (x.id, x.segment)) ∧ r.check = s.verifying) ∧
    (s.vlt.att ≠ none → Runs (.attGo who w) s fun t => t.vlt.att = s.vlt.att) ∧
    (∀ r bad, s.vlt.att = some r →
      (s.attBehind r = true ∨ r.check = true → Runs (.attDone bad) s fun t => t.vlt = s.vlt) ∧
      (s.attBehind r = false → r.check = false →
        (Runs (.attDone bad) s fun t => t.vlt.att = none ∧ t.vlt.attReport = r.bytes ∧
          t.vlt.attSeq = wrapAdd s.vlt.attSeq 1 32 ∧ t.vlt.attSeqEnd = t.vlt.attSeq ∧
          t.rb A.SEC_INT_STATUS 2 = true) ∧
        (s.vlt.idkAvail = false → Runs (.attDone bad) s fun t =>
          t.vlt.attResult = 2 ∧ t.vlt.attSig = List.replicate 384 0) ∧
        (s.vlt.idkAvail = true → bad = true → Runs (.attDone bad) s fun t =>
          t.vlt.attResult = 3 ∧ t.vlt.attSig = List.replicate 384 0) ∧
        (s.vlt.idkAvail = true → bad = false → Runs (.attDone bad) s fun t =>
          t.vlt.attResult = 1 ∧ ∃ salt, t.vlt.attSig = s.vlt.idk.sign r.bytes salt))) ∧
    (Runs (.closeGo who w) s fun t =>
      t.seals.main = (if s.seals.main.open_ then { s.seals.main with endSeg := true } else s.seals.main) ∧
      t.seals.twin = (if s.seals.twin.open_ then { s.seals.twin with endSeg := true } else s.seals.twin))

end Sys2Proof.Claims

open Sys2Proof Sys2Proof.Machine

/-- For every command c and state s whose queue is c and a rest, step answers what exec c answers on s with
that rest as its queue. -/
def Obligations.StepRunsFront : Prop :=
  ∀ (c : Instr) (rest : List Instr) (s : State),
    s.pending = c :: rest → step s = Sys2Proof.Machine.exec c { s with pending := rest }

/-- On an empty queue the block idles for one MGTCLK cycle (R6): device time comes to the next cycle and
nothing else changes. That a step on an empty queue is one idle cycle is the model's choice (log entry
7). -/
def Obligations.EmptyQueueIdles : Prop :=
  ∀ s : State, s.pending = [] →
    step s = .next { s with now := max s.now (s.mgtInstant (s.mgt + 1)) }

/-- Every command answers a next state in every state: the spec names no command of the block that stops it,
so no meaning ends in a fault or a refusal (R294, R8: what is refused is ignored, answered as 0 or
recorded as an event). -/
def Obligations.NoCommandStops : Prop :=
  ∀ (c : Instr) (s : State), ∃ t, Sys2Proof.Machine.exec c s = .next t

/-- While the block is held in reset, no command but the power, reset, release and STATUS commands has any
effect (R293, R306; that such a command is simply lost is the model's reading, log entry 34). -/
def Obligations.HeldInReset : Prop :=
  ∀ (c : Instr) (s : State), s.released = false →
    (∀ o b k, c ≠ .supplyTrip o b k) → (∀ l k, c ≠ .pinReset l k) → (∀ w k, c ≠ .hostReset w k) →
    (∀ m w k, c ≠ .firmwareReset m w k) → (∀ p r, c ≠ .resetRelease p r) → c ≠ .powerOnReset → c ≠ .status →
    Sys2Proof.Machine.exec c s = .next s

/-- The state after reset is as the spec gives it: BOOT, cause POR, no plan, no commit, the sequencer
stopped, an empty ledger, the watchdog stopped, lanes and PLLs OFF, and every stored register at its
table's reset value (R305, R441, R446). -/
def Obligations.ResetState : Prop :=
  State.reset.released = true ∧ State.reset.pending = [] ∧ State.reset.now = 0 ∧
  State.reset.sys.mode = .boot ∧ State.reset.sys.causeBits = 1 ∧ State.reset.sys.causeLast = 0 ∧
  State.reset.plan.live = none ∧ State.reset.plan.commit = none ∧ State.reset.tmg.seq = .stopped ∧
  State.reset.frames = [] ∧ State.reset.evl.used = 0 ∧ State.reset.evl.head = 0 ∧
  State.reset.wdt.state = .stopped ∧ (∀ p < 60, (State.reset.lane p).state = .off) ∧
  (∀ i < 18, 1 ≤ i → (State.reset.clk.pll i).state = .off) ∧ ∀ a, State.reset.reg a = resetWord a

/-- The state after reset meets the invariants that the steps keep: memories in canonical form, ledger
settled and within its ring, no takeover waiting. -/
def Obligations.InvariantsAtReset : Prop :=
  State.reset.memsOk ∧ State.reset.evlSettled ∧ State.reset.evl.inBounds ∧ State.reset.takesQuiet

/-- Every step keeps the byte memories, DRAM, retained SRAM, the management SRAM of both cores and flash, in
their canonical form. -/
def Obligations.MemoriesStayCanonical : Prop :=
  ∀ s t : State, step s = .next t → s.memsOk → t.memsOk

/-- Every step keeps the event ledger within its ring of 1024 slots and leaves it settled: no event
unentered (R343), the interrupt request low in holdoff and else high exactly while a status bit and its
enable are both 1 (R296, R345). -/
def Obligations.LedgerStaysSettled : Prop :=
  ∀ s t : State, step s = .next t → s.evlSettled → s.evl.inBounds → t.evlSettled ∧ t.evl.inBounds

/-- Every step keeps this: while the ticks do not run, no takeover and no switch of datapaths waits for one
(R30, R163; that a command takes effect at once while no tick can come is the model's reading, log entry
35). -/
def Obligations.NothingWaitsWhileStopped : Prop :=
  ∀ s t : State, step s = .next t → s.takesQuiet → t.takesQuiet

/-- The frame of every command: memories, fuses and blocks it does not name stay (01_architecture.md, R15,
R306). -/
def Obligations.OtherPartsStay : Prop :=
  Claims.MemoriesAndFusesStay ∧ Claims.PathAndTimeStay

/-- A command changes stored registers only in the register blocks that blocksOf lists for it (R432): every
register of another block is as before. -/
def Obligations.RegistersOfOtherBlocksStay : Prop :=
  ∀ (c : Instr) (s t : State) (a : Nat), Sys2Proof.Machine.exec c s = .next t →
    a < 0x400000 → a / 0x10000 ∉ blocksOf c → t.reg a = s.reg a

/-- A new event whose SEV, CLASS, CODE and UNIT equal those of the newest primary entry, which is
unacknowledged with REPEAT below 16383, increments REPEAT, replaces DETAIL and the continuation, keeps
TIME, and uses no space (R342). -/
def Obligations.EventsCoalesce : Prop :=
  ∀ (e : Evl) (time : Nat) (ev : Event) (k : Nat) (r : LedgerRec),
    e.newestOpen = some (k, r) → r.sev = ev.sev → r.cls = ev.cls → r.code = ev.code → r.unit = ev.unit →
    r.rep < 16383 →
    let e' := e.enter time ev
    e'.slot (e.back k) = some (.prim { r with rep := r.rep + 1, detail := ev.detail }) ∧
    (r.ext = true → e'.slot ((e.back k + 1) % 1024) = some (.cont (pad16 ev.cont))) ∧
    e'.used = e.used ∧ e'.head = e.head ∧ e'.drops = e.drops

/-- An event that does not coalesce is admitted while U is below its severity's limit, with a continuation
only where one more entry fits; else information and warnings are dropped and counted and a fault is
merged; every fault and warning is counted (R341). -/
def Obligations.EventsAreAdmitted : Prop :=
  ∀ (e : Evl) (time : Nat) (ev : Event), e.inBounds →
    let e' := e.enter time ev
    let limit := match ev.sev with | .info => 768 | .warn => 992 | .fault => 1024
    let more := ev.cont ≠ [] ∧ e.used + 1 < limit
    e'.totalFault = (if ev.sev = .fault then wrapAdd e.totalFault 1 32 else e.totalFault) ∧
    e'.totalWarn = (if ev.sev = .warn then wrapAdd e.totalWarn 1 32 else e.totalWarn) ∧
    (¬ e.repeats ev →
      (e.used < limit →
        e'.slot e.head = some (.prim { time := time, sev := ev.sev, cls := ev.cls, code := ev.code, unit := ev.unit
                                       rep := 0, merged := false, ext := decide more, detail := ev.detail }) ∧
        (more → e'.slot ((e.head + 1) % 1024) = some (.cont (pad16 ev.cont)) ∧ e'.used = e.used + 2) ∧
        (¬ more → e'.used = e.used + 1) ∧ e'.drops = e.drops) ∧
      (limit ≤ e.used → ev.sev ≠ .fault →
        e' = { e with drops := e'.drops, totalWarn := e'.totalWarn, intStatus := e.intStatus ||| 8 } ∧
        sget (fun _ => 0) e'.drops ev.cls = wrapAdd (sget (fun _ => 0) e.drops ev.cls) 1 32) ∧
      (limit ≤ e.used → ev.sev = .fault → e'.used = e.used ∧ e'.head = e.head ∧ e'.drops = e.drops ∧
        (∀ k r, e.newest (fun r => r.sev = .fault ∧ r.cls = ev.cls) 1024 = some (k, r) →
          e'.slot (e.back k) =
            some (.prim { r with rep := min (r.rep + 1) 16383, detail := ev.detail, merged := true })) ∧
        (e.newest (fun r => r.sev = .fault ∧ r.cls = ev.cls) 1024 = none →
          ∀ k r, e.newest (fun _ => true) 1024 = some (k, r) → e'.slot (e.back k) =
            some (.prim { r with rep := min (r.rep + 1) 16383, detail := ev.detail, merged := true }))))

/-- The events of one cycle are entered one after the other in the order faults, warnings, information, then
class, then code (R343). -/
def Obligations.EventsOfACycleAreOrdered : Prop :=
  ∀ (e : Evl) (time : Nat), (∀ x ∈ e.staged, x.inRange) →
    ∃ l : List Event, l.Perm e.staged ∧ l.Pairwise Event.notAfter ∧
      e.flush time = l.foldl (fun a x => a.enter time x) { e with staged := [] }

/-- The ticks, integration, global transfer (log entry 35) and reference switch (R41, R42, R43, R39, R47,
R55, 02_array_and_exposure.md). -/
def Obligations.GridAndExposure : Prop :=
  Claims.TicksMoveTheGrid ∧ Claims.IntegrationAndTransfer

/-- Readout, rotation step, frame completion and the statistics hand-off (R75, R79, R91, R94, R95, R24,
R195, R196). -/
def Obligations.ReadoutAndFrames : Prop :=
  Claims.ReadoutAdvances ∧ Claims.RotationStepEnds ∧ Claims.FramesComplete

/-- Each packet command (frame header, line, reconstructed line, trailer, statistics, seal, dump) starts its
packet on the lane that R207 picks: the packet occupies the lane for its length, the SEQ of its lane set
counts on by one, device time is not before the start, and all other lanes stay (R207, R210, R212, R213,
R215, R216, R227). Which packet comes next is the model's reading of R217 (log entry 35). -/
def Obligations.PacketsTakeALane : Prop :=
  ∀ s : State, s.released = true →
    (∀ tw f it p t, s.whichStream (fun it => it = .header) = some (tw, f, it, p, t) →
      Runs .frameHeaderSend s fun u => s.sentOn u p (b2n tw) 1 t) ∧
    (∀ tw f i p t, s.whichStream (fun it => match it with | .line _ => true | _ => false) = some (tw, f, .line i, p, t) →
      Runs .linePacketSend s fun u => s.sentOn u p (b2n tw) 2 t) ∧
    (∀ tw f i p t, s.whichStream (fun it => match it with | .recon _ => true | _ => false) = some (tw, f, .recon i, p, t) →
      Runs .reconPacketSend s fun u => s.sentOn u p 0 2 t) ∧
    (∀ tw f it p t, s.whichStream (fun it => it = .trailer) = some (tw, f, it, p, t) →
      Runs .frameTrailerSend s fun u => s.sentOn u p (b2n tw) 3 t ∧
        u.lnk.framesSent = wrapAdd s.lnk.framesSent 1 32) ∧
    (∀ q p t, s.lnk.stat = some q → q.next < 220 → s.sys.mode = .capture → s.mainIdle = true → s.pickLane (s.lanesOf q.lanes 0) = some (p, t) →
      s.beforeTick t = true →
      Runs .statPacketSend s fun u => s.sentOn u p 0 5 t ∧
        u.lnk.stat = if q.next = 219 then none else some { q with next := q.next + 1 }) ∧
    (∀ k p t, s.sealDue 0 = some k → s.pickLane (s.sealLanes k) = some (p, t) → s.beforeTick t = true →
      Runs .sealPacketSend s fun u => s.sentOn u p k.stream 4 t ∧ u.seals.due = s.seals.due.erase k) ∧
    (∀ p t, s.lnk.dumpOn = true → s.lnk.dumpSent < s.lnk.dumpLen / 4096 →
      (if s.lnk.dumpOwn then s.pickLane s.ownDumpLanes = some (p, t)
        else s.mainIdle = true ∧ s.lnk.stat = none ∧ s.sys.mode = .capture ∧ s.pickLane (s.setLanes 0) = some (p, t)) →
      s.beforeTick t = true →
      Runs .dumpPacketSend s fun u => s.sentOn u p (if s.lnk.dumpOwn then 2 else 0) 6 t ∧
        u.lnk.dumpSent = s.lnk.dumpSent + 1)

/-- Lanes train, lock and fail, and equaliser settings are taken or refused (R202, R203, R204, R457). -/
def Obligations.LanesTrainAndFail : Prop :=
  Claims.LanesTrainAndLock ∧ Claims.LanesFail ∧ Claims.EqualiserWrites

/-- Link dumps, lane markers and seal statements (R201, R216, R226, R227, R228, R229, R230). -/
def Obligations.LinkDumpsAndSeals : Prop :=
  Claims.LinkDumps ∧ Claims.MarkersAndStatements

/-- Plan loads start and take their data (R123, R125, R325). -/
def Obligations.PlanLoadsRun : Prop :=
  Claims.PlanLoadsStart ∧ Claims.PlanLoadsTakeData

/-- Plan loads end and are checked (R122, R123, R124, R125, R469). -/
def Obligations.PlanLoadsAreChecked : Prop :=
  Claims.PlanLoadsEnd ∧ Claims.PlanChecksEnd

/-- COMMIT_GO is refused with the first cause of R126 that holds, in the order that the model takes (log
entry 35), ends PAST when its instant lies too near (R127), and else is pending with the bank, target
and instant written; COMMIT_CANCEL cancels a pending commit that can still be cancelled, one whose
landing cannot be foreseen too (log entry 39), and else sets CANCEL_LATE (R126, R127, R130). -/
def Obligations.CommitsAreTaken : Prop :=
  ∀ (s : State) (who : Who) (w : Word), s.released = true →
    (wbit w 4 = false →
      let v := s.standing who A.PLAN_COMMIT_CTRL w
      let bank := wfield v 0 1
      let when_ := wfield v 1 2
      let tb := wfield v 5 2
      let frame := s.rn A.PLAN_COMMIT_FRAME
      let sec := s.rn A.PLAN_COMMIT_SEC_HI % 65536 * 2 ^ 32 + s.rn A.PLAN_COMMIT_SEC_LO
      let ns := s.rf A.PLAN_COMMIT_NS 0 30
      let at_ := s.seqEdge s.now
      Runs (.commitGo who w) s fun t =>
        t.plan.writer = who.code ∧ t.plan.cancelLate = false ∧ t.plan.live = s.plan.live ∧
        t.plan.bankA = s.plan.bankA ∧ t.plan.bankB = s.plan.bankB ∧
        (∀ c, s.commitCause bank when_ tb ns = some c →
          t.plan.result = 2 ∧ t.plan.cause = c ∧ t.plan.commit = s.plan.commit ∧ t.rb A.PLAN_INT_STATUS 3 = true) ∧
        (s.commitCause bank when_ tb ns = none → s.commitPast when_ tb frame sec ns at_ →
          t.plan.result = 3 ∧ t.plan.commit = none ∧ t.rb A.PLAN_INT_STATUS 3 = true) ∧
        (s.commitCause bank when_ tb ns = none → ¬ s.commitPast when_ tb frame sec ns at_ →
          t.plan.result = s.plan.result ∧ ∃ c, t.plan.commit = some c ∧ c.bank = bank ∧ c.w = at_ ∧
            c.origin = none ∧ c.when_ = commitWhen when_ tb frame sec ns)) ∧
    (wbit w 3 = false → s.plan.rigOut = [] →
      (∀ c, s.plan.commit = some c → s.cancelOk c (s.seqEdge s.now) = true → Runs (.commitCancel who w) s fun t =>
        t.plan.commit = none ∧ t.plan.result = 5 ∧ t.plan.cause = 0) ∧
      (∀ c, s.plan.commit = some c → s.cancelOk c (s.seqEdge s.now) = false → Runs (.commitCancel who w) s fun t =>
        t.plan = { s.plan with cancelLate := true }) ∧
      (s.plan.commit = none → Runs (.commitCancel who w) s fun t => t.plan = s.plan))

/-- Rig commits run, answer and time out (R135, R136, R137). -/
def Obligations.RigCommits : Prop :=
  Claims.RigCommitsRun ∧ Claims.RigCommitsTimeOut ∧ Claims.RigMessagesAct

/-- Fabric ports train and fall, and frames leave by priority (R233, R236, R237, R245, R250). -/
def Obligations.PortsAndPriority : Prop :=
  Claims.PortsTrainAndFall ∧ Claims.FramesLeaveByPriority

/-- Frames are acknowledged, sent again, lost and forwarded (R235, R237, R238). -/
def Obligations.HopsAndForwarding : Prop :=
  Claims.FramesAreAcknowledged ∧ Claims.FramesAreForwarded

/-- Discovery explores, and roots begin and yield (R240, R241). -/
def Obligations.DiscoveryAndRoots : Prop :=
  Claims.DiscoveryExplores ∧ Claims.RootsBeginAndYield

/-- ASSIGN gives a member its address, generation, tree and routes; ASSIGN_ACK goes on to the next node;
ASSIGN_TIMEOUT, judged at the end of its cycle (R9; log entry 40), asks again up to eight times;
LINK_EVENT removes a link that fell; PARTITION is recorded (R243 to R246). That ASSIGN travels as a
LOCAL frame, with the hop count and path that say whether it has arrived, is log entry 18. -/
def Obligations.TablesAreAssigned : Prop :=
  ∀ (s : State) (p : Nat) (b : List Byte), s.released = true →
    (s.hears p b 1 3 → assignHops b = 0 → s.fab.role ≠ .root → Runs (.assign p b) s fun t =>
      t.fab.addr = some (fb b 16 1 % 64) ∧ t.fab.gen = fb b 17 1 ∧ t.fab.rootAddr = fb b 18 1 % 64 ∧
      t.fab.tree = fb b 19 1 % 8 ∧ t.fab.parent = fb b 19 1 / 16 % 4 ∧ t.fab.routes = assignRoutes b ∧
      t.fab.role = .member ∧ t.fab.partitioned = false ∧ t.rb A.FAB_INT_STATUS 4 = true) ∧
    (∀ r, s.hears p b 1 4 → s.fab.role = .root → s.fab.disc.assign = fb b 16 1 :: r → fb b 17 1 = s.fab.gen →
      Runs (.assignAck p b) s fun t => t.fab.disc.assign = r) ∧
    (∀ a r, s.fab.role = .root → s.fab.disc.assign = a :: r →
      (8 ≤ s.fab.disc.tries → Runs .assignTimeout s fun t => t.fab.disc.assign = r) ∧
      (s.fab.disc.tries < 8 → (∃ n ∈ s.fab.disc.nodes, n.addr = some a) → Runs .assignTimeout s fun t =>
        t.fab.disc.assign = a :: r ∧ t.fab.disc.tries = s.fab.disc.tries + 1)) ∧
    (128 ≤ fb b 0 1 → s.hears p b 1 3 → assignHops b ≠ 0 → Runs (.assign p b) s fun t =>
      t.fab.addr = s.fab.addr ∧ t.fab.routes = s.fab.routes ∧ t.fab.tree = s.fab.tree) ∧
    (∀ n y, s.hears p b 1 5 → s.fab.role = .root → s.fab.serialAt (fb b 1 1 % 64) = some n →
      s.fab.disc.node n = some y → fb b 17 1 = 0 → Runs (.linkEvent p b) s fun t =>
        ∃ z, t.fab.disc.node n = some z ∧ ∀ l ∈ z.links, l.1 ≠ fb b 16 1 % 4) ∧
    (s.hears p b 1 6 → Runs (.partition p b) s fun t =>
      t.fab.partitioned = true ∧ t.rb A.FAB_INT_STATUS 5 = true)

/-- Messages, proxies and bulk data reach their place (R239, R249, R304, R347). -/
def Obligations.MessagesAndBulk : Prop :=
  Claims.MessagesAreDelivered ∧ Claims.BulkWindowOpens

/-- Time bases are run, set, stepped and steered (R128, R253, R254). -/
def Obligations.TimeBasesAreWritten : Prop :=
  Claims.TimeBasesAreWritten ∧ Claims.StoppedTimeBaseEndsCommit

/-- Time reads latch for their reader, and captures queue (R254, R268, R434, R436). -/
def Obligations.TimeReadsAndCaptures : Prop :=
  Claims.TimeReadsLatch ∧ Claims.CapturesQueue

/-- Pulse generators arm and fire, and time bases are compared (R265, R266). -/
def Obligations.PulsesAndCrossCheck : Prop :=
  Claims.PulsesAreArmedAndFire ∧ Claims.CrossCheckSamples

/-- PTP messages are measured and handed on, and domains are lost (R257, R259, R260, R262). -/
def Obligations.SyncsAndDomains : Prop :=
  Claims.SyncsAreMeasured ∧ Claims.PtpEntriesAndDomainsExpire

/-- PDELAY_REQ_SEND begins an exchange with the next sequence number; a request is answered; a response and
its follow-up give t2, t4, t3 and the turnaround of the exchange in progress; PDELAY_TIMEOUT, judged at
the end of its cycle (R9; log entry 40), counts a failure and after three in a row the delay is not
valid (R261). The layout of the messages is PRESUMED (log entry 19). -/
def Obligations.PeerDelaysAreMeasured : Prop :=
  ∀ (s : State) (p d : Nat) (b : List Byte), s.released = true →
    (s.portUp p = true → s.domOn d = true → d < 2 → Runs (.pdelayReqSend p d) s fun t =>
      (t.pdelay p d).seq = wrapAdd (s.pdelay p d).seq 1 16 ∧ (t.pdelay p d).lastReq = some t.mgt ∧
      (t.pdelay p d).t1 = none ∧ ∃ x, (t.fport p).timeQ = (s.fport p).timeQ ++ [x] ∧ x.work = .pdReq d) ∧
    (s.hearsPtp p b d → 128 ≤ fb b 0 1 → p < 3 →
      (ptpType b = 2 → Runs (.pdelayReq p b) s fun t =>
        ∃ x t2, (t.fport p).timeQ = (s.fport p).timeQ ++ [x] ∧ x.work = .pdResp d (s.rb (domReg d 0) 9) t2) ∧
      (ptpType b = 3 → s.answersUs p d b → (s.pdelay p d).t1.isSome = true → Runs (.pdelayResp p b) s fun t =>
        (t.pdelay p d).t4.isSome = true ∧
        (ptpTwoStep b = true → (t.pdelay p d).t2 = some (ptpTime b 50 - ptpCf b)) ∧
        (ptpTwoStep b = false → (t.pdelay p d).turn = some (ptpCf b) ∧ (t.pdelay p d).consec = 0)) ∧
      (ptpType b = 10 → s.answersUs p d b → ∀ t2, (s.pdelay p d).t2 = some t2 → Runs (.pdelayRespFollowUp p b) s fun t =>
        (t.pdelay p d).t3 = some (ptpTime b 50 + ptpCf b) ∧
        (t.pdelay p d).turn = some (ptpTime b 50 + ptpCf b - t2))) ∧
    ((s.pdelay p d).busy = true → Runs (.pdelayTimeout p d) s fun t =>
      (t.pdelay p d).fails = satAdd (s.pdelay p d).fails 1 8 ∧ (t.pdelay p d).busy = false ∧
      (2 ≤ (s.pdelay p d).consec → (t.pdelay p d).valid = false))

/-- PLLs are enabled, lock and lose lock (R275, R276, R281). -/
def Obligations.PllsLockAndLoseLock : Prop :=
  Claims.LockWindowsMovePlls ∧ Claims.PllsAreEnabled

/-- A good window keeps REFCLK good, four good ones restore it, two bad ones or 1 µs without an edge lose
it: the management clock goes to the oscillator and the mode to SAFE (R273, R282). -/
def Obligations.ReferenceIsMonitored : Prop :=
  ∀ (s : State) (edges : Nat), s.released = true →
    (s.clk.refOk = true → s.refNear edges = true → Runs (.refclkMonitorWindow edges) s fun t =>
      t.clk.refOk = true ∧ t.clk.refBad = 0 ∧ t.sys.mode = s.sys.mode ∧
      t.clk.refKHz = min ((edges * 50000 + 512) / 1024) 65535) ∧
    (s.clk.refOk = false → s.refNear edges = true → 3 ≤ s.clk.refGood → Runs (.refclkMonitorWindow edges) s fun t =>
      t.clk.refOk = true ∧ t.clk.refLost = false ∧ t.rb A.CLK_INT_STATUS 1 = true) ∧
    (s.clk.refLost = false → s.refNear edges = false → 1 ≤ s.clk.refBad → Runs (.refclkMonitorWindow edges) s fun t =>
      t.clk.refOk = false ∧ t.clk.refLost = true ∧ t.clk.src0 = .osc ∧ t.sys.mode = .safe ∧
      t.rb A.CLK_INT_STATUS 0 = true) ∧
    (∀ last, s.clk.refLost = false → Runs (.refclkEdgeTimeout last) s fun t =>
      t.clk.refOk = false ∧ t.clk.refLost = true ∧ t.clk.src0 = .osc ∧ t.sys.mode = .safe ∧
      last + 50 * Config.oscTU ≤ t.now ∧ ∀ i, i < 18 → (t.clk.pll i).state = .hold)

/-- The watchdog starts, counts its tasks, expires and resets (R328, R329, R330, R331, R332, R333, R334,
R335, R337, R290). -/
def Obligations.WatchdogRuns : Prop :=
  Claims.WatchdogIsStartedAndLocked ∧ Claims.TalliesCount ∧ Claims.WatchdogPeriodsEnd

/-- The ledger is acknowledged and firmware events enter it (R341, R344). -/
def Obligations.LedgerIsUsed : Prop :=
  Claims.LedgerIsAcknowledged ∧ Claims.FirmwareEventsEnter

/-- The ledger's holdoff, rig summaries and incident dumps (R345, R346, R348, R349, R350, R351). -/
def Obligations.SummariesAndDumps : Prop :=
  Claims.HoldoffAndSummaries ∧ Claims.IncidentDumpsRun

/-- Triggers are taken or missed, and the timing controls act (R54, R55, R56, R59, R71). -/
def Obligations.TriggersAndControls : Prop :=
  Claims.TriggersAreTaken ∧ Claims.TimingControlsAct

/-- GENLOCK edges align a grid, and a commit starts one (R53, R54, R284, R285). -/
def Obligations.GenlockAndGridStart : Prop :=
  Claims.GenlockEdgesAlign ∧ Claims.GridStarts

/-- LIVE_GO refuses a set with bad entries, one with a past target too (log entry 46), ends PAST for a
target gone by, and else makes the set pending in place of any other; LIVE_COPY copies the entries in
force to the staging registers (R67 to R69). -/
def Obligations.LiveSetsArePending : Prop :=
  ∀ (s : State) (who : Who) (w : Word), s.released = true →
    let v := s.standing who A.TMG_LIVE_CTRL w
    let l := s.liveSetOf who w
    (l.bad s.inForce ≠ [] → Runs (.liveGo who w) s fun t =>
      t.tmg.live = none ∧ t.tmg.liveResult = 2 ∧ t.tmg.liveBad = maskOf (l.bad s.inForce) ∧
      t.rb A.TMG_INT_STATUS 5 = true) ∧
    (l.bad s.inForce = [] → wbit v 1 = true → s.targetPast (s.rn A.TMG_LIVE_TARGET) (s.seqEdge s.now) = true →
      Runs (.liveGo who w) s fun t =>
        t.tmg.live = none ∧ t.tmg.liveResult = 3 ∧ t.rb A.TMG_INT_STATUS 5 = true) ∧
    (l.bad s.inForce = [] →
      wbit v 1 = false ∨ s.targetPast (s.rn A.TMG_LIVE_TARGET) (s.seqEdge s.now) = false →
      Runs (.liveGo who w) s fun t =>
        t.tmg = { s.tmg with
          live := some l
          liveResult := if s.tmg.live.isSome then 5 else s.tmg.liveResult } ∧ t.plan = s.plan) ∧
    (∀ j, j < 12 → Runs (.liveCopy who w) s fun t =>
      let x := match s.inForce with | some c => c.sched.entries.getD j {} | none => {}
      let a := A.TMG_LSTG + 16 * j
      t.rn a = x.start % 2 ^ 32 ∧ t.rn (a + 4) = x.len % 2 ^ 32 ∧
      t.rn (a + 8) = (x.hcg + 16 * x.lcg) % 2 ^ 32 ∧ t.rn (a + 12) = x.weight % 2 ^ 32)

/-- Slices are retired, and test injections run (R98, R99, R100, R103, R104, R107). -/
def Obligations.SlicesAndInjections : Prop :=
  Claims.SlicesAreRetired ∧ Claims.InjectionsRun

/-- Writes of the slice window act by pairs of words while no FG_CNV run holds it and the host's mode lets
them; the refused ones set WIN_REFUSED; a read of word 0, in any width (R434), latches word 1 (R109,
R392, R436). -/
def Obligations.SliceWindowIsWritten : Prop :=
  ∀ (s : State) (who : Who) (k : Nat) (v : Word), s.released = true → k < 83720 →
    (¬ s.windowOpen who → Runs (.sliceWindowWrite who (8 * k) v) s fun t =>
      t.cnv = s.cnv.setLatched who none ∧ t.rb A.CNV_INT_STATUS 9 = true) ∧
    (¬ s.windowOpen who → Runs (.sliceWindowWrite who (8 * k + 4) v) s fun t =>
      t.cnv = s.cnv.setLatched who none ∧ t.rb A.CNV_INT_STATUS 9 = true) ∧
    (s.windowOpen who → Runs (.sliceWindowWrite who (8 * k) v) s fun t =>
      t.cnv = (s.cnv.setLatched who none).setHeld who k (some v.toNat)) ∧
    (s.windowOpen who → s.cnv.held who k = none → Runs (.sliceWindowWrite who (8 * k + 4) v) s fun t =>
      t.cnv.ent k = { s.cnv.ent k with gain := wfield v 0 16 }) ∧
    (∀ x, s.windowOpen who → s.cnv.held who k = some x →
      (s.sys.mode.capturing = true → field x 12 6 ≠ (s.cnv.ent k).samp ∨ field x 18 5 ≠ (s.cnv.ent k).thr →
        Runs (.sliceWindowWrite who (8 * k + 4) v) s fun t =>
          t.cnv.ent k = s.cnv.ent k ∧ t.rb A.CNV_INT_STATUS 9 = true) ∧
      (s.sys.mode.capturing = false ∨ (field x 12 6 = (s.cnv.ent k).samp ∧ field x 18 5 = (s.cnv.ent k).thr) →
        Runs (.sliceWindowWrite who (8 * k + 4) v) s fun t =>
          t.cnv.ent k = { s.cnv.ent k with
            offset := field x 0 12, samp := field x 12 6, thr := field x 18 5, valid := x.testBit 24
            gain := wfield v 0 16 } ∧
          t.cnv.held who k = none)) ∧
    (∀ r : Reader, Runs (.sliceWord0Read r k) s fun t =>
      t.readBack r.who = mkWord (partOf r (s.cnv.word0 s.readingNow k)) ∧
      t.cnv.latched r.who = some (k, s.cnv.word1 k) ∧
      t.cnv.slices = s.cnv.slices)

/-- Datapaths are taken over, restored and tested (R163, R167, R168). -/
def Obligations.TakeoversAndSelfTests : Prop :=
  Claims.TakesAreCommanded ∧ Claims.DatapathsTestThemselves

/-- Datapath faults and the held statistics (R162, R163, R196, R197, R434, R436). -/
def Obligations.DatapathFaultsAndStatistics : Prop :=
  Claims.DatapathFaultsAreHandled ∧ Claims.StatisticsAreHeld

/-- A write of a register without behaviour of its own, by the port or a core, changes the writable bits
(R5), except those that a writer later in the order of R290 has written in the same cycle, clears the
written RWC bits that the device has not just set (R6), and nothing else; writes reserved for firmware
are DENIED, addresses outside every block are OUT_OF_MAP (R294), and narrow writes are ignored (R434). -/
def Obligations.RegistersAreWritten : Prop :=
  ∀ (s : State) (addr w : Word), s.released = true →
    let a := addr.toNat / 4 * 4
    (s.plainWrite .host a w → Runs (.write addr [w] false) s fun t => s.writtenTo t .host a w) ∧
    (∀ who aper, s.plainWrite who addr.toNat w → Runs (.registerWrite who aper addr 4 w) s fun t =>
      s.writtenTo t who addr.toNat w) ∧
    (a < 0x400000 → ¬ (0x200000 ≤ a ∧ a < 0x300000) → ∀ c, blockClass a = some c → s.hostDenied a w = true →
      Sys2Proof.Machine.exec (.write addr [w] false) s = .next (s.denied c .host a).fin) ∧
    (blockClass a = none → inDramWin a = false →
      Sys2Proof.Machine.exec (.write addr [w] false) s = .next (s.portError 2).fin) ∧
    (∀ who aper size c, who ≠ .host → inDramWin addr.toNat = false → inRet addr.toNat = false →
      blockClass addr.toNat = some c → size = 1 ∨ size = 2 ∨ addr.toNat % 4 ≠ 0 →
      blockClass (addr.toNat / (accessSize who size) * accessSize who size) = some c →
      Sys2Proof.Machine.exec (.registerWrite who aper addr size w) s = .next (s.ignored c who addr.toNat).fin)

/-- Port transactions run word by word, and STATUS answers (R291, R292, R293, R294). -/
def Obligations.PortTransactions : Prop :=
  Claims.TransactionsRunWordByWord ∧ Claims.StatusAnswers

/-- Writes of DRAM and retained SRAM change their bytes or nothing (R12, R13, R327, R352). -/
def Obligations.MemoriesAreGuarded : Prop :=
  Claims.DramWindowIsGuarded ∧ Claims.RetainedMemoryIsGuarded

/-- A mode request is refused with the first cause of R298 that holds, in the order that the model takes
(log entry 35), is nothing in the mode it names, and else acts at once out of SAFE and into CALIBRATE,
whose run list begins (log entry 32), or waits for the sequencer (R17, R298, R299). -/
def Obligations.ModeRequestsAreJudged : Prop :=
  ∀ (s : State) (who : Who) (w : Word), s.released = true →
    let n := wfield (s.standing who A.SYS_MODE_REQ (force w 3)) 0 3
    (modeOf n = none → Runs (.modeRequest who w) s fun t =>
      t.sys.mode = s.sys.mode ∧ t.sys.pendMode = none ∧ t.sys.refuse = 7 ∧ t.rb A.SYS_INT_STATUS 2 = true) ∧
    (modeOf n = some s.sys.mode → Runs (.modeRequest who w) s fun t =>
      t.sys = { s.sys with pendMode := none }) ∧
    (∀ m c, modeOf n = some m → m ≠ s.sys.mode → s.modeRefusal m = some c → Runs (.modeRequest who w) s fun t =>
      t.sys.mode = s.sys.mode ∧ t.sys.pendMode = none ∧ t.sys.refuse = c ∧ t.rb A.SYS_INT_STATUS 2 = true) ∧
    (∀ m, modeOf n = some m → m ≠ s.sys.mode → s.modeRefusal m = none →
      (s.sys.mode = .safe → Runs (.modeRequest who w) s fun t =>
        t.sys.mode = .standby ∧ t.sys.safeActive = 0 ∧ t.sys.permit = false ∧ t.rb A.SYS_INT_STATUS 1 = true) ∧
      (s.sys.mode ≠ .safe → m ≠ .calibrate → Runs (.modeRequest who w) s fun t =>
        t.sys = { s.sys with pendMode := some (m, s.now) } ∧ t.tmg = s.tmg) ∧
      (s.sys.mode ≠ .safe → m = .calibrate → s.rb A.CAL_RUN_MASK 0 = true → Runs (.modeRequest who w) s fun t =>
        t.sys.mode = .calibrate ∧ t.cal.inList = true ∧ t.plan.commit = none ∧ t.sys.permit = false)) ∧
    (∀ m, m ≠ s.sys.mode →
      (s.sys.mode = .boot ∨ s.sys.mode = .calibrate ∨ (s.sys.mode = .safe ∧ m ≠ .standby) ∨
          (s.sys.mode.capturing = true ∧ m = .calibrate) → s.modeRefusal m = some 1) ∧
      (s.sys.mode = .safe → m = .standby → s.safeWord ≠ 0 → s.modeRefusal m = some 4) ∧
      (s.sys.mode = .standby → s.serviceBusy = true → s.modeRefusal m = some 6) ∧
      (s.sys.mode = .standby → s.serviceBusy = false → m ≠ .calibrate → s.plan.live = none →
        s.modeRefusal m = some 2))

/-- Service permission, the alarm queue and the mailbox's judgement (R300, R301, R302, R317, R319, R320,
R380, R434, R436). -/
def Obligations.ServiceAndMailbox : Prop :=
  Claims.ServiceAndAlarmsAct ∧ Claims.MailboxTakesCommands

/-- Mailbox commands run and answer (R301, R317, R319, R320, R324, R325, R380). -/
def Obligations.MailboxCommandsRunAndEnd : Prop :=
  Claims.CoresAndStripesAreCommanded ∧ Claims.MailboxCommandsEnd

/-- Resets hold the block, keep what the spec keeps, and release it (R305, R306, R307, R329, R443, R446,
R447, R448, R451). -/
def Obligations.ResetsHoldAndRelease : Prop :=
  Claims.ResetsHoldTheBlock ∧ Claims.HeldResetsJoinAndRelease

/-- Boot steps end, and a debugger halts the cores (R310, R312, R313, R314, R315, R316, R317, R335, R385,
R426). -/
def Obligations.BootAndDebug : Prop :=
  Claims.BootStepsEnd ∧ Claims.DebuggerHaltsCores

/-- The monitor converter accumulates, is configured, read and calibrated (R356, R357, R358, R359, R360,
R361, R362, R363, R364, R400, R434, R436). -/
def Obligations.MonitorRuns : Prop :=
  Claims.MonitorOutputsAreTaken ∧ Claims.MonitorIsCommanded ∧ Claims.MonitorReadsAndCalibrates

/-- A sensor window gives every on-die sensor in use in which it finds no cause of failure its mean
temperature, and declares one with a cause failed, its reading staying (R367, R369), and moves the
thermal state by the conditions of R371 to R373, into SAFE for TJ_MAX and the shutdown condition (R368,
R372, R373). -/
def Obligations.WindowsMoveThermalStates : Prop :=
  ∀ (s : State) (wins : List SensorWin), s.released = true → Runs (.thmSensorWindow wins) s fun t =>
    t.thm.windows = s.thm.windows + 1 ∧ s.sys.release + ms (s.thm.windows + 1) ≤ t.now ∧
    (∀ i, i < 64 → s.masked i = false → (s.thm.sensor i).cause = 0 →
      (s.windowFault wins i = 0 → (t.thm.sensor i).temp = some (s.windowMean wins i) ∧ (t.thm.sensor i).cause = 0) ∧
      (s.windowFault wins i ≠ 0 → (t.thm.sensor i).temp = (s.thm.sensor i).temp ∧
        (t.thm.sensor i).cause = s.windowFault wins i)) ∧
    (s.sys.mode ≠ .safe → s.thm.state ≠ .safe →
      (t.thm.condX = true → t.sys.mode = .safe ∧ t.sys.safeCause = SafeCause.tjMax.code ∧ t.thm.state = .safe) ∧
      (t.thm.condX = false → t.thm.condZ = true →
        t.sys.mode = .safe ∧ t.sys.safeCause = SafeCause.thermal.code ∧ t.thm.state = .safe) ∧
      (t.thm.condX = false → t.thm.condZ = false →
        (∀ e, s.thm.grace = some e ∨ s.thm.critEnd = some e ∨ s.thm.persist = some e → t.now < e) →
        (s.thm.state = .normal ∨ s.thm.state = .warm →
          (t.thm.condT = true → t.thm.condC = false → t.thm.state = .alert ∧ t.thm.pinLow = true ∧
            t.rb A.THM_INT_STATUS 1 = true) ∧
          (t.thm.condT = false → t.thm.condW = true → t.thm.state = .warm) ∧
          (t.thm.condT = false → t.thm.condW = false → t.thm.state = .normal)) ∧
        (s.thm.state = .alert → t.thm.condT = true → t.thm.condC = true → s.ticking = true →
          t.thm.state = .pending)))

/-- Thermal timers, the alert pin, the lock and the thresholds (R372, R373, R374, R377, R382). -/
def Obligations.ThermalTimersAndLock : Prop :=
  Claims.ThermalTimersEnd ∧ Claims.ThermalPinAndLock

/-- Calibration is granted, deferred, ordered and ended (R384, R385, R386, R388). -/
def Obligations.CalibrationIsOrdered : Prop :=
  Claims.CalibrationIsGranted ∧ Claims.CalibrationRunsAreOrdered

/-- Calibration runs step, are judged and are saved (R390, R393, R394, R395, R396, R397, R398, R399, R404). -/
def Obligations.CalibrationRunsEnd : Prop :=
  Claims.ForegroundPassesEnd ∧ Claims.EqualiserRunsStep ∧ Claims.DarkRunsAndSavesEnd

/-- Vault commands are judged, burn and end (R418, R419, R420, R422, R430). -/
def Obligations.VaultCommandsRun : Prop :=
  Claims.MintsAreJudged ∧ Claims.VaultCommandsAreJudged ∧ Claims.VaultCommandsEnd

/-- Region locks, overrides, the identity key and attestation (R121, R225, R415, R423, R428, R429). -/
def Obligations.LocksKeyAndAttestation : Prop :=
  Claims.LocksAndOverrides ∧ Claims.IdentityKeyIsLoaded ∧ Claims.AttestationReports
end

