-- ==== Sys2Proof/Laws/Sparse.lean ====
section
/-!
SUPPORT. The laws of sparse tables and byte memories: what a write leaves to a read, and that every
operation keeps the canonical form.
-/
set_option Elab.async false

namespace Sys2Proof.Machine

variable {α : Type}

/-! ### Reading back -/

theorem sget_sdel_same (d : Nat → α) (l : List (Nat × α)) (k : Nat) : sget d (sdel l k) k = d k := by
  induction l with
  | nil => rfl
  | cons p r ih =>
    obtain ⟨j, v⟩ := p
    by_cases h : k = j
    · simpa [sdel, h] using h ▸ ih
    · simp [sdel, sget, h, ih]

theorem sget_sdel_other (d : Nat → α) (l : List (Nat × α)) {k q : Nat} (hq : q ≠ k) :
    sget d (sdel l k) q = sget d l q := by
  induction l with
  | nil => rfl
  | cons p r ih =>
    obtain ⟨j, v⟩ := p
    by_cases h : k = j
    · subst h; simp [sdel, sget, hq, ih]
    · by_cases h2 : q = j <;> simp [sdel, sget, h, h2, ih]

theorem sget_sins_same (d : Nat → α) (l : List (Nat × α)) (k : Nat) (x : α) :
    sget d (sins l k x) k = x := by
  induction l with
  | nil => simp [sins, sget]
  | cons p r ih =>
    obtain ⟨j, v⟩ := p
    unfold sins
    split
    · simp [sget]
    · split
      · simp [sget]
      · next h _ => simp [sget, h, ih]

theorem sget_sins_other (d : Nat → α) (l : List (Nat × α)) {k q : Nat} (x : α) (hq : q ≠ k) :
    sget d (sins l k x) q = sget d l q := by
  induction l with
  | nil => simp [sins, sget, hq]
  | cons p r ih =>
    obtain ⟨j, v⟩ := p
    unfold sins
    split
    · next h => subst h; simp [sget, hq]
    · split
      · simp [sget, hq]
      · by_cases h2 : q = j <;> simp [sget, h2, ih]

variable [DecidableEq α]

/-- A write is read back. -/
@[simp] theorem sget_sput_same (d : Nat → α) (l : List (Nat × α)) (k : Nat) (x : α) :
    sget d (sput d l k x) k = x := by
  unfold sput
  split
  · next h => rw [sget_sdel_same, h]
  · exact sget_sins_same d l k x

/-- A write leaves every other key alone. -/
theorem sget_sput_other (d : Nat → α) (l : List (Nat × α)) {k q : Nat} (x : α) (hq : q ≠ k) :
    sget d (sput d l k x) q = sget d l q := by
  unfold sput
  split
  · exact sget_sdel_other d l hq
  · exact sget_sins_other d l x hq

/-- Both in one. -/
theorem sget_sput (d : Nat → α) (l : List (Nat × α)) (k q : Nat) (x : α) :
    sget d (sput d l k x) q = if q = k then x else sget d l q := by
  split
  · next h => rw [h, sget_sput_same]
  · next h => exact sget_sput_other d l x h

omit [DecidableEq α] in
@[simp] theorem sget_nil (d : Nat → α) (k : Nat) : sget d [] k = d k := rfl

/-! ### The canonical form -/

omit [DecidableEq α] in
theorem sabove_sdel {m : Nat} {l : List (Nat × α)} (k : Nat) (h : sabove m l) : sabove m (sdel l k) := by
  induction l with
  | nil => exact h
  | cons p r ih =>
    obtain ⟨j, v⟩ := p
    simp only [sabove, List.all_cons, Bool.and_eq_true] at h ih ⊢
    unfold sdel
    split
    · exact ih h.2
    · simpa [h.1] using ih h.2

omit [DecidableEq α] in
theorem sabove_sins {m : Nat} {l : List (Nat × α)} {k : Nat} (x : α) (hk : m < k) (h : sabove m l) :
    sabove m (sins l k x) := by
  induction l with
  | nil => simpa [sabove, sins] using hk
  | cons p r ih =>
    obtain ⟨j, v⟩ := p
    simp only [sabove, List.all_cons, Bool.and_eq_true] at h ih ⊢
    unfold sins
    split
    · simpa [hk] using h.2
    · split
      · simpa [hk] using h
      · simpa [h.1] using ih h.2

omit [DecidableEq α] in
theorem sabove_mono {m n : Nat} {l : List (Nat × α)} (hmn : m ≤ n) (h : sabove n l) : sabove m l := by
  simp only [sabove, List.all_eq_true, decide_eq_true_eq] at *
  exact fun p hp => Nat.lt_of_le_of_lt hmn (h p hp)

theorem swf_cons {d : Nat → α} {j : Nat} {v : α} {r : List (Nat × α)} :
    swf d ((j, v) :: r) ↔ sabove j r ∧ v ≠ d j ∧ swf d r := by
  simp [swf, and_assoc]

theorem swf_sdel {d : Nat → α} {l : List (Nat × α)} (k : Nat) (h : swf d l) : swf d (sdel l k) := by
  induction l with
  | nil => exact h
  | cons p r ih =>
    obtain ⟨j, v⟩ := p
    rw [swf_cons] at h
    unfold sdel
    split
    · exact ih h.2.2
    · exact swf_cons.mpr ⟨sabove_sdel k h.1, h.2.1, ih h.2.2⟩

theorem swf_sins {d : Nat → α} {l : List (Nat × α)} {k : Nat} {x : α} (hx : x ≠ d k) (h : swf d l) :
    swf d (sins l k x) := by
  induction l with
  | nil => exact swf_cons.mpr ⟨rfl, hx, rfl⟩
  | cons p r ih =>
    obtain ⟨j, v⟩ := p
    have hc := swf_cons.mp h
    unfold sins
    split
    · next he => exact swf_cons.mpr ⟨he ▸ hc.1, hx, hc.2.2⟩
    · split
      · next hlt =>
        refine swf_cons.mpr ⟨?_, hx, h⟩
        have := sabove_mono (Nat.le_of_lt hlt) hc.1
        simp only [sabove, List.all_cons, Bool.and_eq_true, decide_eq_true_eq] at this ⊢
        exact ⟨hlt, this⟩
      · exact swf_cons.mpr ⟨sabove_sins x (by omega) hc.1, hc.2.1, ih hc.2.2⟩

/-- A write keeps the canonical form. -/
theorem swf_sput {d : Nat → α} {l : List (Nat × α)} (k : Nat) (x : α) (h : swf d l) :
    swf d (sput d l k x) := by
  unfold sput
  split
  · exact swf_sdel k h
  · next hx => exact swf_sins hx h

theorem swf_smod {d : Nat → α} {l : List (Nat × α)} (k : Nat) (f : α → α) (h : swf d l) :
    swf d (smod d l k f) := swf_sput _ _ h

omit [DecidableEq α] in
theorem sabove_filter {m : Nat} {l : List (Nat × α)} (q : Nat × α → Bool) (h : sabove m l) :
    sabove m (l.filter q) := by
  simp only [sabove, List.all_eq_true, decide_eq_true_eq] at *
  exact fun p hp => h p ((List.mem_filter.mp hp).1)

/-- Dropping entries keeps the canonical form. -/
theorem swf_filter {d : Nat → α} {l : List (Nat × α)} (q : Nat × α → Bool) (h : swf d l) :
    swf d (l.filter q) := by
  induction l with
  | nil => exact h
  | cons p r ih =>
    obtain ⟨j, v⟩ := p
    rw [swf_cons] at h
    simp only [List.filter_cons]
    split
    · exact swf_cons.mpr ⟨sabove_filter q h.1, h.2.1, ih h.2.2⟩
    · exact ih h.2.2

/-- Two canonical tables, all keys of the first below those of the second. -/
theorem swf_append {d : Nat → α} {l m : List (Nat × α)} (hl : swf d l) (hm : swf d m)
    (hlt : ∀ p ∈ l, ∀ q ∈ m, p.1 < q.1) : swf d (l ++ m) := by
  induction l with
  | nil => exact hm
  | cons p r ih =>
    obtain ⟨j, v⟩ := p
    rw [swf_cons] at hl
    refine swf_cons.mpr ⟨?_, hl.2.1, ih hl.2.2 fun p hp => hlt p (List.mem_cons_of_mem _ hp)⟩
    have h1 := hl.1
    simp only [sabove, List.all_eq_true, decide_eq_true_eq] at h1 ⊢
    intro q hq
    rcases List.mem_append.mp hq with hq | hq
    · exact h1 q hq
    · exact hlt _ List.mem_cons_self q hq

/-! ### Byte memories -/

/-- A byte that was written is read back. -/
@[simp] theorem rdByte_wrByte_same (m : Memory) (a : Nat) (b : Byte) : rdByte (wrByte m a b) a = b :=
  sget_sput_same _ _ _ _

/-- Every other byte stays. -/
theorem rdByte_wrByte_other (m : Memory) {a q : Nat} (b : Byte) (h : q ≠ a) :
    rdByte (wrByte m a b) q = rdByte m q := sget_sput_other _ _ _ h

theorem wrByte_wf {m : Memory} (a : Nat) (b : Byte) (h : Memory.wf m) : Memory.wf (wrByte m a b) :=
  swf_sput a b h

/-- Bytes below and above a written run stay. -/
theorem rdByte_wrBytes_other (m : Memory) (a q : Nat) (l : List Byte) (h : q < a ∨ a + l.length ≤ q) :
    rdByte (wrBytes m a l) q = rdByte m q := by
  induction l generalizing m a with
  | nil => rfl
  | cons b r ih =>
    simp only [List.length_cons] at h
    rw [wrBytes, ih _ _ (by omega), rdByte_wrByte_other _ _ (by omega)]

/-- The bytes of a written run are read back. -/
theorem rdByte_wrBytes_in (m : Memory) (a i : Nat) (l : List Byte) (h : i < l.length) :
    rdByte (wrBytes m a l) (a + i) = l[i] := by
  induction l generalizing m a i with
  | nil => simp at h
  | cons b r ih =>
    cases i with
    | zero => rw [wrBytes, rdByte_wrBytes_other _ _ _ _ (by omega)]; simp
    | succ i =>
      have h' : i < r.length := by simpa using h
      have := ih (wrByte m a b) (a + 1) i h'
      rw [wrBytes, show a + (i + 1) = a + 1 + i by omega, this]; simp

theorem wrBytes_wf {m : Memory} (a : Nat) (l : List Byte) (h : Memory.wf m) : Memory.wf (wrBytes m a l) := by
  induction l generalizing m a with
  | nil => exact h
  | cons b r ih => exact ih _ (wrByte_wf a b h)

theorem wrLE_wf {m : Memory} (a n v : Nat) (h : Memory.wf m) : Memory.wf (wrLE m a n v) := wrBytes_wf _ _ h

theorem wipe_wf {m : Memory} (a n : Nat) (h : Memory.wf m) : Memory.wf (wipe m a n) := swf_filter _ h

theorem spanCells_from (a : Nat) (l : List Byte) : ∀ p ∈ spanCells a l, a ≤ p.1 ∧ p.1 < a + l.length := by
  induction l generalizing a with
  | nil => simp [spanCells]
  | cons b r ih =>
    intro p hp
    unfold spanCells at hp
    split at hp
    · have := ih _ p hp; simp only [List.length_cons]; omega
    · rcases List.mem_cons.mp hp with rfl | hp
      · simp
      · have := ih _ p hp; simp only [List.length_cons]; omega

theorem spanCells_wf (a : Nat) (l : List Byte) : Memory.wf (spanCells a l) := by
  induction l generalizing a with
  | nil => rfl
  | cons b r ih =>
    unfold spanCells
    split
    · exact ih _
    · next h =>
      refine swf_cons.mpr ⟨?_, h, ih _⟩
      simp only [sabove, List.all_eq_true, decide_eq_true_eq]
      exact fun p hp => (spanCells_from _ _ p hp).1

theorem wrSpan_wf {m : Memory} (a : Nat) (l : List Byte) (h : Memory.wf m) : Memory.wf (wrSpan m a l) := by
  unfold wrSpan
  refine swf_append (swf_append (swf_filter _ h) (spanCells_wf a l) ?_) (swf_filter _ h) ?_
  · intro p hp q hq
    have := (List.mem_filter.mp hp).2
    have := (spanCells_from a l q hq).1
    simp at *; omega
  · intro p hp q hq
    have hq := (List.mem_filter.mp hq).2
    rcases List.mem_append.mp hp with hp | hp
    · have := (List.mem_filter.mp hp).2; simp at *; omega
    · have := (spanCells_from a l p hp).2; simp at *; omega

/-! ### Long writes are read back -/

/-- A read below a run of cells. -/
theorem rdByte_spanCells_below (a q : Nat) (l : List Byte) (h : q < a) : rdByte (spanCells a l) q = 0 := by
  induction l generalizing a with
  | nil => rfl
  | cons b bs ih =>
    simp only [spanCells]
    split
    · exact ih (a + 1) (by omega)
    · simp only [rdByte, sget, if_neg (show q ≠ a by omega)]
      exact ih (a + 1) (by omega)

/-- A read within a run of cells. -/
theorem rdByte_spanCells_in (a i : Nat) (l : List Byte) (h : i < l.length) :
    rdByte (spanCells a l) (a + i) = l[i] := by
  induction l generalizing a i with
  | nil => cases h
  | cons b bs ih =>
    cases i with
    | zero =>
      simp only [spanCells]
      split
      · next hb => simpa [hb] using rdByte_spanCells_below (a + 1) a bs (by omega)
      · simp [rdByte, sget]
    | succ i =>
      have hi : a + (i + 1) = a + 1 + i := by omega
      simp only [spanCells]
      split
      · rw [hi]; exact ih (a + 1) i (by simpa using h)
      · simp only [rdByte, sget, if_neg (show a + (i + 1) ≠ a by omega)]
        rw [hi]; exact ih (a + 1) i (by simpa using h)

theorem sget_append (d : Nat → Byte) (l m : List (Nat × Byte)) (q : Nat) (h : ∀ p ∈ l, p.1 ≠ q) :
    sget d (l ++ m) q = sget d m q := by
  induction l with
  | nil => rfl
  | cons p l ih =>
    simp only [List.cons_append, sget, if_neg (fun e => h p (.head _) (Eq.symm e))]
    exact ih fun x hx => h x (.tail _ hx)

theorem sget_append_left (d : Nat → Byte) (l m : List (Nat × Byte)) (q : Nat) (h : ∀ p ∈ m, p.1 ≠ q) :
    sget d (l ++ m) q = sget d l q := by
  induction l with
  | nil =>
    have := sget_append d m [] q h
    simpa [sget] using this
  | cons p l ih => simp only [List.cons_append, sget, ih]

theorem sget_filter (d : Nat → Byte) (l : List (Nat × Byte)) (q : Nat) (f : Nat × Byte → Bool)
    (h : ∀ v, f (q, v) = true) : sget d (l.filter f) q = sget d l q := by
  induction l with
  | nil => rfl
  | cons p l ih =>
    simp only [List.filter_cons]
    split
    · simp only [sget, ih]
    · next hf =>
      have hq : q ≠ p.1 := by rintro rfl; exact hf (h p.2)
      simp only [sget, if_neg hq, ih]

/-- A long write leaves every byte outside the run as it was. -/
theorem rdByte_wrSpan_other (m : Memory) (a q : Nat) (l : List Byte) (h : q < a ∨ a + l.length ≤ q) :
    rdByte (wrSpan m a l) q = rdByte m q := by
  have hs : ∀ p ∈ spanCells a l, p.1 ≠ q := fun p hp => by
    have := spanCells_from a l p hp; omega
  unfold rdByte wrSpan
  rcases h with h | h
  · rw [sget_append_left _ _ _ _ (fun p hp => by
      have := (List.mem_filter.1 hp).2; simp at this; omega), sget_append_left _ _ _ _ hs,
      sget_filter _ _ _ _ (fun v => by simpa using h)]
  · rw [List.append_assoc, sget_append _ _ _ _ (fun p hp => by
      have := (List.mem_filter.1 hp).2; simp at this; omega), sget_append _ _ _ _ hs,
      sget_filter _ _ _ _ (fun v => by simpa using h)]

/-- A long write stores every byte of the run. -/
theorem rdByte_wrSpan_in (m : Memory) (a i : Nat) (l : List Byte) (h : i < l.length) :
    rdByte (wrSpan m a l) (a + i) = l[i] := by
  rw [← rdByte_spanCells_in a i l h]
  unfold rdByte wrSpan
  rw [sget_append_left _ _ _ _ (fun p hp => by
    have := (List.mem_filter.1 hp).2; simp at this; omega), sget_append _ _ _ _ (fun p hp => by
    have := (List.mem_filter.1 hp).2; simp at this; omega)]

/-- Reading a part of a long write. -/
theorem rdBytes_wrSpan (m : Memory) (a i n : Nat) (l : List Byte) (h : i + n ≤ l.length) :
    rdBytes (wrSpan m a l) (a + i) n = (l.drop i).take n := by
  induction n generalizing i with
  | zero => simp [rdBytes]
  | succ n ih =>
    rw [List.drop_eq_getElem_cons (show i < l.length by omega), List.take_succ_cons, rdBytes,
      rdByte_wrSpan_in m a i l (by omega), Nat.add_assoc, ih (i + 1) (by omega)]

end Sys2Proof.Machine
end

