-- ==== Sys2Proof/Laws/State.lean ====
section
/-!
SUPPORT. What each named update of the state does to each field: one lemma per field and update, so that
no proof unfolds a record update.
-/
set_option Elab.async false

namespace Sys2Proof.Machine

/-! ### The derived updates in terms of the plain ones -/

@[simp] theorem State.setRn_eq (s : State) (a n : Nat) : s.setRn a n = s.setReg a (mkWord n) := rfl
@[simp] theorem State.orReg_eq (s : State) (a m : Nat) :
    s.orReg a m = s.setReg a (mkWord (s.rn a ||| m)) := rfl
@[simp] theorem State.setInt_eq (s : State) (a i : Nat) :
    s.setInt a i = (s.setReg a (mkWord (s.rn a ||| 2 ^ i))).note a (2 ^ i) := rfl
@[simp] theorem State.clrReg_eq (s : State) (a v : Nat) :
    s.clrReg a v = s.setReg a (mkWord (s.afterClear a (s.rn a) v)) := rfl
@[simp] theorem State.warn_eq (s : State) (c k u d : Nat) :
    s.warn c k u d = s.raise { sev := .warn, cls := c, code := k, unit := u, detail := d } := rfl
@[simp] theorem State.faultEv_eq (s : State) (c k u d : Nat) :
    s.faultEv c k u d = s.raise { sev := .fault, cls := c, code := k, unit := u, detail := d } := rfl
@[simp] theorem State.info_eq (s : State) (c k u d : Nat) :
    s.info c k u d = s.raise { sev := .info, cls := c, code := k, unit := u, detail := d } := rfl
@[simp] theorem State.ignored_eq (s : State) (c : Nat) (who : Who) (a : Nat) :
    s.ignored c who a = s.raise { sev := .warn, cls := c, code := 0x81, unit := who.code, detail := a } := rfl
@[simp] theorem State.lockViolation_eq (s : State) (c : Nat) (who : Who) (a : Nat) :
    s.lockViolation c who a =
      s.raise { sev := .warn, cls := c, code := 0x80, unit := who.code, detail := a } := rfl
@[simp] theorem State.goMgt_eq (s : State) (n : Nat) : s.goMgt n = s.goTo (s.mgtInstant n) := rfl

/-! ### Field by field -/

@[simp] theorem State.setReg_pending (s : State) (a : Nat) (v : Word) : (s.setReg a v).pending = s.pending := rfl
@[simp] theorem State.setReg_now (s : State) (a : Nat) (v : Word) : (s.setReg a v).now = s.now := rfl
@[simp] theorem State.setReg_draws (s : State) (a : Nat) (v : Word) : (s.setReg a v).draws = s.draws := rfl
@[simp] theorem State.setReg_rwc (s : State) (a : Nat) (v : Word) : (s.setReg a v).rwc = s.rwc := rfl
@[simp] theorem State.setReg_dram (s : State) (a : Nat) (v : Word) : (s.setReg a v).dram = s.dram := rfl
@[simp] theorem State.setReg_ret (s : State) (a : Nat) (v : Word) : (s.setReg a v).ret = s.ret := rfl
@[simp] theorem State.setReg_sram0 (s : State) (a : Nat) (v : Word) : (s.setReg a v).sram0 = s.sram0 := rfl
@[simp] theorem State.setReg_sram1 (s : State) (a : Nat) (v : Word) : (s.setReg a v).sram1 = s.sram1 := rfl
@[simp] theorem State.setReg_flash (s : State) (a : Nat) (v : Word) : (s.setReg a v).flash = s.flash := rfl
@[simp] theorem State.setReg_part (s : State) (a : Nat) (v : Word) : (s.setReg a v).part = s.part := rfl
@[simp] theorem State.setReg_sys (s : State) (a : Nat) (v : Word) : (s.setReg a v).sys = s.sys := rfl
@[simp] theorem State.setReg_clk (s : State) (a : Nat) (v : Word) : (s.setReg a v).clk = s.clk := rfl
@[simp] theorem State.setReg_tmg (s : State) (a : Nat) (v : Word) : (s.setReg a v).tmg = s.tmg := rfl
@[simp] theorem State.setReg_plan (s : State) (a : Nat) (v : Word) : (s.setReg a v).plan = s.plan := rfl
@[simp] theorem State.setReg_cnv (s : State) (a : Nat) (v : Word) : (s.setReg a v).cnv = s.cnv := rfl
@[simp] theorem State.setReg_str (s : State) (a : Nat) (v : Word) : (s.setReg a v).str = s.str := rfl
@[simp] theorem State.setReg_time (s : State) (a : Nat) (v : Word) : (s.setReg a v).time = s.time := rfl
@[simp] theorem State.setReg_frames (s : State) (a : Nat) (v : Word) : (s.setReg a v).frames = s.frames := rfl
@[simp] theorem State.setReg_lnk (s : State) (a : Nat) (v : Word) : (s.setReg a v).lnk = s.lnk := rfl
@[simp] theorem State.setReg_seals (s : State) (a : Nat) (v : Word) : (s.setReg a v).seals = s.seals := rfl
@[simp] theorem State.setReg_vlt (s : State) (a : Nat) (v : Word) : (s.setReg a v).vlt = s.vlt := rfl
@[simp] theorem State.setReg_fab (s : State) (a : Nat) (v : Word) : (s.setReg a v).fab = s.fab := rfl
@[simp] theorem State.setReg_mon (s : State) (a : Nat) (v : Word) : (s.setReg a v).mon = s.mon := rfl
@[simp] theorem State.setReg_thm (s : State) (a : Nat) (v : Word) : (s.setReg a v).thm = s.thm := rfl
@[simp] theorem State.setReg_cal (s : State) (a : Nat) (v : Word) : (s.setReg a v).cal = s.cal := rfl
@[simp] theorem State.setReg_wdt (s : State) (a : Nat) (v : Word) : (s.setReg a v).wdt = s.wdt := rfl
@[simp] theorem State.setReg_evl (s : State) (a : Nat) (v : Word) : (s.setReg a v).evl = s.evl := rfl

@[simp] theorem State.note_pending (s : State) (a m : Nat) : (s.note a m).pending = s.pending := rfl
@[simp] theorem State.note_now (s : State) (a m : Nat) : (s.note a m).now = s.now := rfl
@[simp] theorem State.note_draws (s : State) (a m : Nat) : (s.note a m).draws = s.draws := rfl
@[simp] theorem State.note_regs (s : State) (a m : Nat) : (s.note a m).regs = s.regs := rfl
@[simp] theorem State.note_dram (s : State) (a m : Nat) : (s.note a m).dram = s.dram := rfl
@[simp] theorem State.note_ret (s : State) (a m : Nat) : (s.note a m).ret = s.ret := rfl
@[simp] theorem State.note_sram0 (s : State) (a m : Nat) : (s.note a m).sram0 = s.sram0 := rfl
@[simp] theorem State.note_sram1 (s : State) (a m : Nat) : (s.note a m).sram1 = s.sram1 := rfl
@[simp] theorem State.note_flash (s : State) (a m : Nat) : (s.note a m).flash = s.flash := rfl
@[simp] theorem State.note_part (s : State) (a m : Nat) : (s.note a m).part = s.part := rfl
@[simp] theorem State.note_sys (s : State) (a m : Nat) : (s.note a m).sys = s.sys := rfl
@[simp] theorem State.note_clk (s : State) (a m : Nat) : (s.note a m).clk = s.clk := rfl
@[simp] theorem State.note_tmg (s : State) (a m : Nat) : (s.note a m).tmg = s.tmg := rfl
@[simp] theorem State.note_plan (s : State) (a m : Nat) : (s.note a m).plan = s.plan := rfl
@[simp] theorem State.note_cnv (s : State) (a m : Nat) : (s.note a m).cnv = s.cnv := rfl
@[simp] theorem State.note_str (s : State) (a m : Nat) : (s.note a m).str = s.str := rfl
@[simp] theorem State.note_time (s : State) (a m : Nat) : (s.note a m).time = s.time := rfl
@[simp] theorem State.note_frames (s : State) (a m : Nat) : (s.note a m).frames = s.frames := rfl
@[simp] theorem State.note_lnk (s : State) (a m : Nat) : (s.note a m).lnk = s.lnk := rfl
@[simp] theorem State.note_seals (s : State) (a m : Nat) : (s.note a m).seals = s.seals := rfl
@[simp] theorem State.note_vlt (s : State) (a m : Nat) : (s.note a m).vlt = s.vlt := rfl
@[simp] theorem State.note_fab (s : State) (a m : Nat) : (s.note a m).fab = s.fab := rfl
@[simp] theorem State.note_mon (s : State) (a m : Nat) : (s.note a m).mon = s.mon := rfl
@[simp] theorem State.note_thm (s : State) (a m : Nat) : (s.note a m).thm = s.thm := rfl
@[simp] theorem State.note_cal (s : State) (a m : Nat) : (s.note a m).cal = s.cal := rfl
@[simp] theorem State.note_wdt (s : State) (a m : Nat) : (s.note a m).wdt = s.wdt := rfl
@[simp] theorem State.note_evl (s : State) (a m : Nat) : (s.note a m).evl = s.evl := rfl

@[simp] theorem State.raise_pending (s : State) (e : Event) : (s.raise e).pending = s.pending := rfl
@[simp] theorem State.raise_now (s : State) (e : Event) : (s.raise e).now = s.now := rfl
@[simp] theorem State.raise_draws (s : State) (e : Event) : (s.raise e).draws = s.draws := rfl
@[simp] theorem State.raise_regs (s : State) (e : Event) : (s.raise e).regs = s.regs := rfl
@[simp] theorem State.raise_rwc (s : State) (e : Event) : (s.raise e).rwc = s.rwc := rfl
@[simp] theorem State.raise_dram (s : State) (e : Event) : (s.raise e).dram = s.dram := rfl
@[simp] theorem State.raise_ret (s : State) (e : Event) : (s.raise e).ret = s.ret := rfl
@[simp] theorem State.raise_sram0 (s : State) (e : Event) : (s.raise e).sram0 = s.sram0 := rfl
@[simp] theorem State.raise_sram1 (s : State) (e : Event) : (s.raise e).sram1 = s.sram1 := rfl
@[simp] theorem State.raise_flash (s : State) (e : Event) : (s.raise e).flash = s.flash := rfl
@[simp] theorem State.raise_part (s : State) (e : Event) : (s.raise e).part = s.part := rfl
@[simp] theorem State.raise_sys (s : State) (e : Event) : (s.raise e).sys = s.sys := rfl
@[simp] theorem State.raise_clk (s : State) (e : Event) : (s.raise e).clk = s.clk := rfl
@[simp] theorem State.raise_tmg (s : State) (e : Event) : (s.raise e).tmg = s.tmg := rfl
@[simp] theorem State.raise_plan (s : State) (e : Event) : (s.raise e).plan = s.plan := rfl
@[simp] theorem State.raise_cnv (s : State) (e : Event) : (s.raise e).cnv = s.cnv := rfl
@[simp] theorem State.raise_str (s : State) (e : Event) : (s.raise e).str = s.str := rfl
@[simp] theorem State.raise_time (s : State) (e : Event) : (s.raise e).time = s.time := rfl
@[simp] theorem State.raise_frames (s : State) (e : Event) : (s.raise e).frames = s.frames := rfl
@[simp] theorem State.raise_lnk (s : State) (e : Event) : (s.raise e).lnk = s.lnk := rfl
@[simp] theorem State.raise_seals (s : State) (e : Event) : (s.raise e).seals = s.seals := rfl
@[simp] theorem State.raise_vlt (s : State) (e : Event) : (s.raise e).vlt = s.vlt := rfl
@[simp] theorem State.raise_fab (s : State) (e : Event) : (s.raise e).fab = s.fab := rfl
@[simp] theorem State.raise_mon (s : State) (e : Event) : (s.raise e).mon = s.mon := rfl
@[simp] theorem State.raise_thm (s : State) (e : Event) : (s.raise e).thm = s.thm := rfl
@[simp] theorem State.raise_cal (s : State) (e : Event) : (s.raise e).cal = s.cal := rfl
@[simp] theorem State.raise_wdt (s : State) (e : Event) : (s.raise e).wdt = s.wdt := rfl

@[simp] theorem State.goTo_pending (s : State) (t : Nat) : (s.goTo t).pending = s.pending := rfl
@[simp] theorem State.goTo_draws (s : State) (t : Nat) : (s.goTo t).draws = s.draws := rfl
@[simp] theorem State.goTo_regs (s : State) (t : Nat) : (s.goTo t).regs = s.regs := rfl
@[simp] theorem State.goTo_rwc (s : State) (t : Nat) : (s.goTo t).rwc = s.rwc := rfl
@[simp] theorem State.goTo_dram (s : State) (t : Nat) : (s.goTo t).dram = s.dram := rfl
@[simp] theorem State.goTo_ret (s : State) (t : Nat) : (s.goTo t).ret = s.ret := rfl
@[simp] theorem State.goTo_sram0 (s : State) (t : Nat) : (s.goTo t).sram0 = s.sram0 := rfl
@[simp] theorem State.goTo_sram1 (s : State) (t : Nat) : (s.goTo t).sram1 = s.sram1 := rfl
@[simp] theorem State.goTo_flash (s : State) (t : Nat) : (s.goTo t).flash = s.flash := rfl
@[simp] theorem State.goTo_part (s : State) (t : Nat) : (s.goTo t).part = s.part := rfl
@[simp] theorem State.goTo_sys (s : State) (t : Nat) : (s.goTo t).sys = s.sys := rfl
@[simp] theorem State.goTo_clk (s : State) (t : Nat) : (s.goTo t).clk = s.clk := rfl
@[simp] theorem State.goTo_tmg (s : State) (t : Nat) : (s.goTo t).tmg = s.tmg := rfl
@[simp] theorem State.goTo_plan (s : State) (t : Nat) : (s.goTo t).plan = s.plan := rfl
@[simp] theorem State.goTo_cnv (s : State) (t : Nat) : (s.goTo t).cnv = s.cnv := rfl
@[simp] theorem State.goTo_str (s : State) (t : Nat) : (s.goTo t).str = s.str := rfl
@[simp] theorem State.goTo_time (s : State) (t : Nat) : (s.goTo t).time = s.time := rfl
@[simp] theorem State.goTo_frames (s : State) (t : Nat) : (s.goTo t).frames = s.frames := rfl
@[simp] theorem State.goTo_lnk (s : State) (t : Nat) : (s.goTo t).lnk = s.lnk := rfl
@[simp] theorem State.goTo_seals (s : State) (t : Nat) : (s.goTo t).seals = s.seals := rfl
@[simp] theorem State.goTo_vlt (s : State) (t : Nat) : (s.goTo t).vlt = s.vlt := rfl
@[simp] theorem State.goTo_fab (s : State) (t : Nat) : (s.goTo t).fab = s.fab := rfl
@[simp] theorem State.goTo_mon (s : State) (t : Nat) : (s.goTo t).mon = s.mon := rfl
@[simp] theorem State.goTo_thm (s : State) (t : Nat) : (s.goTo t).thm = s.thm := rfl
@[simp] theorem State.goTo_cal (s : State) (t : Nat) : (s.goTo t).cal = s.cal := rfl
@[simp] theorem State.goTo_wdt (s : State) (t : Nat) : (s.goTo t).wdt = s.wdt := rfl
@[simp] theorem State.goTo_evl (s : State) (t : Nat) : (s.goTo t).evl = s.evl := rfl

@[simp] theorem State.setEvlInt_pending (s : State) (i : Nat) : (s.setEvlInt i).pending = s.pending := rfl
@[simp] theorem State.setEvlInt_now (s : State) (i : Nat) : (s.setEvlInt i).now = s.now := rfl
@[simp] theorem State.setEvlInt_draws (s : State) (i : Nat) : (s.setEvlInt i).draws = s.draws := rfl
@[simp] theorem State.setEvlInt_regs (s : State) (i : Nat) : (s.setEvlInt i).regs = s.regs := rfl
@[simp] theorem State.setEvlInt_dram (s : State) (i : Nat) : (s.setEvlInt i).dram = s.dram := rfl
@[simp] theorem State.setEvlInt_ret (s : State) (i : Nat) : (s.setEvlInt i).ret = s.ret := rfl
@[simp] theorem State.setEvlInt_sram0 (s : State) (i : Nat) : (s.setEvlInt i).sram0 = s.sram0 := rfl
@[simp] theorem State.setEvlInt_sram1 (s : State) (i : Nat) : (s.setEvlInt i).sram1 = s.sram1 := rfl
@[simp] theorem State.setEvlInt_flash (s : State) (i : Nat) : (s.setEvlInt i).flash = s.flash := rfl
@[simp] theorem State.setEvlInt_part (s : State) (i : Nat) : (s.setEvlInt i).part = s.part := rfl
@[simp] theorem State.setEvlInt_sys (s : State) (i : Nat) : (s.setEvlInt i).sys = s.sys := rfl
@[simp] theorem State.setEvlInt_clk (s : State) (i : Nat) : (s.setEvlInt i).clk = s.clk := rfl
@[simp] theorem State.setEvlInt_tmg (s : State) (i : Nat) : (s.setEvlInt i).tmg = s.tmg := rfl
@[simp] theorem State.setEvlInt_plan (s : State) (i : Nat) : (s.setEvlInt i).plan = s.plan := rfl
@[simp] theorem State.setEvlInt_cnv (s : State) (i : Nat) : (s.setEvlInt i).cnv = s.cnv := rfl
@[simp] theorem State.setEvlInt_str (s : State) (i : Nat) : (s.setEvlInt i).str = s.str := rfl
@[simp] theorem State.setEvlInt_time (s : State) (i : Nat) : (s.setEvlInt i).time = s.time := rfl
@[simp] theorem State.setEvlInt_frames (s : State) (i : Nat) : (s.setEvlInt i).frames = s.frames := rfl
@[simp] theorem State.setEvlInt_lnk (s : State) (i : Nat) : (s.setEvlInt i).lnk = s.lnk := rfl
@[simp] theorem State.setEvlInt_seals (s : State) (i : Nat) : (s.setEvlInt i).seals = s.seals := rfl
@[simp] theorem State.setEvlInt_vlt (s : State) (i : Nat) : (s.setEvlInt i).vlt = s.vlt := rfl
@[simp] theorem State.setEvlInt_fab (s : State) (i : Nat) : (s.setEvlInt i).fab = s.fab := rfl
@[simp] theorem State.setEvlInt_mon (s : State) (i : Nat) : (s.setEvlInt i).mon = s.mon := rfl
@[simp] theorem State.setEvlInt_thm (s : State) (i : Nat) : (s.setEvlInt i).thm = s.thm := rfl
@[simp] theorem State.setEvlInt_cal (s : State) (i : Nat) : (s.setEvlInt i).cal = s.cal := rfl
@[simp] theorem State.setEvlInt_wdt (s : State) (i : Nat) : (s.setEvlInt i).wdt = s.wdt := rfl

@[simp] theorem State.setPll_pending (s : State) (i : Nat) (p : Pll) : (s.setPll i p).pending = s.pending := rfl
@[simp] theorem State.setPll_now (s : State) (i : Nat) (p : Pll) : (s.setPll i p).now = s.now := rfl
@[simp] theorem State.setPll_draws (s : State) (i : Nat) (p : Pll) : (s.setPll i p).draws = s.draws := rfl
@[simp] theorem State.setPll_regs (s : State) (i : Nat) (p : Pll) : (s.setPll i p).regs = s.regs := rfl
@[simp] theorem State.setPll_rwc (s : State) (i : Nat) (p : Pll) : (s.setPll i p).rwc = s.rwc := rfl
@[simp] theorem State.setPll_dram (s : State) (i : Nat) (p : Pll) : (s.setPll i p).dram = s.dram := rfl
@[simp] theorem State.setPll_ret (s : State) (i : Nat) (p : Pll) : (s.setPll i p).ret = s.ret := rfl
@[simp] theorem State.setPll_sram0 (s : State) (i : Nat) (p : Pll) : (s.setPll i p).sram0 = s.sram0 := rfl
@[simp] theorem State.setPll_sram1 (s : State) (i : Nat) (p : Pll) : (s.setPll i p).sram1 = s.sram1 := rfl
@[simp] theorem State.setPll_flash (s : State) (i : Nat) (p : Pll) : (s.setPll i p).flash = s.flash := rfl
@[simp] theorem State.setPll_part (s : State) (i : Nat) (p : Pll) : (s.setPll i p).part = s.part := rfl
@[simp] theorem State.setPll_sys (s : State) (i : Nat) (p : Pll) : (s.setPll i p).sys = s.sys := rfl
@[simp] theorem State.setPll_tmg (s : State) (i : Nat) (p : Pll) : (s.setPll i p).tmg = s.tmg := rfl
@[simp] theorem State.setPll_plan (s : State) (i : Nat) (p : Pll) : (s.setPll i p).plan = s.plan := rfl
@[simp] theorem State.setPll_cnv (s : State) (i : Nat) (p : Pll) : (s.setPll i p).cnv = s.cnv := rfl
@[simp] theorem State.setPll_str (s : State) (i : Nat) (p : Pll) : (s.setPll i p).str = s.str := rfl
@[simp] theorem State.setPll_time (s : State) (i : Nat) (p : Pll) : (s.setPll i p).time = s.time := rfl
@[simp] theorem State.setPll_frames (s : State) (i : Nat) (p : Pll) : (s.setPll i p).frames = s.frames := rfl
@[simp] theorem State.setPll_lnk (s : State) (i : Nat) (p : Pll) : (s.setPll i p).lnk = s.lnk := rfl
@[simp] theorem State.setPll_seals (s : State) (i : Nat) (p : Pll) : (s.setPll i p).seals = s.seals := rfl
@[simp] theorem State.setPll_vlt (s : State) (i : Nat) (p : Pll) : (s.setPll i p).vlt = s.vlt := rfl
@[simp] theorem State.setPll_fab (s : State) (i : Nat) (p : Pll) : (s.setPll i p).fab = s.fab := rfl
@[simp] theorem State.setPll_mon (s : State) (i : Nat) (p : Pll) : (s.setPll i p).mon = s.mon := rfl
@[simp] theorem State.setPll_thm (s : State) (i : Nat) (p : Pll) : (s.setPll i p).thm = s.thm := rfl
@[simp] theorem State.setPll_cal (s : State) (i : Nat) (p : Pll) : (s.setPll i p).cal = s.cal := rfl
@[simp] theorem State.setPll_wdt (s : State) (i : Nat) (p : Pll) : (s.setPll i p).wdt = s.wdt := rfl
@[simp] theorem State.setPll_evl (s : State) (i : Nat) (p : Pll) : (s.setPll i p).evl = s.evl := rfl

@[simp] theorem State.setBank_pending (s : State) (i : Nat) (b : Bank) : (s.setBank i b).pending = s.pending := rfl
@[simp] theorem State.setBank_now (s : State) (i : Nat) (b : Bank) : (s.setBank i b).now = s.now := rfl
@[simp] theorem State.setBank_draws (s : State) (i : Nat) (b : Bank) : (s.setBank i b).draws = s.draws := rfl
@[simp] theorem State.setBank_regs (s : State) (i : Nat) (b : Bank) : (s.setBank i b).regs = s.regs := rfl
@[simp] theorem State.setBank_rwc (s : State) (i : Nat) (b : Bank) : (s.setBank i b).rwc = s.rwc := rfl
@[simp] theorem State.setBank_dram (s : State) (i : Nat) (b : Bank) : (s.setBank i b).dram = s.dram := rfl
@[simp] theorem State.setBank_ret (s : State) (i : Nat) (b : Bank) : (s.setBank i b).ret = s.ret := rfl
@[simp] theorem State.setBank_sram0 (s : State) (i : Nat) (b : Bank) : (s.setBank i b).sram0 = s.sram0 := rfl
@[simp] theorem State.setBank_sram1 (s : State) (i : Nat) (b : Bank) : (s.setBank i b).sram1 = s.sram1 := rfl
@[simp] theorem State.setBank_flash (s : State) (i : Nat) (b : Bank) : (s.setBank i b).flash = s.flash := rfl
@[simp] theorem State.setBank_part (s : State) (i : Nat) (b : Bank) : (s.setBank i b).part = s.part := rfl
@[simp] theorem State.setBank_sys (s : State) (i : Nat) (b : Bank) : (s.setBank i b).sys = s.sys := rfl
@[simp] theorem State.setBank_clk (s : State) (i : Nat) (b : Bank) : (s.setBank i b).clk = s.clk := rfl
@[simp] theorem State.setBank_tmg (s : State) (i : Nat) (b : Bank) : (s.setBank i b).tmg = s.tmg := rfl
@[simp] theorem State.setBank_cnv (s : State) (i : Nat) (b : Bank) : (s.setBank i b).cnv = s.cnv := rfl
@[simp] theorem State.setBank_str (s : State) (i : Nat) (b : Bank) : (s.setBank i b).str = s.str := rfl
@[simp] theorem State.setBank_time (s : State) (i : Nat) (b : Bank) : (s.setBank i b).time = s.time := rfl
@[simp] theorem State.setBank_frames (s : State) (i : Nat) (b : Bank) : (s.setBank i b).frames = s.frames := rfl
@[simp] theorem State.setBank_lnk (s : State) (i : Nat) (b : Bank) : (s.setBank i b).lnk = s.lnk := rfl
@[simp] theorem State.setBank_seals (s : State) (i : Nat) (b : Bank) : (s.setBank i b).seals = s.seals := rfl
@[simp] theorem State.setBank_vlt (s : State) (i : Nat) (b : Bank) : (s.setBank i b).vlt = s.vlt := rfl
@[simp] theorem State.setBank_fab (s : State) (i : Nat) (b : Bank) : (s.setBank i b).fab = s.fab := rfl
@[simp] theorem State.setBank_mon (s : State) (i : Nat) (b : Bank) : (s.setBank i b).mon = s.mon := rfl
@[simp] theorem State.setBank_thm (s : State) (i : Nat) (b : Bank) : (s.setBank i b).thm = s.thm := rfl
@[simp] theorem State.setBank_cal (s : State) (i : Nat) (b : Bank) : (s.setBank i b).cal = s.cal := rfl
@[simp] theorem State.setBank_wdt (s : State) (i : Nat) (b : Bank) : (s.setBank i b).wdt = s.wdt := rfl
@[simp] theorem State.setBank_evl (s : State) (i : Nat) (b : Bank) : (s.setBank i b).evl = s.evl := rfl

@[simp] theorem State.setReg_regs (s : State) (a : Nat) (v : Word) :
    (s.setReg a v).regs = sput resetWord s.regs a v := rfl
@[simp] theorem State.raise_staged (s : State) (e : Event) :
    (s.raise e).evl = { s.evl with staged := s.evl.staged ++ [e] } := rfl
@[simp] theorem State.goTo_now (s : State) (t : Nat) : (s.goTo t).now = max s.now t := rfl
@[simp] theorem State.setEvlInt_evl (s : State) (i : Nat) :
    (s.setEvlInt i).evl = { s.evl with intStatus := s.evl.intStatus ||| mkWord (2 ^ i) } := rfl
@[simp] theorem State.setPll_clk (s : State) (i : Nat) (p : Pll) :
    (s.setPll i p).clk = { s.clk with plls := sput (fun _ => {}) s.clk.plls i p } := rfl
@[simp] theorem State.setBank_plan (s : State) (i : Nat) (b : Bank) :
    (s.setBank i b).plan = s.plan.setBank i b := rfl

/-! ### The register file -/

/-- A register reads as it was last written; every other register is untouched. -/
theorem State.setReg_reg (s : State) (a b : Nat) (v : Word) :
    (s.setReg a v).reg b = if b = a then v else s.reg b := sget_sput _ _ _ _ _

@[simp] theorem State.setReg_reg_same (s : State) (a : Nat) (v : Word) : (s.setReg a v).reg a = v := by
  simp [State.setReg_reg]

theorem State.setReg_reg_other (s : State) {a b : Nat} (v : Word) (h : b ≠ a) :
    (s.setReg a v).reg b = s.reg b := by simp [State.setReg_reg, h]

/-- The register file of one state seen from another that shares it. -/
theorem State.reg_of_regs {s t : State} (h : t.regs = s.regs) (a : Nat) : t.reg a = s.reg a := by
  simp [State.reg, h]

@[simp] theorem State.note_reg (s : State) (a m : Nat) (q : Nat) : (s.note a m).reg q = s.reg q := rfl
@[simp] theorem State.raise_reg (s : State) (e : Event) (q : Nat) : (s.raise e).reg q = s.reg q := rfl
@[simp] theorem State.goTo_reg (s : State) (t : Nat) (q : Nat) : (s.goTo t).reg q = s.reg q := rfl
@[simp] theorem State.setEvlInt_reg (s : State) (i : Nat) (q : Nat) : (s.setEvlInt i).reg q = s.reg q := rfl
@[simp] theorem State.setPll_reg (s : State) (i : Nat) (p : Pll) (q : Nat) : (s.setPll i p).reg q = s.reg q := rfl
@[simp] theorem State.setBank_reg (s : State) (i : Nat) (b : Bank) (q : Nat) : (s.setBank i b).reg q = s.reg q := rfl

theorem State.rn_eq (s : State) (a : Nat) : s.rn a = (s.reg a).toNat := rfl
theorem State.rf_eq (s : State) (a lo w : Nat) : s.rf a lo w = field (s.reg a).toNat lo w := rfl
theorem State.rb_eq (s : State) (a i : Nat) : s.rb a i = (s.reg a).toNat.testBit i := rfl

/-! ### The end of a command's cycle: the event ledger and the note of R6 alone change -/

@[simp] theorem State.fin_pending (s : State) : s.fin.pending = s.pending := by simp only [State.fin]; split <;> rfl
@[simp] theorem State.fin_now (s : State) : s.fin.now = s.now := by simp only [State.fin]; split <;> rfl
@[simp] theorem State.fin_draws (s : State) : s.fin.draws = s.draws := by simp only [State.fin]; split <;> rfl
@[simp] theorem State.fin_regs (s : State) : s.fin.regs = s.regs := by simp only [State.fin]; split <;> rfl
@[simp] theorem State.fin_dram (s : State) : s.fin.dram = s.dram := by simp only [State.fin]; split <;> rfl
@[simp] theorem State.fin_ret (s : State) : s.fin.ret = s.ret := by simp only [State.fin]; split <;> rfl
@[simp] theorem State.fin_sram0 (s : State) : s.fin.sram0 = s.sram0 := by simp only [State.fin]; split <;> rfl
@[simp] theorem State.fin_sram1 (s : State) : s.fin.sram1 = s.sram1 := by simp only [State.fin]; split <;> rfl
@[simp] theorem State.fin_flash (s : State) : s.fin.flash = s.flash := by simp only [State.fin]; split <;> rfl
@[simp] theorem State.fin_part (s : State) : s.fin.part = s.part := by simp only [State.fin]; split <;> rfl
@[simp] theorem State.fin_sys (s : State) : s.fin.sys = s.sys := by simp only [State.fin]; split <;> rfl
@[simp] theorem State.fin_clk (s : State) : s.fin.clk = s.clk := by simp only [State.fin]; split <;> rfl
@[simp] theorem State.fin_tmg (s : State) : s.fin.tmg = s.tmg := by simp only [State.fin]; split <;> rfl
@[simp] theorem State.fin_plan (s : State) : s.fin.plan = s.plan := by simp only [State.fin]; split <;> rfl
@[simp] theorem State.fin_cnv (s : State) : s.fin.cnv = s.cnv := by simp only [State.fin]; split <;> rfl
@[simp] theorem State.fin_str (s : State) : s.fin.str = s.str := by simp only [State.fin]; split <;> rfl
@[simp] theorem State.fin_time (s : State) : s.fin.time = s.time := by simp only [State.fin]; split <;> rfl
@[simp] theorem State.fin_frames (s : State) : s.fin.frames = s.frames := by simp only [State.fin]; split <;> rfl
@[simp] theorem State.fin_lnk (s : State) : s.fin.lnk = s.lnk := by simp only [State.fin]; split <;> rfl
@[simp] theorem State.fin_seals (s : State) : s.fin.seals = s.seals := by simp only [State.fin]; split <;> rfl
@[simp] theorem State.fin_vlt (s : State) : s.fin.vlt = s.vlt := by simp only [State.fin]; split <;> rfl
@[simp] theorem State.fin_fab (s : State) : s.fin.fab = s.fab := by simp only [State.fin]; split <;> rfl
@[simp] theorem State.fin_mon (s : State) : s.fin.mon = s.mon := by simp only [State.fin]; split <;> rfl
@[simp] theorem State.fin_thm (s : State) : s.fin.thm = s.thm := by simp only [State.fin]; split <;> rfl
@[simp] theorem State.fin_cal (s : State) : s.fin.cal = s.cal := by simp only [State.fin]; split <;> rfl
@[simp] theorem State.fin_wdt (s : State) : s.fin.wdt = s.wdt := by simp only [State.fin]; split <;> rfl
@[simp] theorem State.fin_reg (s : State) (a : Nat) : s.fin.reg a = s.reg a := State.reg_of_regs (State.fin_regs s) a

end Sys2Proof.Machine
end

