-- ==== Sys2Proof/Laws/Access.lean ====
section
/-!
SUPPORT. What a command that stands for a register access comes to: the write behaviour that the home
chapter of the register gives it, one lemma per register that a command writes.
-/
set_option Elab.async false

namespace Sys2Proof.Machine

/-! ### Commands in and out of reset -/

theorem act_run {s : State} (f : State) (h : s.released = true) : act s f = .next f.fin := by simp [act, h, ok]

theorem act_held {s : State} (f : State) (h : s.released = false) : act s f = .next s := by simp [act, h]

theorem ok_next (s : State) : ok s = .next s.fin := rfl

/-! ### Word writes of plain registers -/

/-- A register outside the windows and memories: a word write of it is its home chapter's. -/
def plainReg (a : Nat) : Bool :=
  (a % 4 = 0) && !inDramWin a && (blockClass a).isSome && !inRet a && decide (a < 0x400000) &&
    !(decide (0x200000 ≤ a) && decide (a < 0x300000))

/-- A word write of a plain register is a register write. -/
theorem State.poke_plain (s : State) (who : Who) {a : Nat} (w : Word) (h : plainReg a = true) :
    s.poke who a w = s.regWrite who a w := by
  simp only [plainReg, Bool.and_eq_true, Bool.not_eq_true', decide_eq_true_eq] at h
  obtain ⟨⟨⟨⟨⟨h1, h2⟩, h3⟩, h4⟩, h5⟩, h6⟩ := h
  obtain ⟨c, hc⟩ := Option.isSome_iff_exists.mp h3
  have hsz : accessSize who 4 = 4 := by simp [accessSize]
  have ha : a / 4 * 4 = a := by omega
  have h7 : ¬ (0x200000 ≤ a ∧ a < 0x300000) := by
    rintro ⟨p, q⟩
    simp [p, q] at h6
  simp only [State.poke, State.write, hsz, ha, h2, hc, h4]
  rw [if_neg (by simp), if_neg (by simp), if_neg (by omega), if_neg (by omega), if_neg (by omega)]

/-- The record of a writer is the only thing that it changes. -/
theorem State.markWriter_frame (t : State) (who : Who) (a : Nat) :
    t.markWriter who a = { t with rwc := (t.markWriter who a).rwc } := by
  unfold State.markWriter; split <;> rfl

/-- The order of R290 changes nothing of the state but the record of the cycle's writes. -/
theorem State.wroteBy_frame (t s : State) (who : Who) (a : Nat) :
    t.wroteBy s who a = { t with rwc := (t.wroteBy s who a).rwc } := by
  unfold State.wroteBy; split
  · rfl
  · split
    · rfl
    · exact State.markWriter_frame t who a

theorem State.wroteBy_of_mask {a : Nat} (h : homeMask a = 0) (ha : a ≠ A.SYS_SERVICE ∧ a ≠ A.VLT_CMD)
    (t s : State) (who : Who) : t.wroteBy s who a = t.markWriter who a := by
  unfold State.wroteBy; rw [if_neg (fun k => k.1 h), if_neg (fun k => k.elim ha.1 ha.2)]

/-- A register with RW bits is written at once: R290 decides which value stands. -/
theorem State.turn_of_mask {a : Nat} (h : homeMask a ≠ 0) (s : State) (who : Who) : s.turn who a = s := by
  unfold State.turn; rw [if_neg (fun k => h k.1)]

/-- The first writer of a register in a cycle, and the last by R290, acts at once. -/
theorem State.turn_of_first {s : State} {who : Who} {a : Nat} (h : s.outranked who a = false) : s.turn who a = s := by
  unfold State.turn; rw [if_neg (fun k => by rw [h] at k; exact Bool.noConfusion k.2.1)]

/-- A write that R290 puts before one already made only waits: the device moves on to the next cycle. -/
theorem State.turn_frame (s : State) (who : Who) (a : Nat) :
    s.turn who a = { s with now := (s.turn who a).now } := by
  unfold State.turn; split <;> rfl

theorem State.standing_of_mask {a : Nat} (h : homeMask a = 0) (s : State) (who : Who) (w : Word) :
    s.standing who a w = w := by
  unfold State.standing; split
  · simp [h, mkWord]
  · rfl

/-- The first writer of a register in a cycle, and the last by R290, brings its own word. -/
theorem State.standing_of_first {s : State} {who : Who} {a : Nat} (h : s.outranked who a = false) (w : Word) :
    s.standing who a w = w := by simp [State.standing, h]

/-- The behaviour of the home chapter, when R294 does not turn the writer away. -/
theorem State.poke_write {s t : State} {who : Who} {a : Nat} {w : Word} (hp : plainReg a = true)
    (hd : who = .host → s.hostDenied a w = false)
    (h : (s.turn who a).homeWrite who a (s.standing who a w) = some t) :
    s.poke who a w = t.wroteBy s who a := by
  rw [State.poke_plain s who w hp]
  unfold State.regWrite
  rw [if_neg, h]
  rintro ⟨p, q⟩
  rw [hd p] at q
  exact Bool.noConfusion q

/-- A register with RW bits of its own. -/
theorem State.poke_ranked {s t : State} {who : Who} {a : Nat} {w : Word} (hp : plainReg a = true)
    (hd : who = .host → s.hostDenied a w = false) (h : s.homeWrite who a (s.standing who a w) = some t)
    (hm : homeMask a ≠ 0 := by decide) : s.poke who a w = t.wroteBy s who a :=
  State.poke_write hp hd (by rw [State.turn_of_mask hm]; exact h)

/-- A register whose writes only start, stop or clear something. -/
theorem State.poke_home {s t : State} {who : Who} {a : Nat} {w : Word} (hp : plainReg a = true)
    (hd : who = .host → s.hostDenied a w = false) (h : (s.turn who a).homeWrite who a w = some t)
    (hm : homeMask a = 0 := by decide) (ha : a ≠ A.SYS_SERVICE ∧ a ≠ A.VLT_CMD := by decide) :
    s.poke who a w = t.markWriter who a := by
  rw [State.poke_write hp hd (by rw [State.standing_of_mask hm]; exact h), State.wroteBy_of_mask hm ha]

/-- `SYS_SERVICE` (R300) and `VLT_CMD` (R418) keep an order of their own. -/
theorem State.poke_own {s t : State} {who : Who} {a : Nat} {w : Word} (ha : a = A.SYS_SERVICE ∨ a = A.VLT_CMD)
    (hd : who = .host → s.hostDenied a w = false) (h : s.homeWrite who a w = some t) : s.poke who a w = t := by
  have hp : plainReg a = true := by rcases ha with rfl | rfl <;> decide
  have hm : homeMask a = 0 := by rcases ha with rfl | rfl <;> decide
  have hs : s.turn who a = s := by
    unfold State.turn; rw [if_neg (fun k => ha.elim k.2.2.1 k.2.2.2)]
  rw [State.poke_write hp hd (by rw [State.standing_of_mask hm, hs]; exact h)]
  unfold State.wroteBy; rw [if_neg (fun k => k.1 hm), if_pos ha]

/-- A host write that R294 turns away. -/
theorem State.poke_denied {s : State} {a : Nat} {w : Word} (hp : plainReg a = true)
    (hd : s.hostDenied a w = true) :
    s.poke .host a w = s.denied ((blockClass a).getD clsSYS) .host a := by
  rw [State.poke_plain s .host w hp, State.regWrite, if_pos ⟨rfl, hd⟩]
theorem State.poke_PLAN_COMMIT_CTRL (s : State) (who : Who) (w : Word) :
    s.poke who A.PLAN_COMMIT_CTRL w =
      ((s.commitCtrlWrite who (s.standing who A.PLAN_COMMIT_CTRL w)).rigFlush).wroteBy s who A.PLAN_COMMIT_CTRL :=
  State.poke_ranked (by decide) (fun _ => rfl) rfl

theorem State.poke_PLAN_LOAD_CTRL (s : State) (who : Who) (w : Word) :
    s.poke who A.PLAN_LOAD_CTRL w =
      (s.loadCtrlWrite who (s.standing who A.PLAN_LOAD_CTRL w)).wroteBy s who A.PLAN_LOAD_CTRL :=
  State.poke_ranked (by decide) (fun _ => rfl) rfl

theorem State.poke_PLAN_LOAD_DATA (s : State) (who : Who) (w : Word) :
    s.poke who A.PLAN_LOAD_DATA w =
      ((s.turn who A.PLAN_LOAD_DATA).loadDataWrite who w).markWriter who A.PLAN_LOAD_DATA :=
  State.poke_home (by decide) (fun _ => rfl) rfl

theorem State.poke_PLAN_RIG_CTRL (s : State) (who : Who) (w : Word) :
    s.poke who A.PLAN_RIG_CTRL w =
      (s.rigCtrlWrite (s.standing who A.PLAN_RIG_CTRL w)).wroteBy s who A.PLAN_RIG_CTRL :=
  State.poke_ranked (by decide) (fun _ => rfl) rfl

theorem State.poke_CLK_CTRL (s : State) (who : Who) (w : Word) :
    s.poke who A.CLK_CTRL w =
      (s.clkCtrlWrite who (s.standing who A.CLK_CTRL w)).wroteBy s who A.CLK_CTRL :=
  State.poke_ranked (by decide) (fun _ => rfl) rfl

theorem State.poke_CLK_LPLL_EN (s : State) (who : Who) (w : Word) :
    s.poke who A.CLK_LPLL_EN w =
      (s.lpllWrite who (s.standing who A.CLK_LPLL_EN w)).wroteBy s who A.CLK_LPLL_EN :=
  State.poke_ranked (by decide) (fun _ => rfl) rfl

theorem State.poke_TMG_CTRL (s : State) (who : Who) (w : Word) :
    s.poke who A.TMG_CTRL w =
      ((s.turn who A.TMG_CTRL).tmgCtrlWrite who w (s.turn who A.TMG_CTRL).fgRuns).markWriter who A.TMG_CTRL :=
  State.poke_home (by decide) (fun _ => rfl) rfl

theorem State.poke_TMG_LIVE_CTRL (s : State) (who : Who) (w : Word) :
    s.poke who A.TMG_LIVE_CTRL w =
      (s.liveCtrlWrite (s.standing who A.TMG_LIVE_CTRL w)).wroteBy s who A.TMG_LIVE_CTRL :=
  State.poke_ranked (by decide) (fun _ => rfl) rfl

theorem State.poke_CNV_CTRL (s : State) (who : Who) (w : Word) :
    s.poke who A.CNV_CTRL w =
      (s.cnvCtrlWrite who (s.standing who A.CNV_CTRL w)).wroteBy s who A.CNV_CTRL :=
  State.poke_ranked (by decide) (fun _ => rfl) rfl

theorem State.poke_LNK_CTRL (s : State) (who : Who) (w : Word) :
    s.poke who A.LNK_CTRL w =
      ((s.turn who A.LNK_CTRL).lnkCtrlWrite who w).markWriter who A.LNK_CTRL :=
  State.poke_home (by decide) (fun _ => rfl) rfl

theorem State.poke_LNK_LANE_OK0 (s : State) (who : Who) (w : Word) :
    s.poke who A.LNK_LANE_OK0 w =
      ((s.turn who A.LNK_LANE_OK0).lanesOk w.toNat).markWriter who A.LNK_LANE_OK0 :=
  State.poke_home (by decide) (fun _ => rfl) rfl

theorem State.poke_LNK_LANE_OK1 (s : State) (who : Who) (w : Word) :
    s.poke who A.LNK_LANE_OK1 w =
      ((s.turn who A.LNK_LANE_OK1).lanesOk (wfield w 0 28 * 2 ^ 32)).markWriter who A.LNK_LANE_OK1 :=
  State.poke_home (by decide) (fun _ => rfl) rfl

theorem State.poke_LNK_FAIL_REQ0 (s : State) (who : Who) (w : Word) :
    s.poke who A.LNK_FAIL_REQ0 w =
      ((s.turn who A.LNK_FAIL_REQ0).lanesFailReq w.toNat).markWriter who A.LNK_FAIL_REQ0 :=
  State.poke_home (by decide) (fun _ => rfl) rfl

theorem State.poke_LNK_FAIL_REQ1 (s : State) (who : Who) (w : Word) :
    s.poke who A.LNK_FAIL_REQ1 w =
      ((s.turn who A.LNK_FAIL_REQ1).lanesFailReq (wfield w 0 28 * 2 ^ 32)).markWriter who A.LNK_FAIL_REQ1 :=
  State.poke_home (by decide) (fun _ => rfl) rfl

theorem State.poke_FAB_CTRL (s : State) (who : Who) (w : Word) :
    s.poke who A.FAB_CTRL w =
      (s.fabCtrlWrite (s.standing who A.FAB_CTRL w)).wroteBy s who A.FAB_CTRL :=
  State.poke_ranked (by decide) (fun _ => rfl) rfl

theorem State.poke_STR_STAT_CTRL (s : State) (who : Who) (w : Word) :
    s.poke who A.STR_STAT_CTRL w =
      (s.statCtrlWrite (s.standing who A.STR_STAT_CTRL w)).wroteBy s who A.STR_STAT_CTRL :=
  State.poke_ranked (by decide) (fun _ => rfl) rfl

theorem State.poke_SEC_CTRL (s : State) (who : Who) (w : Word) :
    s.poke who A.SEC_CTRL w =
      ((s.turn who A.SEC_CTRL).secCtrlWrite who w).markWriter who A.SEC_CTRL :=
  State.poke_home (by decide) (fun _ => rfl) rfl

theorem State.poke_SEC_SEAL_CTRL (s : State) (who : Who) (w : Word) :
    s.poke who A.SEC_SEAL_CTRL w =
      (s.sealCtrlWrite (s.standing who A.SEC_SEAL_CTRL w)).wroteBy s who A.SEC_SEAL_CTRL :=
  State.poke_ranked (by decide) (fun _ => rfl) rfl

theorem State.poke_CAL_CTRL (s : State) (who : Who) (w : Word) :
    s.poke who A.CAL_CTRL w =
      ((s.turn who A.CAL_CTRL).calCtrlWrite w).markWriter who A.CAL_CTRL :=
  State.poke_home (by decide) (fun _ => rfl) rfl

theorem State.poke_CAL_EQ_CTRL (s : State) (who : Who) (w : Word) :
    s.poke who A.CAL_EQ_CTRL w =
      (s.eqCtrlWrite (s.standing who A.CAL_EQ_CTRL w)).wroteBy s who A.CAL_EQ_CTRL :=
  State.poke_ranked (by decide) (fun _ => rfl) rfl

theorem State.poke_CAL_EQ_EYE (s : State) (who : Who) (w : Word) :
    s.poke who A.CAL_EQ_EYE w =
      ((s.turn who A.CAL_EQ_EYE).eqEye w).markWriter who A.CAL_EQ_EYE :=
  State.poke_home (by decide) (fun _ => rfl) rfl

theorem State.poke_EVL_ACK (s : State) (who : Who) (w : Word) :
    s.poke who A.EVL_ACK w =
      ((s.turn who A.EVL_ACK).evlAckWrite who w).markWriter who A.EVL_ACK :=
  State.poke_home (by decide) (fun _ => rfl) rfl

/-! ### The home chapter by the block of the address -/

theorem State.homeWrite_lnkWrite (s : State) (who : Who) {a : Nat} (v : Word) (h : a / 0x10000 = 0x30) :
    s.homeWrite who a v = s.lnkWrite who a v := by simp only [State.homeWrite, h]

theorem State.homeWrite_timeWrite (s : State) (who : Who) {a : Nat} (v : Word) (h : a / 0x10000 = 0x32) :
    s.homeWrite who a v = (s.timeWrite who a v).map State.rigFlush := by simp only [State.homeWrite, h]

theorem State.homeWrite_thmWrite (s : State) (who : Who) {a : Nat} (v : Word) (h : a / 0x10000 = 0x34) :
    s.homeWrite who a v = s.thmWrite who a v := by simp only [State.homeWrite, h]

theorem State.homeWrite_wdtWrite (s : State) (who : Who) {a : Nat} (v : Word) (h : a / 0x10000 = 0x35) :
    s.homeWrite who a v = s.wdtWrite who a v := by simp only [State.homeWrite, h]

theorem State.homeWrite_vltWrite (s : State) (who : Who) {a : Nat} (v : Word) (h : a / 0x10000 = 0x36) :
    s.homeWrite who a v = s.vltWrite who a v := by simp only [State.homeWrite, h]

theorem State.hostDenied_of_open (s : State) {a : Nat} (v : Word) (h : a / 0x10000 < 0x33) :
    s.hostDenied a v = false := by
  unfold State.hostDenied
  split <;> first | omega | rfl

/-! ### Registers that some writers may not write -/

theorem State.poke_SYS_MODE_REQ (s : State) (who : Who) (w : Word) :
    s.poke who A.SYS_MODE_REQ w =
      (s.modeReqWrite (s.standing who A.SYS_MODE_REQ w)).wroteBy s who A.SYS_MODE_REQ :=
  State.poke_ranked (by decide) (fun _ => rfl) (by cases who <;> rfl)

theorem State.poke_SYS_SERVICE (s : State) (who : Who) (w : Word) :
    s.poke who A.SYS_SERVICE w = s.serviceWrite who w :=
  State.poke_own (.inl rfl) (fun _ => rfl) (by cases who <;> rfl)

theorem State.poke_SYS_RCV_DATA (s : State) (who : Who) (w : Word) :
    s.poke who A.SYS_RCV_DATA w =
      ((s.turn who A.SYS_RCV_DATA).rcvData who w).markWriter who A.SYS_RCV_DATA :=
  State.poke_home (by decide) (fun _ => rfl) (by cases who <;> rfl)

theorem State.poke_SYS_MBOX_CMD (s : State) (who : Who) (w : Word) :
    s.poke who A.SYS_MBOX_CMD w =
      ((s.turn who A.SYS_MBOX_CMD).mboxCmd (wfield w 0 8)).markWriter who A.SYS_MBOX_CMD :=
  State.poke_home (by decide) (fun _ => rfl) (by cases who <;> rfl)

theorem State.poke_SYS_ALARM_ACK (s : State) (who : Who) (w : Word) :
    s.poke who A.SYS_ALARM_ACK w =
      State.markWriter (if who = .host then (s.turn who A.SYS_ALARM_ACK).denied clsSYS .host A.SYS_ALARM_ACK
        else (s.turn who A.SYS_ALARM_ACK).alarmAck who w) who A.SYS_ALARM_ACK :=
  State.poke_home (by decide) (fun _ => rfl) (by cases who <;> rfl)

theorem State.poke_SYS_BULK_CTRL (s : State) (who : Who) (w : Word) :
    s.poke who A.SYS_BULK_CTRL w =
      State.wroteBy (if who = .host then s.denied clsSYS .host A.SYS_BULK_CTRL
        else s.bulkCtrlWrite (s.standing who A.SYS_BULK_CTRL w)) s who A.SYS_BULK_CTRL := by
  refine State.poke_ranked (by decide) (fun _ => rfl) ?_
  generalize s.standing who A.SYS_BULK_CTRL w = v
  have h1 : s.homeWrite who A.SYS_BULK_CTRL v = s.sysWrite who A.SYS_BULK_CTRL v := rfl
  rw [h1]
  cases who
  · rfl
  all_goals
    rw [State.sysWrite, if_neg (by decide), if_neg (by decide), if_neg (by decide), if_neg (by decide),
      if_neg (by decide), if_neg (by decide), if_neg (by decide), if_pos rfl, if_neg (by decide)]

theorem State.poke_STR_CTRL (s : State) (who : Who) (w : Word) :
    s.poke who A.STR_CTRL w =
      State.wroteBy (if who = .host then s.ignored clsSTR .host A.STR_CTRL
        else s.strCtrlWrite (s.standing who A.STR_CTRL w)) s who A.STR_CTRL :=
  State.poke_ranked (by decide) (fun _ => rfl) (by cases who <;> rfl)

theorem State.poke_WDT_CTRL (s : State) (who : Who) (w : Word) :
    s.poke who A.WDT_CTRL w =
      if who = .host then s.denied clsWDT .host A.WDT_CTRL
      else ((s.turn who A.WDT_CTRL).wdtCtrlWrite who w).markWriter who A.WDT_CTRL := by
  cases who
  · exact State.poke_denied (by decide) rfl
  all_goals exact State.poke_home (by decide) (fun h => by cases h) rfl

theorem State.poke_WDT_TALLY (s : State) (who : Who) (w : Word) :
    s.poke who A.WDT_TALLY w =
      if who = .host then s.denied clsWDT .host A.WDT_TALLY
      else ((s.turn who A.WDT_TALLY).wdtTallyWrite who w).markWriter who A.WDT_TALLY := by
  cases who
  · exact State.poke_denied (by decide) rfl
  all_goals
    refine State.poke_home (by decide) (fun h => by cases h) ?_
    rw [State.homeWrite_wdtWrite _ _ w (by decide)]
    rw [State.wdtWrite, if_neg (by decide), if_neg (by decide), if_neg (by decide), if_pos rfl]

theorem State.poke_THM_CTRL (s : State) (who : Who) (w : Word) :
    s.poke who A.THM_CTRL w =
      if who = .host then s.denied clsTHM .host A.THM_CTRL
      else ((s.turn who A.THM_CTRL).thmCtrlWrite w).markWriter who A.THM_CTRL := by
  cases who
  · exact State.poke_denied (by decide) rfl
  all_goals exact State.poke_home (by decide) (fun h => by cases h) rfl

theorem State.poke_VLT_LOCK_SET (s : State) (who : Who) (w : Word) :
    s.poke who A.VLT_LOCK_SET w =
      if who = .host then s.denied clsVLT .host A.VLT_LOCK_SET
      else ((s.turn who A.VLT_LOCK_SET).vaultLockSet w).markWriter who A.VLT_LOCK_SET := by
  cases who
  · exact State.poke_denied (by decide) rfl
  all_goals exact State.poke_home (by decide) (fun h => by cases h) rfl

theorem State.poke_VLT_CMD (s : State) (who : Who) (w : Word) :
    s.poke who A.VLT_CMD w = s.vaultCmd who (wfield w 0 4) :=
  State.poke_own (.inr rfl) (fun _ => rfl) rfl

theorem State.poke_EVL_FW_ENTRY (s : State) (who : Who) (w : Word) :
    s.poke who A.EVL_FW_ENTRY w =
      if who = .host then s.denied clsEVL .host A.EVL_FW_ENTRY
      else ((s.turn who A.EVL_FW_ENTRY).evlFwEntryWrite who w).markWriter who A.EVL_FW_ENTRY := by
  cases who
  · exact State.poke_denied (by decide) rfl
  all_goals exact State.poke_home (by decide) (fun h => by cases h) rfl

theorem State.poke_EVL_DUMP_CTRL (s : State) (who : Who) (w : Word) :
    s.poke who A.EVL_DUMP_CTRL w =
      if who = .host then s.denied clsEVL .host A.EVL_DUMP_CTRL
      else State.markWriter (if wbit w 0 then (s.turn who A.EVL_DUMP_CTRL).dumpStart (if who = .mc1 then .mc1 else .mc0)
        else s.turn who A.EVL_DUMP_CTRL) who A.EVL_DUMP_CTRL := by
  cases who
  · exact State.poke_denied (by decide) rfl
  all_goals exact State.poke_home (by decide) (fun h => by cases h) rfl

theorem State.poke_MON_CTRL (s : State) {who : Who} (w : Word) (h : who ≠ .host) :
    s.poke who A.MON_CTRL w =
      (s.monCtrlWrite (s.standing who A.MON_CTRL w)).wroteBy s who A.MON_CTRL :=
  State.poke_ranked (by decide) (fun e => absurd e h) (by cases who <;> first | rfl | exact absurd rfl h)

theorem State.poke_MON_SEL (s : State) {who : Who} (w : Word) (h : who ≠ .host) :
    s.poke who A.MON_SEL w =
      (s.monSet A.MON_SEL ((s.standing who A.MON_SEL w).toNat &&& 0x371F) who).wroteBy s who A.MON_SEL :=
  State.poke_ranked (by decide) (fun e => absurd e h) rfl

theorem State.poke_MON_FILT (s : State) {who : Who} (w : Word) (h : who ≠ .host) :
    s.poke who A.MON_FILT w =
      (s.monSet A.MON_FILT ((s.standing who A.MON_FILT w).toNat &&& 0xFFFFFFF) who).wroteBy s who A.MON_FILT :=
  State.poke_ranked (by decide) (fun e => absurd e h) rfl

theorem State.poke_MON_ACC_CLR (s : State) {who : Who} (w : Word) (h : who ≠ .host) :
    s.poke who A.MON_ACC_CLR w =
      ((s.turn who A.MON_ACC_CLR).monClear w.toNat).markWriter who A.MON_ACC_CLR :=
  State.poke_home (by decide) (fun e => absurd e h) rfl

/-! ### Rows of registers -/

theorem State.poke_LNK_EQ (s : State) (who : Who) (l : Fin 60) (w : Word) :
    s.poke who (A.LNK_EQ + 4 * l.val) w =
      State.wroteBy (s.eqWrite l.val (s.standing who (A.LNK_EQ + 4 * l.val) w)) s who (A.LNK_EQ + 4 * l.val) := by
  have hl := l.isLt
  refine State.poke_ranked ?_ (fun _ => State.hostDenied_of_open s w ?_) ?_ ?hm
  · revert l; decide
  · simp only [A.LNK_EQ]; omega
  · rw [State.homeWrite_lnkWrite s who _ (by simp only [A.LNK_EQ]; omega)]
    simp only [State.lnkWrite, A.LNK_EQ, A.LNK_CTRL, A.LNK_LANE_OK0, A.LNK_LANE_OK1, A.LNK_FAIL_REQ0,
      A.LNK_FAIL_REQ1]
    rw [if_neg (by omega), if_neg (by omega), if_neg (by omega), if_neg (by omega), if_neg (by omega),
      if_pos (by omega)]
    congr 2; omega
  case hm => revert l; decide

theorem State.poke_TIME_TB_CTRL (s : State) (who : Who) (k : Fin 4) (w : Word) :
    s.poke who (tbReg k.val 0) w =
      State.wroteBy ((s.tbCtrlWrite k.val (s.standing who (tbReg k.val 0) w)).rigFlush) s who (tbReg k.val 0) := by
  have hk := k.isLt
  refine State.poke_ranked ?_ (fun _ => State.hostDenied_of_open s w ?_) ?_ ?hm
  · revert k; decide
  · simp only [tbReg]; omega
  · rw [State.homeWrite_timeWrite s who _ (by simp only [tbReg]; omega)]
    have h1 : tbReg k.val 0 - 0x320000 = 64 * k.val := by simp only [tbReg]; omega
    have h2 : 64 * k.val % 64 = 0 := by omega
    have h3 : 64 * k.val / 64 = k.val := by omega
    simp only [State.timeWrite, h1, h2, h3]
    rw [if_pos (by omega)]
    rfl
  case hm => revert k; decide

theorem State.poke_TIME_TB_INC_LO (s : State) (who : Who) (k : Fin 4) (w : Word) :
    s.poke who (tbReg k.val 0x1C) w =
      State.wroteBy ((s.tbIncWrite k.val (s.standing who (tbReg k.val 0x1C) w)).rigFlush) s who (tbReg k.val 0x1C) := by
  have hk := k.isLt
  refine State.poke_ranked ?_ (fun _ => State.hostDenied_of_open s w ?_) ?_ ?hm
  · revert k; decide
  · simp only [tbReg]; omega
  · rw [State.homeWrite_timeWrite s who _ (by simp only [tbReg]; omega)]
    have h1 : tbReg k.val 0x1C - 0x320000 = 64 * k.val + 0x1C := by simp only [tbReg]; omega
    have h2 : (64 * k.val + 0x1C) % 64 = 0x1C := by omega
    have h3 : (64 * k.val + 0x1C) / 64 = k.val := by omega
    simp only [State.timeWrite, h1, h2, h3]
    rw [if_pos (by omega)]
    rfl
  case hm => revert k; decide

theorem State.poke_TIME_TPO_CTRL (s : State) (who : Who) (i : Fin 8) (w : Word) :
    s.poke who (tpoReg i.val 0) w =
      State.wroteBy ((s.tpoCtrlWrite i.val who (s.standing who (tpoReg i.val 0) w)).rigFlush) s who (tpoReg i.val 0) := by
  have hi := i.isLt
  refine State.poke_ranked ?_ (fun _ => State.hostDenied_of_open s w ?_) ?_ ?hm
  · revert i; decide
  · simp only [tpoReg]; omega
  · rw [State.homeWrite_timeWrite s who _ (by simp only [tpoReg]; omega)]
    have h1 : tpoReg i.val 0 - 0x320000 = 64 * i.val + 0x300 := by simp only [tpoReg]; omega
    have h3 : (64 * i.val + 0x300 - 0x300) / 64 = i.val := by omega
    simp only [State.timeWrite, h1, h3]
    rw [if_neg (by omega), if_neg (by omega), if_pos (by omega)]
    rfl
  case hm => revert i; decide

theorem State.poke_TIME_CAP_CTRL (s : State) (who : Who) (x : Fin 3) (w : Word) :
    s.poke who (capReg x.val 0) w =
      State.wroteBy ((s.capCtrlWrite x.val (s.standing who (capReg x.val 0) w)).rigFlush) s who (capReg x.val 0) := by
  have hx := x.isLt
  refine State.poke_ranked ?_ (fun _ => State.hostDenied_of_open s w ?_) ?_ ?hm
  · revert x; decide
  · simp only [capReg]; omega
  · rw [State.homeWrite_timeWrite s who _ (by simp only [capReg]; omega)]
    have h1 : capReg x.val 0 - 0x320000 = 32 * x.val + 0x600 := by simp only [capReg]; omega
    have h3 : (32 * x.val + 0x600 - 0x600) / 32 = x.val := by omega
    simp only [State.timeWrite, h1, h3]
    rw [if_neg (by omega), if_neg (by omega), if_neg (by omega), if_neg (by omega), if_pos (by omega)]
    rfl
  case hm => revert x; decide

theorem State.poke_THM_THR (s : State) {who : Who} (i : Fin 68) (w : Word) (h : who ≠ .host) :
    s.poke who (A.THM_THR + 4 * i.val) w =
      State.wroteBy (s.thmCfgWrite who (A.THM_THR + 4 * i.val) (s.standing who (A.THM_THR + 4 * i.val) w).toNat) s who (A.THM_THR + 4 * i.val) := by
  refine State.poke_ranked ?_ (fun e => absurd e h) ?_ ?hm
  · revert i; decide
  · have hb : ∀ i : Fin 68, thmLockBits (A.THM_THR + 4 * i.val) ≠ 0 ∧ A.THM_THR + 4 * i.val ≠ A.THM_CTRL ∧
        (A.THM_THR + 4 * i.val) / 0x10000 = 0x34 := by decide
    obtain ⟨h1, h2, h3⟩ := hb i
    rw [State.homeWrite_thmWrite s who _ h3]
    simp [State.thmWrite, h1, h2]
  case hm => revert i; decide

/-- VENDOR shadow words, rows 0 to 63: any writer may reach them (R430). -/
theorem State.poke_VLT_SHADOW (s : State) (who : Who) (i : Fin 128) (w : Word) :
    s.poke who (A.VLT_SHADOW + 4 * i.val) w =
      ((s.turn who (A.VLT_SHADOW + 4 * i.val)).shadowWrite who (A.VLT_SHADOW + 4 * i.val) w).markWriter who
        (A.VLT_SHADOW + 4 * i.val) := by
  have hb : ∀ i : Fin 128, (A.VLT_SHADOW + 4 * i.val) / 0x10000 = 0x36 ∧ vltHostMay (A.VLT_SHADOW + 4 * i.val) = true ∧
      A.VLT_SHADOW + 4 * i.val ≠ A.SYS_SERVICE ∧
      A.VLT_SHADOW + 4 * i.val ≠ A.VLT_LOCK_SET ∧ A.VLT_SHADOW + 4 * i.val ≠ A.VLT_CMD := by decide
  obtain ⟨h1, h2, h0, h3, h4⟩ := hb i
  have hi := i.isLt
  refine State.poke_home ?_ (fun _ => ?_) ?_ (by revert i; decide) ⟨h0, h4⟩
  · revert i; decide
  · simp [State.hostDenied, h1, h2]
  · rw [State.homeWrite_vltWrite _ who w h1]
    simp only [State.vltWrite, if_neg h3, if_neg h4]
    rw [if_pos (by omega)]

end Sys2Proof.Machine
end

