-- ==== Sys2Proof/Laws/Fold.lean ====
section
/-!
SUPPORT. What every element of a fold leaves alone, the fold leaves alone.
-/
set_option Elab.async false

namespace Sys2Proof.Machine

theorem foldl_keeps {β γ : Type} (π : State → γ) (f : State → β → State) (l : List β) (s : State)
    (h : ∀ a x, π (f a x) = π a) : π (l.foldl f s) = π s := by
  induction l generalizing s with
  | nil => rfl
  | cons x r ih => rw [List.foldl_cons, ih, h]

/-- The same for what each element of the list does to it. -/
theorem foldl_keeps_mem {β γ : Type} (π : State → γ) (f : State → β → State) (l : List β) (s : State)
    (h : ∀ a, ∀ x ∈ l, π (f a x) = π a) : π (l.foldl f s) = π s := by
  induction l generalizing s with
  | nil => rfl
  | cons x r ih =>
    rw [List.foldl_cons, ih _ fun a y hy => h a y (List.mem_cons_of_mem _ hy), h _ _ List.mem_cons_self]

end Sys2Proof.Machine
end

