-- ==== Sys2Proof/Machine/Pins.lean ====
section
/-!
DEFINITION. Levels at the contacts: in reset and with VIO absent (16_electrical_and_package.md R453), and those that
follow from the state (R266, R293, R345, R377).
-/
namespace Sys2Proof.Machine

/-- What the device does at an output contact. -/
inductive PinLevel where
  /-- Driven to VIO, or to VSS. -/
  | high | low
  /-- Not driven. -/
  | open_
  /-- An open-drain output that is not pulled low. -/
  | released
  /-- A differential pair in electrical idle. -/
  | idle
  deriving DecidableEq, Repr

/-- Output contacts (R450). -/
inductive Contact where
  | laneTx (lane : Nat)
  | fabricTx (port : Nat)
  | portData
  | tdo
  | flashCs
  | flashOther
  | tpo (i : Nat)
  | intN
  | alertN
  deriving DecidableEq, Repr

/-- The level at a contact in reset, and while VIO is absent (R453). -/
def restLevel (vio : Bool) : Contact → PinLevel
  | .laneTx _ | .fabricTx _ => .idle
  | .flashCs => if vio then .high else .open_
  | .intN | .alertN => .released
  | .portData | .tdo | .flashOther | .tpo _ => .open_

/-- Level of contact TPOi, i = 0 to 3, at instant `t` (R266): while PIN_EN is set it is active during a pulse, active
high while POL is 0; without PIN_EN the generator does not drive it. -/
def State.tpoLevel (s : State) (i t : Nat) : PinLevel :=
  if ¬ s.rb (tpoReg i 0) 6 then .open_
  else
    let on := match (s.tpo i).pulse with | some (a, b) => decide (a ≤ t) && decide (t < b) | none => false
    if on != s.rb (tpoReg i 0) 5 then .high else .low

/-- An open-drain output. -/
def drain (asserted : Bool) : PinLevel := if asserted then .low else .released

/-- The level at a contact at instant `t`, with VIO present or not: none where it depends on traffic that the model
does not follow bit by bit. The host control port is taken to be driven from the release of reset on (R293). -/
def State.contact (s : State) (vio : Bool) (t : Nat) (c : Contact) : Option PinLevel :=
  if ¬ s.released ∨ ¬ vio then some (restLevel vio c)
  else
    match c with
    | .tpo i => some (s.tpoLevel i t)
    | .intN => some (drain s.intN)
    | .alertN => some (drain s.thm.pinLow)
    | .laneTx p => if (s.lane p).state = .off then some .idle else none
    | .fabricTx p => if s.portEnabled p then none else some .idle
    | .portData | .tdo | .flashCs | .flashOther => none

end Sys2Proof.Machine
end

