-- ==== Sys2Proof/WellFormed.lean ====
section
/-!
DEFINITION. Well-formed commands: operands within the widths and ranges that the manual gives what
they stand for.
-/
set_option Elab.async false

namespace Sys2Proof

/-- A column line of the array, optically black columns included (02_array_and_exposure.md R36). -/
def inCols (c : Int) : Bool := decide (-64 ≤ c) && decide (c < 20544)

/-- Comparator decisions are 15 bits, of a line of a bank (03_converter_fabric.md R77). -/
def Conv.wf (x : Conv) : Bool :=
  decide (x.bank < 2) && inCols x.col && decide (x.h < 2 ^ 15) && decide (x.l < 2 ^ 15)

/-- Fuse rows have 64 bits (14_vault_and_security.md R407). -/
def Burn.wf (b : Burn) : Bool :=
  decide (b.n0 < 2 ^ 64) && decide (b.n1 < 2 ^ 64) && decide (b.t0 < 2 ^ 64) && decide (b.t1 < 2 ^ 64)

/-- The device has three fabric ports (08_rig_fabric_and_time.md R231). -/
def isPort (p : Nat) : Bool := decide (p < 3)

/-- A frame on a port, of at most 2080 bytes (R234). -/
def isBody (p : Nat) (b : List Byte) : Bool := isPort p && decide (b.length ≤ 2080)

/-- Accesses have 8, 16 or 32 bits, those of the host control port 32 (15_register_map.md R434). -/
def okSize (w : Who) (n : Nat) : Bool := n = 4 || (w ≠ .host && (n = 1 || n = 2))

/-- A read has a size its reader can use (15_register_map.md R434). -/
def Reader.wf (r : Reader) : Bool := okSize r.who r.size

/-- The command's operands are in range. -/
def Instr.wf (i : Instr) : Bool :=
  match i with
  | .subFrameTick => true
  | .frameTick => true
  | .integrationStart => true
  | .globalTransfer => true
  | .rowSlot convs => convs.all Conv.wf
  | .referenceSwitch => true
  | .readoutComplete => true
  | .rotationEvaluate meas => meas.all fun m => decide (m.bank < 2) && decide (m.group < 322)
  | .frameComplete => true
  | .statDelivery => true
  | .frameHeaderSend => true
  | .linePacketSend => true
  | .reconPacketSend => true
  | .frameTrailerSend => true
  | .statPacketSend => true
  | .sealPacketSend => true
  | .dumpPacketSend => true
  | .laneMarkerSend => true
  | .sealSignDone _ => true
  | .trainGo _ _ => true
  | .laneOkWrite _ _ _ => true
  | .laneFailReq _ _ _ => true
  | .laneDriverFault _ kind => kind = 0 || kind = 2 || kind = 3
  | .eqWrite _ _ _ => true
  | .linkDumpGo _ _ => true
  | .linkDumpAbort _ _ => true
  | .linkDumpDone => true
  | .lnkCntClr _ _ => true
  | .loadStart _ _ => true
  | .loadDataWrite _ _ => true
  | .loadFinish _ _ => true
  | .loadAbort _ _ => true
  | .flashGo _ _ => true
  | .flashHeaderRead _ => true
  | .flashCopyDone _ => true
  | .planCheckDone => true
  | .commitGo _ _ => true
  | .commitCancel _ _ => true
  | .rigCommitGo _ _ => true
  | .rigCommitCancel _ _ => true
  | .rigCommit port body => isBody port body
  | .rigAck port body => isBody port body
  | .rigDone port body => isBody port body
  | .rigCancel port body => isBody port body
  | .rigCommitTimeout => true
  | .softTrig _ _ => true
  | .trigEdge _ => true
  | .realign _ _ => true
  | .presetLoad _ _ => true
  | .tmgCntClr _ _ => true
  | .genlockEdge _ => true
  | .sequencerStart => true
  | .liveGo _ _ => true
  | .liveCopy _ _ => true
  | .retireGo _ _ => true
  | .tdacGo _ _ => true
  | .tdacInjectionStart => true
  | .tdacInjectionDone convs =>
    convs.all fun x => inCols x.col && decide (x.a < 2 ^ 15) && decide (x.b < 2 ^ 15)
  | .cnvCntClr _ _ => true
  | .sliceWindowWrite _ off _ => decide (off < 2 ^ 20) && off % 4 = 0
  | .sliceWord0Read r slice => r.wf && decide (slice < 83720)
  | .takeoverGo _ _ => true
  | .restoreGo _ _ => true
  | .testGo _ _ => true
  | .datapathFault _ kind => decide (kind < 4)
  | .selftestDone _ => true
  | .spareSelftest dp _ => dp = 80 || dp = 81
  | .statHoldWrite _ _ => true
  | .centroidFrameRead r => r.wf
  | .linkinfoSend port => isPort port
  | .linkinfo port peerPort peerAddr _ serial =>
    isPort port && decide (peerPort < 4) && decide (peerAddr < 64) && decide (serial < 2 ^ 40)
  | .portUp port => isPort port
  | .portDown port _ => isPort port
  | .fabricFrameSend port => isPort port
  | .fabricFrameForward port body => isBody port body
  | .ack port _ _ => isPort port
  | .nak port _ _ => isPort port
  | .hopAckTimeout port => isPort port
  | .probe port body => isBody port body
  | .report port body => isBody port body
  | .probeTimeout => true
  | .assign port body => isBody port body
  | .assignAck port body => isBody port body
  | .linkEvent port body => isBody port body
  | .partition port body => isBody port body
  | .discGo _ _ => true
  | .yield _ _ => true
  | .firmwareControlMessage port body => isBody port body
  | .eventSummary port body => isBody port body
  | .proxyFragment port body => isBody port body
  | .bulkWrite port body => isBody port body
  | .bulkEnd port body => isBody port body
  | .bulkWindowOpen _ _ => true
  | .tbIncWrite _ _ _ => true
  | .stepGo _ _ _ => true
  | .setGo _ _ _ => true
  | .tbRunWrite _ _ _ => true
  | .tbSecLoRead r _ => r.wf
  | .sync port body => (port = 3 || isPort port) && decide (body.length ≤ 2080)
  | .followUp port body => (port = 3 || isPort port) && decide (body.length ≤ 2080)
  | .ptpGeneralMessage port body => (port = 3 || isPort port) && decide (body.length ≤ 2080)
  | .delayReq port body => (port = 3 || isPort port) && decide (body.length ≤ 2080)
  | .pdelayReqSend port domain => isPort port && decide (domain < 2)
  | .pdelayReq port body => (port = 3 || isPort port) && decide (body.length ≤ 2080)
  | .pdelayResp port body => (port = 3 || isPort port) && decide (body.length ≤ 2080)
  | .pdelayRespFollowUp port body => (port = 3 || isPort port) && decide (body.length ≤ 2080)
  | .pdelayTimeout port domain => isPort port && decide (domain < 2)
  | .pendingEntryEvict => true
  | .domainLostTimeout domain => decide (domain < 2)
  | .xchkSample => true
  | .armGo _ _ _ => true
  | .disarm _ _ _ => true
  | .tpoFire _ => true
  | .captureEdge _ _ _ => true
  | .capturePop r _ => r.wf
  | .captureClear _ _ _ => true
  | .refclkMonitorWindow _ => true
  | .refclkEdgeTimeout _ => true
  | .pllLockWindow _ win => decide (1600000 ≤ win.div) && decide (win.div ≤ 3200000)
  | .pllAcqSlow _ => true
  | .pll1EnableWrite _ _ => true
  | .lpllEnableWrite _ _ => true
  | .write _ _ _ => true
  | .read _ _ _ => true
  | .status => true
  | .unknownOp op => op ≠ 0x02 && op ≠ 0x0B && op ≠ 0x05
  | .registerWrite who aper _ size _ => decide (aper < 16) && okSize who size
  | .dramWindowWrite who aper off size _ => decide (aper < 16) && decide (off < 2 ^ 28) && okSize who size
  | .modeRequest _ _ => true
  | .serviceUnlock _ _ => true
  | .fwUpdate _ _ _ _ => true
  | .fwActivate _ _ => true
  | .coreRestart _ _ _ => true
  | .stripeTakeover _ _ => true
  | .stripeRestore _ _ => true
  | .stripeTest _ _ => true
  | .saveMaps _ => true
  | .recoverWrite _ _ _ => true
  | .recoveryDataWrite _ _ => true
  | .mboxDone _ => true
  | .restartTallyGraceEnd core => decide (core < 2)
  | .alarmFifoRead r => r.wf
  | .alarmAckNone _ unit => decide (unit < 2 ^ 24)
  | .alarmAckTakeover _ unit => decide (unit < 2 ^ 24)
  | .alarmAckRetire _ unit => decide (unit < 2 ^ 24)
  | .alarmAckFailLane _ unit => decide (unit < 2 ^ 24)
  | .powerOnReset => true
  | .supplyTrip _ _ _ => true
  | .pinReset _ _ => true
  | .hostReset _ _ => true
  | .firmwareReset _ _ _ => true
  | .resetRelease straps _ => decide (straps < 4)
  | .bootStep _ => true
  | .debugHalt core => decide (core < 2)
  | .debugRelease core => decide (core < 2)
  | .wdtStart _ _ => true
  | .wdtLock _ _ => true
  | .wdtTally _ _ => true
  | .wdtWindowOpen => true
  | .wdtPeriodEnd => true
  | .wdtHardTimerEnd _ => true
  | .evlAck _ _ => true
  | .evlFwEntry _ _ => true
  | .evlHoldoffEnd => true
  | .eventSummarySend => true
  | .incidentDumpGo _ _ => true
  | .incidentDumpComplete => true
  | .monOutput _ => true
  | .monConfigWrite _ _ _ => true
  | .monAccClr _ _ => true
  | .accClrAll _ _ => true
  | .monSumLoRead r _ => r.wf
  | .monCalGo _ _ => true
  | .monCalDone _ _ => true
  | .thmExtScan => true
  | .thmExtScanEnd _ => true
  | .thmSensorWindow wins => wins.length = 64
  | .thmGraceEnd => true
  | .thmCritTimerEnd => true
  | .thmPersistTimerEnd => true
  | .thmReleaseTimerEnd => true
  | .alertPinRelease => true
  | .thmLock _ _ => true
  | .thresholdWrite _ _ _ => true
  | .grant _ _ => true
  | .defer_ _ _ => true
  | .runGo _ _ => true
  | .calAnswerTimeout => true
  | .calDeferEnd => true
  | .calHoldoffEnd => true
  | .calClockTimeout => true
  | .fgCnvPassesDone slices refs _ _ =>
    slices.all (fun x => decide (x.slice < 83720)) && refs.all fun x => decide (x.entry < 10304)
  | .calEqEyeWrite _ _ => true
  | .stepDone _ _ => true
  | .calEqStepTimeout => true
  | .darkRunDone _ cols pix =>
    cols.all (fun x => decide (x.bank < 2) && decide (x.path < 2) && inCols x.col) && pix.all fun x => inCols x.col
  | .calSaveDone _ => true
  | .mint _ row _ _ => decide (row < 256)
  | .finalise _ region => decide (region < 256)
  | .close_ _ region => decide (region < 256)
  | .revoke _ slot => decide (slot < 256)
  | .vaultCmdDone burns => burns.all Burn.wf
  | .vaultLockSet _ _ => true
  | .shadowOverrideWrite _ word _ => decide (word < 128)
  | .idkLoad _ _ => true
  | .idkLoadDone => true
  | .attGo _ _ => true
  | .attDone _ => true
  | .closeGo _ _ => true
  | .assignTimeout => true

end Sys2Proof
end

