-- ==== Sys2Proof/Tests/Slice0.lean ====
section
/-!
SUPPORT. Tests of the model: ill-formed commands that the check refuses, and, for each claim with hypotheses, states
and operands that meet the hypotheses of each of its clauses together (`meets_<Claim>`: every `have` is one clause).
-/
namespace Sys2Proof.Tests
open Sys2Proof Sys2Proof.Machine

set_option Elab.async false
set_option maxRecDepth 40000
set_option linter.unusedVariables false

/-! ### Ill-formed commands are refused -/

theorem test_wf_converter :
    (Instr.rowSlot [{ bank := 2, col := 0, h := 0, l := 0, overdriven := false, reset := 0 }]).wf = false ∧
    (Instr.rowSlot [{ bank := 0, col := 20544, h := 0, l := 0, overdriven := false, reset := 0 }]).wf = false ∧
    (Instr.rowSlot [{ bank := 0, col := -65, h := 0, l := 0, overdriven := false, reset := 0 }]).wf = false ∧
    (Instr.rowSlot [{ bank := 0, col := 0, h := 32768, l := 0, overdriven := false, reset := 0 }]).wf = false ∧
    (Instr.rowSlot [{ bank := 1, col := -64, h := 32767, l := 32767, overdriven := false, reset := 0 }]).wf = true ∧
    (Instr.tdacInjectionDone [{ col := 0, rep := 0, a := 32768, b := 0 }]).wf = false ∧
    (Instr.sliceWindowWrite .host 6 0).wf = false ∧ (Instr.sliceWindowWrite .host 0x100000 0).wf = false ∧
    (Instr.sliceWord0Read ⟨.host, 0, 4⟩ 83720).wf = false ∧ (Instr.monSumLoRead ⟨.mc0, 1, 3⟩ 0).wf = false := by decide

theorem test_wf_fabric :
    (Instr.linkinfoSend 3).wf = false ∧ (Instr.linkinfo 0 4 0 true 0).wf = false ∧
    (Instr.linkinfo 0 0 64 true 0).wf = false ∧ (Instr.linkinfo 0 0 0 true (2 ^ 40)).wf = false ∧
    (Instr.rigAck 3 []).wf = false ∧ (Instr.rigAck 2 (List.replicate 2081 0)).wf = false ∧
    (Instr.sync 4 []).wf = false ∧ (Instr.sync 3 []).wf = true ∧ (Instr.pdelayReqSend 0 2).wf = false := by
  decide

theorem test_wf_rest :
    (Instr.laneDriverFault 0 1).wf = false ∧ (Instr.datapathFault 0 4).wf = false ∧
    (Instr.spareSelftest 79 true).wf = false ∧ (Instr.domainLostTimeout 2).wf = false ∧
    (Instr.pllLockWindow 0 ⟨1599999, 0⟩).wf = false ∧ (Instr.unknownOp 0x0B).wf = false ∧
    (Instr.registerWrite .host 0 0 2 0).wf = false ∧ (Instr.registerWrite .mc0 16 0 2 0).wf = false ∧
    (Instr.dramWindowWrite .mc0 0 (2 ^ 28) 4 0).wf = false ∧ (Instr.restartTallyGraceEnd 2).wf = false ∧
    (Instr.alarmAckNone .mc0 (2 ^ 24)).wf = false ∧ (Instr.resetRelease 4 false).wf = false ∧
    (Instr.debugHalt 2).wf = false ∧ (Instr.thmSensorWindow []).wf = false ∧
    (Instr.mint .host 256 0 0).wf = false ∧ (Instr.vaultCmdDone [{ n0 := 2 ^ 64 }]).wf = false ∧
    (Instr.shadowOverrideWrite .host 128 0).wf = false := by decide

/-! ### Values that the standards behind the spec publish, and the spec's own examples -/

/-- The digest of "abc" (FIPS 180-4), which R222 and R413 use. -/
theorem test_sha256 : (sha256 [0x61, 0x62, 0x63]).take 4 = [0xBA, 0x78, 0x16, 0xBF] := by decide +kernel

/-- The AES-256 example of FIPS 197 C.3, deciphered (R428). -/
theorem test_aes : (aesDecrypt (aesKeys ((List.range 32).map (BitVec.ofNat 8 ·)))
    (beBytes 0x8EA2B7CA516745BFEAFC49904B496089 16)).take 4 = [0x00, 0x11, 0x22, 0x33] := by decide +kernel

/-! ### States -/

def inMode (m : Mode) : State := { State.reset with sys := { State.reset.sys with mode := m } }

def stby : State := inMode .standby

def regd (s : State) (a : Nat) (w : Word) : State := s.setReg a w

def nx (c : Instr) (s : State) : State := match Sys2Proof.Machine.exec c s with | .next t => t | _ => s

/-! ### Grid, readout and frames -/

def sch : Sched := { s := 2, entries := [{ start := 3, len := 20, hcg := 2, lcg := 4, weight := 1 }, { start := 3, len := 20, hcg := 3, lcg := 5, weight := 1 }] }

def cfg1 : InForce := { sched := sch, plan := { sched := sch, out := { mainLanes := 1, twinLanes := 2 } } }

def fr1 : Frame := { num := 7, epoch := 2, cfg := cfg1, ft := 0, stamp := [], capture := true }

def cap : State := { inMode .capture with
  frames := [fr1]
  tmg := { State.reset.tmg with seq := .running, s := 2, p := 691200000, j := 0, cur := some cfg1, firstSub := false
                                integ := some { frame := 7, j := 1 }, reading := some { frame := 7, j := 0 },
                                    nNext := 8, nLast := 7 } }

def withTmg (f : Tmg → Tmg) (s : State) : State := { s with tmg := f s.tmg }

theorem meets_TicksMoveTheGrid (h : Claims.TicksMoveTheGrid) : True := by
  have := (h cap (by decide +kernel) (by decide +kernel)).1 (by decide +kernel)
  have := (h (withTmg (fun x => { x with j := 1 }) cap) (by decide +kernel) (by decide +kernel)).2
        (by decide +kernel)
  trivial

theorem meets_IntegrationAndTransfer (h : Claims.IntegrationAndTransfer) : True := by
  have := (h cap { frame := 7, j := 1 } (by decide +kernel) rfl).1 rfl
  have := (h (withTmg (fun x => { x with firstSub := true }) cap) { frame := 7, j := 1 }
        (by decide +kernel) rfl).2.1 rfl (.inl rfl)
  have := (h (withTmg (fun x => { x with rdEnd := 10 ^ 12 }) cap) { frame := 7, j := 1 }
        (by decide +kernel) rfl).2.2.1 rfl rfl (by decide +kernel)
  have := (h cap { frame := 7, j := 1 } (by decide +kernel) rfl).2.2.2 rfl
  trivial

theorem meets_ReadoutAdvances (h : Claims.ReadoutAdvances) : True := by
  have := (h cap _ fr1 (by decide +kernel) rfl rfl).1 [] (by decide +kernel) (by decide +kernel)
  have := (h (withTmg (fun x => { x with slot := 33, rdEnd := 500 }) cap) _ fr1 (by decide +kernel) rfl rfl).2
        (by decide +kernel)
  trivial

theorem meets_RotationStepEnds (h : Claims.RotationStepEnds) : True := by
  have := (h { cap with cnv := { cap.cnv with evalDue := true }, tmg := { cap.tmg with slot := 34 } } cfg1 []
        (by decide +kernel) rfl).1 rfl (by decide +kernel)
  have := (h cap cfg1 [] (by decide +kernel) rfl).2 (.inl rfl)
  trivial

theorem meets_FramesComplete (h : Claims.FramesComplete) : True := by
  have := (h { cap with frames := [{ fr1 with rows := 1 }] } { fr1 with rows := 1 } (by decide +kernel)).1
        (by decide +kernel)
  have := (h { cap with frames := [{ fr1 with complete := true }] } { fr1 with complete := true }
        (by decide +kernel)).2 (by decide +kernel) rfl (by decide +kernel)
  trivial

/-! ### Packets -/

def onLane (p set : Nat) (st : LaneState) (s : State) : State := s.setLane p
    { laneReset p with state := st, set := set }

def oneFrame (f : Frame) : State := onLane 1 1 .active (onLane 0 0 .active { cap with frames := [f] })

def started (f : Frame) : Frame := { f with age1 := some 0, sftAge := 1, main := { hdr := some [] } }

def win1 : InForce := { cfg1 with plan := { cfg1.plan with win := { mask := 1 } } }

def frTwin : Frame := { fr1 with cfg := { cfg1 with sched := { sch with twin := true } }, sftAge := 1 }

def frLine : Frame := { started fr1 with cfg := win1, rows := 1 }

def frTrail : Frame := { started fr1 with rows := 1 }

def frRecon : Frame := { frLine with complete := true, recon := true, cfg := { win1 with plan := { win1.plan with win := { mask := 1, last := 7 }, graph := [(0, 0)], out := { win1.plan.out with proxy := 4 } } } }

def frRec2 : Frame := { frRecon with main := { hdr := some [], sent := 8, recon := 1 } }

def statS : State := onLane 0 0 .active { cap with frames := [], lnk := { cap.lnk with stat := some { frame := 7, epoch := 1, seq := 1, sflags := 0, next := 219, data := [], lanes := 1 } } }

def sealS : State := onLane 0 0 .active { cap with frames := [], seals := { cap.seals with due := [{ stream := 0, subtype := 1, status := 0, frame := 7, lanes := 1, payload := [] }] } }

def dumpS (own : Bool) (s : State) : State :=
    { s with lnk := { s.lnk with dumpOn := true, dumpRes := .busy, dumpLen := 8192, dumpSent := 1, dumpOwn := own } }

theorem meets_PacketsTakeALane (h : Obligations.PacketsTakeALane) : True := by
  have := (h (oneFrame { fr1 with age1 := some 0, sftAge := 1 }) (by decide +kernel)).1 false
        { fr1 with age1 := some 0, sftAge := 1 } .header 0 0 (by decide +kernel)
  have := (h (oneFrame frLine) (by decide +kernel)).2.1 false frLine 0 0 0 (by decide +kernel)
  have := (h (oneFrame frTrail) (by decide +kernel)).2.2.2.1 false frTrail .trailer 0 0 (by decide +kernel)
  have := (h (oneFrame frRec2) (by decide +kernel)).2.2.1 false frRec2 1 0 0 (by decide +kernel)
  have := (h statS (by decide +kernel)).2.2.2.2.1 _ 0 0 rfl (by decide +kernel) (by decide +kernel)
        (by decide +kernel) (by decide +kernel)
  have := (h sealS (by decide +kernel)).2.2.2.2.2.1 _ 0 0 rfl (by decide +kernel) (by decide +kernel)
  have := (h (dumpS false (onLane 0 0 .active { cap with frames := [] }))
        (by decide +kernel)).2.2.2.2.2.2 0 0 rfl (by decide +kernel) (by decide +kernel) (by decide +kernel)
  trivial

/-! ### Lanes, dumps and seals -/

def pllsOn (s : State) : State := { s with clk := { s.clk with plls := (List.range 18).map fun i => (i, { state := .locked }) } }

def lanesMix (s : State) : State := (((pllsOn s).setLane 0
    { laneReset 0 with state := .failed, cause := 3, fault := 3 }).setLane 31
    { laneReset 31 with state := .train }).setLane 59 { laneReset 59 with state := .train }

def dumpR (off len : Word) (s : State) : State := regd (regd (regd
    (regd s A.LNK_DUMP_OFFSET off) A.LNK_DUMP_LEN len) A.LNK_DUMP_LANES0 1) A.LNK_DUMP_LANES1 0

def dumping (n : Nat) : State := { stby with lnk := { stby.lnk with dumpOn := true, dumpRes := .busy, dumpLen := 8192, dumpSent := n, dumpOwn := true } }

def stmt (a : Bool) : Statement := { stream := 0, id := [], segment := 1, frames := 1, first := 3, last := 4, close := false, damaged := false, head := [], before := [], stamp := [], chain := 1, lanes := 1, avail := a }

def sl1 : State := { stby with seals := { stby.seals with queue := [stmt true] } }

def sl2 : State := { inMode .safe with seals := { stby.seals with queue := [stmt false, stmt true] } }

theorem meets_LanesTrainAndLock (h : Claims.LanesTrainAndLock) : True := by
  have := (h (lanesMix stby) .host 0 rfl).1 (.inl rfl)
  have := (h (lanesMix stby) .mc0 0xFFFFFFFF rfl).2 false
  trivial

theorem meets_LanesFail (h : Claims.LanesFail) : True := by
  have := (h (lanesMix stby) rfl).1 .mc0 false 0xFFFFFFFF
  have := (h (lanesMix stby) rfl).2.1 31 2 (.inl rfl)
  have := (h (lanesMix stby) rfl).2.2 0
  trivial

theorem meets_EqualiserWrites (h : Claims.EqualiserWrites) : True := by
  have := (h (lanesMix stby) .mc0 59 0x9F rfl).1 (.inl (by decide +kernel)) (by decide +kernel)
  have := (h (lanesMix stby) .mc0 59 0xAF rfl).2 (.inr (by decide +kernel))
  trivial

theorem meets_LinkDumps (h : Claims.LinkDumps) : True := by
  have := (h (dumpR 0 67108864 (stby.setLane 0 { laneReset 0 with state := .ready })) .host 0 rfl).1
        (by decide +kernel) (by decide +kernel)
  have := (h (dumping 1) .host 0 rfl).2.1 (by decide +kernel) (by decide +kernel) (by decide +kernel)
  have := (h (dumping 1) .host 0 rfl).2.2.1 (by decide +kernel) (by decide +kernel)
  have := (h (dumping 2) .host 0 rfl).2.2.2.1 (by decide +kernel) (by decide +kernel)
  have := (h (dumping 2) .host 0 rfl).2.2.2.2
  trivial

theorem meets_MarkersAndStatements (h : Claims.MarkersAndStatements) : True := by
  have := (h (stby.setLane 5 { laneReset 5 with state := .train, markDue := true, freeAt := 99 }) rfl).1 5 99
        (by decide +kernel) (by decide +kernel)
  have := (h sl1 rfl).2 _ _ false rfl
  trivial

/-! ### Plans and commits -/

def withBankA (s : State) (b : Bank) : State := { s with plan := { s.plan with bankA := b } }

def loading : State := withBankA stby { state := .loading }

def header12 : List Byte := List.replicate 8 0 ++ [12, 0, 0, 0]

def loadingFull : State := withBankA stby { state := .loading, count := 12, data := header12 }

def flashHdr : State := withBankA stby { state := .loading, kind := .flashHeader 0 }

def flashCopy : State := withBankA { stby with flash := wrBytes [] 8 [12] }
    { state := .loading, kind := .flashCopy 0, data := header12 }

def checking : State := withBankA stby { state := .checking, count := 12, data := header12 }

def withCommit (s : State) (c : Commit) : State := { s with plan := { s.plan with commit := some c } }

def ready : State := withBankA { stby with tmg := { stby.tmg with pos := 0 } } { state := .ready }

def pending : State := withCommit ready { bank := 0, when_ := .next, w := 0 }

def running : State := { stby with tmg := { stby.tmg with seq := .idle, p := 34560, cur := some {} } }

def rig1 : State := regd (regd (regd stby A.PLAN_COMMIT_SEC_LO 5) A.PLAN_COMMIT_NS 1) A.PLAN_RIG_TARGET0 6

def withRig (s : State) (r : Rig) : State := { s with plan := { s.plan with rig := r } }

def addr1 (s : State) : State := { s with fab := { s.fab with addr := some 1 } }

def upOn (s : State) : State := { ({ s with fab := { s.fab with addr := some 1, routes := [(2, { prim := 0, active := 0, reach := true, hops := 1 })] } } : State).setFport 0 { state := .up } with clk := s.clk }

theorem meets_PlanLoadsStart (h : Claims.PlanLoadsStart) : True := by
  have := (h stby .host 1 _ .port rfl (.inl ⟨rfl, by decide, rfl⟩)).1 (by unfold State.loadFree; decide)
  have := (h loading .host 0 _ .port rfl (.inl ⟨rfl, by decide, rfl⟩)).2 (by unfold State.loadFree; decide)
  trivial

theorem meets_PlanLoadsTakeData (h : Claims.PlanLoadsTakeData) : True := by
  have := (h loading .host 0x12345678 0 rfl).1 rfl rfl
  have := (h stby .host 0x12345678 0 rfl).2 rfl
  trivial

theorem meets_PlanLoadsEnd (h : Claims.PlanLoadsEnd) : True := by
  have := (h loading .host 0 0 rfl rfl).1 (by decide +kernel) (by decide +kernel) rfl
  have := (h loadingFull .host 0 0 rfl rfl).2.1 (by decide +kernel) (by decide +kernel)
  have := (h flashHdr .host 0 0 rfl rfl).2.2.1 0 false rfl
  have := (h flashCopy .host 0 0 rfl rfl).2.2.2 0 false rfl
  trivial

theorem meets_PlanChecksEnd (h : Claims.PlanChecksEnd) : True := by
  have := (h checking 0 rfl (.inl ⟨rfl,rfl⟩)).1 1 0 (by decide +kernel)
  trivial

theorem meets_CommitsAreTaken (h : Obligations.CommitsAreTaken) : True := by
  have := (h ready .host 0 rfl).1 rfl
  have := (h pending .host 0 rfl).2 rfl rfl |>.1 _ rfl (by decide +kernel)
  have := (h ready .host 0 rfl).2 rfl rfl |>.2.2 rfl
  trivial

theorem meets_RigCommitsRun (h : Claims.RigCommitsRun) : True := by
  have := (h stby .host 0 rfl).1 rfl |>.1 (by decide +kernel)
  have := (h rig1 .host 0 rfl).1 rfl |>.2 (by decide +kernel) (by decide +kernel) rfl |>.2.1
        (by decide +kernel) (by intro a h; cases h)
  have := (h (regd rig1 A.PLAN_RIG_TARGET0 0) .host 0 rfl).1 rfl |>.2 (by decide +kernel)
        (by decide +kernel) rfl |>.1 (by decide +kernel)
  have := (h (upOn (regd rig1 A.PLAN_RIG_TARGET0 4)) .host 0 rfl).1 rfl |>.2 (by decide +kernel)
        (by decide +kernel) rfl |>.2.2 2 1 (by decide +kernel) (by decide +kernel) rfl (by decide +kernel)
        (by decide +kernel) (by decide +kernel)
  have := (h rig1 .host 0 rfl).2.1 rfl rfl
  have := (h (withCommit (addr1 (withRig stby { run := true, ack := 2 }))
        { bank := 0, when_ := .next, w := 0, origin := some 1 }) .host 0 rfl).2.2.2 rfl 1 _ rfl
        (by decide +kernel) rfl (by decide +kernel) rfl rfl (by decide +kernel)
  have := (h (upOn (withRig stby { run := true, ack := 4 })) .host 0 rfl).2.2.1 rfl 2 1 rfl
        (by decide +kernel) (by decide +kernel) rfl (by decide +kernel) (by decide +kernel)
        (by decide +kernel)
  trivial

theorem meets_RigCommitsTimeOut (h : Claims.RigCommitsTimeOut) : True := by
  have := (h (withRig stby { run := true, targets := 6 }) rfl rfl).1 (by decide +kernel)
  have := (h (withRig { stby with time := { stby.time with tbs := [(0, { tbReset 0 with run := true })] } }
        { run := true, targets := 6, ack := 6, done := 2 }) rfl rfl).2 (by decide +kernel) (by decide +kernel)
        (by decide +kernel)
  trivial

/-! ### Fabric -/

def port1 (x : FabPort) (s : State) : State := s.setFport 1 x

def up1 : State := port1 { state := .up } stby

def up12 : State := { (port1 { state := .up } stby).setFport 2 { state := .up } with clk := { stby.clk with plls := [(17, { state := .locked })] } }

def pllUp (s : State) : State := { s with clk := { s.clk with plls := [(17, { state := .locked })] } }

def fabOn (s : State) : State := { s with fab := { s.fab with started := true } }

def tx1 : FabTx := { cls := 1, body := mkFrame 2 1 1 0x20 7 0 [] }

def tx0 : FabTx := { cls := 0, body := mkFrame 2 1 0 0 7 0 (List.replicate 60 0) }

def un (k : Nat) : Unacked := { tx := { tx1 with tries := k }, fseq := 5, ended := some 3 }

def upU (k : Nat) : State := port1 { state := .up, unacked := [{ un 7 with fseq := 4, ended := none }, un k] }
    stby

def memb (s : State) : State := { s with fab := { s.fab with addr := some 1, role := .member, tree := 2, routes := [(2, { prim := 2, active := 2, reach := true, hops := 1 })] } }

def fr (cls ttl : Nat) : List Byte := reCrc (setBytes (mkFrame 2 9 cls 0x20 7 0 (List.replicate 40 3)) 3
    [BitVec.ofNat 8 ttl])

def badCrc (l : List Byte) : List Byte := l.take (l.length - 1) ++ [0, 0]

def fullCtl : State := port1 { state := .up, ctlQ := List.replicate (Config.openValue 18 [1] + 1) tx1 }
    (memb up12)

theorem fullCtl_full : fullCtl.classFull 1 = true := by
  have h : fullCtl.buffered 1 = Config.openValue 18 [1] + 1 := by
    simp [State.buffered, fullCtl, port1, State.fport, State.setFport, memb, up12, stby, inMode, State.reset]
  simp only [State.classFull, h]; simp

theorem meets_PortsTrainAndFall (h : Claims.PortsTrainAndFall) : True := by
  have := (h (port1 { state := .train, since := some 0, lastInfo := some 39999 } stby) 1 rfl
        (by decide +kernel)).1 5 64 true (2^40) (by decide +kernel)
  have := (h (port1 { state := .train, freeAt := 70 } stby) 1 rfl (by decide +kernel)).2.1 (by decide +kernel)
  have := (h (port1 { state := .train, since := some 0, lastInfo := some 24000 } stby) 1 rfl
        (by decide +kernel)).2.2.1 0 24000 (by decide +kernel) rfl rfl (by decide +kernel)
  have := (h (port1 { state := .up, downCnt := 65535 } stby) 1 rfl (by decide +kernel)).2.2.2 true
        (by decide +kernel) (by decide +kernel)
  trivial

theorem meets_FramesLeaveByPriority (h : Claims.FramesLeaveByPriority) : True := by
  have := (h (port1 { state := .up, timeQ := [tx0, tx0], ctlQ := [tx1] } stby) 1 rfl
        (by decide +kernel)).1 _ _ rfl (by decide +kernel)
  have := (h (port1 { state := .up, ctlQ := [tx1, tx1], ctlSeq := 2 ^ 32 - 1, freeAt := 9999 } stby) 1 rfl
        (by decide +kernel)).2.1 _ _ (.inl rfl) (by decide +kernel) rfl
  have := (h (port1 { state := .up, ctlQ := [], lastSrc := 6, proxies := [{ source := 5, pseq := 0, toCome := 0, frags := [tx1.body] }, { source := 7, pseq := 0, toCome := 1, frags := [tx0.body] }] } stby) 1 rfl (by decide +kernel)).2.2 7 _ _ (.inl rfl) (by decide +kernel) rfl (by decide +kernel) (by decide +kernel) rfl
  trivial

theorem meets_FramesAreAcknowledged (h : Claims.FramesAreAcknowledged) : True := by
  have := (h (upU 0) 1 1 5 (un 0) rfl (by decide +kernel)).1 (by decide +kernel)
  have := (h (upU 0) 1 1 5 (un 0) rfl (by decide +kernel)).2.1 (by decide +kernel)
  have := (h (upU 0) 1 1 5 (un 0) rfl (by decide +kernel)).2.2 (by decide +kernel)
  trivial

theorem meets_FramesAreForwarded (h : Claims.FramesAreForwarded) : True := by
  have := (h (memb up12) 1 (setBytes (fr 1 9) 20 [77]) rfl (by decide +kernel)).1 (by decide +kernel)
  have := (h (port1 { state := .up, seenCtl := { next := 1 } } (memb up12)) 1 (fr 1 9) rfl
        (by decide +kernel)).2 (by decide +kernel) (by decide +kernel) (by decide +kernel) (by decide +kernel)
        (by decide +kernel) |>.1 (by decide +kernel)
  have := (h fullCtl 1 (fr 1 1) rfl rfl).2 (by decide +kernel) (by decide +kernel) (by decide +kernel)
        (by decide +kernel) (by decide +kernel) |>.2.1 (by decide +kernel) fullCtl_full
  have := (h (memb up12) 1 (fr 1 1) rfl (by decide +kernel)).2 (by decide +kernel) (by decide +kernel)
        (by decide +kernel) (by decide +kernel) (by decide +kernel) |>.2.2 (by decide +kernel)
        (by decide +kernel) (by decide +kernel) 1 rfl (by decide +kernel) (by decide +kernel) |>.1
        (by decide +kernel)
  have := (h (memb up12) 1 (fr 1 2) rfl (by decide +kernel)).2 (by decide +kernel) (by decide +kernel)
        (by decide +kernel) (by decide +kernel) (by decide +kernel) |>.2.2 (by decide +kernel)
        (by decide +kernel) (by decide +kernel) 1 rfl (by decide +kernel) (by decide +kernel) |>.2
        (by decide +kernel) _ rfl (by decide +kernel) (by decide +kernel)
  trivial

/-! ### Fabric messages -/

def loc (src cls msg : Nat) (pl : List Byte) : List Byte := mkFrame 0x80 src cls msg 7 0 pl

def probeBody : List Byte := loc 9 1 1 (beBytes 0 1 ++ List.replicate 16 0 ++ beBytes 99 8 ++ beBytes 2 1 ++
    List.replicate 10 0)

def reportBody (k : Nat) : List Byte := loc 9 1 2
    (beBytes 99 8 ++ beBytes 0 1 ++ beBytes k 1 ++ beBytes 0 2 ++ List.replicate 15 0xFF ++ [0xFF])

def rootS (s : State) : State := { s with fab := { s.fab with role := .root, rank := 1, addr := some 0 } }

def probing (s : State) : State := { s with fab := { s.fab with disc := { busy := true, probe := some { path := [1], from_ := 0, port := 1, tries := 1, at_ := 3 } } } }

def assignBody : List Byte := mkFrame 5 9 1 3 7 0
    (beBytes 5 1 ++ beBytes 3 1 ++ beBytes 2 1 ++ beBytes 0x12 1 ++ [0x09, 2] ++ List.replicate 126 3)

def assignOn : List Byte := loc 9 1 3 (beBytes 5 1 ++ beBytes 3 1 ++ beBytes 2 1 ++ beBytes 0x12 1 ++
    List.replicate 128 3 ++ [1, 2] ++ List.replicate 15 0)

def assigning (k : Nat) (s : State) : State :=
    { s with fab := { s.fab with gen := 4, disc := { busy := true, tries := k, assign := [7, 8], nodes := [{ serial := 0, had := none, addr := some 0 , ports := 3, links := [(1, 7, 0)] }, { serial := 7, had := some 7, addr := some 7 , ports := 3, links := [(0, 0, 1)] }, { serial := 8, had := none, addr := some 8 , ports := 3, links := [] }] } } }

def bulkS : State := regd (regd (regd up1 A.SYS_BULK_CTRL 0x701) A.SYS_BULK_BASE 0x90000000) A.SYS_BULK_LEN 24

def bulkW (off : Nat) : List Byte := loc 7 3 1 (beBytes off 4 ++ beBytes 0 4 ++ beBytes 8 2 ++ [0, 0] ++ [1,
    2, 3, 4, 5, 6, 7, 8])

def frag (i n : Nat) : List Byte := loc 7 2 1
    (beBytes 5 1 ++ List.replicate 11 0 ++ beBytes 6 4 ++ beBytes i 2 ++ beBytes n 2 ++ List.replicate 40 9)

def bulkOk : State := regd (regd stby A.SYS_BULK_BASE 0xD2000000) A.SYS_BULK_LEN 0x100000

def tbGo (s : State) : State := s.setTb 0 { tbReset 0 with run := true }

def rc (id : Nat) : List Byte := loc 7 1 0x10 ([0, 0] ++ beBytes 9 6 ++ beBytes 5 4 ++ beBytes id 4)

def rigRun (r : Rig) : State := { up1 with plan := { up1.plan with rig := { r with run := true } } }

def lapsed (r : Rig) : State := { up1 with plan := { up1.plan with rigLapse := some { at_ := up1.mgt, ack := true, rig := { r with run := true }, int := false }, rig := { r with fail := 0x80, timedOut := true } } }

theorem meets_DiscoveryExplores (h : Claims.DiscoveryExplores) : True := by
  have := (h up1 1 probeBody rfl).1 ⟨by unfold State.arrives; decide, (by decide +kernel), .inl
        (by decide +kernel)⟩ (by decide +kernel)
  have := (h (probing (rootS up1)) 1 (reportBody 1) rfl).2.1 _ ⟨by unfold State.arrives; decide,
        (by decide +kernel), .inl (by decide +kernel)⟩ (by decide +kernel) (by decide +kernel) rfl rfl
  have := (h (probing (rootS up1)) 1 (reportBody 1) rfl).2.2 _ rfl
  trivial

theorem meets_RootsBeginAndYield (h : Claims.RootsBeginAndYield) : True := by
  have := (h up1 .host 0 rfl).1
  have := (h (probing (rootS up1)) .host 0 rfl).2 rfl rfl
  trivial

theorem meets_TablesAreAssigned (h : Obligations.TablesAreAssigned) : True := by
  have := (h up1 1 (loc 9 1 3 (assignBody.drop 16)) rfl).1 ⟨by unfold State.arrives; decide,
        (by decide +kernel), .inl (by decide +kernel)⟩ (by decide +kernel) (by decide +kernel)
  have := (h up12 1 assignOn rfl).2.2.2.1 (by decide +kernel) ⟨by unfold State.arrives; decide,
        (by decide +kernel), .inl (by decide +kernel)⟩ (by decide +kernel)
  have := (h (assigning 1 (rootS up1)) 1 (loc 7 1 4 [7, 4]) rfl).2.1 _ ⟨by unfold State.arrives; decide,
        (by decide +kernel), .inl (by decide +kernel)⟩ rfl rfl (by decide +kernel)
  have := (h (assigning 8 (rootS up1)) 1 (loc 7 1 4 [7, 4]) rfl).2.2.1 _ _ rfl rfl |>.1 (by decide +kernel)
  have := (h (assigning 7 (rootS up1)) 1 (loc 7 1 4 [7, 4]) rfl).2.2.1 _ _ rfl rfl |>.2
        (by decide +kernel) ⟨_, List.Mem.tail _ (List.Mem.head _), rfl⟩
  have := (h (assigning 1 (rootS up1)) 1 (loc 7 1 5 [0,
        0]) rfl).2.2.2.2.1 _ _ ⟨by unfold State.arrives; decide, (by decide +kernel), .inl
        (by decide +kernel)⟩ rfl rfl rfl (by decide +kernel)
  have := (h up1 1 (loc 7 1 6 [0, 0]) rfl).2.2.2.2.2 ⟨by unfold State.arrives; decide, (by decide +kernel),
        .inl (by decide +kernel)⟩
  trivial

theorem meets_MessagesAreDelivered (h : Claims.MessagesAreDelivered) : True := by
  have := (h up1 1 (loc 7 1 0x100 [1]) rfl).1 0x100 ⟨by unfold State.arrives; decide, (by decide +kernel),
        .inl (by decide +kernel)⟩ (by decide +kernel) (by decide +kernel) (by decide +kernel)
  have := (h (regd up1 A.EVL_SUM_CTRL 4) 1 (loc 7 1 0x20
        (List.replicate 36 5)) rfl).2.1 ⟨by unfold State.arrives; decide, (by decide +kernel), .inl
        (by decide +kernel)⟩ (by decide +kernel) (by decide +kernel)
  have := (h bulkS 1 (bulkW 16) rfl).2.2.1 ⟨by unfold State.arrives; decide, (by decide +kernel), .inl
        (by decide +kernel)⟩
  have := (h bulkS 1 (loc 7 3 2 []) rfl).2.2.2.1 ⟨by unfold State.arrives; decide, (by decide +kernel), .inl
        (by decide +kernel)⟩ (by decide +kernel)
  have := (h (regd up1 A.FAB_PRX_CTRL 0x80) 1 (frag 0 2) rfl).2.2.2.2.1 ⟨by unfold State.arrives; decide,
        (by decide +kernel), .inl (by decide +kernel)⟩ (by decide +kernel) (by decide +kernel)
        (by decide +kernel) (by decide +kernel)
  have := (h (regd up1 A.FAB_PRX_CTRL 0x80) 1 (frag 0 1) rfl).2.2.2.2.2 ⟨by unfold State.arrives; decide,
        (by decide +kernel), .inl (by decide +kernel)⟩ (by decide +kernel) (by decide +kernel)
        (by decide +kernel) (by decide +kernel)
  trivial

theorem meets_BulkWindowOpens (h : Claims.BulkWindowOpens) : True := by
  have := (h bulkOk 1 rfl).1 .mc0 (by decide +kernel) (by decide +kernel)
  have := (h (regd bulkOk A.SYS_BULK_BASE 0xCB000000) 1 rfl).2.1 .mc0 (by decide +kernel) (by decide +kernel)
  have := (h (regd bulkOk A.SYS_BULK_BASE 0xCB000000) 1 rfl).2.2
  trivial

theorem meets_RigMessagesAct (h : Claims.RigMessagesAct) : True := by
  have := (h up1 1 (rc 1) rfl).1 ⟨by unfold State.arrives; decide, (by decide +kernel), .inl
        (by decide +kernel)⟩ (by decide +kernel)
  have := (h (tbGo (withBankA up1 { state := .ready })) 1 (rc 0) rfl).2.1 ⟨by unfold State.arrives; decide,
        (by decide +kernel), .inl (by decide +kernel)⟩ (by decide +kernel) (by decide +kernel)
        (by decide +kernel)
  have := (h (rigRun { targets := 0x80 }) 1 (loc 7 1 0x11 [1]) rfl).2.2.1
        (by intro x h; cases h) ⟨by unfold State.arrives; decide, (by decide +kernel), .inl
        (by decide +kernel)⟩ rfl (by decide +kernel) (by decide +kernel)
  have := (h (rigRun { targets := 0x88, ack := 0x80 }) 1 (loc 7 1 0x12 [1]) rfl).2.2.2.2.1
        (by intro x h; cases h) ⟨by unfold State.arrives; decide, (by decide +kernel), .inl
        (by decide +kernel)⟩ rfl (by decide +kernel) (by decide +kernel) (by decide +kernel)
  have := (h { up1 with plan := { up1.plan with commit := some { bank := 0, when_ := .next, w := 0, origin := some 7 } } } 1 (loc 7 1 0x13 [0]) rfl).2.2.2.2.2 _ ⟨by unfold State.arrives; decide, (by decide +kernel), .inl (by decide +kernel)⟩ rfl rfl (by decide +kernel)
  have := (h (lapsed { targets := 0x80 }) 1 (loc 7 1 0x11 [1]) rfl).2.2.2.1 _ rfl
        (by decide +kernel) rfl rfl ⟨by unfold State.arrives; decide, (by decide +kernel), .inl
        (by decide +kernel)⟩ (by decide +kernel) (by decide +kernel)
  trivial

/-! ### Time bases -/

def tbRunAt (k : Nat) (s : State) : State := s.setTb k { tbReset k with run := true, val := 123456789012345 }

def later (s : State) : State := { s with now := 5 * 13824 }

def capOn (w : Word) : State := regd stby (capReg 1 0) w

def capFull : State := { capOn 9 with time := { stby.time with cap1 := { queue := List.replicate 8 { val := 1, falling := false } } } }

def tpoRegs (s : State) : State := regd (regd s (tpoReg 7 0x18) 1) (tpoReg 7 0x24) 10

def armed (s : State) : State := { tbRunAt 0 s with time := { (tbRunAt 0 s).time with tpos := [(3, { armed := true, start := 123456789012345 + 10 ^ 15, width := 10 })] } }

theorem meets_TimeBasesAreWritten (h : Claims.TimeBasesAreWritten) : True := by
  have := (h (later stby) .host 0 1 rfl).1
  have := (h (regd (regd (tbRunAt 3 (later stby)) (tbReg 3 0x2C) 7)
        (tbReg 3 0x30) 999999999) .mc1 3 1 rfl).2.1
  have := (h (regd (regd (tbRunAt 0 (later stby)) (tbReg 0 0x20) 0xFFFFFFFF)
        (tbReg 0 0x24) 0xFFFFFFFF) .mc1 0 1 rfl).2.2.1
  have := (h (tbRunAt 0 (later stby)) .mc1 0 0x80000000 rfl).2.2.2 |>.1 (by decide +kernel)
  have := (h (regd (tbRunAt 0 (later stby)) (tbReg 0 0x18) 9) .mc1 0 0x80000000 rfl).2.2.2 |>.2
        (by decide +kernel)
  trivial

theorem meets_StoppedTimeBaseEndsCommit (h : Claims.StoppedTimeBaseEndsCommit) : True := by
  have := h { tbRunAt 1 stby with plan := { stby.plan with commit := some { bank := 0, when_ := .time 1 5 6, w := 0 } } } .host 1 0 _ 5 6 rfl rfl rfl (by decide +kernel) rfl
  trivial

theorem meets_TimeReadsLatch (h : Claims.TimeReadsLatch) : True := by
  have := (h (tbRunAt 2 (later stby)) ⟨.host, 0, 4⟩ rfl).1 2
  have := (h { stby with time := { stby.time with cap2 := { queue := [{ val := 2 ^ 70, falling := false }, { val := 3, falling := true }] } } } ⟨.mc1, 0, 4⟩ rfl).2 2
  trivial

theorem meets_CapturesQueue (h : Claims.CapturesQueue) : True := by
  have := (h (capOn 1) 1 rfl).1 500 false |>.1 (by decide +kernel) (by decide +kernel) |>.1
        (by decide +kernel)
  have := (h capFull 1 rfl).1 500 true |>.1 (by decide +kernel) (by decide +kernel) |>.2 (by decide +kernel)
  have := (h (capOn 8) 1 rfl).1 500 true |>.2 (by decide +kernel)
  have := (h capFull 1 rfl).2 .host 0x1B
  trivial

theorem meets_PulsesAreArmedAndFire (h : Claims.PulsesAreArmedAndFire) : True := by
  have := (h (tpoRegs (tbRunAt 0 stby)) 7 rfl).1 .host 0x1D rfl |>.1 (by decide +kernel)
  have := (h (regd stby (tpoReg 0 0x24) 9) 0 rfl).1 .host 0x1 rfl |>.2 (by decide +kernel)
  have := (h (armed stby) 3 rfl).2.1 .host 2
  have := (h (armed stby) 3 rfl).2.2 rfl (by decide +kernel)
  trivial

theorem meets_CrossCheckSamples (h : Claims.CrossCheckSamples) : True := by
  have := h (regd (tbRunAt 0 (tbRunAt 1 (later stby))) A.TIME_XCHK_LIMIT 0) rfl (by decide +kernel)
        (by decide +kernel)
  trivial

theorem meets_PtpEntriesAndDomainsExpire (h : Claims.PtpEntriesAndDomainsExpire) : True := by
  have := (h { stby with time := { stby.time with pend := [{ port := 0, domain := 0, seq := 1, src := [], val := 0, at_ := 7 }] } } rfl).1 _ _ rfl
  have := (h { stby with time := { stby.time with dom1 := { state := .qualified } } } rfl).2 1
        (by decide +kernel) (by decide +kernel) (by decide +kernel)
  trivial

/-! ### Precision time -/

def ptp (typ flags seq : Nat) (pl : List Byte) : List Byte :=
  mkFrame 0x80 9 0 0 7 0 (beBytes typ 1 ++ [2] ++ beBytes (44 + pl.length) 2 ++ [1, 0] ++ beBytes flags 1 ++
      [0] ++ beBytes 0x10000 8 ++
    List.replicate 4 0 ++ List.replicate 10 7 ++ beBytes seq 2 ++ [0, 0] ++ beBytes 5 6 ++ beBytes 77 4 ++ pl)

def ptpS (s : State) : State := { regd s (domReg 1 0) 0x410DD101 with time := { s.time with dom1 := { state := .unqualified } } }

def pup : State := ptpS up1

def hp (s : State) (p : Nat) (b : List Byte) (d : Nat) := s.hearsPtp p b d

def pdS (x : PDelay) : State := pup.setPdelay 1 1 { x with lastReq := some 0, seq := 3 }

theorem meets_SyncsAreMeasured (h : Claims.SyncsAreMeasured) : True := by
  have := (h pup 1 (ptp 0 2 3 []) 1 rfl (by decide +kernel)
        (by unfold State.hearsPtp; exact ⟨(by decide +kernel), (by decide +kernel), (by decide +kernel),
        (by decide +kernel), (by decide +kernel), (by decide +kernel), (by decide +kernel), .inl
        (by decide +kernel)⟩)).1 (by decide +kernel) (by decide +kernel)
  have := (h pup 1 (ptp 8 2 3 []) 1 rfl (by decide +kernel)
        (by unfold State.hearsPtp; exact ⟨(by decide +kernel), (by decide +kernel), (by decide +kernel),
        (by decide +kernel), (by decide +kernel), (by decide +kernel), (by decide +kernel), .inl
        (by decide +kernel)⟩)).2.1 (by decide +kernel) (by decide +kernel)
  have := (h pup 1 (ptp 11 2 3 []) 1 rfl (by decide +kernel)
        (by unfold State.hearsPtp; exact ⟨(by decide +kernel), (by decide +kernel), (by decide +kernel),
        (by decide +kernel), (by decide +kernel), (by decide +kernel), (by decide +kernel), .inl
        (by decide +kernel)⟩)).2.2.1 (by decide +kernel) (by decide +kernel)
  have := (h pup 1 (ptp 1 2 3 []) 1 rfl (by decide +kernel)
        (by unfold State.hearsPtp; exact ⟨(by decide +kernel), (by decide +kernel), (by decide +kernel),
        (by decide +kernel), (by decide +kernel), (by decide +kernel), (by decide +kernel), .inl
        (by decide +kernel)⟩)).2.2.2 (by decide +kernel)
  trivial

theorem meets_PeerDelaysAreMeasured (h : Obligations.PeerDelaysAreMeasured) : True := by
  have := (h pup 1 1 [] rfl).1 (by decide +kernel) (by decide +kernel) (by decide +kernel)
  have := (h pup 1 1 (ptp 2 0 3 []) rfl).2.1 (by unfold State.hearsPtp; exact ⟨(by decide +kernel),
        (by decide +kernel), (by decide +kernel), (by decide +kernel), (by decide +kernel),
        (by decide +kernel), (by decide +kernel), .inl (by decide +kernel)⟩) (by decide +kernel)
        (by decide +kernel) |>.1 (by decide +kernel)
  have := (h (pdS { t1 := some 5 }) 1 1 (ptp 3 2 3 (pup.portId 1)) rfl).2.1
        (by unfold State.hearsPtp; exact ⟨(by decide +kernel), (by decide +kernel), (by decide +kernel),
        (by decide +kernel), (by decide +kernel), (by decide +kernel), (by decide +kernel), .inl
        (by decide +kernel)⟩) (by decide +kernel) (by decide +kernel) |>.2.1 (by decide +kernel)
        (by unfold State.answersUs; decide) (by decide +kernel)
  have := (h (pdS { t1 := some 5, t2 := some 8, t4 := some 9 }) 1 1 (ptp 10 0 3 (pup.portId 1)) rfl).2.1
        (by unfold State.hearsPtp; exact ⟨(by decide +kernel), (by decide +kernel), (by decide +kernel),
        (by decide +kernel), (by decide +kernel), (by decide +kernel), (by decide +kernel), .inl
        (by decide +kernel)⟩) (by decide +kernel) (by decide +kernel) |>.2.2 (by decide +kernel)
        (by unfold State.answersUs; decide) 8 rfl
  have := (h (pdS { t1 := some 5, t2 := some 8, consec := 2, valid := true }) 1 1 [] rfl).2.2
        (by decide +kernel)
  trivial

/-! ### Clocks, watchdog and ledger -/

def pllIs (i : Nat) (p : Pll) (s : State) : State := { s with clk := { s.clk with plls := [(i, p)] } }

def gridOn (s : State) : State := { s with tmg := { s.tmg with seq := .idle, s := 2, p := 691200000, cur := some {} } }

def refIs (ok lost : Bool) (g b : Nat) (s : State) : State :=
    { s with clk := { s.clk with refOk := ok, refLost := lost, refGood := g, refBad := b } }

def withWdt (w : Wdt) (s : State) : State := { s with wdt := w }

def wAt (cyc : Nat) (w : Wdt) : State := { stby with wdt := { w with state := .running, cfg := 0x200F4240 }, now := stby.mgtInstant cyc }

def opn : Nat := wdtOpen 0x200F4240

def formerIs (strict : Bool) : Wdt := { mask := 0x81, start := 2000, former := some { start := 0, cfg := 0x200F4240, held := [], mask := 0x81, counted := 1, strict, periods := 6 } }

def evlIs (e : Evl) (s : State) : State := { s with evl := e }

def sett (e : Evl) : State := evlIs { e with } stby

def held0 : State := evlIs { hold := some (3, 70000), intStatus := 1 } stby

def addrd (s : State) : State := { s with fab := { s.fab with addr := some 1 } }

theorem meets_LockWindowsMovePlls (h : Claims.LockWindowsMovePlls) : True := by
  have := (h (pllIs 2 { state := .locked, lossCnt := 65535 } stby) 2 2000000 85419 rfl (by decide +kernel)
        (by decide +kernel)).1 (by decide +kernel) (by decide +kernel)
  have := (h (pllIs 17 { state := .locked, bad := true } stby) 17 2000000 85325 rfl (by decide +kernel)
        (by decide +kernel)).2.1 (by decide +kernel) (by decide +kernel) (by decide +kernel)
  have := (h (pllIs 17 { state := .acquire, good := 2 } stby) 17 2000000 85341 rfl (by decide +kernel)
        (by decide +kernel)).2.2.1 (by decide +kernel) (by decide +kernel) (by decide +kernel)
  have := (h (pllIs 1 { state := .acquire, good := 3 } stby) 1 2000000 85342 rfl (by decide +kernel)
        (by decide +kernel)).2.2.2.1 (by decide +kernel) (by decide +kernel) (by decide +kernel)
  have := (h (pllIs 1 { state := .acquire, good := 3 } stby) 1 2000000 85333 rfl (by decide +kernel)
        (by decide +kernel)).2.2.2.2 (by decide +kernel) (by decide +kernel)
  trivial

theorem meets_PllsAreEnabled (h : Claims.PllsAreEnabled) : True := by
  have := (h { stby with clk := { stby.clk with refOk := true } } .mc0 1 rfl (by decide +kernel)).1
  have := (h { stby with clk := { stby.clk with refOk := true } } .mc0 0x8001 rfl (by decide +kernel)).2.1
  have := (h stby .mc0 1 rfl (by decide +kernel)).2.2
  trivial

theorem meets_ReferenceIsMonitored (h : Obligations.ReferenceIsMonitored) : True := by
  have := (h (refIs true false 3 1 stby) 491 rfl).1 (by decide +kernel) (by decide +kernel)
  have := (h (refIs false true 3 1 stby) 467 rfl).2.1 (by decide +kernel) (by decide +kernel)
        (by decide +kernel)
  have := (h (refIs true false 4 1 (gridOn (inMode .capture))) 466 rfl).2.2.1 (by decide +kernel)
        (by decide +kernel) (by decide +kernel)
  have := (h (pllIs 0 { state := .locked } (refIs true false 4 1 (gridOn (inMode .capture)))) 1 rfl).2.2.2 77
        (by decide +kernel)
  trivial

theorem meets_WatchdogIsStartedAndLocked (h : Claims.WatchdogIsStartedAndLocked) : True := by
  have := (h stby 1 rfl).1 .mc0 (by decide +kernel) |>.1 rfl
  have := (h (withWdt { state := .running, start := 5 } stby) 5 rfl).1 .mc1 (by decide +kernel) |>.2.1
        (by decide +kernel)
  have := (h stby 5 rfl).1 .mc1 (by decide +kernel) |>.2.2
  have := (h stby 5 rfl).2
  trivial

theorem meets_TalliesCount (h : Claims.TalliesCount) : True := by
  have := (h (wAt opn {mask := 0x80}) .mc0 0x7A110080 7 rfl (by decide +kernel) (by decide +kernel)).1
        (by decide +kernel) (by decide +kernel) rfl (by decide +kernel) (by decide +kernel) |>.1
        (by decide +kernel) (by decide +kernel) (by decide +kernel)
  have := (h (wAt (opn-1) {mask := 0x81}) .mc0 0x7A110080 7 rfl (by decide +kernel) (by decide +kernel)).1
        (by decide +kernel) (by decide +kernel) rfl (by decide +kernel) (by decide +kernel) |>.2.1
        (by decide +kernel)
  have := (h (wAt opn {mask := 0x81, counted := 128}) .mc0 0x7A110080 7 rfl (by decide +kernel)
        (by decide +kernel)).1 (by decide +kernel) (by decide +kernel) rfl (by decide +kernel)
        (by decide +kernel) |>.2.2.1 (by decide +kernel) (by decide +kernel) rfl
  have := (h (wAt opn {mask := 0x81, counted := 1, strict := true}) .mc0 0x7A110001 0 rfl (by decide +kernel)
        (by decide +kernel)).1 (by decide +kernel) (by decide +kernel) rfl (by decide +kernel)
        (by decide +kernel) |>.2.2.2 (by decide +kernel) (by decide +kernel) rfl
  have := (h (wAt opn {mask := 0x81, counted := 1, strict := true}) .mc0 0x7A120001 0 rfl (by decide +kernel)
        (by decide +kernel)).2.2 (by decide +kernel)
  have := (h (wAt 10 { mask := 0x81, start := 2000 }) .mc0 0x7A110001 0 rfl (by decide +kernel)
        (by decide +kernel)).2.1 (by decide +kernel) (by decide +kernel) rfl (by decide +kernel) |>.1 rfl
  have := (h (wAt 10 (formerIs false)) .mc0 0x7A110001 0 rfl (by decide +kernel) (by decide +kernel)).2.1
        (by decide +kernel) (by decide +kernel) rfl (by decide +kernel) |>.2 _ rfl (by decide +kernel)
        (by decide +kernel) |>.1 rfl
  have := (h (wAt 10 (formerIs true)) .mc1 0x7A110001 0 rfl (by decide +kernel) (by decide +kernel)).2.1
        (by decide +kernel) (by decide +kernel) rfl (by decide +kernel) |>.2 _ rfl (by decide +kernel)
        (by decide +kernel) |>.2 rfl
  trivial

theorem meets_WatchdogPeriodsEnd (h : Claims.WatchdogPeriodsEnd) : True := by
  have := (h (wAt opn {}) rfl).1 rfl rfl
  have := (h (wAt opn { counted := 1, periods := 2 ^ 32 - 1 }) rfl).2.1 rfl (by decide +kernel) |>.1
        (by decide +kernel) (by decide +kernel)
  have := (h (wAt (opn*5) { counted := 1, mask := 3 }) rfl).2.1 rfl (by decide +kernel) |>.2
        (by decide +kernel)
  have := (h (withWdt { state := .expired, hardEnd := some 7 } stby) rfl).2.2 7 {} rfl (fun _ h => nomatch h)
  trivial

theorem meets_LedgerIsAcknowledged (h : Claims.LedgerIsAcknowledged) : True := by
  have := (h (evlIs { used := 1024, head := 5, before := { used := 1024, head := 5 } } stby) stby.ackOwner 5
        rfl (by unfold State.evlSettled; decide +kernel) (by unfold Evl.inBounds; decide +kernel)).1 (by decide +kernel) (by decide +kernel)
  have := (h (evlIs { used := 5, head := 5, before := { used := 5, head := 5 } } stby) stby.ackOwner 0x3FF rfl
        (by unfold State.evlSettled; decide +kernel) (by unfold Evl.inBounds; decide +kernel)).2 (by decide +kernel)
  trivial

theorem meets_FirmwareEventsEnter (h : Claims.FirmwareEventsEnter) : True := by
  have := (h stby .mc0 2 rfl (by unfold State.evlSettled; decide +kernel) (by decide +kernel)).1 (by decide +kernel)
  have := (h (evlIs { used := 1024 } stby) .mc1 0xFFFFFFFD rfl (by unfold State.evlSettled; decide +kernel) (by decide +kernel)).2.1
        (by decide +kernel)
  have := (h (evlIs { used := 991 } stby) .mc1 0xFFFFFFFC rfl (by unfold State.evlSettled; decide +kernel) (by decide +kernel)).2.2.1
        (by decide +kernel)
  have := (h (nx (.evlFwEntry .mc1 0xFFFFFFFE) stby) .mc1 0xFFFFFFFE rfl (by unfold State.evlSettled; decide +kernel)
        (by decide +kernel)).2.2.2
  trivial

theorem meets_HoldoffAndSummaries (h : Claims.HoldoffAndSummaries) : True := by
  have := (h held0 rfl (by unfold State.evlSettled; decide +kernel)).1 _ _ rfl
  have := (h (addrd (regd stby A.EVL_SUM_CTRL 1)) rfl (by unfold State.evlSettled; decide +kernel)).2 (by decide +kernel)
        (by decide +kernel)
  trivial

/-! ### The event ledger -/

def dramUp (s : State) : State := { s with sys := { s.sys with boot := { s.sys.boot with dramReady := true } } }

def dumped : State := nx (.incidentDumpGo .mc0 0) (dramUp stby)

theorem meets_IncidentDumpsRun (h : Claims.IncidentDumpsRun) : True := by
  have := (h (dramUp stby) 0 rfl).1 .mc0 (by decide +kernel) |>.1 rfl rfl
  have := (h stby 0 rfl).1 .mc0 (by decide +kernel) |>.2.1 rfl rfl
  have := (h dumped 0 rfl).1 .mc0 (by decide +kernel) |>.2.2 _ rfl
  have := (h dumped 0 rfl).2.2
  trivial

/-! ### Sequencer and genlock -/

def liveOn (s : State) : State := { s with plan := { s.plan with live := some 0 } }

def trigS (soft : Bool) : Sched := { sch with startMode := 1, trigSrc := if soft then 1 else 0, burstLen := 3 }

def inCur (c : Sched) (seq : SeqState) (s : State) : State := liveOn
    { s with tmg := { s.tmg with seq := seq, s := 2, p := 691200000, cur := some { sched := c, plan := { sched := c } } } }

def tickDue (s : State) : State := { s with tmg := { s.tmg with fresh := true, pos := s.now } }

def idl (s : State) : State := inCur sch .idle s

def pll1On (s : State) : State := { s with clk := { s.clk with plls := [(1, { state := .locked })] } }

def glWait (sch : Sched) (when_ : CommitWhen) : State := pll1On
    { (withCommit { stby with plan := { stby.plan with bankA := { state := .ready, plan := { sched := sch } } } } { bank := 0, when_ := when_, w := 0 }) with clk := { stby.clk with plls := [(1, { state := .locked })], glLast := some 100 } }

def glS : Sched := { sch with phaseSrc := 1, sfpInt := 100000 }

def tbRun (s : State) : State := { s with time := { s.time with tbs := [(0, { tbReset 0 with run := true })] } }

def liveGrid (sch : Sched) : State := pll1On { stby with plan := { stby.plan with live := some 0, bankA := { state := .live, plan := { sched := sch } } }, tmg := { stby.tmg with cur := some { sched := sch } }, clk := { stby.clk with plls := [(1, { state := .locked })] } }

theorem meets_TriggersAreTaken (h : Claims.TriggersAreTaken) : True := by
  have := (h (inCur (trigS true) .armed (inMode .capture)) _ .host 1 0 rfl rfl).1 (by decide +kernel) rfl
        (by decide +kernel) |>.1 rfl rfl
  have := (h (inCur (trigS true) .running (inMode .capture)) _ .host 9 0 rfl rfl).1 (by decide +kernel) rfl
        (by decide +kernel) |>.2 (by decide +kernel) rfl
  have := (h (tickDue (inCur (trigS true) .idle (inMode .capture))) _ .host 9 0 rfl rfl).2.1
        (by decide +kernel)
  have := (h (inCur (trigS false) .armed (inMode .capture)) _ .host 1 0 rfl rfl).2.2.1 (by decide +kernel)
  have := (h (inCur (trigS false) .armed (inMode .capture)) _ .host 1 777 rfl rfl).2.2.2.1
        (by decide +kernel) rfl |>.1 rfl rfl
  have := (h (inCur (trigS false) .drain (inMode .capture)) _ .host 1 777 rfl rfl).2.2.2.1
        (by decide +kernel) rfl |>.2.1 (by decide +kernel) rfl
  have := (h (inCur (trigS false) .drain (inMode .standby)) _ .host 1 777 rfl rfl).2.2.2.1
        (by decide +kernel) rfl |>.2.2 (by decide +kernel) rfl
  have := (h (inCur (trigS true) .armed (inMode .capture)) _ .host 1 777 rfl rfl).2.2.2.2 (by decide +kernel)
  trivial

theorem meets_TimingControlsAct (h : Claims.TimingControlsAct) : True := by
  have := (h (idl stby) .host 4 rfl).1 rfl
  have := (h (inCur sch .running (inMode .capture)) .host 4 rfl).2.1 (by decide +kernel)
  have := (h (inCur sch .running (inMode .capture)) .host 0 rfl).2.2.1 (by decide +kernel) rfl rfl rfl
  have := (h (regd (idl stby) A.TMG_FRAME_PRESET 77) .host 2 rfl).2.2.2.1 rfl (by decide +kernel)
  have := (h (regd (idl (inMode .capture)) A.TMG_FRAME_PRESET 77) .host 2 rfl).2.2.2.2.1 (by decide +kernel)
  have := (h (regd (idl (inMode .capture)) A.TMG_FRAME_PRESET 77) .host 4 rfl).2.2.2.2.2.1
        (by decide +kernel) rfl rfl rfl
  have := (h (withTmg (fun t => { t with missed := 5, accepted := 6, settleCnt := 7 }) (idl
        (inMode .capture))) .host 0xF rfl).2.2.2.2.2.2.1
  have := (h (withTmg (fun t => { t with missed := 5, accepted := 6, settleCnt := 7 }) (idl
        (inMode .capture))) .host 0 rfl).2.2.2.2.2.2.2 rfl rfl rfl
  trivial

theorem meets_GenlockEdgesAlign (h : Claims.GenlockEdgesAlign) : True := by
  have := (h (glWait glS .next) 700000 30 true rfl (by decide +kernel) (by decide +kernel)).1
  have := (h (glWait glS .next) 70000000 30 true rfl (by decide +kernel)
        (by decide +kernel)).2.2.2.1 _ _ _ rfl rfl rfl (by decide +kernel)
  have := (h (withTmg (fun t => { t with realign := some 5 }) (idl stby)) 70000000 30 true rfl
        (by decide +kernel) (by decide +kernel)).2.2.2.2.1 5 (by decide +kernel) rfl rfl (by decide +kernel)
  have := (h (withTmg (fun t => { t with realign := some 5 }) (inCur sch .running
        (inMode .capture))) 6917 30 true rfl (by decide +kernel) (by decide +kernel)).2.2.2.2.2
        (by decide +kernel) (by decide +kernel)
  trivial

theorem meets_GridStarts (h : Claims.GridStarts) : True := by
  have := (h (glWait { sch with sfpInt := 7 } .next) { bank := 0, when_ := .next, w := 0 } rfl rfl
        (by decide +kernel) rfl).2 rfl rfl |>.1 (by decide +kernel) |>.1 rfl
  have := (h (glWait { sch with sfpInt := 7 } (.time 0 1 5))
        { bank := 0, when_ := .time 0 1 5, w := 0 } rfl rfl (by decide +kernel) rfl).2 rfl rfl |>.1
        (by decide +kernel) |>.2 _ _ _ rfl
  have := (h (glWait glS .next) { bank := 0, when_ := .next, w := 0 } rfl rfl
        (by decide +kernel) rfl).2 rfl rfl |>.2 rfl (by decide +kernel)
  have := (h (liveGrid { sch with sfpInt := 7 }) { bank := 0, when_ := .next, w := 0 } rfl rfl
        (by decide +kernel) rfl).1 0 _ rfl rfl (by decide +kernel)
  trivial

theorem meets_LiveSetsArePending (h : Obligations.LiveSetsArePending) : True := by
  have := (h (regd (idl stby) (A.TMG_LSTG + 4) 1) .host 0x10001 rfl).1 (by decide +kernel)
  have := (h (regd (inCur sch .running (inMode .capture)) A.TMG_LIVE_TARGET 0xFFFFFF00) .host 0x7 rfl).2.1
        (by decide +kernel) rfl (by decide +kernel)
  have := (h (regd (inCur sch .running (inMode .capture)) A.TMG_LIVE_TARGET 0xFF) .host 0x7 rfl).2.2.1
        (by decide +kernel) (by decide +kernel)
  have := (h (inCur sch .running (inMode .capture)) .host 0x5 rfl).2.2.2 0 (by decide +kernel)
  trivial

/-! ### Converter fabric -/

def ret (w : Word) (s : State) : State := regd s A.CNV_RETIRE w

def ticks : State := { inMode .capture with tmg := { stby.tmg with seq := .running, s := 2, p := 691200000, cur := some {} }, now := 1000 }

def failSlice (k : Nat) (s : State) : State :=
    { s with cnv := { s.cnv with slices := sput (fun _ => {}) s.cnv.slices k { s.cnv.ent k with failed := true } } }

def tdr (c m0 m1 : Word) (s : State) : State := regd (regd
    (regd s A.CNV_TDAC_CTRL c) A.CNV_TDAC_MASK0 m0) A.CNV_TDAC_MASK1 m1

def tdacBusy (r : Option Nat) (ctrl : Nat) (mask : Nat) (s : State) : State :=
    { s with cnv := { s.cnv with tdac := some { ctrl := ctrl, mask := mask, run := r } } }

def inj (ctrl : Nat) : State := tdacBusy (some 500) ctrl 3 stby

def heldW (k x : Nat) (s : State) : State := { s with cnv := s.cnv.setHeld .mc0 k (some x) }

def tdE : State := nx (.tdacInjectionDone [{ col := 0, rep := 0, a := 5000, b := 32767 },
    { col := 1, rep := 0, a := 1, b := 100 }]) (inj 0x04000000)

theorem meets_SlicesAreRetired (h : Claims.SlicesAreRetired) : True := by
  have := (h (ret 130 stby) .host 2 rfl).1 (by unfold State.retireInvalid; decide +kernel)
  have := (h (failSlice 129 (failSlice 128 (ret 5 ticks))) .mc0 2 rfl).2.1 (by unfold State.retireInvalid; decide +kernel)
        (by unfold State.retireServed; decide +kernel) (by decide +kernel)
  have := (h (ret 5 ticks) .mc0 2 rfl).2.2.1 (by unfold State.retireInvalid; decide +kernel) (by unfold State.retireServed; decide +kernel) |>.1 (by decide +kernel)
  have := (h (ret 5 stby) .mc0 2 rfl).2.2.1 (by unfold State.retireInvalid; decide +kernel) (by unfold State.retireServed; decide +kernel) |>.2 (by decide +kernel)
  have := (h { stby with cnv := { stby.cnv with steps := 4, voids := 3 } } .host 8 rfl).2.2.2
  trivial

theorem meets_InjectionsRun (h : Claims.InjectionsRun) : True := by
  have := (h (tdacBusy none 0 1 (tdr 0 1 0 stby)) .host 4 rfl).1 rfl
  have := (h (tdr 0 0 0 stby) .host 4 rfl).2.1 rfl (by decide +kernel)
  have := (h (tdr 0x18000000 0 0x80000000 stby) .host 4 rfl).2.2.1 rfl (by decide +kernel) rfl
  have := (h (tdr 0x18000000 0 0x80000000 ticks) .host 4 rfl).2.2.2.1 rfl (by decide +kernel) rfl
  have := (h (tdacBusy none 0x04000000 1 stby) .host 4 rfl).2.2.2.2.1 _ rfl rfl |>.1 rfl
  have := (h (tdacBusy none 0x04000000 1 { ticks with plan := { ticks.plan with live := some 0 }, tmg := { ticks.tmg with cur := some { sched := { rowslot := 100 } } } }) .host 4 rfl).2.2.2.2.1 _ rfl rfl |>.2 rfl _ rfl
  have := (h (inj 0x04000000) .host 4 rfl).2.2.2.2.2 _ 500
        [{ col := 0, rep := 0, a := 5000, b := 32767 }] rfl rfl
  trivial

theorem meets_SliceWindowIsWritten (h : Obligations.SliceWindowIsWritten) : True := by
  have := (h (inMode .capture) .host 83719 5 rfl (by decide +kernel)).1 (by unfold State.windowOpen; decide +kernel)
  have := (h (inMode .capture) .host 83719 5 rfl (by decide +kernel)).2.1 (by unfold State.windowOpen; decide +kernel)
  have := (h (inMode .capture) .mc0 83719 5 rfl (by decide +kernel)).2.2.1 (by unfold State.windowOpen; decide +kernel)
  have := (h (inMode .capture) .mc0 7 0x12345678 rfl (by decide +kernel)).2.2.2.1 (by unfold State.windowOpen; decide +kernel) rfl
  have := (h (heldW 7 0x0FFF123 (inMode .capture)) .mc0 7 0x12345678 rfl (by decide +kernel)).2.2.2.2.1 _
        (by unfold State.windowOpen; decide +kernel) rfl |>.1 rfl (by decide +kernel)
  have := (h (heldW 7 0x420ABC (inMode .capture)) .mc0 7 0x12345678 rfl (by decide +kernel)).2.2.2.2.1 _
        (by unfold State.windowOpen; decide +kernel) rfl |>.2 (by decide +kernel)
  have := (h (heldW 7 0xFFFFFFFF stby) .mc0 7 0x12345678 rfl (by decide +kernel)).2.2.2.2.2 ⟨.mc0, 0, 4⟩
  trivial

/-! ### Stripe datapaths -/

def strCmd (w : Word) (s : State) : State := regd s A.STR_CMD w

def dpIs (d : Nat) (st : DpState) (s : State) : State := s.setDp d { s.dp d with state := st }

def noSpare (s : State) : State := dpIs 81 .failed (dpIs 80 .failed s)

def took : State := nx (.takeoverGo .mc0 1) (strCmd 5 stby)

def tookRun : State := { took with tmg := ticks.tmg, now := 1000 }

def testing (d : Nat) (st : DpState) (s : State) : State := nx (.testGo .mc0 4) (strCmd (BitVec.ofNat 32
    (256 * d)) (dpIs d st s))

theorem meets_TakesAreCommanded (h : Claims.TakesAreCommanded) : True := by
  have := (h stby .mc0 1 rfl).1 _ (.head _)
  have := (h (strCmd 80 stby) .mc0 1 rfl).2.1 (by decide +kernel) (by decide +kernel) (by decide +kernel) |>.1
        (by decide +kernel)
  have := (h (strCmd 79 (noSpare stby)) .mc1 0xFFFFFFF9 rfl).2.1 (by decide +kernel) (by decide +kernel)
        (by decide +kernel) |>.2.1 (by decide +kernel) (by decide +kernel)
  have := (h (strCmd 79 ticks) .mc1 0xFFFFFFF9 rfl).2.1 (by decide +kernel) (by decide +kernel)
        (by decide +kernel) |>.2.2 (by decide +kernel) (by decide +kernel) (by decide +kernel) |>.1
        (by decide +kernel)
  have := (h (strCmd 79 stby) .mc1 0xFFFFFFF9 rfl).2.1 (by decide +kernel) (by decide +kernel)
        (by decide +kernel) |>.2.2 (by decide +kernel) (by decide +kernel) (by decide +kernel) |>.2
        (by decide +kernel) (by unfold State.takesQuiet; decide +kernel) (by decide +kernel)
  have := (h (strCmd 80 stby) .mc0 2 rfl).2.2 (by decide +kernel) (by decide +kernel) (by decide +kernel) |>.1
        (by decide +kernel)
  have := (h took .mc0 2 rfl).2.2 (by decide +kernel) (by decide +kernel) (by decide +kernel) |>.2.1
        (by decide +kernel) (by decide +kernel) (by decide +kernel)
  have := (h (dpIs 5 .standby tookRun) .mc0 2 rfl).2.2 (by decide +kernel) (by decide +kernel)
        (by decide +kernel) |>.2.2 (by decide +kernel) (by decide +kernel) (by decide +kernel)
        (by decide +kernel) (by decide +kernel)
  trivial

theorem meets_DatapathsTestThemselves (h : Claims.DatapathsTestThemselves) : True := by
  have := (h (strCmd 0x5200 stby) .mc0 4 rfl).1 (by decide +kernel) (by decide +kernel)
        (by decide +kernel) |>.1 (by decide +kernel)
  have := (h (strCmd 0x5100 { stby with str := { stby.str with test := some (3, 4) } }) .mc0 4 rfl).1
        (by decide +kernel) (by decide +kernel) (by decide +kernel) |>.2.1 (by decide +kernel)
        (by decide +kernel)
  have := (h (strCmd 0x0000 stby) .mc0 4 rfl).1 (by decide +kernel) (by decide +kernel)
        (by decide +kernel) |>.2.2 (by decide +kernel) (by decide +kernel) (by decide +kernel)
        (by decide +kernel)
  have := (h (testing 7 .failed stby) .mc0 4 rfl).2.1 7 _ rfl |>.1
  have := (h (testing 7 .home stby) .mc0 4 rfl).2.1 7 _ rfl |>.2 (by unfold State.takesQuiet; decide +kernel)
  have := (h ticks .mc0 4 rfl).2.2 80 (by decide +kernel) (by decide +kernel) |>.1
  have := (h stby .mc0 4 rfl).2.2 81 (by decide +kernel) (by decide +kernel) |>.2 (by unfold State.takesQuiet; decide +kernel)
  trivial

theorem meets_DatapathFaultsAreHandled (h : Claims.DatapathFaultsAreHandled) : True := by
  have := (h ticks 0 0 rfl).1
  have := (h ticks 0 0 rfl).2.1 (by decide +kernel) (by decide +kernel) (by decide +kernel)
        (by decide +kernel) (by decide +kernel)
  have := (h (noSpare ticks) 79 2 rfl).2.2.1 (by decide +kernel) (by decide +kernel)
  have := (h (withTmg (fun x => { x with slot := 40 })
        { cap with frames := [{ fr1 with cfg := { cfg1 with plan := { cfg1.plan with win := { first := 0, last := 100 } } } }] }) 0 2 rfl).2.2.2 _ _ (by decide +kernel) rfl rfl (by decide +kernel)
  trivial

theorem meets_StatisticsAreHeld (h : Claims.StatisticsAreHeld) : True := by
  have := (h stby .host 1 rfl).1 (by decide +kernel)
  have := (h { stby with str := { stby.str with missed := 8, newest := some { frame := 1, epoch := 1, seq := 1, sflags := 0, zones := [], hists := [] } } } .host 0 rfl).2.1 (by decide +kernel)
  have := (h { stby with str := { stby.str with cent := { frame := 77, ns := 4 } } } .host 0 rfl).2.2 ⟨.host,
        0, 4⟩
  trivial

/-! ### Registers and memories -/

theorem meets_RegistersAreWritten (h : Obligations.RegistersAreWritten) : True := by
  have := (h stby (mkWord A.PLAN_COMMIT_FRAME) 0x12345678 rfl).1 (by unfold State.plainWrite; decide +kernel)
  have := (h (regd stby A.PLAN_INT_STATUS 0xF) (mkWord A.PLAN_INT_STATUS) 0x5 rfl).2.1 .mc1 3
        (by unfold State.plainWrite; decide +kernel)
  have := (h stby (mkWord (A.WDT_CTRL + 1)) 0x5 rfl).2.2.1 (by decide +kernel) (by decide +kernel) _ rfl
        (by decide +kernel)
  have := (h stby (mkWord 0x500000) 0x5 rfl).2.2.2.1 (by decide +kernel) (by decide +kernel)
  have := (h stby (mkWord (A.WDT_CTRL + 1)) 0x5 rfl).2.2.2.2 .mc0 0 4 _ (by decide +kernel)
        (by decide +kernel) (by decide +kernel) rfl (by decide +kernel) (by decide +kernel)
  trivial

theorem meets_TransactionsRunWordByWord (h : Claims.TransactionsRunWordByWord) : True := by
  have := (h stby (nx (.write (mkWord A.PLAN_COMMIT_FRAME) [1] false) stby) (mkWord A.PLAN_COMMIT_FRAME) 1 2
        [3] true rfl).1 rfl (by decide +kernel) (by decide +kernel)
  have := (h stby stby 0 1 2 [3] true rfl).2.1
  have := (h stby stby 4 1 2 [3] true rfl).2.2.1 0
  have := (h stby stby 4 1 2 [3] false rfl).2.2.2 0x04 (by decide +kernel) (by decide +kernel)
        (by decide +kernel)
  trivial

theorem meets_StatusAnswers (h : Claims.StatusAnswers) : True := by
  have := (h (inMode .boot)).1 rfl
  have := (h { stby with sys := { stby.sys with portErr := 1, phase := .held 5 false } }).2 rfl
  trivial

theorem meets_DramWindowIsGuarded (h : Claims.DramWindowIsGuarded) : True := by
  have := (h stby .mc0 7 0 4 5 rfl).1 (by unfold State.dramShut; decide +kernel)
  have := (h (regd stby A.SYS_DRAM_APERTURE 0xE0000000) .host 7 0xC000000 4 0x12345678 rfl).2
        (by unfold State.dramShut; decide +kernel)
  trivial

theorem meets_RetainedMemoryIsGuarded (h : Claims.RetainedMemoryIsGuarded) : True := by
  have := (h stby .mc1 0x8 0x1003 1 0x12345678 rfl (by decide +kernel)).1 (by decide +kernel)
        (by decide +kernel)
  have := (h stby .host 0x8 0x1100 4 0x12345678 rfl (by decide +kernel)).2 (by decide +kernel)
  trivial

/-! ### Modes, mailbox and service -/

def pllsOk (s : State) : State := { s with clk := { s.clk with plls := [(0, { state := .locked }), (1, { state := .locked })] } }

def permit (s : State) : State := { s with sys := { s.sys with permit := true } }

def alm (l : List Nat) : State := { stby with sys := { stby.sys with alarms := l } }

def fw6 (s : State) : State := { s with sys := { s.sys with boot := { s.sys.boot with step := 14 } } }

def busyM : State := { (permit stby) with sys := { stby.sys with mbox := some .saveMaps } }

def rsaN : Nat := 0xb6b6f6c30ffc829adcd2a1b80b2b3c85c86e5d5064bd7c6937e55491f02276295bd8d8ced9f3523da3e4c6f2cf6fcceb655854440262ee1cd73474e821a4ed2ce7652bd8a1546765d7c0b7392e79ef9cde4bc95744788bf0254e7f69f4c121e8f28dbe7aadd62009fba63185f1f83a9a2864b10cfdab2855a221d7764f61c5744c2a3ece8bc69eff22582c34705c0f2d3698c50206ecc00bb36100103af9bc3d0ca36e8c401c5e35627d8f3d0fbef0b8445abefbe81fafd78dc92e27febdc32a5d824d65cb8337dd7824f3c9f3d28ae955c625d018924f51bd020e24f22c4d3aeeeb8bf35f4cedc3c4b4bfffb7e160508c0fd1dad075d0a27f756134a16d831e798561a8f295b26d53759c360b891281aa9f3bb09fd0225b72ab7240c26d99df19d0cc86ea6cbd39be29b3f430e811662391bad4eba03c05add97539f18d823b15dcf74b669b1cd7faf958371ae3d1b806d9996cb49c39a059338cec84a741367fda0562034e6ff69b0abb43b5e361aea88ba821f1dd70d0e972133184911aab

def fwSig : Nat := 0x9a916bb78143408a0cb49e0058426b3ec9151f741239d18768b0707796c8c337b4dbb510463490ce9b3ec2275c6214fd2a91515a26359eb9ca9ad39696ac1608202225b46728357d3745a3e35f80c077fa2513d65f1138bd5a73e39ccbcf27082009c5891bc0f8ff4d07e15c407e15e09d1e5ded2cefe86a3e6ce7a8c048ce2b6cf2a21490234851c9033440ff48b62c82e4a240bf1be2050704d69de0a0e2d52d62efc7597679a41a5f0b3fcfc81e1428c0ff620c7e6e165931e16920435d8a620ec3f23edf66fbe4a8afafffad1053eaaffe7727195f07a8d5df9d221eaa46396af64a40c3db8e19ecaf22afd3642b9e71310bb6cca43bf42bf96fbd68dbcb8d66a0ca0d0daf599b4814edf55c1b2b056590980a48a8773df7af4f8ddd1085196c27e85719cf7604aa125d7599aa4fee715cfa1e2079a5ad6894f2cb9beb72b1550d6486ed5a7398fda6c13f54cbbce19103e2815e5f7f872e257021675560460daa816e7dc4153dd49fa4786eba58eb7575627a55a78697bbed6787738338

def emptyHash : List Byte := beBytes 0xe3b0c44298fc1c149afbf4c8996fb92427ae41e4649b934ca495991b7852b855 32

def fwHead : List Byte :=
  leBytes 0x57465A52 4 ++ leBytes 1 4 ++ leBytes 0x1000 4 ++ leBytes 0x2010 4 ++ leBytes 0xFFFF0000 4 ++
      leBytes 0 4 ++
    leBytes 0x1000 8 ++ leBytes 0x1000 8 ++ emptyHash ++ emptyHash ++ List.replicate 88 0

def fwSigBlock : List Byte := List.replicate 12 0 ++ leBytes 65537 4 ++ beBytes rsaN 384 ++ beBytes fwSig 384

def fwImage : List Byte := fwHead ++ fwSigBlock

def rsaDigest : List Byte := beBytes 0xc5d7a14232e54ab430750e63c233cdd6ad21a1a65461e9052956ffe962c43869 32

def imageIn (s : State) : State :=
  { s with dram := wrSpan [] 0x2000 fwImage, flash := wrSpan [] 0x100000 fwImage
           sys := { s.sys with dir := s.sys.dir.setSlot 0 .valid }
           vlt := { s.vlt with shadow := (List.range 4).map fun i =>
             (slotRow 0 + i, ofLE ((rsaDigest.drop (8 * i)).take 8)) } }

theorem image_read (m : Memory) (a : Nat) : rdBytes (wrSpan m a fwImage) a 192 = fwHead ∧
    rdBytes (wrSpan m a fwImage) (a + 192) 784 = fwSigBlock := by
  have h1 := rdBytes_wrSpan m a 0 192 fwImage (by decide +kernel)
  have h2 := rdBytes_wrSpan m a 192 784 fwImage (by decide +kernel)
  exact ⟨h1.trans (by decide +kernel), h2.trans (by decide +kernel)⟩

theorem pss_ok : pssVerify (beBytes rsaN 384) (beBytes fwSig 384) fwHead = true := by decide +kernel

theorem image_good (s : State) (m : Memory) (a : Nat) (hp : s.part = stby.part) (hv : s.vlt =
    (imageIn stby).vlt) :
    s.fwGood (wrSpan m a fwImage) a = true := by
  have h := image_read m a
  unfold State.fwGood
  dsimp only
  rw [show (0xC0 : Nat) = 192 from rfl, h.1, h.2, hp, hv]
  have e0 : fwSectionOk (wrSpan m a fwImage) a fwHead 0x18 0x28 = true := by
    unfold fwSectionOk
    dsimp only
    rw [show imgU fwHead (0x18 + 4) 4 = 0 by decide +kernel, rdBytes]
    decide +kernel
  have e1 : fwSectionOk (wrSpan m a fwImage) a fwHead 0x20 0x48 = true := by
    unfold fwSectionOk
    dsimp only
    rw [show imgU fwHead (0x20 + 4) 4 = 0 by decide +kernel, rdBytes]
    decide +kernel
  have e2 : (fwSigBlock.drop 0x10).take 384 = beBytes rsaN 384 := by decide +kernel
  have e3 : (fwSigBlock.drop 0x190).take 384 = beBytes fwSig 384 := by decide +kernel
  have e4 : sigDigest fwSigBlock = rsaDigest := by decide +kernel
  rw [e0, e1, e2, e3, e4, pss_ok]
  decide +kernel

def gate (g : Bool) (s : State) : State := { s with thm := { s.thm with flashGate := g } }

theorem image_valid (s : State) (hp : s.part = stby.part) (hv : s.vlt = (imageIn stby).vlt)
    (hf : s.flash = wrSpan [] 0x100000 fwImage) (hd : s.sys.dir.slot 0 = .valid) : s.slotGood 0 = true := by
  unfold State.slotGood
  rw [hf, hd]
  exact (Bool.and_eq_true _ _).mpr ⟨rfl, image_good s [] (slotBase 0) hp hv⟩

theorem image_whole (s : State) (hp : s.part = stby.part) (hv : s.vlt = (imageIn stby).vlt)
    (hd : s.dram = wrSpan [] 0x2000 fwImage) : s.imageGood 0x2000 0x1000 := by
  unfold State.imageGood
  rw [hd]
  exact ⟨image_good s [] 0x2000 hp hv, by decide +kernel⟩

def recov (g : Bool) (s : State) : State := { s with sys := { s.sys with boot := { s.sys.boot with recovery := true } }, thm := { s.thm with flashGate := g } }

def mb (r : MboxRun) (g : Bool) (s : State) : State :=
    { s with sys := { s.sys with mbox := some r }, thm := { s.thm with flashGate := g } }

def shut (s : State) : State := { s with sys := { s.sys with updShut := true } }

def grace (s : State) : State := { s with sys := { s.sys with grace0 := some 500, grace1 := some (10 ^ 10) } }

theorem meets_ModeRequestsAreJudged (h : Obligations.ModeRequestsAreJudged) : True := by
  have := (h stby .host 6 rfl).1 rfl
  have := (h (permit stby) .host 0xFFFFFFF9 rfl).2.1 rfl
  have := (h stby .host 3 rfl).2.2.1 _ _ rfl (by decide +kernel) rfl
  have := (h (permit (pllsOk (inMode .safe))) .host 1 rfl).2.2.2.1 _ rfl (by decide +kernel) rfl |>.1 rfl
  have := (h (permit (pllsOk (liveOn stby))) .host 3 rfl).2.2.2.1 _ rfl (by decide +kernel) rfl |>.2.1
        (by decide +kernel) (by decide +kernel)
  have := (h (permit (regd stby A.CAL_RUN_MASK 1)) .host 4 rfl).2.2.2.1 _ rfl (by decide +kernel) rfl |>.2.2
        (by decide +kernel) (by decide +kernel) (by decide +kernel)
  have := (h (inMode .boot) .host 4 rfl).2.2.2.2 .standby (by decide +kernel) |>.1 (.inl rfl)
  have := (h { (inMode .safe) with sys := { (inMode .safe).sys with safeActive := 8 } } .host 4 rfl).2.2.2.2
        .standby (by decide +kernel) |>.2.1 (by decide +kernel) (by decide +kernel) (by decide +kernel)
  have := (h { stby with sys := { stby.sys with mbox := some .saveMaps } } .host 4 rfl).2.2.2.2 .capture
        (by decide +kernel) |>.2.2.1 (by decide +kernel) (by decide +kernel)
  have := (h stby .host 4 rfl).2.2.2.2 .capture (by decide +kernel) |>.2.2.2 (by decide +kernel)
        (by decide +kernel) (by decide +kernel) (by decide +kernel)
  trivial

theorem meets_ServiceAndAlarmsAct (h : Claims.ServiceAndAlarmsAct) : True := by
  have := (h stby .host 0x5E41 rfl).1 (by decide +kernel) (by decide +kernel)
  have := (h stby .host 0x5E40 rfl).2.1 (by decide +kernel)
  have := (h (alm [2 ^ 32 - 1]) .mc1 0x5E41 rfl).2.2.1 ⟨.mc0, 0, 4⟩ |>.1 _ _ rfl rfl
  have := (h (alm []) .mc0 0x5E41 rfl).2.2.1 ⟨.mc0, 0, 4⟩ |>.2 (by decide +kernel)
  have := (h stby .mc1 0x5E41 rfl).2.2.2.1 5 _ (.head _)
  have := (h ticks .mc0 0x5E41 rfl).2.2.2.2 5 (by decide +kernel) |>.1
  have := (h ticks .mc0 0x5E41 rfl).2.2.2.2 0xFFFFFFCF (by decide +kernel) |>.2.1 (by decide +kernel)
        (by decide +kernel) (by decide +kernel) (by decide +kernel)
  have := (h ticks .mc0 0x5E41 rfl).2.2.2.2 130 (by decide +kernel) |>.2.2.1
  have := (h (stby.setLane 59 { laneReset 59 with state := .train }) .mc0 0x5E41 rfl).2.2.2.2 59
        (by decide +kernel) |>.2.2.2 (by decide +kernel) (by decide +kernel) (by decide +kernel)
  trivial

theorem meets_MailboxTakesCommands (h : Claims.MailboxTakesCommands) : True := by
  have := (h busyM .host 0 0 0 rfl).1 rfl _ (.head _)
  have := (h (fw6 (inMode .boot)) .host 0 0 0 rfl).2 rfl |>.1 |>.1 (by decide +kernel)
  have := (h (fw6 (inMode .boot)) .host 0 0 0 rfl).2 rfl |>.2.1 |>.1 (by decide +kernel)
  have := (h (fw6 (inMode .boot)) .host 0 0 0 rfl).2 rfl |>.2.2.1 |>.1 (by decide +kernel)
  have := (h stby .host 0 0 0 rfl).2 rfl |>.1 |>.2.1 (by decide +kernel) (by decide +kernel)
  have := (h stby .host 0 0 0 rfl).2 rfl |>.2.1 |>.2.1 (by decide +kernel) (by decide +kernel)
  have := (h stby .host 0 0 0 rfl).2 rfl |>.2.2.1 |>.2.1 (by decide +kernel) (by decide +kernel)
  have := (h (permit stby) .host 0 0x400001 0 rfl).2 rfl |>.1 |>.2.2 (by decide +kernel)
        (by decide +kernel) |>.1 (by decide +kernel)
  have := (h (permit stby) .host 0xFFC00000 0x400000 0 rfl).2 rfl |>.1 |>.2.2 (by decide +kernel)
        (by decide +kernel) |>.2.1 (by decide +kernel) (by decide +kernel) (by unfold State.imageGood; decide +kernel)
  have := (h (permit stby) .host 2 0 0 rfl).2 rfl |>.2.1 |>.2.2 (by decide +kernel) (by decide +kernel) |>.1
        (by decide +kernel)
  have := (h (permit stby) .host 1 0 0 rfl).2 rfl |>.2.1 |>.2.2 (by decide +kernel) (by decide +kernel) |>.2.1
        (by decide +kernel) (by decide +kernel)
  have := (h (permit stby) .host 1 0 0 rfl).2 rfl |>.2.2.1 |>.2.2 (by decide +kernel) (by decide +kernel)
  have := (h (permit stby) .host 1 0 0 rfl).2 rfl |>.2.2.2.1 (by decide +kernel)
  have := (h (permit (gate false (imageIn stby))) .host 0x2000 0x1000 0 rfl).2 rfl |>.1 |>.2.2
        (by decide +kernel) (by decide +kernel) |>.2.2 (by decide +kernel) (by decide +kernel)
        (image_whole _ rfl rfl rfl) |>.1 rfl
  have := (h (permit (gate true (imageIn stby))) .mc0 0x2000 0x1000 1 rfl).2 rfl |>.1 |>.2.2
        (by decide +kernel) (by decide +kernel) |>.2.2 (by decide +kernel) (by decide +kernel)
        (image_whole _ rfl rfl rfl) |>.2 rfl
  have := (h (permit (gate false (imageIn stby))) .host 0 0 0 rfl).2 rfl |>.2.1 |>.2.2 (by decide +kernel)
        (by decide +kernel) |>.2.2.1 (by decide +kernel) (image_valid _ rfl rfl rfl rfl) rfl
  have := (h (permit (gate true (imageIn stby))) .host 0 0 0 rfl).2 rfl |>.2.1 |>.2.2 (by decide +kernel)
        (by decide +kernel) |>.2.2.2 (by decide +kernel) (image_valid _ rfl rfl rfl rfl) rfl
  have := (h (recov true (inMode .safe)) .host 2 0 0 rfl).2 rfl |>.2.2.2.2 (by decide +kernel) |>.1
        (by decide +kernel)
  have := (h (recov false (inMode .safe)) .host 1 0x400000 0 rfl).2 rfl |>.2.2.2.2 (by decide +kernel) |>.2.1
        (by decide +kernel) (by decide +kernel) (by decide +kernel)
  have := (h (recov true (inMode .safe)) .host 1 0x400000 0 rfl).2 rfl |>.2.2.2.2 (by decide +kernel) |>.2.2
        (by decide +kernel) (by decide +kernel) (by decide +kernel)
  trivial

theorem meets_CoresAndStripesAreCommanded (h : Claims.CoresAndStripesAreCommanded) : True := by
  have := (h (fw6 stby) .host 2 0 rfl rfl rfl).1 (by decide +kernel)
  have := (h (fw6 stby) .host 2 0 rfl rfl rfl).2.1 _ rfl
  have := (h (fw6 stby) .host 80 1 rfl rfl rfl).2.2.2.1
  have := (h (fw6 ticks) .host 79 1 rfl rfl rfl).2.2.2.2.1
  have := (h (fw6 stby) .host 127 1 rfl rfl rfl).2.2.2.2.2
  trivial

theorem meets_MailboxCommandsEnd (h : Claims.MailboxCommandsEnd) : True := by
  have := (h (mb (.refused .arg) true stby) none rfl).1 _ rfl
  have := (h (mb (.fwUpdate 0 0 true 1) true (permit stby)) none rfl).2.1 _ _ _ _ rfl |>.1
  have := (h (shut (mb (.fwUpdate 0 100 true 1) true (permit stby))) (some
        { sectors := 0, gate := true }) rfl).2.1 _ _ _ _ rfl |>.2.1 _ rfl
  have := (h (mb (.fwUpdate 0 0 true 1) true (permit stby)) none rfl).2.1 _ _ _ _ rfl |>.2.2 rfl
        (by decide +kernel) (by decide +kernel)
  have := (h (mb (.coreRestart 0 1) true (permit stby)) (some
        { sectors := 70, gate := true }) rfl).2.2.2.1 _ _ rfl
  have := (h (mb (.fwActivate 0) true (imageIn stby)) none rfl).2.2.1 _ rfl |>.1
        (image_valid _ rfl rfl rfl rfl) rfl
  have := (h (mb (.fwActivate 0) false (imageIn stby)) none rfl).2.2.1 _ rfl |>.2.1
        (image_valid _ rfl rfl rfl rfl) rfl
  have := (h (mb (.fwActivate 1) true stby) none rfl).2.2.1 _ rfl |>.2.2 (by decide +kernel)
  have := (h (mb (.stripe 4) true stby) none rfl).2.2.2.2.1 _ rfl (by decide +kernel)
  have := (h (shut (recov true (mb (.recover 1 6 4) true (inMode .safe)))) (some
        { sectors := 0, gate := true }) rfl).2.2.2.2.2.1 _ _ _ rfl |>.1 _ rfl
  have := (h (recov false (mb (.recover 1 6 8) false
        (inMode .safe))) none rfl).2.2.2.2.2.1 _ _ _ rfl |>.2.2.1 rfl (by decide +kernel) rfl
  have := (h (recov true (mb (.recover 1 6 8) true
        (inMode .safe))) none rfl).2.2.2.2.2.1 _ _ _ rfl |>.2.2.2.1 rfl (by decide +kernel)
        (by decide +kernel) (by decide +kernel)
  have := (h (recov true (mb (.recover 1 4194304 4194304) true
        (inMode .safe))) none rfl).2.2.2.2.2.1 _ _ _ rfl |>.2.1 rfl (by decide +kernel)
        (by decide +kernel) rfl
  have := (h (recov true (mb (.recover 1 6 4) true
        (inMode .safe))) none rfl).2.2.2.2.2.1 _ _ _ rfl |>.2.2.2.2.1 .host 0x12345678 (by decide +kernel)
        (by decide +kernel)
  have := (h (recov false (mb (.recover 0 4 0) false
        (inMode .safe))) none rfl).2.2.2.2.2.1 _ _ _ rfl |>.2.2.2.2.2 .host 0x12345678 (by decide +kernel)
        (by decide +kernel) (by decide +kernel)
  have := (h (mb (.recover 0 4 4) false (inMode .safe)) none rfl).2.2.2.2.2.2.1 .host 5
        (by intro a b c h; cases h; decide)
  have := (h (grace stby) none rfl).2.2.2.2.2.2.2.1 _ rfl
  have := (h (grace stby) none rfl).2.2.2.2.2.2.2.2 _ rfl
  trivial

/-! ### Resets and boot -/

def used : State := { (regd (inMode .capture) A.PLAN_COMMIT_FRAME 5) with dram := [(5, 1)], ret := [(7, 1)], flash := [(9, 2)], now := 12345, pending := [.status] }

theorem nc : used.nothingCut := ⟨rfl, rfl, rfl, rfl, nofun, rfl, nofun, nofun, nofun⟩

def heldS (p : Bool) : State := nx (if p then .powerOnReset else .pinReset 1000 {}) used

def heldUntil (s : State) : Nat := match s.sys.phase with | .held u _ => u | _ => 0

def booting (k v : Nat) : State := { inMode .boot with sys := { (inMode .boot).sys with boot := { State.reset.sys.boot with step := k, variant := v } } }

def lock0 (s : State) : State := { s with clk := { s.clk with plls := [(0, { state := .locked })] } }

def dbg (s : State) : State := { s with vlt := { s.vlt with shadow := [] , fuses := s.vlt.fuses } }

theorem meets_ResetsHoldTheBlock (h : Claims.ResetsHoldTheBlock) : True := by
  have := (h used {}).1
  have := (h used {}).2.1 2000 5 (by decide +kernel) |>.1 nofun
  have := (h (nx .powerOnReset used) {}).2.1 2000 5 (by decide +kernel) |>.2 _ rfl
  have := (h used {}).2.2.1 2001 5 (by decide +kernel)
  have := (h used {}).2.2.2.1 rfl nc |>.1 1000 (by decide +kernel)
  have := (h used {}).2.2.2.1 rfl nc |>.2.1 0xFFFFA5C3 (by decide +kernel)
  have := (h used {}).2.2.2.1 rfl nc |>.2.2 true 0xA5C3 (by decide +kernel)
  have := (h { used with wdt := { used.wdt with state := .expired, hardEnd := some 0 } } {}).2.2.2.2.1 rfl
        (by decide +kernel) 0xA5C3 (by decide +kernel)
  have := (h used {}).2.2.2.2.2.1 899 (by decide +kernel)
  have := (h used {}).2.2.2.2.2.2 rfl 0xA5C2 (by decide +kernel)
  trivial

theorem meets_HeldResetsJoinAndRelease (h : Claims.HeldResetsJoinAndRelease) : True := by
  have := (h (heldS false) (heldUntil (heldS false))).1 rfl 0xA5C3 {} (by decide +kernel)
  have := (h (heldS true) (heldUntil (heldS true))).2.1 rfl |>.1 0xA5C3 {}
  have := (h (heldS true) (heldUntil (heldS true))).2.1 rfl |>.2 5 {}
  have := (h (heldS true) (heldUntil (heldS true))).2.2.1 _ 3 true rfl
  have := (h used 5).2.2.2 rfl 0 true
  trivial

theorem meets_BootStepsEnd (h : Claims.BootStepsEnd) : True := by
  have := (h { booting 3 0 with sys := { (booting 3 0).sys with boot := { (booting 3 0).sys.boot with ended := true } } } {} rfl).1 (by decide +kernel) |>.1 (by decide +kernel)
  have := (h (nx (.bootStep { at_ := 5 }) (booting 14 0)) { at_ := 9 } rfl).1 (by decide +kernel) |>.2
        (by decide +kernel) (by decide +kernel)
  have := (h (booting 1 0) { at_ := 5 } rfl).2 rfl rfl |>.1 rfl rfl (by decide +kernel)
  have := (h (lock0 (booting 1 0)) { at_ := 5 } rfl).2 rfl rfl |>.2.1 rfl (by decide +kernel) rfl
  have := (h (booting 6 0) { at_ := 5 } rfl).2 rfl rfl |>.2.2.1 rfl rfl
  have := (h (booting 6 0) { at_ := 5, err := true } rfl).2 rfl rfl |>.2.2.2.1 rfl rfl rfl
  have := (h (booting 3 1) { at_ := 5 } rfl).2 rfl rfl |>.2.2.2.2.1 rfl rfl (by decide +kernel)
  have := (h (booting 10 1) { at_ := 5, stats := true } rfl).2 rfl rfl |>.2.2.2.2.2.1 rfl rfl rfl
  have := (h (booting 14 0) { at_ := 5 } rfl).2 rfl rfl |>.2.2.2.2.2.2 rfl rfl
  trivial

/-! ### Monitor and thermal -/

def monOn (f : Mon → Mon) : State := { (regd stby A.MON_CTRL 0xC) with mon := f stby.mon }

def mAcc (x : MonAcc) (m : Mon) : Mon := { m with accs := [(m.ch, x)] }

def lnd (f : Mon → Mon) (k : MonKind) : State := monOn fun m =>
    { mAcc { sum := 9 } (f m) with landed := some { at_ := stby.mgt, ch := m.ch, kind := k, code := 77, int := 0 } }

def runsOk : List (Int × Int × Int × Int) := List.replicate 8 (5, 7, 13, 23)

def runsBad : List (Int × Int × Int × Int) := List.replicate 8 (5, 7, 14, 23)

def calOn : State := monOn fun m => { m with calFrom := some 5 }

def extOn (f : Mon → Mon) : State := { (regd (regd stby A.MON_CTRL 0xC) A.THM_EXT_CFG 0x0A05) with mon := f stby.mon }

def wn (f : Nat → Int) : List SensorWin := (List.range 64).map fun i => ⟨1000 + i, f i⟩

def thS (f : Thm → Thm) : State := { stby with thm := f stby.thm }

def settled (v : Int) : State := (List.range 64).foldl (fun (a : State) i => a.setSensor i
    { (a.thm.sensor i) with res := some v, raw := 1000 + i + 1, hist := List.replicate 16 v, temp := some v, chg := [(0, v)] }) stby

def tick (s : State) : State := { s with tmg := { s.tmg with seq := .running, s := 2, p := 691200000, cur := some {} } }

theorem meets_MonitorOutputsAreTaken (h : Claims.MonitorOutputsAreTaken) : True := by
  have := (h stby 5 rfl).1
  have := (h (regd stby A.MON_CTRL 0) 5 rfl).2.1 (by decide +kernel)
  have := (h (monOn id) 5 rfl).2.2 (by decide +kernel) |>.1
  have := (h (monOn fun m => { m with skip := 3 }) 5 rfl).2.2 (by decide +kernel) |>.2.1 (by decide +kernel)
  have := (h (monOn fun m => { m with skip := 0 }) 5 rfl).2.2 (by decide +kernel) |>.2.2.1 (by decide +kernel)
        (by decide +kernel) (by decide +kernel) (by decide +kernel)
  have := (h (monOn fun m => mAcc { sum := 7, full := true } { m with skip := 0 }) 5 rfl).2.2
        (by decide +kernel) |>.2.2.2.1 (by decide +kernel) (by decide +kernel) (by decide +kernel)
        (by decide +kernel)
  have := (h (monOn fun m => mAcc { sum := 7 } { m with skip := 0 }) 8388608 rfl).2.2
        (by decide +kernel) |>.2.2.2.2 (by decide +kernel) (.inl (by decide +kernel))
  trivial

theorem meets_MonitorIsCommanded (h : Claims.MonitorIsCommanded) : True := by
  have := (h stby .host true 1 rfl).1 (by unfold State.monMay; decide +kernel)
  have := (h stby .host false 1 rfl).2.1
  have := (h (monOn id) .host false 0x19 rfl).2.2.1 (fun _ => (by decide +kernel)) |>.1 (by decide +kernel)
  have := (h (monOn fun m => { m with calFrom := some 5 }) .mc0 false 0x1005 rfl).2.2.1
        (fun h => by cases h) |>.2.1 (by decide +kernel) (by decide +kernel)
  have := (h (monOn id) .mc0 false 0x1005 rfl).2.2.1 (fun h => by cases h) |>.2.2.1 (by decide +kernel)
        (by decide +kernel)
  have := (h (lnd id .valid) .host true 0xFFFFFFFF rfl).2.2.1 (fun _ => (by decide +kernel)) |>.2.2.2
  have := (h (lnd id .over) .mc1 true 0xFFFFFFFF rfl).2.2.2.1 (by decide +kernel) |>.1
  have := (h (lnd id .over) .mc1 true 0xFFFFFFFF rfl).2.2.2.1 (by decide +kernel) |>.2.1 (by decide +kernel)
  have := (h (monOn fun m => { m with calFrom := some 5 }) .mc1 true 0xFFFFFFFF rfl).2.2.2.1
        (by decide +kernel) |>.2.2 (by decide +kernel)
  have := (h (lnd id .invalid) .host true 0xFFFFFFFE rfl).2.2.2.2 (by decide +kernel) (by decide +kernel)
        (by decide +kernel)
  trivial

theorem meets_MonitorReadsAndCalibrates (h : Claims.MonitorReadsAndCalibrates) : True := by
  have := (h (monOn (mAcc { sum := -9 })) ⟨.host, 0, 4⟩ 3 rfl).1
  have := (h calOn ⟨.mc0, 2, 2⟩ 3 rfl).2.1 runsOk 5 _ rfl |>.1
  have := (h { calOn with cal := { calOn.cal with monRun := some 7 } } ⟨.mc0, 2, 2⟩ 3 rfl).2.1 runsOk
        (-5) _ rfl |>.2 (by decide +kernel)
  have := (h (extOn id) ⟨.mc0, 2, 2⟩ 3 rfl).2.2.1 (by decide +kernel) (by decide +kernel) (by decide +kernel)
  have := (h (extOn fun m => { m with scan := some 9 }) ⟨.mc0, 2, 2⟩ 3 rfl).2.2.2 [[1, 2, 3, 4], [8388608, 5,
        5, 5], [9]] _ rfl
  trivial

theorem meets_WindowsMoveThermalStates (h : Obligations.WindowsMoveThermalStates) : True := by
  have := (h (settled 1600) (wn fun _ => 1600) rfl)
  trivial

theorem meets_ThermalTimersEnd (h : Claims.ThermalTimersEnd) : True := by
  have := (h (tick (thS fun x => { x with state := .alert, grace := some 50 })) 50 rfl
        (by decide +kernel) rfl).1 rfl |>.1 rfl rfl (by decide +kernel)
  have := (h (thS fun x => { x with state := .alert, grace := some 50 }) 50 rfl
        (by decide +kernel) rfl).1 rfl |>.2.1 rfl rfl (by decide +kernel)
  have := (h { tick (thS fun x => { x with state := .enforced, enforced := true, release := some 50 }) with now := 5 } 50 rfl (by decide +kernel) rfl).1 rfl |>.2.2.2.1 rfl (by decide +kernel) rfl rfl (by decide +kernel)
  have := (h (thS fun x => { x with state := .enforced, enforced := true, release := some 50, condW := true })
        50 rfl (by decide +kernel) rfl).1 rfl |>.2.2.2.2 rfl (by decide +kernel) rfl rfl (by decide +kernel)
  have := (h (thS fun x => { x with state := .enforced, enforced := true, release := some (stby.sys.release + ms 1), condW := true }) (stby.sys.release + ms 1) rfl (by decide +kernel) rfl).1 rfl |>.2.2.1 rfl (by decide +kernel)
  have := (h (thS fun x => { x with state := .enforced, critEnd := some 50 }) 50 rfl
        (by decide +kernel) rfl).2 (by decide +kernel) |>.1 rfl
  have := (h (thS fun x => { x with state := .releasing, persist := some 50 }) 50 rfl
        (by decide +kernel) rfl).2 (by decide +kernel) |>.2 rfl
  trivial

theorem meets_ThermalPinAndLock (h : Claims.ThermalPinAndLock) : True := by
  have := (h (thS fun x => { x with pinLow := true, pinAt := 5 }) .host 3 0 rfl).1 rfl (by decide +kernel)
  have := (h (thS fun x => { x with state := .alert }) .host 3 0 rfl).2.1 (by decide +kernel)
  have := (h stby .host 67 0x503A1E rfl).2.2.1
  have := (h stby .host 67 0x503A1E rfl).2.2.2.1
  have := (h stby .mc0 67 0x503A1E rfl).2.2.2.2 (by decide +kernel) |>.1
  have := (h (thS fun x => { x with lock := true }) .mc0 67 0x503A1E rfl).2.2.2.2
        (by decide +kernel) |>.2.1 rfl (by decide +kernel)
  have := (h stby .mc1 0 0x5A1E3A rfl).2.2.2.2 (by decide +kernel) |>.2.2.1 rfl (by decide +kernel)
  have := (h stby .mc1 0 0xFF7D3A1E rfl).2.2.2.2 (by decide +kernel) |>.2.2.2 rfl (by decide +kernel)
        (by decide +kernel) (by decide +kernel)
  trivial

/-! ### Calibration -/

def calIs (f : Cal → Cal) (s : State) : State := { s with cal := f s.cal }

def lock1 (s : State) : State := { s with clk := { s.clk with plls := [(0, { state := .locked }), (1, { state := .locked })] } }

def tickC (m : Mode) : State := { inMode m with tmg := { stby.tmg with seq := .running, s := 2, p := 691200000, cur := some {} }, now := 1000 }

def req (c : Cal) : Cal := { c with state := .requested, tReq := 500, timer := some 9000 }

def msk (n : Word) (s : State) : State := regd s A.CAL_RUN_MASK n

def rn (c : Cal) : Cal := { c with state := .running, start := 700, tj0 := some 1600 }

def sc (k : Nat) (o : Int) : SliceCal := { slice := k, p0 := { offset := 3 }, p1 := { offset := o } }

def ln (d : Nat) : EqLane := { old := 0x123, cur := [1, 2, 3], dir := d, report := some 40, pass0 := [1, 2, 3] }

def eqS (tap pass : Nat) (l : List (Nat × EqLane)) : State := calIs (fun c =>
    { c with eqRun := some { tap := tap, pass := pass, lanes := l } }) (inMode .calibrate)

def drk : State := calIs (fun c => { c with darkRun := some 44 }) (inMode .calibrate)

def sav (g : Bool) (m : Bool) : State := { calIs (fun c => { c with saveMbox := m, state := if m then .idle else .saving }) stby with thm := { stby.thm with flashGate := g } }

theorem meets_CalibrationIsGranted (h : Claims.CalibrationIsGranted) : True := by
  have := (h (calIs req (tickC .capture)) .host 0 rfl).1 rfl |>.1 (by decide +kernel)
  have := (h (lock1 (calIs req (inMode .calibrate))) .mc1 0 rfl).1 rfl |>.2.1 (by decide +kernel)
        (by decide +kernel) (by decide +kernel) rfl (by decide +kernel)
  have := (h (regd (calIs req (tickC .capture)) A.CAL_DEFER 3) .mc1 0 rfl).1 rfl |>.2.2 (by decide +kernel)
  have := (h (tickC .capture) .host 0 rfl).2.1 rfl |>.1 (by decide +kernel)
  have := (h (tickC .capture) .host 0 rfl).2.1 rfl |>.2 (by decide +kernel)
  have := (h (calIs req (tickC .capture)) .host 0 rfl).2.2 9000 rfl (by decide +kernel) |>.1 rfl
  have := (h (calIs (fun c => { req c with state := .deferred }) (tickC .capture)) .host 0 rfl).2.2 9000 rfl
        (by decide +kernel) |>.2 rfl
  trivial

theorem meets_CalibrationRunsAreOrdered (h : Claims.CalibrationRunsAreOrdered) : True := by
  have := (h (msk 1 (tickC .capture)) .mc0 0 rfl (by decide +kernel) (by decide +kernel)
        (by unfold Cal.darkListed; decide +kernel)).1 (by decide +kernel) (by decide +kernel) rfl (by decide +kernel)
  have := (h (msk 1 (calIs req (tickC .capture))) .mc0 0 rfl (by decide +kernel) (by decide +kernel)
        (by unfold Cal.darkListed; decide +kernel)).2.1 (by decide +kernel) (.inr (by decide +kernel)) rfl
  have := (h (msk 2 (tickC .capture)) .mc0 0 rfl (by decide +kernel) (by decide +kernel)
        (by unfold Cal.darkListed; decide +kernel)).2.2.1 (by decide +kernel) (.inl (by decide +kernel)) rfl
  have := (h (msk 4 stby) .mc0 0 rfl (by decide +kernel) (by decide +kernel) (by unfold Cal.darkListed; decide +kernel)).2.2.2.1
        (by decide +kernel) (by decide +kernel) (by decide +kernel) rfl rfl
  have := (h (msk 8 (inMode .calibrate)) .mc0 0 rfl (by decide +kernel) (by decide +kernel)
        (by unfold Cal.darkListed; decide +kernel)).2.2.2.2.1 (by decide +kernel) rfl (by decide +kernel) rfl (by decide +kernel)
  have := (h (msk 8 stby) .mc0 0 rfl (by decide +kernel) (by decide +kernel) (by unfold Cal.darkListed; decide +kernel)).2.2.2.2.2.1
        (by decide +kernel) (by decide +kernel) rfl
  have := (h (calIs (fun c => { c with holdoff := some 77 }) stby) .mc0 0 rfl (by decide +kernel)
        (by decide +kernel) (by unfold Cal.darkListed; decide +kernel)).2.2.2.2.2.2.1 _ rfl
  have := (h (lock1 (calIs (fun c => { c with clockBy := some 77 }) stby)) .mc0 0 rfl (by decide +kernel)
        (by decide +kernel) (by unfold Cal.darkListed; decide +kernel)).2.2.2.2.2.2.2 _ rfl |>.1 (by decide +kernel)
  have := (h (calIs (fun c => { req c with clockBy := some 77 }) (inMode .calibrate)) .mc0 0 rfl
        (by decide +kernel) (by decide +kernel) (by unfold Cal.darkListed; decide +kernel)).2.2.2.2.2.2.2 _ rfl |>.2
        (by decide +kernel) (.inl (by decide +kernel)) rfl
  trivial

theorem meets_ForegroundPassesEnd (h : Claims.ForegroundPassesEnd) : True := by
  have := (h (calIs rn (tickC .capture)) [sc 5 4] [] [⟨5, 9⟩] [⟨5, 9⟩, ⟨6, 10⟩] rfl rfl rfl).1
        (by decide +kernel)
  have := (h (calIs rn stby) [sc 5 4, sc 83719 3] [⟨3, 1, 1, 1, 1⟩] [⟨5, 9⟩] [⟨5, 9⟩, ⟨6, 10⟩] rfl rfl rfl).2
        (by decide +kernel) rfl |>.1 (by decide +kernel)
  have := (h (regd (calIs rn stby) A.CAL_CFG 0) [sc 5 400] [⟨3, 1, 1, 1, 1⟩] [⟨5, 9⟩] [⟨5, 9⟩, ⟨6,
        10⟩] rfl rfl rfl).2 (by decide +kernel) rfl |>.2 (by decide +kernel)
  trivial

theorem meets_EqualiserRunsStep (h : Claims.EqualiserRunsStep) : True := by
  have := (h (eqS 0 0 [(5, ln 0), (6, ln 3)]) .mc0 0x2A06 _ rfl rfl).1
  have := (h (eqS 0 0 [(5, ln 0), (6, ln 3)]) .mc0 0 _ rfl rfl).2.1 (by decide +kernel)
  have := (h (eqS 1 0 [(5, ln 3), (6, ln 3)]) .mc0 0 _ rfl rfl).2.2.1 (by decide +kernel) |>.1
        (by decide +kernel)
  have := (h (eqS 2 0 [(5, ln 3), (6, ln 3)]) .mc0 0 _ rfl rfl).2.2.1 (by decide +kernel) |>.2.1
        (by decide +kernel) rfl
  have := (h (eqS 2 1 [(5, ln 3), (6, ln 3)]) .mc0 0 _ rfl rfl).2.2.1 (by decide +kernel) |>.2.2
        (by decide +kernel) (by decide +kernel) rfl
  have := (h (eqS 2 1 [(5, ln 3), (6, ln 3)]) .mc0 0xFF00 _ rfl rfl).2.2.2 (by decide +kernel) rfl
        (by unfold Cal.darkListed; decide +kernel)
  trivial

theorem meets_DarkRunsAndSavesEnd (h : Claims.DarkRunsAndSavesEnd) : True := by
  have := (h drk rfl).1 ⟨7, 9⟩ [] [] _ rfl rfl |>.1
  have := (h drk rfl).1 ⟨262145, 0⟩ [] [] _ rfl rfl |>.2 rfl
  have := (h (sav true true) rfl).2 (some { sectors := 0, gate := true }) (.inl rfl) |>.2 (.inl
        (by decide +kernel))
  have := (h (sav true true) rfl).2 none (.inl rfl) |>.1 rfl rfl
  trivial

/-! ### Vault -/

def permitted : State := { stby with sys := { stby.sys with permit := true } }

def gateOpen : State := { permitted with thm := { permitted.thm with mintGate := true } }

def vl (s : State) (f : Vlt → Vlt) : State := { s with vlt := f s.vlt }

def vltRunning : State := vl gateOpen fun v => { v with run := some { op := 1, arg := 3, rows := [(3, 5)] } }

def turn (c : Nat) (w : Who) (b : Bool) (s : State) : State := vl s fun v =>
    { v with turn := some { cycle := c, by_ := w, started := b, result := 1, dataLo := 7, dataHi := 8 } }

def full (k : Nat) : FuseRow := { n0 := k, n1 := k, t0 := k, t1 := k }

def fused (r k : Nat) (s : State) : State := vl s fun v =>
    { v with fuses := sput (fun _ => {}) v.fuses r (full k) }

theorem meets_MintsAreJudged (h : Claims.MintsAreJudged) : True := by
  have := (h gateOpen .host 61 1 0 rfl).1 (by decide +kernel)
  have := (h (vl gateOpen fun v => { v with vendor := .good }) .host 59 1 0 rfl).2.1 (by decide +kernel)
        (by decide +kernel)
  have := (h gateOpen .host 80 1 0 rfl).2.2.1 (by decide +kernel) (by decide +kernel) (by decide +kernel)
        (by decide +kernel)
  have := (h (turn State.reset.mgt .mc0 true vltRunning) .host 3 1 0 rfl).2.2.2.1 _ rfl rfl |>.1
        (by decide +kernel)
  have := (h (turn State.reset.mgt .host true vltRunning) .mc0 3 1 0 rfl).2.2.2.1 _ rfl rfl |>.2
        (by decide +kernel) rfl
  have := (h vltRunning .mc0 3 1 0 rfl).2.2.2.2.1 (by intro x h; cases h)
  have := (h vltRunning .mc0 3 1 0 rfl).2.2.2.2.2.1 (by decide +kernel) (by decide +kernel)
  have := (h (vl gateOpen fun v => { v with restricted := true }) .mc0 3 1 0 rfl).2.2.2.2.2.2.1
        (by decide +kernel) (by decide +kernel) (by decide +kernel)
  have := (h stby .mc0 3 1 0 rfl).2.2.2.2.2.2.2 (by decide +kernel) (by decide +kernel)
        (by decide +kernel) |>.1 (by decide +kernel)
  have := (h { permitted with thm := { permitted.thm with mintGate := false } } .mc0 3 1 0 rfl).2.2.2.2.2.2.2
        (by decide +kernel) (by decide +kernel) (by decide +kernel) |>.2 (by decide +kernel)
        (by decide +kernel) |>.1 (by decide +kernel)
  have := (h gateOpen .mc0 60 1 0 rfl).2.2.2.2.2.2.2 (by decide +kernel) (by decide +kernel)
        (by decide +kernel) |>.2 (by decide +kernel) (by decide +kernel) |>.2
        (by decide +kernel) |>.2 trivial |>.1 (by decide +kernel)
  have := (h (fused 3 6 gateOpen) .host (256+3) 1 0x80000000 rfl).2.2.2.2.2.2.2 (by decide +kernel)
        (by decide +kernel) (by decide +kernel) |>.2 (by decide +kernel) (by decide +kernel) |>.2
        (by decide +kernel) |>.2 trivial |>.2.1 (by decide +kernel) (by decide +kernel)
  have := ((h (vl gateOpen fun v => { v with identity := .good }) .host 80 1 0x80000000 rfl).2.2.2.2.2.2.2
        (by decide +kernel) (by decide +kernel) (by decide +kernel) |>.2 (by decide +kernel)
        (by decide +kernel) |>.2 (by decide +kernel) |>.2 trivial |>.2.2 (by decide +kernel)
        (by decide +kernel) (by decide +kernel)).1
  have := ((h (vl gateOpen fun v => { v with identity := .good }) .host 80 1 0x80000000 rfl).2.2.2.2.2.2.2
        (by decide +kernel) (by decide +kernel) (by decide +kernel) |>.2 (by decide +kernel)
        (by decide +kernel) |>.2 (by decide +kernel) |>.2 trivial |>.2.2 (by decide +kernel)
        (by decide +kernel) (by decide +kernel)).2
  trivial

theorem meets_VaultCommandsAreJudged (h : Claims.VaultCommandsAreJudged) : True := by
  have := (h gateOpen .host 3 rfl (by decide +kernel)).1.2.2.2.2 (by decide +kernel) (by decide +kernel)
        (by decide +kernel) |>.2 (by decide +kernel) (by decide +kernel) |>.2 (by decide +kernel) |>.1
        (by decide +kernel)
  have := (h gateOpen .host 5 rfl (by decide +kernel)).2.1.2.2.2.2 (by decide +kernel) (by decide +kernel)
        (by decide +kernel) |>.2 (by decide +kernel) (by decide +kernel) |>.2 (by decide +kernel) |>.1
        (by decide +kernel)
  have := (h gateOpen .host 8 rfl (by decide +kernel)).2.2.2.2.2.2 (by decide +kernel) (by decide +kernel)
        (by decide +kernel) |>.2 (by decide +kernel) (by decide +kernel) |>.2 (by decide +kernel) |>.1
        (by decide +kernel)
  have := (h gateOpen .host 3 rfl (by decide +kernel)).2.1.2.2.2.2 (by decide +kernel) (by decide +kernel)
        (by decide +kernel) |>.2 (by decide +kernel) (by decide +kernel) |>.2 (by decide +kernel) |>.2
        (by decide +kernel) |>.2.2 (by decide +kernel) (by decide +kernel)
  have := (h (vl gateOpen fun v => { v with lockCustomer := true }) .host 4 rfl
        (by decide +kernel)).2.1.2.2.2.2 (by decide +kernel) (by decide +kernel) (by decide +kernel) |>.2
        (by decide +kernel) (by decide +kernel) |>.2 (by decide +kernel) |>.2 (by decide +kernel) |>.1
        (by decide +kernel)
  have := (h gateOpen .host 4 rfl (by decide +kernel)).2.2.2.2.2.2 (by decide +kernel) (by decide +kernel)
        (by decide +kernel) |>.2 (by decide +kernel) (by decide +kernel) |>.2 (by decide +kernel) |>.2
        (by decide +kernel) |>.1 (by decide +kernel)
  have := (h (vl gateOpen fun v => { v with vendor := .good }) .host 0 rfl (by decide +kernel)).1.2.2.2.2
        (by decide +kernel) (by decide +kernel) (by decide +kernel) |>.2 (by decide +kernel)
        (by decide +kernel) |>.2 (by decide +kernel) |>.2 (by decide +kernel) |>.1 (by decide +kernel)
  have := (h gateOpen .host 0 rfl (by decide +kernel)).1.2.2.2.2 (by decide +kernel) (by decide +kernel)
        (by decide +kernel) |>.2 (by decide +kernel) (by decide +kernel) |>.2 (by decide +kernel) |>.2
        (by decide +kernel) |>.2 (by decide +kernel) (by decide +kernel) |>.1 (by decide +kernel)
  have := (h (fused 0 1 (fused 1 2 (fused 2 3 (fused 3 4 gateOpen)))) .host 0 rfl
        (by decide +kernel)).1.2.2.2.2 (by decide +kernel) (by decide +kernel) (by decide +kernel) |>.2
        (by decide +kernel) (by decide +kernel) |>.2 (by decide +kernel) |>.2 (by decide +kernel) |>.2
        (by decide +kernel) (by decide +kernel) |>.2 (by decide +kernel) (by decide +kernel) (fun y _ h2 =>
        (by decide +kernel : ∀ y, y < 64 → (fused 0 1 (fused 1 2 (fused 2 3
        (fused 3 4 gateOpen)))).vlt.reads0 y = (fused 0 1 (fused 1 2 (fused 2 3
        (fused 3 4 gateOpen)))).vlt.tight ((fused 0 1 (fused 1 2 (fused 2 3
        (fused 3 4 gateOpen)))).vlt.phys y)) y h2)
  trivial

theorem meets_VaultCommandsEnd (h : Claims.VaultCommandsEnd) : True := by
  have := (h vltRunning _ rfl rfl).1 []
  have := (h vltRunning _ rfl rfl).2 3 5 rfl (by decide +kernel) (by decide +kernel) (by decide +kernel)
  trivial

theorem meets_LocksAndOverrides (h : Claims.LocksAndOverrides) : True := by
  have := (h stby .host 3 0 rfl (by decide +kernel)).1
  have := (h stby .mc0 2 0 rfl (by decide +kernel)).2.1 (by decide +kernel)
  have := (h (regd permitted A.VLT_OVR_CTRL 1) .host 0xFFFF0001 119 rfl (by decide +kernel)).2.2.1
        (by decide +kernel)
  have := (h (regd permitted A.VLT_OVR_CTRL 1) .host 0xFFFF0001 120 rfl (by decide +kernel)).2.2.2
        (by decide +kernel)
  trivial

/-! ### Debugger, key and attestation -/

def dbgOn : State := { stby with vlt := { stby.vlt with sensed := true }, now := 1000000, wdt := { stby.wdt with state := .running, start := 3, hardEnd := some 77 } }

def frozenS (b0 b1 : Bool) : State := { dbgOn with wdt := { dbgOn.wdt with frozen := some 1 }, sys := { dbgOn.sys with dbg0 := b0, dbg1 := b1 } }

def keyS (f : Vlt → Vlt) : State := { stby with vlt := f { stby.vlt with sensed := true } }

def rep : Report := { bytes := [1, 2, 3], behind := [], check := false }

theorem meets_DebuggerHaltsCores (h : Claims.DebuggerHaltsCores) : True := by
  have := (h dbgOn 0 rfl).1 (by decide +kernel) (by decide +kernel)
  have := (h { dbgOn with vlt := { dbgOn.vlt with restricted := true } } 1 rfl).2.1 (by decide +kernel)
  have := (h (frozenS true false) 0 rfl).2.2.1 1 rfl (by decide +kernel)
  have := (h (frozenS true true) 0 rfl).2.2.2 1 rfl (by decide +kernel)
  trivial

theorem meets_IdentityKeyIsLoaded (h : Claims.IdentityKeyIsLoaded) : True := by
  have := (h stby .mc0 2 rfl).1 (by decide +kernel)
  have := (h stby .host 0 rfl).2.1 (by decide +kernel)
  have := (h (keyS fun v => { v with idkBusy := true }) .host 0 rfl).2.2.1 (by decide +kernel)
  have := (h stby .host 0 rfl).2.2.2 (by decide +kernel)
  trivial

theorem meets_AttestationReports (h : Claims.AttestationReports) : True := by
  have := (h stby .host 0 rfl).1 rfl
  have := (h (keyS fun v => { v with att := some rep }) .host 0 rfl).2.1 (by decide +kernel)
  have := (h (keyS fun v => { v with att := some { rep with check := true } }) .host 0 rfl).2.2.1 _ false rfl
        |>.1 (by decide +kernel)
  have := ((h (keyS fun v => { v with att := some rep }) .host 0 rfl).2.2.1 _ false rfl |>.2
        (by decide +kernel) (by decide +kernel)).1
  have := ((h (keyS fun v => { v with att := some rep }) .host 0 rfl).2.2.1 _ true rfl |>.2
        (by decide +kernel) (by decide +kernel)).2.1 (by decide +kernel)
  have := ((h (keyS fun v => { v with att := some rep, idkAvail := true }) .host 0 rfl).2.2.1 _ true rfl |>.2
        (by decide +kernel) (by decide +kernel)).2.2.1 (by decide +kernel) rfl
  have := ((h (keyS fun v => { v with att := some rep, idkAvail := true }) .host 0 rfl).2.2.1 _ false rfl |>.2
        (by decide +kernel) (by decide +kernel)).2.2.2 (by decide +kernel) rfl
  have := (h stby .host 0 rfl).2.2.2
  trivial

/-! ### Invariants, frames and the ledger -/

def warnEv : Event := { sev := .warn, cls := 5, code := 7, unit := 9, detail := 3 }

theorem meets_EventsCoalesce (h : Obligations.EventsCoalesce) : True := by
  have := h (({} : Evl).enter 5 warnEv) 6 { warnEv with detail := 4 } _ _ rfl rfl rfl rfl rfl (by decide +kernel)
  trivial

theorem meets_EventsAreAdmitted (h : Obligations.EventsAreAdmitted) : True := by
  have none_ : ∀ n, ¬ Evl.repeats { used := n } warnEv := fun n ⟨_, _, e, _⟩ => nomatch e
  have := ((h {} 5 warnEv (by unfold Evl.inBounds; decide +kernel)).2.2 (none_ 0)).1 (by decide +kernel)
  have := ((h { used := 992 } 5 warnEv (by unfold Evl.inBounds; decide +kernel)).2.2 (none_ 992)).2.1
    (by decide +kernel) (by decide +kernel)
  have := ((h { used := 1024 } 5 { warnEv with sev := .fault } (by unfold Evl.inBounds; decide +kernel)).2.2
    (fun ⟨_, _, e, _⟩ => nomatch e)).2.2 (by decide +kernel) rfl
  trivial

theorem meets_EventsOfACycleAreOrdered (h : Obligations.EventsOfACycleAreOrdered) : True := by
  have := h { staged := [warnEv, { warnEv with sev := .fault }] } 5 (by unfold Event.inRange; decide +kernel)
  trivial

theorem meets_StepRunsFront (h : Obligations.StepRunsFront) : True := by
  have := h .status [] { stby with pending := [.status] } rfl
  trivial

theorem meets_EmptyQueueIdles (h : Obligations.EmptyQueueIdles) : True := by
  have := h stby rfl
  trivial

theorem meets_HeldInReset (h : Obligations.HeldInReset) : True := by
  have := h (.softTrig .host 0) { stby with sys := { stby.sys with phase := .held 5 true } } rfl (by simp) (by simp) (by simp) (by simp) (by simp) (by simp) (by simp)
  trivial

theorem meets_step_invariants (h1 : Obligations.NothingWaitsWhileStopped) (h2 : Obligations.MemoriesStayCanonical)
    (h3 : Obligations.LedgerStaysSettled) : True := by
  have := h1 State.reset _ rfl (by unfold State.takesQuiet; decide +kernel)
  have := h2 State.reset _ rfl (by unfold State.memsOk; decide +kernel)
  have := h3 State.reset _ rfl (by unfold State.evlSettled; decide +kernel) (by unfold Evl.inBounds; decide +kernel)
  trivial

theorem meets_frames (h1 : Claims.MemoriesAndFusesStay) (h2 : Claims.PathAndTimeStay)
    (h3 : Obligations.RegistersOfOtherBlocksStay) : True := by
  have := h1 .status stby _ .dram rfl (by decide +kernel) (by decide +kernel)
  have := h2 .status stby _ .tmg rfl (by decide +kernel) (by decide +kernel)
  have := h3 .status stby _ A.CLK_CTRL rfl (by decide +kernel) (by decide +kernel)
  trivial

end Sys2Proof.Tests
end

section
/-!
PROOFS. Words written to registers without behaviour of their own (R5 to R8, R290, R294, R434): O46.
-/

namespace Sys2Proof.Machine

/-! ### Words -/

/-- Taking from a word the bits that it shares with another leaves the bits that the other does not have. -/
theorem sub_and_eq_and_not (x y : Word) : x - (x &&& y) = x &&& ~~~y := by
  have disjoint : (x &&& ~~~y) &&& (x &&& y) = 0#32 := by
    ext i hi
    simp only [BitVec.getElem_and, BitVec.getElem_not, BitVec.getElem_zero]
    cases y[i] <;> simp
  have parts : (x &&& ~~~y) + (x &&& y) = x := by
    rw [BitVec.add_eq_or_of_and_eq_zero _ _ disjoint]
    ext i hi
    simp only [BitVec.getElem_or, BitVec.getElem_and, BitVec.getElem_not]
    cases y[i] <;> simp
  calc x - (x &&& y) = (x &&& ~~~y) + (x &&& y) - (x &&& y) := by rw [parts]
    _ = x &&& ~~~y := BitVec.add_sub_cancel _ _

theorem mkWord_sub_and (x y : Word) : mkWord (x.toNat - (x.toNat &&& y.toNat)) = x &&& ~~~y := by
  have le : x &&& y ≤ x := BitVec.le_def.2 (by simp [Nat.and_le_left])
  rw [← sub_and_eq_and_not, ← BitVec.toNat_and, ← BitVec.toNat_sub_of_le le]
  exact BitVec.ofNat_toNat _ _

theorem testBit_and_not (x y : Word) (i : Nat) :
    (x &&& ~~~y).toNat.testBit i = (x.toNat.testBit i && !y.toNat.testBit i) := by
  simp only [BitVec.testBit_toNat, BitVec.getLsbD_and, BitVec.getLsbD_not]
  by_cases h : i < 32
  · simp [h]
  · simp [BitVec.getLsbD_of_ge x i (by omega)]

theorem mkWord_and_toNat (w : Word) (m : Nat) : (mkWord (w.toNat &&& m)).toNat = w.toNat &&& m :=
  Nat.mod_eq_of_lt (Nat.lt_of_le_of_lt Nat.and_le_left w.isLt)

/-! ### Writes of registers without behaviour of their own (R5 to R8) -/

/-- `State.fin` changes nothing but the ledger and the RWC bits that the device sets. -/
theorem State.fin_frame (s : State) : s.fin = { s with rwc := s.fin.rwc, evl := s.fin.evl } := by
  simp only [State.fin]
  split <;> rfl

/-- A store that no later writer of the cycle stands before (R290). -/
theorem State.storeBy_first {s : State} {who : Who} {a : Nat} (h : s.outranked who a = false) (v : Nat) :
    s.storeBy who a v = (s.setRn a v).markWriter who a := by
  unfold State.storeBy
  rw [h, if_neg Bool.false_ne_true]

theorem State.storeBy_outranked {s : State} {who : Who} {a : Nat} (h : s.outranked who a = true) (v : Nat) :
    s.storeBy who a v = s := by
  unfold State.storeBy
  rw [if_pos h]

@[simp] theorem State.markWriter_reg (s : State) (who : Who) (a b : Nat) : (s.markWriter who a).reg b = s.reg b :=
  State.reg_of_regs (by rw [State.markWriter_frame]) b

/-- The bits that a write of 1s leaves in an RWC register of which the device has set none in this cycle. -/
theorem State.clrReg_rb {s : State} {a : Nat} (h : s.justSet a = 0) (w : Word) (i : Nat) :
    (s.clrReg a w.toNat).rb a i = (s.rb a i && !wbit w i) := by
  have kept : s.afterClear a (s.rn a) w.toNat = s.rn a - (s.rn a &&& w.toNat) := by simp [State.afterClear, h]
  rw [State.rb_eq, State.clrReg_eq, State.setReg_reg_same, kept, State.rn_eq, mkWord_sub_and, testBit_and_not]
  rfl

theorem State.plainWrite_plainReg {s : State} {who : Who} {a : Nat} {w : Word} (h : s.plainWrite who a w) :
    plainReg a = true := by
  obtain ⟨aligned, low, notStat, block, -, -⟩ := h
  have dram : inDramWin a = false := by simp [inDramWin]; omega
  have ret : inRet a = false := by simp [inRet]; omega
  simp [plainReg, aligned, dram, block, ret, low]
  omega

/-- What the register of a plain write becomes: cleared, left, or stored. -/
theorem State.regWrite_plain {s : State} {who : Who} {a : Nat} {w : Word} (h : s.plainWrite who a w) :
    s.regWrite who a w = if rwcRegs.contains a then s.clrReg a w.toNat else if rwMask a = 0 then s
      else s.storeBy who a (w.toNat &&& rwMask a) := by
  obtain ⟨-, -, -, -, allowed, none⟩ := h
  unfold State.regWrite
  rw [if_neg (fun d => by simp [allowed d.1] at d), none]

theorem State.writtenTo_clrReg (s : State) (who : Who) {a : Nat} (w : Word) (h : rwcRegs.contains a = true) :
    s.writtenTo (s.clrReg a w.toNat) who a w :=
  ⟨fun b hb => by rw [State.clrReg_eq, State.setReg_reg_other s _ hb], fun no => Bool.noConfusion (h.symm.trans no),
    fun no => Bool.noConfusion (h.symm.trans no), fun _ set i => State.clrReg_rb set w i, rfl⟩

theorem State.writtenTo_readOnly (s : State) (who : Who) {a : Nat} (w : Word) (h : rwcRegs.contains a = false)
    (h0 : rwMask a = 0) : s.writtenTo s who a w :=
  ⟨fun _ _ => rfl, fun _ no => absurd h0 no, fun _ _ => rfl, fun yes => Bool.noConfusion (h.symm.trans yes), rfl⟩

theorem State.writtenTo_storeBy (s : State) (who : Who) {a : Nat} (w : Word) (h : rwcRegs.contains a = false)
    (h0 : rwMask a ≠ 0) : s.writtenTo (s.storeBy who a (w.toNat &&& rwMask a)) who a w := by
  cases first : s.outranked who a with
  | true =>
    rw [State.storeBy_outranked first]
    exact ⟨fun _ _ => rfl, fun _ _ => (if_pos first).symm, fun _ _ => rfl,
      fun yes => Bool.noConfusion (h.symm.trans yes), rfl⟩
  | false =>
    rw [State.storeBy_first first]
    refine ⟨fun b hb => ?_, fun _ _ => ?_, fun _ no => absurd no h0,
      fun yes => Bool.noConfusion (h.symm.trans yes), ?_⟩
    · rw [State.markWriter_reg, State.setRn_eq, State.setReg_reg_other s _ hb]
    · rw [State.rn_eq, State.markWriter_reg, State.setRn_eq, State.setReg_reg_same, mkWord_and_toNat, first]
      exact (if_neg Bool.false_ne_true).symm
    · rw [State.markWriter_frame]
      rfl

theorem State.writtenTo_regWrite {s : State} {who : Who} {a : Nat} {w : Word} (h : s.plainWrite who a w) :
    s.writtenTo (s.regWrite who a w) who a w := by
  rw [State.regWrite_plain h]
  split
  · next rwc => exact State.writtenTo_clrReg s who w rwc
  · next rwc =>
    have rwc : rwcRegs.contains a = false := Bool.eq_false_iff.2 rwc
    split
    · next mask => exact State.writtenTo_readOnly s who w rwc mask
    · next mask => exact State.writtenTo_storeBy s who w rwc mask

/-- The settling of the ledger after a command leaves what a write has left. -/
theorem State.writtenTo_fin {s t : State} {who : Who} {a : Nat} {w : Word} (h : s.writtenTo t who a w) :
    s.writtenTo t.fin who a w := by
  obtain ⟨others, stored, readOnly, cleared, frame⟩ := h
  refine ⟨fun b hb => (State.fin_reg t b).trans (others b hb), ?_, ?_, ?_, ?_⟩
  · simpa only [State.rn_eq, State.fin_reg] using stored
  · simpa only [State.rn_eq, State.fin_reg] using readOnly
  · simpa only [State.rb_eq, State.fin_reg] using cleared
  · calc t.fin = { t with rwc := t.fin.rwc, evl := t.fin.evl } := State.fin_frame t
      _ = { s with regs := t.regs, rwc := t.fin.rwc, evl := t.fin.evl } :=
        congrArg (fun u : State => { u with rwc := t.fin.rwc, evl := t.fin.evl }) frame
      _ = { s with regs := t.fin.regs, rwc := t.fin.rwc, evl := t.fin.evl } := by rw [State.fin_regs]

/-! ### The commands that write one word -/

theorem plainReg_aligned {a : Nat} (h : plainReg a = true) : a % 4 = 0 := by
  simp only [plainReg, Bool.and_eq_true, decide_eq_true_eq] at h
  obtain ⟨⟨⟨⟨⟨aligned, -⟩, -⟩, -⟩, -⟩, -⟩ := h
  exact aligned

theorem plainReg_not_dram {a : Nat} (h : plainReg a = true) : inDramWin a = false := by
  simp only [plainReg, Bool.and_eq_true, Bool.not_eq_true'] at h
  obtain ⟨⟨⟨⟨⟨-, dram⟩, -⟩, -⟩, -⟩, -⟩ := h
  exact dram

/-- Outside the DRAM window no aperture counts. -/
theorem State.write_plain (s : State) (who : Who) (base : Nat) {a : Nat} (w : Word) (h : plainReg a = true) :
    s.write who base a 4 w = s.regWrite who a w := by
  rw [← State.poke_plain s who w h]
  have size : accessSize who 4 = 4 := by simp [accessSize]
  have dram : inDramWin (a / 4 * 4) = false := by
    rw [Nat.div_mul_cancel (Nat.dvd_of_mod_eq_zero (plainReg_aligned h)), plainReg_not_dram h]
  simp only [State.poke, State.write, size, dram, Bool.false_eq_true, if_false]

theorem State.portWrite_word {s : State} (h : s.released = true) (addr : Nat) (w : Word) :
    s.portWrite addr [w] false = s.poke .host (addr / 4 * 4) w := by
  simp [State.portWrite, State.portWords, h, State.poke]

theorem exec_write_word {s : State} (h : s.released = true) (addr w : Word) :
    exec (.write addr [w] false) s = .next (s.poke .host (addr.toNat / 4 * 4) w).fin := by
  rw [← State.portWrite_word h]
  exact act_run _ h

theorem exec_registerWrite {s : State} (h : s.released = true) (who : Who) (aper : Nat) (addr : Word) (size : Nat)
    (w : Word) : exec (.registerWrite who aper addr size w) s =
      .next (s.write who (s.aperture who aper) addr.toNat size w).fin := act_run _ h

/-- A host word outside every block (R294). -/
theorem State.poke_outOfMap (s : State) {a : Nat} (w : Word) (aligned : a % 4 = 0) (h : blockClass a = none)
    (dram : inDramWin a = false) : s.poke .host a w = s.portError 2 := by
  have size : accessSize .host 4 = 4 := rfl
  simp [State.poke, State.write, size, Nat.div_mul_cancel (Nat.dvd_of_mod_eq_zero aligned), dram, h]

theorem accessSize_cases (who : Who) (size : Nat) :
    accessSize who size = 1 ∨ accessSize who size = 2 ∨ accessSize who size = 4 := by
  unfold accessSize
  grind

/-- The DRAM window begins and ends on words, so an access lies in it where its address does; so does retained SRAM. -/
theorem inDramWin_access (who : Who) (size a : Nat) :
    inDramWin (a / accessSize who size * accessSize who size) = inDramWin a := by
  rw [Bool.eq_iff_iff]
  simp only [inDramWin, Bool.and_eq_true, decide_eq_true_eq]
  rcases accessSize_cases who size with h | h | h <;> rw [h] <;> omega

theorem inRet_access (who : Who) (size a : Nat) :
    inRet (a / accessSize who size * accessSize who size) = inRet a := by
  rw [Bool.eq_iff_iff]
  simp only [inRet, Bool.and_eq_true, decide_eq_true_eq]
  rcases accessSize_cases who size with h | h | h <;> rw [h] <;> omega

/-- A narrow or unaligned write of a core outside the memories is ignored (R434). -/
theorem State.write_narrow (s : State) {who : Who} (base : Nat) {a size c : Nat} (w : Word) (hw : who ≠ .host)
    (dram : inDramWin a = false) (ret : inRet a = false) (narrow : size = 1 ∨ size = 2 ∨ a % 4 ≠ 0)
    (block : blockClass (a / accessSize who size * accessSize who size) = some c) :
    s.write who base a size w = s.ignored c who a := by
  have turned : who ≠ .host ∧ (accessSize who size ≠ 4 ∨ a % 4 ≠ 0) := by
    refine ⟨hw, ?_⟩
    rcases narrow with rfl | rfl | h
    · exact .inl (by simp [accessSize, hw])
    · exact .inl (by simp [accessSize, hw])
    · exact .inr h
  simp only [State.write, inDramWin_access, dram, inRet_access, ret, block, Bool.false_eq_true, if_false, if_pos turned]

/-- Settles O46: a plain write is one of a clear, nothing and a store, whatever command brings it. -/
theorem registersAreWritten : Obligations.RegistersAreWritten := by
  unfold Obligations.RegistersAreWritten
  intro s addr w run a
  have aligned : a % 4 = 0 := Nat.mul_mod_left _ 4
  refine ⟨fun plain => ?_, fun who aper plain => ?_, fun low notStat c block denied => ?_, fun none dram => ?_,
    fun who aper size c hw dram ret _ narrow block => ?_⟩
  · refine ⟨_, exec_write_word run addr w, State.writtenTo_fin ?_⟩
    rw [State.poke_plain s .host w (State.plainWrite_plainReg plain)]
    exact State.writtenTo_regWrite plain
  · refine ⟨_, exec_registerWrite run who aper addr 4 w, State.writtenTo_fin ?_⟩
    rw [State.write_plain s who _ w (State.plainWrite_plainReg plain)]
    exact State.writtenTo_regWrite plain
  · have plain : plainReg a = true := by
      simp [plainReg, aligned, inDramWin, inRet, block, low]
      omega
    rw [exec_write_word run, State.poke_denied plain denied, block]
    rfl
  · rw [exec_write_word run, State.poke_outOfMap s w aligned none dram]
  · rw [exec_registerWrite run, State.write_narrow s _ w hw dram ret narrow block]

end Sys2Proof.Machine
end

section
/-!
PROOFS. The step on an empty queue (O2), and the frame of the register blocks (O11).
-/

namespace Sys2Proof.Machine

/-- Settles O2: on an empty queue `step` is `idle`, which moves device time on and nothing else. -/
theorem emptyQueueIdles : Obligations.EmptyQueueIdles := by
  unfold Obligations.EmptyQueueIdles
  intro s h
  simp only [step, h, idle, State.goMgt, State.goTo]

/-- A state with a LINK_EQ run over a lane that does not exist: its equalizer register would stand at 0x310000,
in the block of the fabric. Only the states that the device reaches keep the lanes of a run below 60; the statement
speaks of all. -/
def strayEqRun : State :=
  { State.reset with cal := { State.reset.cal with eqRun := some { lanes := [(0x3F80, { old := 1, cur := [] })] } } }

/-- Refutes O11: the timeout of a LINK_EQ run restores the equalizer of every lane that the run lists, and the lane
of `strayEqRun` puts that register in block 0x31, which `blocksOf` does not list for the command. -/
theorem not_registersOfOtherBlocksStay : ¬ Obligations.RegistersOfOtherBlocksStay := by
  unfold Obligations.RegistersOfOtherBlocksStay
  intro frame
  have stays := frame .calEqStepTimeout strayEqRun _ 0x310000 rfl (by decide) (by decide)
  revert stays
  decide +kernel

end Sys2Proof.Machine
end

section
/-!
PROOFS. The byte memories of a state, taken together: what a record update, a condition and a fold make of them.
-/

namespace Sys2Proof.Machine

/-- The byte memories of the device, in the order of `State.memsOk`. -/
def State.mems (s : State) : List Memory := [s.dram, s.ret, s.flash, s.sram0, s.sram1]

/-- The rule that a record update leaves the memories. It is proved by a rewrite, so that `simp` cites it as a step
of the proof instead of having the kernel compare the states. -/
@[simp ↓] theorem State.mems_mk (pending : List Instr) (now draws : Nat) (regs : List (Nat × Word)) (rwc : Rwc)
    (dram ret sram0 sram1 flash : Memory) (part : Part) (sys : Sys) (clk : Clk) (tmg : Tmg) (plan : PlanBlk)
    (cnv : Cnv) (str : Str) (time : TimeBlk) (frames : List Frame) (lnk : Lnk) (seals : Seal) (vlt : Vlt) (fab : Fab)
    (mon : Mon) (thm : Thm) (cal : Cal) (wdt : Wdt) (evl : Evl) :
    (State.mk pending now draws regs rwc dram ret sram0 sram1 flash part sys clk tmg plan cnv str time frames lnk seals
      vlt fab mon thm cal wdt evl).mems = [dram, ret, flash, sram0, sram1] := by rw [State.mems]

@[simp ↓] theorem State.mems_fold (s : State) :
    [s.dram, s.ret, s.flash, s.sram0, s.sram1] = s.mems := by rw [State.mems]

/-- One of two lists of memories, by a condition that no proof about memories looks into. -/
def oneOf (c : Prop) [Decidable c] (l m : List Memory) : List Memory := if c then l else m

@[congr] theorem oneOf_congr (c : Prop) [Decidable c] {l l' m m' : List Memory} (hl : l = l') (hm : m = m') :
    oneOf c l m = oneOf c l' m' := by rw [hl, hm]

@[simp] theorem oneOf_self (c : Prop) [Decidable c] (l : List Memory) : oneOf c l l = l := ite_self l

@[simp ↓] theorem State.mems_ite (c : Prop) [Decidable c] (s t : State) :
    (if c then s else t).mems = oneOf c s.mems t.mems := apply_ite _ _ _ _

@[simp ↓] theorem State.mems_foldl {β : Type} (f : State → β → State) (l : List β) (s : State)
    (h : ∀ a x, (f a x).mems = a.mems) : (l.foldl f s).mems = s.mems := foldl_keeps State.mems f l s h

end Sys2Proof.Machine
end

section
/-!
PROOFS. What leaves the byte memories as they are, function by function: each lemma unfolds its function once and
is a rewrite rule for the functions that call it. The rules are tried before the states in them (`↓`), since those
are large.
-/

namespace Sys2Proof.Machine

variable (s : State)

/-! ### Ops -/

@[simp ↓] theorem State.setReg_mems (a : Nat) (v : Word) : (s.setReg a v).mems = s.mems := by
  unfold State.setReg; simp
@[simp ↓] theorem State.setRn_mems (a n : Nat) : (s.setRn a n).mems = s.mems := by unfold State.setRn; simp
@[simp ↓] theorem State.orReg_mems (a mask : Nat) : (s.orReg a mask).mems = s.mems := by unfold State.orReg; simp
@[simp ↓] theorem State.note_mems (a mask : Nat) : (s.note a mask).mems = s.mems := by unfold State.note; simp
@[simp ↓] theorem State.markWriter_mems (who : Who) (a : Nat) : (s.markWriter who a).mems = s.mems := by
  unfold State.markWriter; simp
@[simp ↓] theorem State.storeBy_mems (who : Who) (a v : Nat) : (s.storeBy who a v).mems = s.mems := by
  unfold State.storeBy; simp
@[simp ↓] theorem State.setInt_mems (a i : Nat) : (s.setInt a i).mems = s.mems := by unfold State.setInt; simp
@[simp ↓] theorem State.dropInt_mems (a i : Nat) : (s.dropInt a i).mems = s.mems := by unfold State.dropInt; simp
@[simp ↓] theorem State.clrReg_mems (a v : Nat) : (s.clrReg a v).mems = s.mems := by unfold State.clrReg; simp
@[simp ↓] theorem State.raise_mems (e : Event) : (s.raise e).mems = s.mems := by unfold State.raise; simp
@[simp ↓] theorem State.warn_mems (cls code unit detail : Nat) : (s.warn cls code unit detail).mems = s.mems := by
  unfold State.warn; simp
@[simp ↓] theorem State.faultEv_mems (cls code unit detail : Nat) :
    (s.faultEv cls code unit detail).mems = s.mems := by unfold State.faultEv; simp
@[simp ↓] theorem State.info_mems (cls code unit detail : Nat) : (s.info cls code unit detail).mems = s.mems := by
  unfold State.info; simp
@[simp ↓] theorem State.ignored_mems (cls : Nat) (who : Who) (addr : Nat) :
    (s.ignored cls who addr).mems = s.mems := by unfold State.ignored; simp
@[simp ↓] theorem State.lockViolation_mems (cls : Nat) (who : Who) (addr : Nat) :
    (s.lockViolation cls who addr).mems = s.mems := by unfold State.lockViolation; simp
@[simp ↓] theorem State.setEvlInt_mems (i : Nat) : (s.setEvlInt i).mems = s.mems := by unfold State.setEvlInt; simp
@[simp ↓] theorem State.goTo_mems (t : Nat) : (s.goTo t).mems = s.mems := by unfold State.goTo; simp
@[simp ↓] theorem State.goMgt_mems (n : Nat) : (s.goMgt n).mems = s.mems := by unfold State.goMgt; simp
@[simp ↓] theorem State.timeUp_mems (t : Nat) : (s.timeUp t).mems = s.mems := by unfold State.timeUp; simp
@[simp ↓] theorem State.cycleUp_mems (n : Nat) : (s.cycleUp n).mems = s.mems := by unfold State.cycleUp; simp
@[simp ↓] theorem State.setPll_mems (i : Nat) (p : Pll) : (s.setPll i p).mems = s.mems := by unfold State.setPll; simp
@[simp ↓] theorem State.draw_mems : s.draw.2.mems = s.mems := by unfold State.draw; simp
@[simp ↓] theorem State.setBank_mems (i : Nat) (b : Bank) : (s.setBank i b).mems = s.mems := by
  unfold State.setBank; simp

/-! ### Ledger -/

@[simp ↓] theorem State.fin_mems : s.fin.mems = s.mems := by unfold State.fin; simp
@[simp ↓] theorem State.unraise_mems (p : Event → Bool) : (s.unraise p).mems = s.mems := by unfold State.unraise; simp
@[simp ↓] theorem State.reraise_mems (f : Event → Event) : (s.reraise f).mems = s.mems := by
  unfold State.reraise; simp

/-! ### TimeBase -/

@[simp ↓] theorem State.setTb_mems (k : Nat) (t : TimeBase) : (s.setTb k t).mems = s.mems := by
  unfold State.setTb; simp
@[simp ↓] theorem State.tbLine_mems (k n inc : Nat) : (s.tbLine k n inc).mems = s.mems := by unfold State.tbLine; simp
@[simp ↓] theorem State.tbIncUse_mems (k : Nat) : (s.tbIncUse k).mems = s.mems := by unfold State.tbIncUse; simp
@[simp ↓] theorem State.resourceTb_mems (k : Nat) : (s.resourceTb k).mems = s.mems := by unfold State.resourceTb; simp
@[simp ↓] theorem State.resource_mems : s.resource.mems = s.mems := by unfold State.resource; simp
@[simp ↓] theorem State.setMgtSource_mems (src : ClkSrc) : (s.setMgtSource src).mems = s.mems := by
  unfold State.setMgtSource; simp

/-! ### Watchdog -/

@[simp ↓] theorem State.wdtGrace_mems : s.wdtGrace.mems = s.mems := by unfold State.wdtGrace; simp
@[simp ↓] theorem State.wdtStartAt_mems (c : Nat) (hw : Bool) : (s.wdtStartAt c hw).mems = s.mems := by
  unfold State.wdtStartAt; simp
@[simp ↓] theorem State.wdtCtrlWrite_mems (who : Who) (v : Word) : (s.wdtCtrlWrite who v).mems = s.mems := by
  unfold State.wdtCtrlWrite; simp
@[simp ↓] theorem State.wdtCfgWrite_mems (who : Who) (v : Word) : (s.wdtCfgWrite who v).mems = s.mems := by
  unfold State.wdtCfgWrite; simp
@[simp ↓] theorem State.wdtMaskWrite_mems (who : Who) (v : Word) : (s.wdtMaskWrite who v).mems = s.mems := by
  unfold State.wdtMaskWrite; simp
@[simp ↓] theorem State.wdtStatusWrite_mems (v : Word) : (s.wdtStatusWrite v).mems = s.mems := by
  unfold State.wdtStatusWrite; simp
@[simp ↓] theorem State.wdtWindowOpen_mems : s.wdtWindowOpen.mems = s.mems := by unfold State.wdtWindowOpen; simp
@[simp ↓] theorem State.wdtFreeze_mems : s.wdtFreeze.mems = s.mems := by unfold State.wdtFreeze; simp
@[simp ↓] theorem State.wdtThaw_mems : s.wdtThaw.mems = s.mems := by unfold State.wdtThaw; split <;> simp

/-! ### EventLedger -/

@[simp ↓] theorem State.evlAckWrite_mems (who : Who) (v : Word) : (s.evlAckWrite who v).mems = s.mems := by
  unfold State.evlAckWrite; simp
@[simp ↓] theorem State.evlFwEntryWrite_mems (who : Who) (v : Word) : (s.evlFwEntryWrite who v).mems = s.mems := by
  unfold State.evlFwEntryWrite; (repeat' split) <;> simp
@[simp ↓] theorem State.evlHoldoffEnd_mems : s.evlHoldoffEnd.mems = s.mems := by
  unfold State.evlHoldoffEnd; split <;> simp
@[simp ↓] theorem State.storeSummary_mems (src : Nat) (body : List Byte) :
    (s.storeSummary src body).mems = s.mems := by unfold State.storeSummary; simp

/-! ### Lanes -/

@[simp ↓] theorem State.alarm_mems (src kind unit : Nat) : (s.alarm src kind unit).mems = s.mems := by
  unfold State.alarm; simp
@[simp ↓] theorem State.setLane_mems (p : Nat) (l : Lane) : (s.setLane p l).mems = s.mems := by
  unfold State.setLane; simp
@[simp ↓] theorem State.loseFlight_mems (p : Nat) : (s.loseFlight p).mems = s.mems := by
  unfold State.loseFlight; dsimp only; (repeat' split) <;> simp
@[simp ↓] theorem State.failLane_mems (p cause : Nat) : (s.failLane p cause).mems = s.mems := by
  unfold State.failLane; simp
@[simp ↓] theorem State.remapLane_mems (p : Nat) : (s.remapLane p).mems = s.mems := by
  unfold State.remapLane; dsimp only; (repeat' split) <;> simp
@[simp ↓] theorem State.remapsAtFT_mems (t : Nat) : (s.remapsAtFT t).mems = s.mems := by unfold State.remapsAtFT; simp
@[simp ↓] theorem State.remapsNow_mems : s.remapsNow.mems = s.mems := by unfold State.remapsNow; simp
@[simp ↓] theorem State.assignLanes_mems (o : OutCfg) : (s.assignLanes o).mems = s.mems := by
  unfold State.assignLanes; simp
@[simp ↓] theorem State.trainLane_mems (p : Nat) : (s.trainLane p).mems = s.mems := by unfold State.trainLane; simp
@[simp ↓] theorem State.trainOffLanes_mems : s.trainOffLanes.mems = s.mems := by unfold State.trainOffLanes; simp
@[simp ↓] theorem State.lanesOff_mems : s.lanesOff.mems = s.mems := by unfold State.lanesOff; simp
@[simp ↓] theorem State.trainGo_mems (who : Who) : (s.trainGo who).mems = s.mems := by unfold State.trainGo; simp
@[simp ↓] theorem State.lanesOk_mems (mask : Nat) : (s.lanesOk mask).mems = s.mems := by unfold State.lanesOk; simp
@[simp ↓] theorem State.lanesFailReq_mems (mask : Nat) : (s.lanesFailReq mask).mems = s.mems := by
  unfold State.lanesFailReq; simp
@[simp ↓] theorem State.quadFail_mems (q : Nat) : (s.quadFail q).mems = s.mems := by unfold State.quadFail; simp
@[simp ↓] theorem State.quadOff_mems (q : Nat) : (s.quadOff q).mems = s.mems := by unfold State.quadOff; simp
@[simp ↓] theorem State.driverFault_mems (p kind : Nat) : (s.driverFault p kind).mems = s.mems := by
  unfold State.driverFault; simp
@[simp ↓] theorem State.eqWrite_mems (p : Nat) (v : Word) : (s.eqWrite p v).mems = s.mems := by
  unfold State.eqWrite; simp

/-! ### Sequencer -/

@[simp ↓] theorem State.planIgnored_mems (who : Who) (a : Nat) : (s.planIgnored who a).mems = s.mems := by
  unfold State.planIgnored; simp
@[simp ↓] theorem State.bankFails_mems (i cause errofs : Nat) (k : Option Nat) :
    (s.bankFails i cause errofs k).mems = s.mems := by unfold State.bankFails; simp
@[simp ↓] theorem State.bankInvalid_mems (i cause errofs : Nat) : (s.bankInvalid i cause errofs).mems = s.mems := by
  unfold State.bankInvalid; simp
@[simp ↓] theorem State.loadStart_mems (i : Nat) (kind : LoadKind) : (s.loadStart i kind).mems = s.mems := by
  unfold State.loadStart; simp
@[simp ↓] theorem State.loadFinish_mems (i : Nat) : (s.loadFinish i).mems = s.mems := by unfold State.loadFinish; simp
@[simp ↓] theorem State.loadCtrlWrite_mems (who : Who) (v : Word) : (s.loadCtrlWrite who v).mems = s.mems := by
  unfold State.loadCtrlWrite; dsimp only; (repeat' split) <;> simp
@[simp ↓] theorem State.loadDataWrite_mems (who : Who) (v : Word) : (s.loadDataWrite who v).mems = s.mems := by
  unfold State.loadDataWrite; split <;> simp
@[simp ↓] theorem State.flashHeaderRead_mems (err : Bool) : (s.flashHeaderRead err).mems = s.mems := by
  unfold State.flashHeaderRead; dsimp only; (repeat' split) <;> simp
@[simp ↓] theorem State.flashCopyDone_mems (err : Bool) : (s.flashCopyDone err).mems = s.mems := by
  unfold State.flashCopyDone; dsimp only; (repeat' split) <;> simp
@[simp ↓] theorem State.checkDone_mems (slot : List Byte → Option Nat) (must : Bool) :
    (s.checkDone slot must).mems = s.mems := by unfold State.checkDone; dsimp only; (repeat' split) <;> simp
@[simp ↓] theorem State.commitResult_mems (result cause : Nat) : (s.commitResult result cause).mems = s.mems := by
  unfold State.commitResult; simp
@[simp ↓] theorem State.endCommit_mems (result cause : Nat) : (s.endCommit result cause).mems = s.mems := by
  unfold State.endCommit; (repeat' split) <;> simp
@[simp ↓] theorem State.commitRequest_mems (bank when_ tb frame sec ns w : Nat) (origin : Option Nat) :
    (s.commitRequest bank when_ tb frame sec ns w origin).mems = s.mems := by unfold State.commitRequest; simp
@[simp ↓] theorem State.commitCancel_mems : s.commitCancel.mems = s.mems := by
  unfold State.commitCancel; split <;> simp
@[simp ↓] theorem State.commitCtrlWrite_mems (who : Who) (v : Word) : (s.commitCtrlWrite who v).mems = s.mems := by
  unfold State.commitCtrlWrite; simp
@[simp ↓] theorem State.tbStopped_mems (k : Nat) : (s.tbStopped k).mems = s.mems := by
  unfold State.tbStopped; (repeat' split) <;> simp
@[simp ↓] theorem State.freshBlack_mems (p : Nat → Bool) : (s.freshBlack p).mems = s.mems := by
  unfold State.freshBlack; simp
@[simp ↓] theorem State.placeGrid_mems (sch : Sched) (t : Nat) : (s.placeGrid sch t).mems = s.mems := by
  unfold State.placeGrid; simp
@[simp ↓] theorem State.sequencerStart_mems : s.sequencerStart.mems = s.mems := by
  unfold State.sequencerStart; split <;> simp
@[simp ↓] theorem State.trigMissed_mems : s.trigMissed.mems = s.mems := by unfold State.trigMissed; simp
@[simp ↓] theorem State.livePast_mems : s.livePast.mems = s.mems := by unfold State.livePast; simp
@[simp ↓] theorem State.targetsAtTrigger_mems (ft : Nat) : (s.targetsAtTrigger ft).mems = s.mems := by
  unfold State.targetsAtTrigger; dsimp only; (repeat' split) <;> simp
@[simp ↓] theorem State.trigger_mems (f : TrigFrom) (e : Nat) (blocked : Bool) :
    (s.trigger f e blocked).mems = s.mems := by unfold State.trigger; split <;> simp
@[simp ↓] theorem State.softTrig_mems (blocked : Bool) : (s.softTrig blocked).mems = s.mems := by
  unfold State.softTrig; simp
@[simp ↓] theorem State.softsNow_mems (blocked : Bool) : (s.softsNow blocked).mems = s.mems := by
  unfold State.softsNow; simp
@[simp ↓] theorem State.stageEntry_mems (j : Nat) (e : Entry) : (s.stageEntry j e).mems = s.mems := by
  unfold State.stageEntry; simp
@[simp ↓] theorem State.liveCopy_mems : s.liveCopy.mems = s.mems := by unfold State.liveCopy; simp
@[simp ↓] theorem State.liveReject_mems (result : Nat) (bad : List Nat) :
    (s.liveReject result bad).mems = s.mems := by unfold State.liveReject; simp
@[simp ↓] theorem State.liveGo_mems (atFrame : Bool) (mask : Nat) : (s.liveGo atFrame mask).mems = s.mems := by
  unfold State.liveGo; simp
@[simp ↓] theorem State.liveCtrlWrite_mems (v : Word) : (s.liveCtrlWrite v).mems = s.mems := by
  unfold State.liveCtrlWrite; simp
@[simp ↓] theorem State.dropRealign_mems : s.dropRealign.mems = s.mems := by unfold State.dropRealign; simp
@[simp ↓] theorem State.tmgCtrlWrite_mems (who : Who) (v : Word) (blocked : Bool) :
    (s.tmgCtrlWrite who v blocked).mems = s.mems := by unfold State.tmgCtrlWrite; simp
@[simp ↓] theorem State.alignAt_mems (ft : Nat) : (s.alignAt ft).mems = s.mems := by unfold State.alignAt; simp
@[simp ↓] theorem State.glMeasure_mems (sch : Option Sched) (e : Nat) : (s.glMeasure sch e).mems = s.mems := by
  unfold State.glMeasure; split <;> simp
@[simp ↓] theorem State.glPeriodUpdate_mems (e : Nat) : (s.glPeriodUpdate e).mems = s.mems := by
  unfold State.glPeriodUpdate; split <;> simp
@[simp ↓] theorem State.genlockEdge_mems (at_ : Nat) : (s.genlockEdge at_).mems = s.mems := by
  unfold State.genlockEdge; dsimp only; (repeat' split) <;> simp
@[simp ↓] theorem State.tpoPulse_mems (i : Nat) : (s.tpoPulse i).mems = s.mems := by
  unfold State.tpoPulse; split <;> simp
theorem State.tmgWrite_mems (who : Who) (a : Nat) (v : Word) (blocked : Bool) {t : State}
    (h : s.tmgWrite who a v blocked = some t) : t.mems = s.mems := by
  unfold State.tmgWrite at h; (repeat' split at h) <;> simp at h <;> subst h <;> simp

/-! ### Converter -/

@[simp ↓] theorem State.setEnt_mems (k : Nat) (e : SliceEnt) : (s.setEnt k e).mems = s.mems := by
  unfold State.setEnt; simp
@[simp ↓] theorem State.setGrp_mems (key : Nat) (g : Grp) : (s.setGrp key g).mems = s.mems := by
  unfold State.setGrp; simp
@[simp ↓] theorem State.checkSpares_mems (key before : Nat) : (s.checkSpares key before).mems = s.mems := by
  unfold State.checkSpares; simp
@[simp ↓] theorem State.declareFail_mems (key pos : Nat) (spare : Option Nat) (cause : Nat) :
    (s.declareFail key pos spare cause).mems = s.mems := by unfold State.declareFail; simp
@[simp ↓] theorem State.stepOver_mems (key : Nat) : (s.stepOver key).mems = s.mems := by unfold State.stepOver; simp
@[simp ↓] theorem State.nextTarget_mems (key : Nat) : (s.nextTarget key).mems = s.mems := by
  unfold State.nextTarget; simp
@[simp ↓] theorem State.countCycles_mems : s.countCycles.mems = s.mems := by unfold State.countCycles; simp
@[simp ↓] theorem State.applySub_mems (p : PendSub) : (s.applySub p).mems = s.mems := by
  unfold State.applySub; dsimp only; (repeat' split) <;> simp
@[simp ↓] theorem State.applySubs_mems (due : List PendSub) : (s.applySubs due).mems = s.mems := by
  unfold State.applySubs; simp
@[simp ↓] theorem State.subsAtFT_mems (t : Nat) : (s.subsAtFT t).mems = s.mems := by unfold State.subsAtFT; simp
@[simp ↓] theorem State.subsNow_mems : s.subsNow.mems = s.mems := by unfold State.subsNow; simp
@[simp ↓] theorem State.retireGo_mems : s.retireGo.mems = s.mems := by unfold State.retireGo; simp
@[simp ↓] theorem State.rotateGroup_mems (fg : Bool) (key : Nat) : (s.rotateGroup fg key).mems = s.mems := by
  unfold State.rotateGroup; dsimp only; (repeat' split) <;> simp
@[simp ↓] theorem State.cnvAtSft_mems (fg : Bool) : (s.cnvAtSft fg).mems = s.mems := by unfold State.cnvAtSft; simp
@[simp ↓] theorem State.voidStep_mems (key : Nat) : (s.voidStep key).mems = s.mems := by unfold State.voidStep; simp
@[simp ↓] theorem State.voidAll_mems : s.voidAll.mems = s.mems := by unfold State.voidAll; simp
@[simp ↓] theorem State.mean2_mems (a b : Int) : (s.mean2 a b).2.mems = s.mems := by
  unfold State.mean2; split <;> simp
@[simp ↓] theorem State.takeMeas_mems (k key cnt : Nat) (m : Meas) : (s.takeMeas k key cnt m).mems = s.mems := by
  unfold State.takeMeas; simp
@[simp ↓] theorem State.measured_mems (key pos cnt : Nat) (spare : Option Nat) (m : Meas) :
    (s.measured key pos cnt spare m).mems = s.mems := by unfold State.measured; simp
@[simp ↓] theorem State.evalGroup_mems (cyc n key : Nat) (gm : Option GroupMeas) :
    (s.evalGroup cyc n key gm).mems = s.mems := by unfold State.evalGroup; dsimp only; (repeat' split) <;> simp
@[simp ↓] theorem State.rotationEvaluate_mems (meas : List GroupMeas) : (s.rotationEvaluate meas).mems = s.mems := by
  unfold State.rotationEvaluate; split <;> simp
@[simp ↓] theorem State.grefApply_mems (gh gl : Nat) : (s.grefApply gh gl).mems = s.mems := by
  unfold State.grefApply; simp
@[simp ↓] theorem State.cnvReadoutDone_mems : s.cnvReadoutDone.mems = s.mems := by unfold State.cnvReadoutDone; simp
@[simp ↓] theorem State.cnvSlot_mems (w : Win) (slot : Nat) (convs : List Conv) :
    (s.cnvSlot w slot convs).mems = s.mems := by unfold State.cnvSlot; simp
@[simp ↓] theorem State.tdacEnd_mems (result reps : Nat) : (s.tdacEnd result reps).mems = s.mems := by
  unfold State.tdacEnd; simp
@[simp ↓] theorem State.tdacRun_mems (x : Tdac) (t : Nat) : (s.tdacRun x t).mems = s.mems := by
  unfold State.tdacRun; simp
@[simp ↓] theorem State.tdacGo_mems (who : Who) : (s.tdacGo who).mems = s.mems := by unfold State.tdacGo; simp
@[simp ↓] theorem State.tdacStart_mems : s.tdacStart.mems = s.mems := by
  unfold State.tdacStart; (repeat' split) <;> simp
@[simp ↓] theorem State.tdacTry_mems : s.tdacTry.mems = s.mems := by unfold State.tdacTry; split <;> simp
@[simp ↓] theorem State.meanCode_mems (l : List Nat) : (s.meanCode l).2.mems = s.mems := by
  unfold State.meanCode; dsimp only; (repeat' split) <;> simp
@[simp ↓] theorem State.tdacColumn_mems (x : Tdac) (convs : List TdacConv) (c : Nat) :
    (s.tdacColumn x convs c).mems = s.mems := by unfold State.tdacColumn; simp
@[simp ↓] theorem State.tdacDone_mems (convs : List TdacConv) : (s.tdacDone convs).mems = s.mems := by
  unfold State.tdacDone; (repeat' split) <;> simp
@[simp ↓] theorem State.tdacAbort_mems : s.tdacAbort.mems = s.mems := by unfold State.tdacAbort; split <;> simp
@[simp ↓] theorem State.winRead_mems (who : Who) (a : Nat) : (s.winRead who a).2.mems = s.mems := by
  unfold State.winRead; (repeat' split) <;> simp
@[simp ↓] theorem State.winRefused_mems (who : Who) (a : Nat) : (s.winRefused who a).mems = s.mems := by
  unfold State.winRefused; simp
@[simp ↓] theorem State.winWrite_mems (who : Who) (a : Nat) (v : Word) (fg : Bool) :
    (s.winWrite who a v fg).mems = s.mems := by unfold State.winWrite; dsimp only; (repeat' split) <;> simp
@[simp ↓] theorem State.cnvCntClr_mems : s.cnvCntClr.mems = s.mems := by unfold State.cnvCntClr; simp
@[simp ↓] theorem State.cnvCtrlWrite_mems (who : Who) (v : Word) : (s.cnvCtrlWrite who v).mems = s.mems := by
  unfold State.cnvCtrlWrite; simp

theorem State.cnvWrite_mems (who : Who) (a : Nat) (v : Word) {t : State} (h : s.cnvWrite who a v = some t) :
    t.mems = s.mems := by
  unfold State.cnvWrite at h
  (repeat' split at h) <;> simp at h
  subst h
  simp

/-! ### Monitor -/

@[simp ↓] theorem State.setAcc_mems (c : Nat) (x : MonAcc) : (s.setAcc c x).mems = s.mems := by
  unfold State.setAcc; simp
@[simp ↓] theorem State.monRestart_mems : s.monRestart.mems = s.mems := by unfold State.monRestart; simp
@[simp ↓] theorem State.monTake_mems (sel filt : Nat) (ft again : Bool) :
    (s.monTake sel filt ft again).mems = s.mems := by unfold State.monTake; simp
@[simp ↓] theorem State.monApply_mems (again : Bool) : (s.monApply again).mems = s.mems := by
  unfold State.monApply; simp
@[simp ↓] theorem State.monAtFT_mems : s.monAtFT.mems = s.mems := by unfold State.monAtFT; simp
@[simp ↓] theorem State.monSet_mems (a v : Nat) (who : Who) : (s.monSet a v who).mems = s.mems := by
  unfold State.monSet; simp
@[simp ↓] theorem State.monLand_mems (c : Nat) (k : MonKind) (code : Int) : (s.monLand c k code).mems = s.mems := by
  unfold State.monLand; simp
@[simp ↓] theorem State.monInvalid_mems (c : Nat) : (s.monInvalid c).mems = s.mems := by unfold State.monInvalid; simp
@[simp ↓] theorem State.monOverrange_mems (c : Nat) (code : Int) : (s.monOverrange c code).mems = s.mems := by
  unfold State.monOverrange; simp
@[simp ↓] theorem State.monCode_mems (g : Nat) (raw : Int) : (s.monCode g raw).2.mems = s.mems := by
  unfold State.monCode; dsimp only; (repeat' split) <;> simp
@[simp ↓] theorem State.monOutput_mems (raw : Int) : (s.monOutput raw).mems = s.mems := by
  unfold State.monOutput; simp
@[simp ↓] theorem State.monClear_mems (mask : Nat) : (s.monClear mask).mems = s.mems := by
  unfold State.monClear; split <;> simp
@[simp ↓] theorem State.monCalGo_mems : s.monCalGo.mems = s.mems := by unfold State.monCalGo; simp

@[simp ↓] theorem State.monFactors_mems (g : Nat) (runs : List (Int × Int × Int × Int)) :
    (s.monFactors g runs).mems = s.mems := by
  induction runs generalizing s g with
  | nil => rfl
  | cons x r ih => simp [State.monFactors, ih]

@[simp ↓] theorem State.monCalEnd_mems (runs : List (Int × Int × Int × Int)) :
    (s.monCalEnd runs).1.mems = s.mems := by unfold State.monCalEnd; split <;> simp
@[simp ↓] theorem State.monSumLoRead_mems (who : Who) (c : Nat) : (s.monSumLoRead who c).2.mems = s.mems := by
  unfold State.monSumLoRead; simp
@[simp ↓] theorem State.monCtrlWrite_mems (v : Word) : (s.monCtrlWrite v).mems = s.mems := by
  unfold State.monCtrlWrite; simp
theorem State.monWrite_mems (who : Who) (a : Nat) (v : Word) {t : State} (h : s.monWrite who a v = some t) :
    t.mems = s.mems := by unfold State.monWrite at h; (repeat' split at h) <;> simp at h <;> subst h <;> simp

/-! ### ThermalBase -/

@[simp ↓] theorem State.setSensor_mems (i : Nat) (x : Sensor) : (s.setSensor i x).mems = s.mems := by
  unfold State.setSensor; simp
@[simp ↓] theorem State.sensorFail_mems (i cause : Nat) : (s.sensorFail i cause).mems = s.mems := by
  unfold State.sensorFail; simp
@[simp ↓] theorem State.takeWindows_mems (wins : List SensorWin) : (s.takeWindows wins).mems = s.mems := by
  unfold State.takeWindows; simp
@[simp ↓] theorem State.sensorConds_mems (i : Nat) : (s.sensorConds i).mems = s.mems := by
  unfold State.sensorConds; dsimp only; (repeat' split) <;> simp
@[simp ↓] theorem State.noteGate_mems (mint : Bool) : (s.noteGate mint).mems = s.mems := by
  unfold State.noteGate; simp
@[simp ↓] theorem State.thmConds_mems : s.thmConds.mems = s.mems := by unfold State.thmConds; simp
@[simp ↓] theorem State.thmTimers_mems : s.thmTimers.mems = s.mems := by unfold State.thmTimers; simp
@[simp ↓] theorem State.thmPin_mems : s.thmPin.mems = s.mems := by unfold State.thmPin; simp
@[simp ↓] theorem State.thmTo_mems (st : ThmState) : (s.thmTo st).mems = s.mems := by unfold State.thmTo; simp
@[simp ↓] theorem State.thmSafe_mems : s.thmSafe.mems = s.mems := by unfold State.thmSafe; simp

/-! ### CalBase -/

@[simp ↓] theorem State.calEvent_mems (bit detail : Nat) : (s.calEvent bit detail).mems = s.mems := by
  unfold State.calEvent; simp
@[simp ↓] theorem State.calResult_mems (kind code cause : Nat) (dis : Option Nat) :
    (s.calResult kind code cause dis).mems = s.mems := by unfold State.calResult; simp
@[simp ↓] theorem State.saveFails_mems (detail : Nat) : (s.saveFails detail).mems = s.mems := by
  unfold State.saveFails; simp
@[simp ↓] theorem State.calAbort_mems (cause : Nat) : (s.calAbort cause).mems = s.mems := by
  unfold State.calAbort; split <;> simp
@[simp ↓] theorem State.eqRelease_mems (ps : List Nat) : (s.eqRelease ps).mems = s.mems := by
  unfold State.eqRelease; simp
@[simp ↓] theorem State.eqRestore_mems : s.eqRestore.mems = s.mems := by unfold State.eqRestore; split <;> simp
@[simp ↓] theorem State.calAbortKind_mems (kind cause : Nat) : (s.calAbortKind kind cause).mems = s.mems := by
  unfold State.calAbortKind; simp
@[simp ↓] theorem State.calMode_mems (m : Mode) : (s.calMode m).mems = s.mems := by unfold State.calMode; simp

/-! ### Timing -/

@[simp ↓] theorem State.setTpo_mems (i : Nat) (x : Tpo) : (s.setTpo i x).mems = s.mems := by unfold State.setTpo; simp
@[simp ↓] theorem State.placeTpo_mems (i : Nat) (how : Jump) : (s.placeTpo i how).mems = s.mems := by
  unfold State.placeTpo; simp
@[simp ↓] theorem State.replaceTpos_mems (k : Nat) (how : Jump) : (s.replaceTpos k how).mems = s.mems := by
  unfold State.replaceTpos; simp
@[simp ↓] theorem State.armTpo_mems (i : Nat) (who : Who) : (s.armTpo i who).mems = s.mems := by
  unfold State.armTpo; simp
@[simp ↓] theorem State.disarmTpo_mems (i : Nat) : (s.disarmTpo i).mems = s.mems := by unfold State.disarmTpo; simp
@[simp ↓] theorem State.tpoCtrlWrite_mems (i : Nat) (who : Who) (v : Word) :
    (s.tpoCtrlWrite i who v).mems = s.mems := by unfold State.tpoCtrlWrite; simp
@[simp ↓] theorem State.tpoFire_mems (i : Nat) (blocked : Bool) : (s.tpoFire i blocked).mems = s.mems := by
  unfold State.tpoFire; simp
@[simp ↓] theorem State.tbIncWrite_mems (k : Nat) (v : Word) : (s.tbIncWrite k v).mems = s.mems := by
  unfold State.tbIncWrite; simp
@[simp ↓] theorem State.tbJump_mems (k v : Nat) : (s.tbJump k v).mems = s.mems := by unfold State.tbJump; simp
@[simp ↓] theorem State.tbSet_mems (k : Nat) : (s.tbSet k).mems = s.mems := by unfold State.tbSet; simp
@[simp ↓] theorem State.tbStep_mems (k : Nat) : (s.tbStep k).mems = s.mems := by unfold State.tbStep; simp
@[simp ↓] theorem State.tbCtrlWrite_mems (k : Nat) (v : Word) : (s.tbCtrlWrite k v).mems = s.mems := by
  unfold State.tbCtrlWrite; simp
@[simp ↓] theorem State.tbSecLoRead_mems (who : Who) (k : Nat) : (s.tbSecLoRead who k).2.mems = s.mems := by
  unfold State.tbSecLoRead; simp
@[simp ↓] theorem State.setCap_mems (x : Nat) (c : Cap) : (s.setCap x c).mems = s.mems := by unfold State.setCap; simp
@[simp ↓] theorem State.captureEdge_mems (x at_ : Nat) (falling : Bool) :
    (s.captureEdge x at_ falling).mems = s.mems := by unfold State.captureEdge; simp
@[simp ↓] theorem State.capturePop_mems (who : Who) (x : Nat) : (s.capturePop who x).2.mems = s.mems := by
  unfold State.capturePop; simp
@[simp ↓] theorem State.capCtrlWrite_mems (x : Nat) (v : Word) : (s.capCtrlWrite x v).mems = s.mems := by
  unfold State.capCtrlWrite; simp
@[simp ↓] theorem State.xchkSample_mems : s.xchkSample.mems = s.mems := by unfold State.xchkSample; simp
@[simp ↓] theorem State.tpoStatusWrite_mems (i : Nat) (v : Word) : (s.tpoStatusWrite i v).mems = s.mems := by
  unfold State.tpoStatusWrite; simp

/-! ### FabBase -/

@[simp ↓] theorem State.setFport_mems (p : Nat) (x : FabPort) : (s.setFport p x).mems = s.mems := by
  unfold State.setFport; simp
@[simp ↓] theorem State.fabRefresh_mems : s.fabRefresh.mems = s.mems := by unfold State.fabRefresh; simp
@[simp ↓] theorem State.enqueue_mems (p : Nat) (t : FabTx) : (s.enqueue p t).mems = s.mems := by
  unfold State.enqueue; simp
@[simp ↓] theorem State.noRoute_mems : s.noRoute.mems = s.mems := by unfold State.noRoute; simp
@[simp ↓] theorem State.routeTx_mems (dst : Nat) (t : FabTx) : (s.routeTx dst t).mems = s.mems := by
  unfold State.routeTx; simp
@[simp ↓] theorem State.treeTx_mems (except : Nat) (t : FabTx) : (s.treeTx except t).mems = s.mems := by
  unfold State.treeTx; simp
@[simp ↓] theorem State.nextMid_mems : s.nextMid.2.mems = s.mems := by unfold State.nextMid; simp
@[simp ↓] theorem State.sendCtl_mems (dst msg : Nat) (payload : List Byte) :
    (s.sendCtl dst msg payload).mems = s.mems := by unfold State.sendCtl; split <;> simp
@[simp ↓] theorem State.sendBcast_mems (msg : Nat) (payload : List Byte) :
    (s.sendBcast msg payload).mems = s.mems := by unfold State.sendBcast; split <;> simp
@[simp ↓] theorem State.sendLocal_mems (p msg : Nat) (payload : List Byte) :
    (s.sendLocal p msg payload).mems = s.mems := by unfold State.sendLocal; simp
@[simp ↓] theorem State.ttlDrop_mems : s.ttlDrop.mems = s.mems := by unfold State.ttlDrop; simp

/-! ### Ptp -/

@[simp ↓] theorem State.setDom_mems (d : Nat) (x : Domain) : (s.setDom d x).mems = s.mems := by
  unfold State.setDom; simp
@[simp ↓] theorem State.setPdelay_mems (p d : Nat) (x : PDelay) : (s.setPdelay p d x).mems = s.mems := by
  unfold State.setPdelay; simp
@[simp ↓] theorem State.ptpDrop_mems (b : List Byte) : (s.ptpDrop b).mems = s.mems := by unfold State.ptpDrop; simp
@[simp ↓] theorem State.ptpStamp_mems (d x : Nat) : (s.ptpStamp d x).2.mems = s.mems := by unfold State.ptpStamp; simp
@[simp ↓] theorem State.ingress_mems (p d : Nat) : (s.ingress p d).2.mems = s.mems := by unfold State.ingress; simp
@[simp ↓] theorem State.egress_mems (p d : Nat) : (s.egress p d).2.mems = s.mems := by unfold State.egress; simp
@[simp ↓] theorem State.toMc1_mems (d : Nat) (b : List Byte) (stamp path : Int) :
    (s.toMc1 d b stamp path).mems = s.mems := by unfold State.toMc1; simp
@[simp ↓] theorem State.domMove_mems (d : Nat) (x : Domain) (mark : Bool) : (s.domMove d x mark).mems = s.mems := by
  unfold State.domMove; simp
@[simp ↓] theorem State.domCfgWrite_mems (d : Nat) (v : Word) : (s.domCfgWrite d v).mems = s.mems := by
  unfold State.domCfgWrite; simp
@[simp ↓] theorem State.domCount_mems (d : Nat) (x : Domain) (p : Int) : (s.domCount d x p).mems = s.mems := by
  unfold State.domCount; split <;> simp
@[simp ↓] theorem State.domSync_mems (d port : Nat) (p : Int) : (s.domSync d port p).mems = s.mems := by
  unfold State.domSync; dsimp only; (repeat' split) <;> simp
@[simp ↓] theorem State.domLost_mems (d : Nat) : (s.domLost d).mems = s.mems := by unfold State.domLost; simp
@[simp ↓] theorem State.syncIn_mems (p d : Nat) (b : List Byte) : (s.syncIn p d b).1.mems = s.mems := by
  unfold State.syncIn; simp
@[simp ↓] theorem State.dropPend_mems (e : PtpPend) : (s.dropPend e).mems = s.mems := by unfold State.dropPend; simp
@[simp ↓] theorem State.pushPend_mems (e : PtpPend) : (s.pushPend e).mems = s.mems := by
  unfold State.pushPend; dsimp only; (repeat' split) <;> simp
@[simp ↓] theorem State.pendEvict_mems : s.pendEvict.mems = s.mems := by unfold State.pendEvict; split <;> simp
@[simp ↓] theorem State.ptpOut_mems (p : Nat) (t : FabTx) : (s.ptpOut p t).2.mems = s.mems := by
  unfold State.ptpOut; dsimp only; (repeat' split) <;> simp
@[simp ↓] theorem State.pdFail_mems (p d : Nat) : (s.pdFail p d).mems = s.mems := by unfold State.pdFail; simp
@[simp ↓] theorem State.pdDue_mems (p d : Nat) : (s.pdDue p d).mems = s.mems := by unfold State.pdDue; split <;> simp
@[simp ↓] theorem State.pdTimeout_mems (p d : Nat) : (s.pdTimeout p d).mems = s.mems := by
  unfold State.pdTimeout; simp
@[simp ↓] theorem State.pdSend_mems (p d : Nat) : (s.pdSend p d).mems = s.mems := by unfold State.pdSend; simp
@[simp ↓] theorem State.pdAnswer_mems (p d : Nat) (b : List Byte) : (s.pdAnswer p d b).mems = s.mems := by
  unfold State.pdAnswer; simp
@[simp ↓] theorem State.pdComplete_mems (p d : Nat) : (s.pdComplete p d).mems = s.mems := by
  unfold State.pdComplete; dsimp only; (repeat' split) <;> simp
@[simp ↓] theorem State.pdResp_mems (p d : Nat) (b : List Byte) : (s.pdResp p d b).mems = s.mems := by
  unfold State.pdResp; simp
@[simp ↓] theorem State.pdFollow_mems (p d : Nat) (b : List Byte) : (s.pdFollow p d b).mems = s.mems := by
  unfold State.pdFollow; dsimp only; (repeat' split) <;> simp
@[simp ↓] theorem State.pdDown_mems (p : Nat) : (s.pdDown p).mems = s.mems := by unfold State.pdDown; simp
@[simp ↓] theorem State.ptpReceive_mems (p : Nat) (b : List Byte) : (s.ptpReceive p b).mems = s.mems := by
  unfold State.ptpReceive; dsimp only; (repeat' split) <;> simp

theorem State.timeWrite_mems (who : Who) (a : Nat) (v : Word) {t : State} (h : s.timeWrite who a v = some t) :
    t.mems = s.mems := by
  unfold State.timeWrite at h
  dsimp only at h
  (repeat' split at h) <;> cases h <;> simp

/-! ### Rig -/

@[simp ↓] theorem State.rigCheck_mems : s.rigCheck.mems = s.mems := by unfold State.rigCheck; simp
@[simp ↓] theorem State.rigLate_mems (ack : Bool) : (s.rigLate ack).mems = s.mems := by unfold State.rigLate; simp
@[simp ↓] theorem State.rigNote_mems (ack : Bool) : (s.rigNote ack).mems = s.mems := by unfold State.rigNote; simp

@[simp ↓] theorem State.rigAnswered_mems (f : State → State) (hf : ∀ a, (f a).mems = a.mems) :
    (s.rigAnswered f).mems = s.mems := by
  unfold State.rigAnswered
  split
  · split <;> simp [hf]
  · exact hf s

@[simp ↓] theorem State.rigAckTake_mems (a result : Nat) (s : State) : (s.rigAckTake a result).mems = s.mems := by
  unfold State.rigAckTake; simp
@[simp ↓] theorem State.rigAck_mems (a result : Nat) : (s.rigAck a result).mems = s.mems := by
  unfold State.rigAck; simp
@[simp ↓] theorem State.rigDoneTake_mems (a result : Nat) (s : State) : (s.rigDoneTake a result).mems = s.mems := by
  unfold State.rigDoneTake; simp
@[simp ↓] theorem State.rigDone_mems (a result : Nat) : (s.rigDone a result).mems = s.mems := by
  unfold State.rigDone; simp
@[simp ↓] theorem State.rigSend_mems (x : RigAnswer) : (s.rigSend x).mems = s.mems := by unfold State.rigSend; simp
@[simp ↓] theorem State.rigFlush_mems : s.rigFlush.mems = s.mems := by unfold State.rigFlush; simp
@[simp ↓] theorem State.rigReply_mems (origin result cause : Nat) :
    (s.rigReply origin result cause).mems = s.mems := by unfold State.rigReply; simp
@[simp ↓] theorem State.rigTarget_mems (origin bank tb sec ns id : Nat) :
    (s.rigTarget origin bank tb sec ns id).mems = s.mems := by unfold State.rigTarget; simp
@[simp ↓] theorem State.rigCommitMsg_mems (b : List Byte) : (s.rigCommitMsg b).mems = s.mems := by
  unfold State.rigCommitMsg; simp
@[simp ↓] theorem State.rigCancelAt_mems (origin : Nat) : (s.rigCancelAt origin).mems = s.mems := by
  unfold State.rigCancelAt; split <;> simp
@[simp ↓] theorem State.rigGo_mems : s.rigGo.mems = s.mems := by unfold State.rigGo; simp
@[simp ↓] theorem State.rigCancel_mems : s.rigCancel.mems = s.mems := by unfold State.rigCancel; simp
@[simp ↓] theorem State.rigCtrlWrite_mems (v : Word) : (s.rigCtrlWrite v).mems = s.mems := by
  unfold State.rigCtrlWrite; simp
@[simp ↓] theorem State.rigTimeout_mems : s.rigTimeout.mems = s.mems := by unfold State.rigTimeout; simp

/-! ### Discovery -/

@[simp ↓] theorem State.applyTables_mems (addr gen root tree parent : Nat) (routes : List (Nat × Route)) :
    (s.applyTables addr gen root tree parent routes).mems = s.mems := by unfold State.applyTables; simp
@[simp ↓] theorem State.resendLocal_mems (p : Nat) (b : List Byte) : (s.resendLocal p b).mems = s.mems := by
  unfold State.resendLocal; simp
@[simp ↓] theorem State.assignMsg_mems (b : List Byte) : (s.assignMsg b).mems = s.mems := by
  unfold State.assignMsg; simp
@[simp ↓] theorem State.assignSend_mems : s.assignSend.mems = s.mems := by
  unfold State.assignSend; dsimp only; (repeat' split) <;> simp
@[simp ↓] theorem State.assignPop_mems (lost : Bool) : (s.assignPop lost).mems = s.mems := by
  unfold State.assignPop; simp
@[simp ↓] theorem State.assignAck_mems (b : List Byte) : (s.assignAck b).mems = s.mems := by
  unfold State.assignAck; simp
@[simp ↓] theorem State.assignTimeout_mems : s.assignTimeout.mems = s.mems := by unfold State.assignTimeout; simp
@[simp ↓] theorem State.newTables_mems : s.newTables.mems = s.mems := by
  unfold State.newTables; dsimp only; (repeat' split) <;> simp
@[simp ↓] theorem State.discFinish_mems : s.discFinish.mems = s.mems := by unfold State.discFinish; simp
@[simp ↓] theorem State.probeSend_mems (x : Probe) : (s.probeSend x).mems = s.mems := by
  unfold State.probeSend; split <;> simp
@[simp ↓] theorem State.discNext_mems : s.discNext.mems = s.mems := by
  unfold State.discNext; dsimp only; (repeat' split) <;> simp
@[simp ↓] theorem State.discStart_mems (rank : Nat) (fresh : Bool) : (s.discStart rank fresh).mems = s.mems := by
  unfold State.discStart; simp
@[simp ↓] theorem State.discFail_mems : s.discFail.mems = s.mems := by unfold State.discFail; simp
@[simp ↓] theorem State.rootYield_mems : s.rootYield.mems = s.mems := by unfold State.rootYield; simp
@[simp ↓] theorem State.conflict_mems (k n : Nat) : (s.conflict k n).mems = s.mems := by unfold State.conflict; simp
@[simp ↓] theorem State.probeTimeout_mems : s.probeTimeout.mems = s.mems := by
  unfold State.probeTimeout; split <;> simp
@[simp ↓] theorem State.probeMsg_mems (p : Nat) (b : List Byte) : (s.probeMsg p b).mems = s.mems := by
  unfold State.probeMsg; simp
@[simp ↓] theorem State.reportAt_mems (x : Probe) (b : List Byte) : (s.reportAt x b).mems = s.mems := by
  unfold State.reportAt; simp
@[simp ↓] theorem State.reportMsg_mems (p : Nat) (b : List Byte) : (s.reportMsg p b).mems = s.mems := by
  unfold State.reportMsg; dsimp only; (repeat' split) <;> simp
@[simp ↓] theorem State.rootLink_mems (n p : Nat) (up : Bool) : (s.rootLink n p up).mems = s.mems := by
  unfold State.rootLink; simp
@[simp ↓] theorem State.linkEventMsg_mems (b : List Byte) : (s.linkEventMsg b).mems = s.mems := by
  unfold State.linkEventMsg; split <;> simp
@[simp ↓] theorem State.tellRoot_mems (p : Nat) (up : Bool) : (s.tellRoot p up).mems = s.mems := by
  unfold State.tellRoot; simp
@[simp ↓] theorem State.partitionSet_mems : s.partitionSet.mems = s.mems := by unfold State.partitionSet; simp
@[simp ↓] theorem State.fabCtrlActs_mems (v : Word) : (s.fabCtrlActs v).mems = s.mems := by
  unfold State.fabCtrlActs; simp

/-! ### Stripe -/

@[simp ↓] theorem State.setDp_mems (d : Nat) (x : Datapath) : (s.setDp d x).mems = s.mems := by
  unfold State.setDp; simp
@[simp ↓] theorem State.strWarn_mems (d mask : Nat) : (s.strWarn d mask).mems = s.mems := by
  unfold State.strWarn; simp
@[simp ↓] theorem State.strCmdEnd_mems (r : Nat) : (s.strCmdEnd r).mems = s.mems := by unfold State.strCmdEnd; simp
@[simp ↓] theorem State.freshBlackAll_mems : s.freshBlackAll.mems = s.mems := by unfold State.freshBlackAll; simp
@[simp ↓] theorem State.stripeFail_mems (d : Nat) : (s.stripeFail d).mems = s.mems := by unfold State.stripeFail; simp
@[simp ↓] theorem State.applyTake_mems (t : Take) : (s.applyTake t).mems = s.mems := by
  unfold State.applyTake; (repeat' split) <;> simp
@[simp ↓] theorem State.endSwitches_mems : s.endSwitches.mems = s.mems := by unfold State.endSwitches; simp
@[simp ↓] theorem State.takesAtFT_mems (t : Nat) : (s.takesAtFT t).mems = s.mems := by unfold State.takesAtFT; simp
@[simp ↓] theorem State.takesNow_mems : s.takesNow.mems = s.mems := by unfold State.takesNow; simp
@[simp ↓] theorem State.schedule_mems (t : Take) : (s.schedule t).mems = s.mems := by unfold State.schedule; simp
@[simp ↓] theorem State.dropRestore_mems (stripe : Nat) : (s.dropRestore stripe).mems = s.mems := by
  unfold State.dropRestore; simp
@[simp ↓] theorem State.takeCmd_mems (stripe : Nat) (restore : Bool) : (s.takeCmd stripe restore).mems = s.mems := by
  unfold State.takeCmd; simp
@[simp ↓] theorem State.damageFrame_mems (n : Nat) : (s.damageFrame n).mems = s.mems := by
  unfold State.damageFrame; simp
@[simp ↓] theorem State.flagLine_mems (n key j b0 : Nat) : (s.flagLine n key j b0).mems = s.mems := by
  unfold State.flagLine; simp
@[simp ↓] theorem State.dpFault_mems (d kind : Nat) : (s.dpFault d kind).mems = s.mems := by
  unfold State.dpFault; split <;> simp
@[simp ↓] theorem State.testGo_mems (d : Nat) : (s.testGo d).mems = s.mems := by unfold State.testGo; simp
@[simp ↓] theorem State.testResult_mems (d : Nat) (back : DpState) (pass : Bool) :
    (s.testResult d back pass).mems = s.mems := by unfold State.testResult; simp
@[simp ↓] theorem State.selftestDone_mems (pass : Bool) : (s.selftestDone pass).mems = s.mems := by
  unfold State.selftestDone; split <;> simp
@[simp ↓] theorem State.spareSelftest_mems (d : Nat) (pass : Bool) : (s.spareSelftest d pass).mems = s.mems := by
  unfold State.spareSelftest; simp
@[simp ↓] theorem State.clampPath_mems (r : Rd) (settling : Bool) (stripe bank path : Nat) :
    (s.clampPath r settling stripe bank path).mems = s.mems := by unfold State.clampPath; simp
@[simp ↓] theorem State.defOrder_mems (r : Rd) (stripe : Nat) : (s.defOrder r stripe).mems = s.mems := by
  unfold State.defOrder; simp
@[simp ↓] theorem State.clampAll_mems (f : Frame) (j : Nat) (settling : Bool) :
    (s.clampAll f j settling).mems = s.mems := by unfold State.clampAll; simp
@[simp ↓] theorem State.strCtrlWrite_mems (v : Word) : (s.strCtrlWrite v).mems = s.mems := by
  unfold State.strCtrlWrite; simp

/-! ### Shape -/

@[simp ↓] theorem State.modFrame_mems (n : Nat) (f : Frame → Frame) : (s.modFrame n f).mems = s.mems := by
  unfold State.modFrame; simp
@[simp ↓] theorem State.overrun_mems (kind : Nat) (units : List Nat) (f : Frame) (sub : Nat) :
    (s.overrun kind units f sub).mems = s.mems := by unfold State.overrun; simp
@[simp ↓] theorem State.cutEmission_mems (n : Nat) (twin : Bool) : (s.cutEmission n twin).mems = s.mems := by
  unfold State.cutEmission; split <;> simp
@[simp ↓] theorem State.writerReaches_mems (n buf outRow stripe : Nat) :
    (s.writerReaches n buf outRow stripe).mems = s.mems := by unfold State.writerReaches; simp
@[simp ↓] theorem State.countLine_mems (d : Nat) (x : LinePx) : (s.countLine d x).mems = s.mems := by
  unfold State.countLine; simp
@[simp ↓] theorem State.abandonLine_mems (n key j stripe : Nat) : (s.abandonLine n key j stripe).mems = s.mems := by
  unfold State.abandonLine; simp
@[simp ↓] theorem State.countHeld_mems (d held brk : Nat) : (s.countHeld d held brk).mems = s.mems := by
  unfold State.countHeld; simp
@[simp ↓] theorem State.finishAbandoned_mems (f : Frame) (key j stripe : Nat) :
    (s.finishAbandoned f key j stripe).mems = s.mems := by unfold State.finishAbandoned; simp
@[simp ↓] theorem State.procOb_mems (r : Rd) (bank j : Nat) : (s.procOb r bank j).mems = s.mems := by
  unfold State.procOb; simp
@[simp ↓] theorem State.latchCounters_mems : s.latchCounters.mems = s.mems := by unfold State.latchCounters; simp
@[simp ↓] theorem State.latchCentroid_mems (f : Frame) : (s.latchCentroid f).mems = s.mems := by
  unfold State.latchCentroid; simp
@[simp ↓] theorem State.basesAtFT_mems : s.basesAtFT.mems = s.mems := by unfold State.basesAtFT; simp
@[simp ↓] theorem State.deliverStat_mems (n : Nat) (late : Bool) : (s.deliverStat n late).mems = s.mems := by
  unfold State.deliverStat; dsimp only; (repeat' split) <;> simp
@[simp ↓] theorem State.statDelivery_mems : s.statDelivery.mems = s.mems := by
  unfold State.statDelivery; split <;> simp
@[simp ↓] theorem State.statCtrlWrite_mems (v : Word) : (s.statCtrlWrite v).mems = s.mems := by
  unfold State.statCtrlWrite; simp
@[simp ↓] theorem State.centRead_mems (who : Who) (a : Nat) : (s.centRead who a).2.mems = s.mems := by
  unfold State.centRead; (repeat' split) <;> simp
theorem State.strWrite_mems (who : Who) (a : Nat) (v : Word) {t : State} (h : s.strWrite who a v = some t) :
    t.mems = s.mems := by unfold State.strWrite at h; (repeat' split at h) <;> simp at h <;> subst h <;> simp

/-! ### FabProxy -/

@[simp ↓] theorem State.fabBasesCheck_mems : s.fabBasesCheck.mems = s.mems := by unfold State.fabBasesCheck; simp
@[simp ↓] theorem State.fabBasesNow_mems : s.fabBasesNow.mems = s.mems := by unfold State.fabBasesNow; simp
@[simp ↓] theorem State.proxyDrop_mems (a : Nat) : (s.proxyDrop a).mems = s.mems := by unfold State.proxyDrop; simp
@[simp ↓] theorem State.proxyQueue_mems (p : Nat) (b : List Byte) : (s.proxyQueue p b).mems = s.mems := by
  unfold State.proxyQueue; simp
@[simp ↓] theorem State.offerProxy_mems (f : Frame) : (s.offerProxy f).mems = s.mems := by
  unfold State.offerProxy; split <;> simp
@[simp ↓] theorem State.bulkCtrlWrite_mems (v : Word) : (s.bulkCtrlWrite v).mems = s.mems := by
  unfold State.bulkCtrlWrite; simp
@[simp ↓] theorem State.bulkEnd_mems (b : List Byte) : (s.bulkEnd b).mems = s.mems := by unfold State.bulkEnd; simp

/-! ### Fabric -/

@[simp ↓] theorem State.linkinfo_mems (p peerPort peerAddr : Nat) (valid : Bool) (serial : Nat) :
    (s.linkinfo p peerPort peerAddr valid serial).mems = s.mems := by unfold State.linkinfo; simp
@[simp ↓] theorem State.linkinfoSend_mems (p : Nat) : (s.linkinfoSend p).mems = s.mems := by
  unfold State.linkinfoSend; simp
@[simp ↓] theorem State.portUpEvent_mems (p : Nat) : (s.portUpEvent p).mems = s.mems := by
  unfold State.portUpEvent; dsimp only; (repeat' split) <;> simp
@[simp ↓] theorem State.switchRoutes_mems (p : Nat) : (s.switchRoutes p).mems = s.mems := by
  unfold State.switchRoutes; simp
@[simp ↓] theorem State.ctlDrop_mems : s.ctlDrop.mems = s.mems := by unfold State.ctlDrop; simp
@[simp ↓] theorem State.reroute_mems (t : FabTx) : (s.reroute t).mems = s.mems := by unfold State.reroute; simp
@[simp ↓] theorem State.portLost_mems (p : Nat) : (s.portLost p).mems = s.mems := by unfold State.portLost; simp
@[simp ↓] theorem State.portFall_mems (p : Nat) : (s.portFall p).mems = s.mems := by
  unfold State.portFall; dsimp only; (repeat' split) <;> simp
@[simp ↓] theorem State.portDown_mems (p : Nat) (lockLost : Bool) : (s.portDown p lockLost).mems = s.mems := by
  unfold State.portDown; dsimp only; (repeat' split) <;> simp
@[simp ↓] theorem State.fabCheck_mems : s.fabCheck.mems = s.mems := by unfold State.fabCheck; simp
@[simp ↓] theorem State.fabCtrlWrite_mems (v : Word) : (s.fabCtrlWrite v).mems = s.mems := by
  unfold State.fabCtrlWrite; simp
@[simp ↓] theorem State.fabStart_mems : s.fabStart.mems = s.mems := by unfold State.fabStart; simp
@[simp ↓] theorem State.onWire_mems (p : Nat) (x : FabPort) (body : List Byte) :
    (s.onWire p x body).mems = s.mems := by unfold State.onWire; simp
@[simp ↓] theorem State.sendAcked_mems (p : Nat) (x : FabPort) (t : FabTx) (fseq : Nat) :
    (s.sendAcked p x t fseq).mems = s.mems := by unfold State.sendAcked; simp
@[simp ↓] theorem State.frameSend_mems (p : Nat) : (s.frameSend p).mems = s.mems := by
  unfold State.frameSend; dsimp only; (repeat' split) <;> simp
@[simp ↓] theorem State.repeatTx_mems (p : Nat) (u : Unacked) : (s.repeatTx p u).mems = s.mems := by
  unfold State.repeatTx; simp
@[simp ↓] theorem State.ackBlock_mems (p cls fseq : Nat) : (s.ackBlock p cls fseq).mems = s.mems := by
  unfold State.ackBlock; dsimp only; (repeat' split) <;> simp
@[simp ↓] theorem State.nakBlock_mems (p cls fseq : Nat) : (s.nakBlock p cls fseq).mems = s.mems := by
  unfold State.nakBlock; split <;> simp
@[simp ↓] theorem State.hopTimeout_mems (p : Nat) : (s.hopTimeout p).mems = s.mems := by
  unfold State.hopTimeout; split <;> simp
@[simp ↓] theorem State.midKeep_mems (src mid : Nat) : (s.midKeep src mid).mems = s.mems := by
  unfold State.midKeep; simp
@[simp ↓] theorem State.control_mems (p : Nat) (b : List Byte) : (s.control p b).mems = s.mems := by
  unfold State.control; dsimp only; (repeat' split) <;> simp
@[simp ↓] theorem State.forward_mems (b : List Byte) : (s.forward b).mems = s.mems := by
  unfold State.forward; split <;> simp
@[simp ↓] theorem State.forwardBcast_mems (p : Nat) (b : List Byte) : (s.forwardBcast p b).mems = s.mems := by
  unfold State.forwardBcast; split <;> simp
@[simp ↓] theorem State.badFrame_mems (p cls fseq : Nat) (crcBad : Bool) :
    (s.badFrame p cls fseq crcBad).mems = s.mems := by unfold State.badFrame; simp
@[simp ↓] theorem State.modeDropped_mems : s.modeDropped.mems = s.mems := by unfold State.modeDropped; simp
@[simp ↓] theorem State.summaryOut_mems (dst : Option Nat) (reason : Nat) :
    (s.summaryOut dst reason).mems = s.mems := by unfold State.summaryOut; split <;> simp

theorem State.fabWrite_mems (a : Nat) (v : Word) {t : State} (h : s.fabWrite a v = some t) : t.mems = s.mems := by
  unfold State.fabWrite at h
  split at h
  · obtain rfl := Option.some.inj h; simp
  · split at h
    · obtain rfl := Option.some.inj h; simp
    · cases h

/-! ### Link -/

@[simp ↓] theorem State.modEmit_mems (n : Nat) (twin : Bool) (g : Emit → Emit) :
    (s.modEmit n twin g).mems = s.mems := by unfold State.modEmit; simp
@[simp ↓] theorem State.sendMark_mems (p t : Nat) : (s.sendMark p t).mems = s.mems := by unfold State.sendMark; simp
@[simp ↓] theorem State.startPacket_mems (p t set type stream frame : Nat) (fields : List Byte) :
    (s.startPacket p t set type stream frame fields).mems = s.mems := by unfold State.startPacket; simp
@[simp ↓] theorem State.setChain_mems (c : Chain) : (s.setChain c).mems = s.mems := by unfold State.setChain; simp
@[simp ↓] theorem State.openChain_mems (twin : Bool) : (s.openChain twin).mems = s.mems := by
  unfold State.openChain; simp
@[simp ↓] theorem State.wantChain_mems (twin : Bool) : (s.wantChain twin).mems = s.mems := by
  unfold State.wantChain; simp
@[simp ↓] theorem State.beginChain_mems (f : Frame) (twin : Bool) : (s.beginChain f twin).mems = s.mems := by
  unfold State.beginChain; simp
@[simp ↓] theorem State.placeFrame_mems (f : Frame) (twin : Bool) : (s.placeFrame f twin).mems = s.mems := by
  unfold State.placeFrame; split <;> simp
@[simp ↓] theorem State.endSegment_mems (c : Chain) (close : Bool) : (s.endSegment c close).mems = s.mems := by
  unfold State.endSegment; simp
@[simp ↓] theorem State.closeChain_mems (c : Chain) : (s.closeChain c).mems = s.mems := by
  unfold State.closeChain; simp
@[simp ↓] theorem State.endChain_mems (twin : Bool) : (s.endChain twin).mems = s.mems := by
  unfold State.endChain; dsimp only; (repeat' split) <;> simp

@[simp ↓] theorem State.closeGone_mems : s.closeGone.mems = s.mems := by
  unfold State.closeGone
  refine foldl_keeps State.mems _ _ _ fun a c => ?_
  split
  · split <;> simp
  · rfl

@[simp ↓] theorem State.closeAll_mems : s.closeAll.mems = s.mems := by
  unfold State.closeAll
  exact foldl_keeps State.mems _ _ _ fun a c => by split <;> simp
@[simp ↓] theorem State.linkFrame_mems (f : Frame) (twin : Bool) : (s.linkFrame f twin).1.mems = s.mems := by
  unfold State.linkFrame; split <;> simp
@[simp ↓] theorem State.afterTrailer_mems (f : Frame) (twin : Bool) : (s.afterTrailer f twin).mems = s.mems := by
  unfold State.afterTrailer; split <;> simp
@[simp ↓] theorem State.sealCtrlWrite_mems (v : Word) : (s.sealCtrlWrite v).mems = s.mems := by
  unfold State.sealCtrlWrite; simp
@[simp ↓] theorem State.bypassMark_mems (n : Nat) (twin : Bool) : (s.bypassMark n twin).mems = s.mems := by
  unfold State.bypassMark; simp
@[simp ↓] theorem State.headerSend_mems : s.headerSend.mems = s.mems := by
  unfold State.headerSend; dsimp only; (repeat' split) <;> simp
@[simp ↓] theorem State.lineSend_mems : s.lineSend.mems = s.mems := by unfold State.lineSend; split <;> simp
@[simp ↓] theorem State.reconSend_mems : s.reconSend.mems = s.mems := by unfold State.reconSend; split <;> simp
@[simp ↓] theorem State.sendTrailer_mems (n : Nat) (twin : Bool) (p t : Nat) :
    (s.sendTrailer n twin p t).mems = s.mems := by unfold State.sendTrailer; dsimp only; (repeat' split) <;> simp
@[simp ↓] theorem State.trailerSend_mems : s.trailerSend.mems = s.mems := by unfold State.trailerSend; split <;> simp
@[simp ↓] theorem State.statSend_mems : s.statSend.mems = s.mems := by unfold State.statSend; (repeat' split) <;> simp
@[simp ↓] theorem State.sealSend_mems : s.sealSend.mems = s.mems := by
  unfold State.sealSend; dsimp only; (repeat' split) <;> simp
@[simp ↓] theorem State.markerSend_mems : s.markerSend.mems = s.mems := by unfold State.markerSend; split <;> simp
@[simp ↓] theorem State.linkDumpEnd_mems (r : LinkDumpResult) : (s.linkDumpEnd r).mems = s.mems := by
  unfold State.linkDumpEnd; simp
@[simp ↓] theorem State.dropDumpSet_mems : s.dropDumpSet.mems = s.mems := by unfold State.dropDumpSet; simp
@[simp ↓] theorem State.linkDumpGo_mems : s.linkDumpGo.mems = s.mems := by unfold State.linkDumpGo; simp
@[simp ↓] theorem State.dumpSend_mems : s.dumpSend.mems = s.mems := by
  unfold State.dumpSend; dsimp only; (repeat' split) <;> simp
@[simp ↓] theorem State.linkDumpDone_mems : s.linkDumpDone.mems = s.mems := by unfold State.linkDumpDone; simp
@[simp ↓] theorem State.linkDumpAbort_mems : s.linkDumpAbort.mems = s.mems := by unfold State.linkDumpAbort; simp
@[simp ↓] theorem State.lnkCntClr_mems : s.lnkCntClr.mems = s.mems := by unfold State.lnkCntClr; simp

@[simp ↓] theorem State.cutAll_mems (twin : Bool) : (s.cutAll twin).mems = s.mems := by
  unfold State.cutAll
  refine foldl_keeps State.mems _ _ _ fun a f => ?_
  dsimp only
  split
  · rfl
  · split <;> simp

@[simp ↓] theorem State.linkSafe_mems : s.linkSafe.mems = s.mems := by unfold State.linkSafe; simp
@[simp ↓] theorem State.lnkCtrlWrite_mems (who : Who) (v : Word) : (s.lnkCtrlWrite who v).mems = s.mems := by
  unfold State.lnkCtrlWrite; simp
theorem State.lnkWrite_mems (who : Who) (a : Nat) (v : Word) {t : State} (h : s.lnkWrite who a v = some t) :
    t.mems = s.mems := by unfold State.lnkWrite at h; (repeat' split at h) <;> simp at h <;> subst h <;> simp

/-! ### Vault -/

@[simp ↓] theorem State.vaultSense_mems (ovr : List (Nat × Nat × Nat)) (dead : Bool) :
    (s.vaultSense ovr dead).mems = s.mems := by unfold State.vaultSense; simp
@[simp ↓] theorem State.vaultLockAll_mems : s.vaultLockAll.mems = s.mems := by unfold State.vaultLockAll; simp
@[simp ↓] theorem State.vaultLockSet_mems (v : Word) : (s.vaultLockSet v).mems = s.mems := by
  unfold State.vaultLockSet; simp
@[simp ↓] theorem State.vaultEndBad_mems (result : Nat) : (s.vaultEndBad result).mems = s.mems := by
  unfold State.vaultEndBad; simp
@[simp ↓] theorem State.vaultRefuse_mems (who : Who) (result : Nat) : (s.vaultRefuse who result).mems = s.mems := by
  unfold State.vaultRefuse; simp
@[simp ↓] theorem State.vaultBegin_mems (who : Who) (r : VaultRun) : (s.vaultBegin who r).mems = s.mems := by
  unfold State.vaultBegin; simp
@[simp ↓] theorem State.vaultMint_mems (who : Who) (r : Nat) : (s.vaultMint who r).mems = s.mems := by
  unfold State.vaultMint; simp
@[simp ↓] theorem State.vaultFinalise_mems (who : Who) (k : Nat) : (s.vaultFinalise who k).mems = s.mems := by
  unfold State.vaultFinalise; simp
@[simp ↓] theorem State.vaultClose_mems (who : Who) (k : Nat) : (s.vaultClose who k).mems = s.mems := by
  unfold State.vaultClose; simp
@[simp ↓] theorem State.vaultRevoke_mems (who : Who) (k : Nat) : (s.vaultRevoke who k).mems = s.mems := by
  unfold State.vaultRevoke; simp
@[simp ↓] theorem State.vaultJudge_mems (who : Who) (op : Nat) : (s.vaultJudge who op).mems = s.mems := by
  unfold State.vaultJudge; simp
@[simp ↓] theorem State.vaultTakeBack_mems (x : VaultTurn) : (s.vaultTakeBack x).mems = s.mems := by
  unfold State.vaultTakeBack; split <;> simp
@[simp ↓] theorem State.vaultYield_mems (who : Who) : (s.vaultYield who).mems = s.mems := by
  unfold State.vaultYield; split <;> simp
@[simp ↓] theorem State.vaultCmd_mems (who : Who) (op : Nat) : (s.vaultCmd who op).mems = s.mems := by
  unfold State.vaultCmd; simp

@[simp ↓] theorem State.vaultRows_mems (first : Bool) (gates : List (Nat × Bool)) (rows : List (Nat × Nat))
    (bs : List Burn) : (s.vaultRows first gates rows bs).mems = s.mems := by
  induction rows generalizing s first bs with
  | nil => simp [State.vaultRows]
  | cons x r ih =>
    unfold State.vaultRows
    split
    · simp
    · dsimp only
      split <;> simp [ih]

@[simp ↓] theorem State.vaultDone_mems (bs : List Burn) : (s.vaultDone bs).mems = s.mems := by
  unfold State.vaultDone; split <;> simp
@[simp ↓] theorem State.shadowWrite_mems (who : Who) (a : Nat) (w : Word) :
    (s.shadowWrite who a w).mems = s.mems := by unfold State.shadowWrite; simp
@[simp ↓] theorem State.idkLoad_mems : s.idkLoad.mems = s.mems := by unfold State.idkLoad; simp
@[simp ↓] theorem State.idkDone_mems : s.idkDone.mems = s.mems := by unfold State.idkDone; simp
theorem State.vltWrite_mems (who : Who) (a : Nat) (w : Word) {t : State} (h : s.vltWrite who a w = some t) :
    t.mems = s.mems := by unfold State.vltWrite at h; (repeat' split at h) <;> simp at h <;> subst h <;> simp

/-! ### Modes -/

@[simp ↓] theorem State.swapSched_mems (on : Bool) : (s.swapSched on).mems = s.mems := by
  unfold State.swapSched; split <;> simp
@[simp ↓] theorem State.thmApply_mems (on : Bool) : (s.thmApply on).mems = s.mems := by unfold State.thmApply; simp
@[simp ↓] theorem State.thmNow_mems : s.thmNow.mems = s.mems := by unfold State.thmNow; simp
@[simp ↓] theorem State.thmAtFT_mems (t : Nat) : (s.thmAtFT t).mems = s.mems := by unfold State.thmAtFT; simp
@[simp ↓] theorem State.drained_mems : s.drained.mems = s.mems := by unfold State.drained; simp
@[simp ↓] theorem State.quietNow_mems : s.quietNow.mems = s.mems := by unfold State.quietNow; simp
@[simp ↓] theorem State.softsLost_mems : s.softsLost.mems = s.mems := by unfold State.softsLost; simp
@[simp ↓] theorem State.setMode_mems (m : Mode) : (s.setMode m).mems = s.mems := by unfold State.setMode; simp
@[simp ↓] theorem State.unplan_mems : s.unplan.mems = s.mems := by unfold State.unplan; split <;> simp

/-! ### Thermal -/

@[simp ↓] theorem State.thmWarn_mems (bit : Nat) : (s.thmWarn bit).mems = s.mems := by unfold State.thmWarn; simp
@[simp ↓] theorem State.safePrune_mems : s.safePrune.mems = s.mems := by unfold State.safePrune; simp
@[simp ↓] theorem State.alertRelease_mems : s.alertRelease.mems = s.mems := by unfold State.alertRelease; simp
@[simp ↓] theorem State.extScan_mems : s.extScan.mems = s.mems := by unfold State.extScan; simp

@[simp ↓] theorem State.phaseOutput_mems (c : Nat) (a : Int × Bool × State) (raw : Int) :
    (State.phaseOutput c a raw).2.2.mems = a.2.2.mems := by
  unfold State.phaseOutput
  dsimp only
  split
  · simp
  · split <;> simp

@[simp ↓] theorem State.phaseSum_mems (c : Nat) (raws : List Int) : (s.phaseSum c raws).2.2.mems = s.mems := by
  have outputs (l : List Int) (a : Int × Bool × State) :
      (l.foldl (State.phaseOutput c) a).2.2.mems = a.2.2.mems := by
    induction l generalizing a with
    | nil => rfl
    | cons x r ih => rw [List.foldl_cons, ih, State.phaseOutput_mems]
  unfold State.phaseSum
  dsimp only
  rw [outputs]; simp

@[simp ↓] theorem State.extJudge_mems (i : Nat) (t : Int) (above rail low : Bool) :
    (s.extJudge i t above rail low).mems = s.mems := by unfold State.extJudge; simp
@[simp ↓] theorem State.extPoint_mems (i : Nat) (phases : List (List Int)) : (s.extPoint i phases).mems = s.mems := by
  unfold State.extPoint; simp

@[simp ↓] theorem State.extAll_mems (points : List Nat) (phases : List (List Int)) :
    (s.extAll points phases).mems = s.mems := by
  induction points generalizing s phases with
  | nil => rfl
  | cons i r ih => simp [State.extAll, ih]

@[simp ↓] theorem State.thmCfgWrite_mems (who : Who) (a v : Nat) : (s.thmCfgWrite who a v).mems = s.mems := by
  unfold State.thmCfgWrite; simp
@[simp ↓] theorem State.thmCtrlWrite_mems (v : Word) : (s.thmCtrlWrite v).mems = s.mems := by
  unfold State.thmCtrlWrite; simp
theorem State.thmWrite_mems (who : Who) (a : Nat) (v : Word) {t : State} (h : s.thmWrite who a v = some t) :
    t.mems = s.mems := by unfold State.thmWrite at h; (repeat' split at h) <;> simp at h <;> subst h <;> simp

/-! ### Clock -/

@[simp ↓] theorem State.pllAcquire_mems (i : Nat) (whole : Bool) : (s.pllAcquire i whole).mems = s.mems := by
  unfold State.pllAcquire; simp
@[simp ↓] theorem State.pllMoved_mems (t s : State) (i bit : Nat) : (t.pllMoved s i bit).mems = t.mems := by
  unfold State.pllMoved; simp
@[simp ↓] theorem State.pllTaken_mems (s1 : State) (i : Nat) : (s1.pllTaken i).mems = s1.mems := by
  unfold State.pllTaken; simp
@[simp ↓] theorem State.pllLock_mems (i : Nat) : (s.pllLock i).mems = s.mems := by unfold State.pllLock; simp
@[simp ↓] theorem State.winAcquire_mems (i : Nat) (p : Pll) (far : Bool) : (s.winAcquire i p far).mems = s.mems := by
  unfold State.winAcquire; simp
@[simp ↓] theorem State.acqSlow_mems (i : Nat) : (s.acqSlow i).mems = s.mems := by unfold State.acqSlow; simp
@[simp ↓] theorem State.pllDrop_mems (i bit : Nat) (m : PllMove) : (s.pllDrop i bit m).mems = s.mems := by
  unfold State.pllDrop; dsimp only; (repeat' split) <;> simp
@[simp ↓] theorem State.pllUndo_mems (i : Nat) : (s.pllUndo i).mems = s.mems := by
  unfold State.pllUndo; dsimp only; (repeat' split) <;> simp
@[simp ↓] theorem State.pllOn_mems (i : Nat) : (s.pllOn i).mems = s.mems := by unfold State.pllOn; simp
@[simp ↓] theorem State.lanesRefLost_mems : s.lanesRefLost.mems = s.mems := by unfold State.lanesRefLost; simp
@[simp ↓] theorem State.refIsPresent_mems : s.refIsPresent.mems = s.mems := by unfold State.refIsPresent; simp

/-! ### Calib -/

@[simp ↓] theorem State.calRequest_mems : s.calRequest.mems = s.mems := by unfold State.calRequest; simp
@[simp ↓] theorem State.calGrant_mems (forced : Bool) : (s.calGrant forced).mems = s.mems := by
  unfold State.calGrant; simp
@[simp ↓] theorem State.calDefer_mems : s.calDefer.mems = s.mems := by unfold State.calDefer; simp
@[simp ↓] theorem State.calMonStart_mems : s.calMonStart.mems = s.mems := by unfold State.calMonStart; simp
@[simp ↓] theorem State.fgStart_mems : s.fgStart.mems = s.mems := by unfold State.fgStart; simp
@[simp ↓] theorem State.eqReady_mems (r : EqRun) : (s.eqReady r).mems = s.mems := by unfold State.eqReady; simp
@[simp ↓] theorem State.eqFinish_mems (r : EqRun) (good : Nat × EqLane → Bool) (cause : Nat) :
    (s.eqFinish r good cause).mems = s.mems := by unfold State.eqFinish; simp
@[simp ↓] theorem State.eqNext_mems (r : EqRun) : (s.eqNext r).mems = s.mems := by unfold State.eqNext; simp
@[simp ↓] theorem State.eqStart_mems : s.eqStart.mems = s.mems := by unfold State.eqStart; simp
@[simp ↓] theorem State.eqStepDone_mems : s.eqStepDone.mems = s.mems := by unfold State.eqStepDone; split <;> simp
@[simp ↓] theorem State.eqEye_mems (v : Word) : (s.eqEye v).mems = s.mems := by unfold State.eqEye; split <;> simp
@[simp ↓] theorem State.calTake_mems (k : Nat) : (s.calTake k).mems = s.mems := by unfold State.calTake; simp
@[simp ↓] theorem State.calTry_mems : s.calTry.mems = s.mems := by unfold State.calTry; simp
@[simp ↓] theorem State.bootCommit_mems : s.bootCommit.mems = s.mems := by unfold State.bootCommit; simp
@[simp ↓] theorem State.calDelta_mems : s.calDelta.mems = s.mems := by unfold State.calDelta; split <;> simp
@[simp ↓] theorem State.calListEnd_mems : s.calListEnd.mems = s.mems := by unfold State.calListEnd; simp
@[simp ↓] theorem State.calAfter_mems : s.calAfter.mems = s.mems := by unfold State.calAfter; simp
@[simp ↓] theorem State.enterCalibrate_mems (boot : Bool) : (s.enterCalibrate boot).mems = s.mems := by
  unfold State.enterCalibrate; simp
@[simp ↓] theorem State.calRefuse_mems (k : Nat) : (s.calRefuse k).mems = s.mems := by unfold State.calRefuse; simp
@[simp ↓] theorem State.calRunGo_mems : s.calRunGo.mems = s.mems := by unfold State.calRunGo; simp
@[simp ↓] theorem State.calCtrlWrite_mems (v : Word) : (s.calCtrlWrite v).mems = s.mems := by
  unfold State.calCtrlWrite; simp
@[simp ↓] theorem State.calAnswerEnd_mems : s.calAnswerEnd.mems = s.mems := by
  unfold State.calAnswerEnd; split <;> simp
@[simp ↓] theorem State.calDeferEnd_mems : s.calDeferEnd.mems = s.mems := by unfold State.calDeferEnd; split <;> simp
@[simp ↓] theorem State.calHoldoffEnd_mems : s.calHoldoffEnd.mems = s.mems := by
  unfold State.calHoldoffEnd; split <;> simp
@[simp ↓] theorem State.calClockEnd_mems : s.calClockEnd.mems = s.mems := by unfold State.calClockEnd; split <;> simp
@[simp ↓] theorem State.fgWrite_mems : s.fgWrite.mems = s.mems := by unfold State.fgWrite; simp
@[simp ↓] theorem State.fgEnd_mems : s.fgEnd.mems = s.mems := by unfold State.fgEnd; simp
@[simp ↓] theorem State.fgPasses_mems (slices : List SliceCal) (refs : List RefCal) (spur rms : List SliceLevel) :
    (s.fgPasses slices refs spur rms).mems = s.mems := by unfold State.fgPasses; simp
@[simp ↓] theorem State.calAtSft_mems (ft : Bool) : (s.calAtSft ft).mems = s.mems := by
  unfold State.calAtSft; dsimp only; (repeat' split) <;> simp
@[simp ↓] theorem State.monCalDone_mems (runs : List (Int × Int × Int × Int)) (ch7 : Int) :
    (s.monCalDone runs ch7).mems = s.mems := by unfold State.monCalDone; dsimp only; (repeat' split) <;> simp
@[simp ↓] theorem State.eqTimeout_mems : s.eqTimeout.mems = s.mems := by unfold State.eqTimeout; split <;> simp
@[simp ↓] theorem State.eqCtrlWrite_mems (v : Word) : (s.eqCtrlWrite v).mems = s.mems := by
  unfold State.eqCtrlWrite; simp
theorem State.calWrite_mems (a : Nat) (v : Word) {t : State} (h : s.calWrite a v = some t) : t.mems = s.mems := by
  unfold State.calWrite at h; (repeat' split at h) <;> simp at h <;> subst h <;> simp

/-! ### CalStore -/

@[simp ↓] theorem forWords_mems (l : List Byte) (n : Nat) (f : State → Nat → Nat → State) (s : State)
    (hf : ∀ a i w, (f a i w).mems = a.mems) : (forWords l n f s).mems = s.mems := by unfold forWords; simp [hf]
@[simp ↓] theorem State.loadWin_mems (l : List Byte) : (s.loadWin l).mems = s.mems := by unfold State.loadWin; simp
@[simp ↓] theorem State.bootRetire_mems (key pos spare : Nat) : (s.bootRetire key pos spare).mems = s.mems := by
  unfold State.bootRetire; simp
@[simp ↓] theorem State.loadSubs_mems (l : List Byte) : (s.loadSubs l).mems = s.mems := by unfold State.loadSubs; simp
@[simp ↓] theorem State.withSec_mems (x : Option (List Byte)) (f : State → List Byte → State)
    (hf : ∀ a l, (f a l).mems = a.mems) : (s.withSec x f).mems = s.mems := by
  unfold State.withSec; split <;> simp [hf]

/-! ### Boot -/

@[simp ↓] theorem State.stepBad_mems (detail : Nat) : (s.stepBad detail).state.mems = s.mems := by
  unfold State.stepBad; simp
@[simp ↓] theorem State.modBoot_mems (f : Boot → Boot) : (s.modBoot f).mems = s.mems := by unfold State.modBoot; simp
@[simp ↓] theorem State.bootVerify_mems (v : Nat) (b : BootIn) : (s.bootVerify v b).state.mems = s.mems := by
  unfold State.bootVerify; dsimp only; (repeat' split) <;> simp
@[simp ↓] theorem State.bootTest_mems (b : BootIn) : (s.bootTest b).state.mems = s.mems := by
  unfold State.bootTest; dsimp only; (repeat' split) <;> simp
@[simp ↓] theorem State.bootComplete_mems : s.bootComplete.mems = s.mems := by unfold State.bootComplete; simp
@[simp ↓] theorem State.bootCalibrate_mems (t : Nat) : (s.bootCalibrate t).mems = s.mems := by
  unfold State.bootCalibrate; simp

/-! ### Mailbox -/

@[simp ↓] theorem State.mboxPost_mems (code : Nat) : (s.mboxPost code).mems = s.mems := by unfold State.mboxPost; simp
@[simp ↓] theorem State.fwActivateStart_mems (slot : Nat) : (s.fwActivateStart slot).1.mems = s.mems := by
  unfold State.fwActivateStart; (repeat' split) <;> simp
@[simp ↓] theorem State.restartStart_mems (core slot : Nat) : (s.restartStart core slot).1.mems = s.mems := by
  unfold State.restartStart; split <;> simp
@[simp ↓] theorem State.stripeStart_mems (op arg : Nat) : (s.stripeStart op arg).1.mems = s.mems := by
  unfold State.stripeStart; simp
@[simp ↓] theorem State.saveMapsStart_mems : s.saveMapsStart.1.mems = s.mems := by
  unfold State.saveMapsStart; split <;> simp
@[simp ↓] theorem State.stripeEnd_mems : s.stripeEnd.mems = s.mems := by unfold State.stripeEnd; simp
@[simp ↓] theorem State.restartGraceEnd_mems (core : Nat) : (s.restartGraceEnd core).mems = s.mems := by
  unfold State.restartGraceEnd; (repeat' split) <;> simp
@[simp ↓] theorem State.alarmPop_mems : s.alarmPop.2.mems = s.mems := by unfold State.alarmPop; split <;> simp
@[simp ↓] theorem State.ackTakeover_mems (unit : Nat) : (s.ackTakeover unit).mems = s.mems := by
  unfold State.ackTakeover; simp
@[simp ↓] theorem State.ackRetire_mems (who : Who) (unit : Nat) : (s.ackRetire who unit).mems = s.mems := by
  unfold State.ackRetire; simp
@[simp ↓] theorem State.ackFailLane_mems (unit : Nat) : (s.ackFailLane unit).mems = s.mems := by
  unfold State.ackFailLane; simp
@[simp ↓] theorem State.alarmAck_mems (who : Who) (v : Word) : (s.alarmAck who v).mems = s.mems := by
  unfold State.alarmAck; split <;> simp

/-! ### ModeReq -/

@[simp ↓] theorem State.portError_mems (i : Nat) : (s.portError i).mems = s.mems := by unfold State.portError; simp
@[simp ↓] theorem State.denied_mems (cls : Nat) (who : Who) (a : Nat) : (s.denied cls who a).mems = s.mems := by
  unfold State.denied; simp
@[simp ↓] theorem State.modeRefused_mems (code : Nat) : (s.modeRefused code).mems = s.mems := by
  unfold State.modeRefused; simp
@[simp ↓] theorem State.modeAtFT_mems (t : Nat) : (s.modeAtFT t).mems = s.mems := by
  unfold State.modeAtFT; split <;> simp
@[simp ↓] theorem State.serviceWrite_mems (who : Who) (v : Word) : (s.serviceWrite who v).mems = s.mems := by
  unfold State.serviceWrite; simp

/-! ### Attest -/

@[simp ↓] theorem State.sealShow_mems (stmt sig : List Byte) : (s.sealShow stmt sig).mems = s.mems := by
  unfold State.sealShow; simp
@[simp ↓] theorem State.sealUnsigned_mems (stream bit : Nat) : (s.sealUnsigned stream bit).mems = s.mems := by
  unfold State.sealUnsigned; simp

@[simp ↓] theorem State.signDone_mems (bad : Bool) : (s.signDone bad).mems = s.mems := by
  unfold State.signDone
  split
  · rfl
  · dsimp only
    simp only [State.mems_ite, State.sealShow_mems, State.sealUnsigned_mems, State.mems_mk, State.mems_fold, oneOf_self]

@[simp ↓] theorem State.attGo_mems (who : Who) : (s.attGo who).mems = s.mems := by unfold State.attGo; simp
@[simp ↓] theorem State.attChecked_mems : s.attChecked.mems = s.mems := by unfold State.attChecked; simp
@[simp ↓] theorem State.attWrite_mems (r : Report) (result : Nat) (sig : List Byte) :
    (s.attWrite r result sig).mems = s.mems := by unfold State.attWrite; simp

@[simp ↓] theorem State.attDone_mems (bad : Bool) : (s.attDone bad).mems = s.mems := by
  unfold State.attDone
  split
  · rfl
  · dsimp only
    simp only [State.mems_ite, State.attWrite_mems, State.faultEv_eq, State.raise_mems, State.draw_mems, oneOf_self]

@[simp ↓] theorem State.secCtrlWrite_mems (who : Who) (w : Word) : (s.secCtrlWrite who w).mems = s.mems := by
  unfold State.secCtrlWrite; simp
theorem State.secWrite_mems (who : Who) (a : Nat) (w : Word) {t : State} (h : s.secWrite who a w = some t) :
    t.mems = s.mems := by unfold State.secWrite at h; (repeat' split at h) <;> simp at h <;> subst h <;> simp

/-! ### Readout -/

@[simp ↓] theorem State.integrationStart_mems : s.integrationStart.mems = s.mems := by
  unfold State.integrationStart; split <;> simp
@[simp ↓] theorem State.markSettling_mems : s.markSettling.mems = s.mems := by
  unfold State.markSettling; split <;> simp
@[simp ↓] theorem State.globalTransfer_mems : s.globalTransfer.mems = s.mems := by
  unfold State.globalTransfer; split <;> simp
@[simp ↓] theorem State.readoutComplete_mems : s.readoutComplete.mems = s.mems := by
  unfold State.readoutComplete; (repeat' split) <;> simp
@[simp ↓] theorem State.referenceSwitch_mems : s.referenceSwitch.mems = s.mems := by
  unfold State.referenceSwitch; split <;> simp

/-! ### Tick -/

@[simp ↓] theorem State.bankDrained_mems (i : Nat) : (s.bankDrained i).mems = s.mems := by
  unfold State.bankDrained; simp
@[simp ↓] theorem State.seqTo_mems (q : SeqState) : (s.seqTo q).mems = s.mems := by unfold State.seqTo; simp
@[simp ↓] theorem State.drainFrom_mems : s.drainFrom.mems = s.mems := by unfold State.drainFrom; simp
@[simp ↓] theorem State.drainPassed_mems : s.drainPassed.mems = s.mems := by unfold State.drainPassed; simp
@[simp ↓] theorem State.drainTick_mems : s.drainTick.mems = s.mems := by unfold State.drainTick; simp
@[simp ↓] theorem State.commitApply_mems (b : Nat) : (s.commitApply b).mems = s.mems := by
  unfold State.commitApply; split <;> simp
@[simp ↓] theorem State.commitAtFT_mems (n : Option Nat) (t : Nat) : (s.commitAtFT n t).mems = s.mems := by
  unfold State.commitAtFT; (repeat' split) <;> simp
@[simp ↓] theorem State.liveApply_mems (l : LiveSet) (c : InForce) : (s.liveApply l c).mems = s.mems := by
  unfold State.liveApply; simp
@[simp ↓] theorem State.liveAtFT_mems (n : Option Nat) (t : Nat) : (s.liveAtFT n t).mems = s.mems := by
  unfold State.liveAtFT; dsimp only; (repeat' split) <;> simp
@[simp ↓] theorem State.chainsAtFT_mems (was wasTwin : Bool) : (s.chainsAtFT was wasTwin).mems = s.mems := by
  unfold State.chainsAtFT; simp
@[simp ↓] theorem State.lanesAtFT_mems : s.lanesAtFT.mems = s.mems := by unfold State.lanesAtFT; split <;> simp
@[simp ↓] theorem State.gridAtFT_mems : s.gridAtFT.mems = s.mems := by unfold State.gridAtFT; split <;> simp
@[simp ↓] theorem State.seqAtFT_mems (t : Nat) (trig cont : Bool) : (s.seqAtFT t trig cont).1.mems = s.mems := by
  unfold State.seqAtFT; dsimp only; (repeat' split) <;> simp
@[simp ↓] theorem State.beginFrame_mems (t : Nat) (trig : Bool) : (s.beginFrame t trig).mems = s.mems := by
  unfold State.beginFrame; split <;> simp
@[simp ↓] theorem State.beginReadout_mems (old : Option SubRef) (t : Nat) (ft : Bool) :
    (s.beginReadout old t ft).mems = s.mems := by unfold State.beginReadout; dsimp only; (repeat' split) <;> simp
@[simp ↓] theorem State.softsTaken_mems : s.softsTaken.mems = s.mems := by unfold State.softsTaken; simp

/-! ### Peek -/

@[simp ↓] theorem State.readReg_mems (who : Who) (a : Nat) : (s.readReg who a).2.mems = s.mems := by
  unfold State.readReg; (repeat' split) <;> simp
@[simp ↓] theorem State.readWord_mems (who : Who) (base a : Nat) : (s.readWord who base a).2.mems = s.mems := by
  unfold State.readWord; dsimp only; (repeat' split) <;> simp

/-! ### Reset -/

@[simp ↓] theorem State.joinReset_mems (code : Nat) : (s.joinReset code).mems = s.mems := by
  unfold State.joinReset; simp
@[simp ↓] theorem State.resetRelease_mems (straps : Nat) (root : Bool) :
    (s.resetRelease straps root).mems = s.mems := by unfold State.resetRelease; split <;> simp
@[simp ↓] theorem State.debugHalt_mems (core : Nat) : (s.debugHalt core).mems = s.mems := by
  unfold State.debugHalt; simp
@[simp ↓] theorem State.debugRelease_mems (core : Nat) : (s.debugRelease core).mems = s.mems := by
  unfold State.debugRelease; simp

/-! ### Access -/

theorem State.planWrite_mems (who : Who) (a : Nat) (v : Word) {t : State} (h : s.planWrite who a v = some t) :
    t.mems = s.mems := by unfold State.planWrite at h; (repeat' split at h) <;> simp at h <;> subst h <;> simp
@[simp ↓] theorem State.turn_mems (who : Who) (a : Nat) : (s.turn who a).mems = s.mems := by unfold State.turn; simp
@[simp ↓] theorem State.wroteBy_mems (t s : State) (who : Who) (a : Nat) : (t.wroteBy s who a).mems = t.mems := by
  unfold State.wroteBy; simp

/-! ### Port -/

@[simp ↓] theorem State.nextAccess_mems : s.nextAccess.mems = s.mems := by unfold State.nextAccess; simp

@[simp ↓] theorem State.portReads_mems (base a : Nat) (first : Bool) (n : Nat) :
    (s.portReads base a first n).2.2.mems = s.mems := by
  induction n generalizing s a first with
  | zero => rfl
  | succ n ih => simp [State.portReads, ih]

@[simp ↓] theorem State.portRead_mems (addr n : Nat) (partial_ : Bool) :
    (s.portRead addr n partial_).mems = s.mems := by unfold State.portRead; simp
@[simp ↓] theorem State.portStatus_mems : s.portStatus.mems = s.mems := by unfold State.portStatus; simp
@[simp ↓] theorem State.portUnknown_mems (op : Byte) : (s.portUnknown op).mems = s.mems := by
  unfold State.portUnknown; simp

/-! ### Cmd -/

@[simp ↓] theorem State.readPart_mems (who : Who) (base addr size : Nat) :
    (s.readPart who base addr size).2.mems = s.mems := by unfold State.readPart; simp
@[simp ↓] theorem State.fetch_mems (r : Reader) (a : Nat) : (s.fetch r a).mems = s.mems := by unfold State.fetch; simp
@[simp ↓] theorem State.vaultData_mems (who : Who) (lo hi : Word) : (s.vaultData who lo hi).mems = s.mems := by
  unfold State.vaultData; simp
@[simp ↓] theorem State.planChecked_mems : s.planChecked.mems = s.mems := by unfold State.planChecked; simp
@[simp ↓] theorem State.trigPin_mems (edge : Nat) : (s.trigPin edge).mems = s.mems := by unfold State.trigPin; simp
@[simp ↓] theorem State.summarySend_mems : s.summarySend.mems = s.mems := by
  unfold State.summarySend; (repeat' split) <;> simp

end Sys2Proof.Machine
end

section
/-!
PROOFS. Canonical memories: the folds and the memory functions that write them.
-/

namespace Sys2Proof.Machine

/-- What `State.memsOk` says, of a list: every memory in it is in canonical form. -/
def allWf (l : List Memory) : Prop := ∀ m ∈ l, Memory.wf m = true

@[simp] theorem allWf_nil : allWf [] := nofun
@[simp] theorem allWf_cons (m : Memory) (l : List Memory) : allWf (m :: l) ↔ Memory.wf m = true ∧ allWf l :=
  List.forall_mem_cons

theorem State.memsOk_iff (s : State) : s.memsOk ↔ allWf s.mems := by
  unfold State.memsOk State.mems
  simp only [allWf_cons, allWf_nil, and_true]

@[simp] theorem State.dram_wf {s : State} (h : allWf s.mems) : Memory.wf s.dram = true := by
  obtain ⟨dram, -⟩ := s.memsOk_iff.2 h
  exact dram

@[simp] theorem State.ret_wf {s : State} (h : allWf s.mems) : Memory.wf s.ret = true := by
  obtain ⟨-, ret, -⟩ := s.memsOk_iff.2 h
  exact ret

@[simp] theorem State.flash_wf {s : State} (h : allWf s.mems) : Memory.wf s.flash = true := by
  obtain ⟨-, -, flash, -⟩ := s.memsOk_iff.2 h
  exact flash

@[simp] theorem State.sram0_wf {s : State} (h : allWf s.mems) : Memory.wf s.sram0 = true := by
  obtain ⟨-, -, -, sram0, -⟩ := s.memsOk_iff.2 h
  exact sram0

@[simp] theorem State.sram1_wf {s : State} (h : allWf s.mems) : Memory.wf s.sram1 = true := by
  obtain ⟨-, -, -, -, sram1⟩ := s.memsOk_iff.2 h
  exact sram1

@[simp] theorem allWf_oneOf (c : Prop) [Decidable c] {l m : List Memory} (hl : allWf l) (hm : allWf m) :
    allWf (oneOf c l m) := by unfold oneOf; split <;> assumption

theorem foldl_wf {β : Type} (f : State → β → State) (l : List β) {s : State} (hs : allWf s.mems)
    (h : ∀ a x, allWf a.mems → allWf (f a x).mems) : allWf (l.foldl f s).mems :=
  List.foldlRecOn l f (motive := fun a => allWf a.mems) hs fun a ha x _ => h a x ha

theorem foldl_mem_wf {β : Type} (f : Memory → β → Memory) (l : List β) {m : Memory} (hm : Memory.wf m = true)
    (h : ∀ a x, Memory.wf a = true → Memory.wf (f a x) = true) : Memory.wf (l.foldl f m) = true :=
  List.foldlRecOn l f (motive := fun a => Memory.wf a = true) hm fun a ha x _ => h a x ha

/-- The same for a fold that carries something beside the memory. -/
theorem foldl_fst_wf {β γ : Type} (f : Memory × γ → β → Memory × γ) (l : List β) {x : Memory × γ}
    (hx : Memory.wf x.1 = true) (h : ∀ a y, Memory.wf a.1 = true → Memory.wf (f a y).1 = true) :
    Memory.wf (l.foldl f x).1 = true :=
  List.foldlRecOn l f (motive := fun a => Memory.wf a.1 = true) hx fun a ha y _ => h a y ha

/-- Combining a line writes accumulators only, each as a 32-bit word. -/
theorem accLine_wf {m : Memory} (hm : Memory.wf m = true) (f : Frame) (info : LineInfo) (key j : Nat)
    (cs : List Comb) : Memory.wf (accLine f m info key j cs).1 = true := by
  unfold accLine
  refine foldl_fst_wf _ _ hm fun a y ha => ?_
  dsimp only
  split
  · exact ha
  · exact wrLE_wf _ _ _ ha

/-- The maps of a DARK run are written word by word. -/
theorem darkMaps_wf {m : Memory} (hm : Memory.wf m = true) (cols : List ColMeas) (pix : List PixMeas) :
    Memory.wf (darkMaps m cols pix) = true := by
  unfold darkMaps
  exact foldl_mem_wf _ _ (foldl_mem_wf _ _ (wipe_wf _ _ (wipe_wf _ _ hm)) fun m k hm => wrLE_wf _ _ _ hm)
    fun m x hm => wrLE_wf _ _ _ hm

end Sys2Proof.Machine
end

section
/-!
PROOFS. What writes byte memories keeps them canonical, function by function.
-/

namespace Sys2Proof.Machine

variable {s : State} (hs : allWf s.mems)
include hs

/-! ### BootLedger -/

@[simp ↓] theorem State.retPut_wf (o n v : Nat) : allWf (s.retPut o n v).mems := by
  unfold State.retPut; simp [hs, wrLE_wf]

@[simp ↓] theorem State.bootPut_wf (e : BootEntry) : allWf (s.bootPut e).mems := by
  unfold State.bootPut
  split
  · exact State.retPut_wf hs _ _ _
  · simp only [State.mems_mk, State.mems_fold, State.mems_ite]
    have fields (o a b c d f g h i : Nat) : allWf ((((((((s.retPut o 4 a).retPut (o + 4) 1 b).retPut (o + 5) 1 c).retPut
        (o + 6) 1 d).retPut (o + 7) 1 f).retPut (o + 8) 4 g).retPut (o + 12) 4 h).retPut 8 2 i).mems := by
      iterate 8 refine State.retPut_wf ?_ _ _ _
      exact hs
    exact allWf_oneOf _ (State.retPut_wf (fields _ _ _ _ _ _ _ _ _) _ _ _) (fields _ _ _ _ _ _ _ _ _)

@[simp ↓] theorem State.bootNote_wf (k variant outcome detail : Nat) :
    allWf (s.bootNote k variant outcome detail).mems := by unfold State.bootNote; simp [hs]
@[simp ↓] theorem State.eccCount_wf (n : Nat) : allWf (s.eccCount n).mems := by unfold State.eccCount; simp [hs]

@[simp ↓] theorem State.bootBegin_wf (ecc : Bool) (cause : Nat) : allWf (s.bootBegin ecc cause).mems := by
  unfold State.bootBegin
  extract_lets lost s1 s2 prev s3 y b s4
  have afresh : allWf s1.mems := by
    unfold s1
    split
    · exact State.retPut_wf (State.retPut_wf (by simp [hs, wipe_wf]) _ _ _) _ _ _
    · exact hs
  have corrected : allWf s2.mems := by
    unfold s2
    split
    · exact State.retPut_wf afresh _ _ _
    · exact afresh
  have counted : allWf s3.mems := by
    unfold s3
    iterate 4 refine State.retPut_wf ?_ _ _ _
    exact corrected
  exact State.bootPut_wf (by simpa [s4] using counted) _

@[simp ↓] theorem State.bootCause_wf (cause : Nat) : allWf (s.bootCause cause).mems := by
  unfold State.bootCause; simp [hs]

/-! ### Watchdog -/

@[simp ↓] theorem State.dumpStart_wf (tr : DumpTrigger) : allWf (s.dumpStart tr).mems := by
  unfold State.dumpStart; dsimp only; (repeat' split) <;> simp [hs, wrLE_wf, wrSpan_wf]
@[simp ↓] theorem State.wdtExpire_wf (cause : NmiCause) (task : Nat) : allWf (s.wdtExpire cause task).mems := by
  unfold State.wdtExpire; simp [hs]
@[simp ↓] theorem State.wdtDup_wf (strict : Bool) (i : Nat) : allWf (s.wdtDup strict i).mems := by
  unfold State.wdtDup; simp [hs]
@[simp ↓] theorem State.wdtLate_wf (p : WdtPeriod) (i : Nat) : allWf (s.wdtLate p i).mems := by
  unfold State.wdtLate; split <;> simp [hs]
@[simp ↓] theorem State.wdtTally1_wf (i : Nat) : allWf (s.wdtTally1 i).mems := by
  unfold State.wdtTally1; dsimp only; (repeat' split) <;> simp [hs]

@[simp ↓] theorem State.wdtTallyWrite_wf (who : Who) (v : Word) : allWf (s.wdtTallyWrite who v).mems := by
  unfold State.wdtTallyWrite
  split
  · exact hs
  · split
    · simpa using hs
    · exact foldl_wf _ _ hs fun a i ha => State.wdtTally1_wf ha i

@[simp ↓] theorem State.wdtPeriodEnd_wf : allWf s.wdtPeriodEnd.mems := by
  unfold State.wdtPeriodEnd; dsimp only; (repeat' split) <;> simp [hs]
theorem State.wdtWrite_wf (who : Who) (a : Nat) (v : Word) {t : State} (h : s.wdtWrite who a v = some t) :
    allWf t.mems := by
  unfold State.wdtWrite at h; (repeat' split at h) <;> simp at h <;> subst h <;> simp [hs]

/-! ### EventLedger -/

theorem State.evlWrite_wf (who : Who) (a : Nat) (v : Word) {t : State} (h : s.evlWrite who a v = some t) :
    allWf t.mems := by
  unfold State.evlWrite at h; (repeat' split at h) <;> simp at h <;> subst h <;> simp [hs]

/-! ### Shape -/

@[simp ↓] theorem State.writeOut_wf (n : Nat) (twin : Bool) (bank j : Nat) :
    allWf (s.writeOut n twin bank j).mems := by
  unfold State.writeOut
  split
  · exact hs
  · exact foldl_wf _ _ hs fun a x ha => foldl_wf _ _ ha fun b i hb => by simp [hb, wrBytes_wf]

@[simp ↓] theorem State.procLine_wf (r : Rd) (sub : SubRef) (bank j stripe : Nat) :
    allWf (s.procLine r sub bank j stripe).mems := by
  unfold State.procLine
  split
  · exact hs
  · next f _ =>
    dsimp only
    split
    · simp [hs]
    · split
      · simp [hs]
      · simp only [State.countHeld_mems, State.countLine_mems, State.modFrame_mems, State.mems_mk]
        have line := accLine_wf (State.dram_wf hs) f
        simp [line, hs]

@[simp ↓] theorem State.procSlot_wf (sub : SubRef) (j : Nat) : allWf (s.procSlot sub j).mems := by
  have lines (banks : List Nat) (f : Frame) (r : Rd) : allWf (banks.foldl (fun (a : State) b =>
      f.cfg.plan.win.stripes.foldl (fun (e : State) i => e.procLine r sub b j i)
        (if sub.calib then a else a.procOb r b j)) s).mems :=
    foldl_wf _ _ hs fun a b ha => foldl_wf _ _ (by simpa using ha) fun e i he => State.procLine_wf he r sub b j i
  have outs (banks : List Nat) (n : Nat) (twin : Bool) {a : State} (ha : allWf a.mems) :
      allWf (banks.foldl (fun (a : State) b => a.writeOut n twin b j) a).mems :=
    foldl_wf _ _ ha fun a b ha => State.writeOut_wf ha n twin b j
  unfold State.procSlot
  split
  · exact hs
  · dsimp only
    split <;> split <;> simp [lines, outs]

@[simp ↓] theorem State.procUpTo_wf (sub : SubRef) (n : Nat) :
    allWf (s.procUpTo sub n).mems :=
  foldl_wf _ _ hs fun _ j ha => State.procSlot_wf ha sub j

@[simp ↓] theorem State.abandonRest_wf (sub : SubRef) : allWf (s.abandonRest sub).mems := by
  unfold State.abandonRest
  split
  · exact hs
  · next f _ =>
    extract_lets win total
    split
    · exact hs
    · next last isTwin rest s1 s2 src s3 s4 _ =>
      have written : allWf s1.mems := foldl_wf _ _ hs fun a j ha => foldl_wf _ _ ha fun c b hc => by
        extract_lets c1 c2
        have lines : c1.mems = c.mems := foldl_keeps State.mems _ _ _ fun e i => by
          rw [State.modFrame_mems, State.finishAbandoned_mems]
        have outs : allWf c2.mems := by
          unfold c2
          split
          · exact State.writeOut_wf (by rwa [lines]) _ _ _ _
          · rwa [lines]
        split
        · exact State.writeOut_wf outs _ _ _ _
        · exact outs
      simpa [s4, s3, s2] using written

@[simp ↓] theorem State.proxyBegin_wf (n : Nat) : allWf (s.proxyBegin n).mems := by
  unfold State.proxyBegin; dsimp only; (repeat' split) <;> simp [hs, wrBytes_wf]

@[simp ↓] theorem State.proxyEnd_wf (n : Nat) (valid : Bool) : allWf (s.proxyEnd n valid).mems := by
  unfold State.proxyEnd
  split
  · next f _ =>
    split
    · exact hs
    · have planes : Memory.wf (f.proxyPlanes.foldl (fun m x => wrBytes m (f.slotAddr + x.1) x.2) s.dram) = true :=
        foldl_mem_wf _ _ (State.dram_wf hs) fun m x hm => wrBytes_wf _ _ hm
      simp [hs, planes, wrBytes_wf, wrLE_wf]
  · exact hs

@[simp ↓] theorem State.reconWrite_wf (f : Frame) : allWf (s.reconWrite f).mems := by
  have cut : ((s.frames.takeWhile (·.num ≠ f.num)).foldl (fun (a : State) g =>
      if g.emits false ∧ g.recon ∧ g.main.recon < g.reconCount then a.cutEmission g.num false else a) s).mems = s.mems := by
    simp
  unfold State.reconWrite
  extract_lets pl
  split
  · exact hs
  · next rows s1 s2 _ =>
    have cutWf : allWf s2.mems := by simpa [s2, s1, cut] using hs
    have lines : Memory.wf (rows.foldl (fun m (i, b, r) => pl.win.stripes.foldl (fun m k =>
        wrBytes m (f.reconAddr i k) ((List.range pl.planes).flatMap fun p => planeBytes (f.blockLine 4 b r k) p)) m)
        s2.dram) = true :=
      foldl_mem_wf _ _ (State.dram_wf cutWf) fun m x hm => foldl_mem_wf _ _ hm fun m k hm => wrBytes_wf _ _ hm
    simp [lines, cutWf]

@[simp ↓] theorem State.frameComplete_wf : allWf s.frameComplete.1.mems := by
  unfold State.frameComplete; split <;> simp [hs]

/-! ### FabProxy -/

@[simp ↓] theorem State.proxyVoid_wf (n : Nat) : allWf (s.proxyVoid n).mems := by
  unfold State.proxyVoid; dsimp only; (repeat' split) <;> simp [hs, wrByte_wf]
@[simp ↓] theorem State.rxState_wf (a pseq v : Nat) : allWf (s.rxState a pseq v).mems := by
  unfold State.rxState; simp [hs, wrByte_wf]

@[simp ↓] theorem State.rxData_wf (a pseq off : Nat) (d : List Byte) : allWf (s.rxData a pseq off d).mems := by
  unfold State.rxData
  simp only [↓State.mems_mk, allWf_cons, allWf_nil, and_true]
  refine ⟨foldl_fst_wf _ _ (State.dram_wf hs) fun x b hx => ?_, State.ret_wf hs, State.flash_wf hs, State.sram0_wf hs,
    State.sram1_wf hs⟩
  dsimp only
  split
  · exact hx
  · exact wrByte_wf _ _ hx

@[simp ↓] theorem State.proxySink_wf (b : List Byte) : allWf (s.proxySink b).mems := by
  unfold State.proxySink
  extract_lets a pseq frag frags data
  split
  · split <;> simp [hs]
  · split
    · exact hs
    · next first old others x s0 s1 good s2 _ _ _ _ =>
      have begun : allWf s0.mems := by
        unfold s0
        split
        · exact State.rxState_wf (foldl_wf _ _ hs fun t o ht => State.rxState_wf ht a o.pseq 2) _ _ _
        · exact hs
      have taken : allWf s1.mems := State.rxData_wf begun _ _ _ _
      split
      · have ended : allWf s2.mems := State.rxState_wf taken a pseq (if good then 1 else 2)
        simp [ended, wrLE_wf]
      · simpa using taken

@[simp ↓] theorem State.bulkWrite_wf (b : List Byte) : allWf (s.bulkWrite b).mems := by
  unfold State.bulkWrite; dsimp only; (repeat' split) <;> simp [hs, wrBytes_wf]

/-! ### Fabric -/

@[simp ↓] theorem State.deliver_wf (p : Nat) (b : List Byte) : allWf (s.deliver p b).mems := by
  unfold State.deliver; dsimp only; (repeat' split) <;> simp [hs]
@[simp ↓] theorem State.handle_wf (p : Nat) (b : List Byte) : allWf (s.handle p b).mems := by
  unfold State.handle; dsimp only; (repeat' split) <;> simp [hs]
@[simp ↓] theorem State.stored_wf (p : Nat) (b : List Byte) : allWf (s.stored p b).mems := by
  unfold State.stored; dsimp only; (repeat' split) <;> simp [hs]
@[simp ↓] theorem State.fabReceive_wf (p : Nat) (b : List Byte) : allWf (s.fabReceive p b).mems := by
  unfold State.fabReceive; dsimp only; (repeat' split) <;> simp [hs]
@[simp ↓] theorem State.receiveIf_wf (p : Nat) (b : List Byte) (cls : Nat) (msg : Option Nat) :
    allWf (s.receiveIf p b cls msg).mems := by unfold State.receiveIf; simp [hs]
@[simp ↓] theorem State.receivePtp_wf (p : Nat) (b : List Byte) (k : Nat → Bool) :
    allWf (s.receivePtp p b k).mems := by unfold State.receivePtp; split <;> simp [hs]

/-! ### Modes -/

@[simp ↓] theorem State.proxiesEnd_wf : allWf s.proxiesEnd.mems :=
  foldl_wf _ _ hs fun _ f ha => State.proxyEnd_wf ha f.num false
@[simp ↓] theorem State.dropFrames_wf : allWf s.dropFrames.mems := by unfold State.dropFrames; simp [hs]
@[simp ↓] theorem State.stopTicks_wf : allWf s.stopTicks.mems := by unfold State.stopTicks; simp [hs]
@[simp ↓] theorem State.pll1Lost_wf : allWf s.pll1Lost.mems := by unfold State.pll1Lost; simp [hs]
@[simp ↓] theorem State.enterSafe_wf (cause : SafeCause) : allWf (s.enterSafe cause).mems := by
  unfold State.enterSafe; (repeat' split) <;> simp [hs]

/-! ### Thermal -/

@[simp ↓] theorem State.thmSafeReq_wf : allWf s.thmSafeReq.mems := by unfold State.thmSafeReq; simp [hs]
@[simp ↓] theorem State.thmStep_wf (f : ThmFired) : allWf (s.thmStep f).1.mems := by
  unfold State.thmStep; dsimp only; (repeat' split) <;> simp [hs]

@[simp ↓] theorem State.thmSteps_wf (f : ThmFired) (n : Nat) : allWf (s.thmSteps f n).mems := by
  induction n generalizing s with
  | zero => exact hs
  | succ n ih =>
    have step := State.thmStep_wf hs f
    unfold State.thmSteps
    dsimp only
    split
    · exact ih step
    · exact step

@[simp ↓] theorem State.thmFurther_wf : allWf s.thmFurther.mems := by
  unfold State.thmFurther; dsimp only; (repeat' split) <;> simp [hs]
@[simp ↓] theorem State.thmEvalF_wf (f : ThmFired) : allWf (s.thmEvalF f).mems := by unfold State.thmEvalF; simp [hs]
@[simp ↓] theorem State.thmEval_wf : allWf s.thmEval.mems := by unfold State.thmEval; simp [hs]
@[simp ↓] theorem State.thmLeaveSafe_wf : allWf s.thmLeaveSafe.mems := by unfold State.thmLeaveSafe; simp [hs]
@[simp ↓] theorem State.sensorWindow_wf (wins : List SensorWin) : allWf (s.sensorWindow wins).mems := by
  unfold State.sensorWindow; simp [hs]
@[simp ↓] theorem State.timerTo_wf (t : Nat) (f : ThmFired) (clear : Thm → Thm) :
    allWf (s.timerTo t f clear).mems := by unfold State.timerTo; simp [hs]
@[simp ↓] theorem State.graceEnd_wf : allWf s.graceEnd.mems := by unfold State.graceEnd; split <;> simp [hs]
@[simp ↓] theorem State.critTimerEnd_wf : allWf s.critTimerEnd.mems := by
  unfold State.critTimerEnd; split <;> simp [hs]
@[simp ↓] theorem State.persistEnd_wf : allWf s.persistEnd.mems := by unfold State.persistEnd; split <;> simp [hs]
@[simp ↓] theorem State.releaseEnd_wf : allWf s.releaseEnd.mems := by unfold State.releaseEnd; split <;> simp [hs]
@[simp ↓] theorem State.extScanEnd_wf (phases : List (List Int)) : allWf (s.extScanEnd phases).mems := by
  unfold State.extScanEnd; split <;> simp [hs]

/-! ### Clock -/

@[simp ↓] theorem State.pllGone_wf (i : Nat) : allWf (s.pllGone i).mems := by
  unfold State.pllGone; split <;> simp [hs]
@[simp ↓] theorem State.pllUnlock_wf (i : Nat) : allWf (s.pllUnlock i).mems := by unfold State.pllUnlock; simp [hs]
@[simp ↓] theorem State.winLocked_wf (i : Nat) (p : Pll) (far lost : Bool) :
    allWf (s.winLocked i p far lost).mems := by unfold State.winLocked; simp [hs]
@[simp ↓] theorem State.pllWindow_wf (i div count : Nat) : allWf (s.pllWindow i div count).mems := by
  unfold State.pllWindow; dsimp only; (repeat' split) <;> simp [hs]
@[simp ↓] theorem State.pllOff_wf (i : Nat) : allWf (s.pllOff i).mems := by
  unfold State.pllOff; dsimp only; (repeat' split) <;> simp [hs]
@[simp ↓] theorem State.clkCtrlWrite_wf (who : Who) (v : Word) : allWf (s.clkCtrlWrite who v).mems := by
  unfold State.clkCtrlWrite; split <;> simp [hs]

@[simp ↓] theorem State.lpllWrite_wf (who : Who) (v : Word) : allWf (s.lpllWrite who v).mems := by
  unfold State.lpllWrite
  split
  · simpa using hs
  · refine foldl_wf _ _ (by simpa using hs) fun a q ha => ?_
    split
    · simpa using ha
    · exact State.pllOff_wf ha _

@[simp ↓] theorem State.refIsLost_wf : allWf s.refIsLost.mems := by
  unfold State.refIsLost
  split
  · exact hs
  · extract_lets s0 s1 s2 old s3 s4
    have held : s1.mems = s.mems := by simp [s1, s0]
    have lost : allWf s2.mems := by
      unfold s2
      rw [State.setMgtSource_mems]
      split
      · exact State.pll1Lost_wf (by rwa [held])
      · rwa [held]
    exact State.enterSafe_wf (by simpa [s4, s3] using lost) _

@[simp ↓] theorem State.refWindow_wf (edges : Nat) : allWf (s.refWindow edges).mems := by
  unfold State.refWindow; dsimp only; (repeat' split) <;> simp [hs]
@[simp ↓] theorem State.refTimeout_wf (last : Nat) : allWf (s.refTimeout last).mems := by
  unfold State.refTimeout; simp [hs]
theorem State.clkWrite_wf (who : Who) (a : Nat) (v : Word) {t : State} (h : s.clkWrite who a v = some t) :
    allWf t.mems := by
  unfold State.clkWrite at h; (repeat' split at h) <;> simp at h <;> subst h <;> simp [hs]

/-! ### Calib -/

@[simp ↓] theorem State.darkDone_wf (light : DarkLevel) (cols : List ColMeas) (pix : List PixMeas) :
    allWf (s.darkDone light cols pix).mems := by
  unfold State.darkDone
  split
  · exact hs
  · have marked : allWf [darkMaps s.dram cols pix, s.ret, s.flash, s.sram0, s.sram1] := by simp [hs, darkMaps_wf]
    simp [hs, marked]

/-! ### CalStore -/

@[simp ↓] theorem State.programSectors_wf (l : List (Nat × List Byte)) : allWf (s.programSectors l).mems := by
  have sectors := foldl_mem_wf (fun m x => wrSpan m x.1 x.2) l (State.flash_wf hs) fun m x hm => wrSpan_wf _ _ hm
  unfold State.programSectors
  simp [hs, sectors]

@[simp ↓] theorem State.saveGood_wf : allWf s.saveGood.mems := by
  have programmed := State.programSectors_wf hs s.savePlan.sectors
  unfold State.saveGood
  simp [programmed, wrSpan_wf]

@[simp ↓] theorem State.saveBad_wf (l : List (Nat × List Byte)) : allWf (s.saveBad l).mems := by
  unfold State.saveBad; simp [hs]
@[simp ↓] theorem State.saveDone_wf (stop : Option FlashStop) : allWf (s.saveDone stop).mems := by
  unfold State.saveDone; (repeat' split) <;> simp [hs]

/-- A section of the calibration store is written by a function that keeps memories canonical. -/
theorem State.withSec_wf (x : Option (List Byte)) {f : State → List Byte → State}
    (hf : ∀ a l, allWf a.mems → allWf (f a l).mems) : allWf (s.withSec x f).mems := by
  unfold State.withSec
  split
  · exact hf _ _ hs
  · exact hs

@[simp ↓] theorem State.zeroMaps_wf : allWf s.zeroMaps.mems := by
  have wiped (a n b k : Nat) : Memory.wf (wipe (wipe s.dram a n) b k) = true :=
    wipe_wf b k (wipe_wf a n (State.dram_wf hs))
  unfold State.zeroMaps
  simp [hs, wiped]

theorem State.calLoad_wf {t : State} (h : s.calLoad = some t) : allWf t.mems := by
  unfold State.calLoad at h
  split at h
  · cases h
  · split at h
    · cases h
    · extract_lets hh sec q s1 s2 s3 s4 s5 s6 s7 s8 _ at h
      have load : allWf s2.mems := by simpa [s2, s1] using hs
      have wiped : allWf s3.mems := by simp [s3, load, wipe_wf]
      have maps : allWf s5.mems := State.withSec_wf (State.withSec_wf wiped _ fun a l ha => by simp [ha, wrSpan_wf]) _
        fun a l ha => by simp [ha, wrSpan_wf]
      have rest : s8.mems = s5.mems := by simp [s8, s7, s6]
      cases h
      simpa [rest] using maps

@[simp ↓] theorem State.emptyDefects_wf : allWf s.emptyDefects.mems := by
  unfold State.emptyDefects; simp [hs, wipe_wf]

theorem State.defLoad_wf {t : State} (h : s.defLoad = some t) : allWf t.mems := by
  unfold State.defLoad at h
  split at h
  · cases h
  · split at h
    · cases h
    · split at h
      · cases h; exact State.emptyDefects_wf hs
      · next l _ =>
        cases h
        have lists : Memory.wf (wrSpan (wrSpan s.dram 0xEC000000 (l.take 1280)) 0xEC001000 (l.drop 1280)) = true :=
          wrSpan_wf _ _ (wrSpan_wf _ _ (State.dram_wf hs))
        simp [hs, lists]

/-! ### Boot -/

@[simp ↓] theorem State.dirWrite_wf (d : Directory) : allWf (s.dirWrite d).mems := by
  unfold State.dirWrite; simp [hs, wrSpan_wf]

@[simp ↓] theorem State.coreLoads_wf (i slot : Nat) : allWf (s.coreLoads i slot).mems := by
  have section_ (l : List Byte) : Memory.wf (wrSpan [] 0 l) = true := wrSpan_wf 0 l rfl
  unfold State.coreLoads
  simp [hs, section_]

@[simp ↓] theorem State.recoverSlot_wf (i : Nat) : allWf (s.recoverSlot i).1.mems := by
  unfold State.recoverSlot
  split
  · exact hs
  · split
    · simpa using hs
    · refine State.dirWrite_wf ?_ _
      simp [hs, wrSpan_wf]

@[simp ↓] theorem State.bootFlash_wf (v : Nat) (b : BootIn) : allWf (s.bootFlash v b).state.mems := by
  unfold State.bootFlash; (repeat' split) <;> simp [hs]
@[simp ↓] theorem State.bootFirmware_wf (b : BootIn) : allWf (s.bootFirmware b).state.mems := by
  unfold State.bootFirmware; dsimp only; (repeat' split) <;> simp [hs]
@[simp ↓] theorem State.bootDram_wf (v : Nat) (b : BootIn) : allWf (s.bootDram v b).state.mems := by
  unfold State.bootDram; dsimp only; (repeat' split) <;> simp [hs, wipe_wf]

/-- The clocks that boot step 7 enables. -/
theorem State.bootClocks_wf : allWf ((s.clkCtrlWrite .mc0 1).lpllWrite .mc0 0xffff).mems := by
  -- `c` keeps Lean's kernel from running the first write.
  obtain ⟨c, hc⟩ : ∃ c, s.clkCtrlWrite .mc0 1 = c := ⟨_, rfl⟩
  have written : allWf c.mems := by rw [← hc]; exact State.clkCtrlWrite_wf hs .mc0 1
  rw [hc]
  exact State.lpllWrite_wf written .mc0 0xffff

theorem State.stepEnd_wf (k v : Nat) (b : BootIn) {e : StepEnd} (h : s.stepEnd k v b = some e) :
    allWf e.state.mems := by
  unfold State.stepEnd at h
  split at h
  · split at h
    · obtain rfl := Option.some.inj h
      split <;> simpa using hs
    · cases h
  · obtain rfl := Option.some.inj h
    split <;> simpa using hs
  · obtain rfl := Option.some.inj h
    exact State.bootFlash_wf hs v b
  · obtain rfl := Option.some.inj h
    simpa using hs
  · obtain rfl := Option.some.inj h
    exact State.bootFirmware_wf hs b
  · obtain rfl := Option.some.inj h
    exact State.bootDram_wf hs v b
  · obtain rfl := Option.some.inj h
    dsimp only
    exact State.bootClocks_wf hs
  · -- step 8: the calibration maps, from the store or at their defaults
    split at h
    · obtain rfl := Option.some.inj h
      simpa using State.zeroMaps_wf hs
    · split at h
      · next t ht =>
        obtain rfl := Option.some.inj h
        have loaded : s.calLoad = some t := by
          split at ht
          · cases ht
          · exact ht
        simpa using State.calLoad_wf hs loaded
      · obtain rfl := Option.some.inj h
        simpa using hs
  · -- step 9: the defect lists
    split at h
    · obtain rfl := Option.some.inj h
      simpa using State.emptyDefects_wf hs
    · split at h
      · next t ht =>
        obtain rfl := Option.some.inj h
        have loaded : s.defLoad = some t := by
          split at ht
          · cases ht
          · exact ht
        exact State.defLoad_wf hs loaded
      · obtain rfl := Option.some.inj h
        simpa using hs
  · -- this step and the later ones write no memory
    split at h
    · obtain rfl := Option.some.inj h
      simpa using hs
    · split at h
      · cases h
      · obtain rfl := Option.some.inj h
        simpa using hs
  · split at h
    · obtain rfl := Option.some.inj h
      simpa using hs
    · split at h
      · cases h
      · split at h
        all_goals
          obtain rfl := Option.some.inj h
          simpa using hs
  · split at h
    · obtain rfl := Option.some.inj h
      simpa using hs
    · obtain rfl := Option.some.inj h
      split <;> simpa using hs
  · dsimp only at h
    (repeat' split at h) <;> cases h <;> simpa using hs
  · obtain rfl := Option.some.inj h
    split <;> simpa using hs

@[simp ↓] theorem State.bootStart_wf (k v : Nat) : allWf (s.bootStart k v).mems := by
  unfold State.bootStart; simp [hs]
@[simp ↓] theorem State.bootSafe_wf : allWf s.bootSafe.mems := by unfold State.bootSafe; simp [hs]
@[simp ↓] theorem State.bootExhausted_wf (k : Nat) : allWf (s.bootExhausted k).mems := by
  unfold State.bootExhausted; simp [hs]
@[simp ↓] theorem State.bootUsedUp_wf (k : Nat) : allWf (s.bootUsedUp k).mems := by
  unfold State.bootUsedUp; split <;> simp [hs]
@[simp ↓] theorem State.bootNext_wf (k : Nat) : allWf (s.bootNext k).mems := by
  unfold State.bootNext; split <;> simp [hs]
@[simp ↓] theorem State.bootFailed_wf (k v : Nat) : allWf (s.bootFailed k v).mems := by
  unfold State.bootFailed; split <;> simp [hs]

@[simp ↓] theorem State.bootStep_wf (b : BootIn) : allWf (s.bootStep b).mems := by
  have counted : allWf ((s.goTo b.at_).eccCount b.corrected).mems := State.eccCount_wf (by simpa using hs) b.corrected
  unfold State.bootStep
  dsimp only
  split
  · simpa using hs
  · split
    · exact State.bootNext_wf (State.bootBegin_wf counted _ _) 1
    · split
      · exact hs
      · next e he =>
        have noted := State.bootNote_wf (State.stepEnd_wf counted _ _ b he) s.sys.boot.step s.sys.boot.variant e.outcome
          e.detail
        split
        · exact State.bootFailed_wf noted _ _
        · split
          · simpa using noted
          · exact State.bootNext_wf noted _

/-! ### Mailbox -/

@[simp ↓] theorem State.updPut_wf (op slot sector : Nat) : allWf (s.updPut op slot sector).mems := by
  unfold State.updPut; simp [hs]
@[simp ↓] theorem State.updClear_wf : allWf s.updClear.mems := by unfold State.updClear; simp [hs]

@[simp ↓] theorem State.eraseSector_wf (i k : Nat) : allWf (s.eraseSector i k).mems := by
  have put := State.updPut_wf hs 0 i k
  unfold State.eraseSector
  simp [put, wrSpan_wf]

@[simp ↓] theorem State.flashSectors_wf (i : Nat) (l : List (Nat × List Byte)) : allWf (s.flashSectors i l).mems := by
  unfold State.flashSectors
  refine foldl_wf _ _ hs fun a x ha => ?_
  have put := State.updPut_wf (State.eraseSector_wf ha i x.1) 1 i x.1
  simp [put, wrSpan_wf]

@[simp ↓] theorem State.fwUpdateStart_wf (addr len : Nat) (activate : Bool) :
    allWf (s.fwUpdateStart addr len activate).1.mems := by unfold State.fwUpdateStart; (repeat' split) <;> simp [hs]
@[simp ↓] theorem State.recoverStart_wf (slot len : Nat) : allWf (s.recoverStart slot len).1.mems := by
  unfold State.recoverStart; (repeat' split) <;> simp [hs]
@[simp ↓] theorem State.mboxStart_wf (op : Nat) : allWf (s.mboxStart op).1.mems := by
  unfold State.mboxStart; (repeat' split) <;> simp [hs]
@[simp ↓] theorem State.mboxCmd_wf (op : Nat) : allWf (s.mboxCmd op).mems := by unfold State.mboxCmd; simp [hs]

@[simp ↓] theorem State.fwUpdateEnd_wf (addr len : Nat) (activate : Bool) (i : Nat) (stop : Option FlashStop) :
    allWf (s.fwUpdateEnd addr len activate i stop).mems := by
  have cleared (l : List (Nat × List Byte)) :
      allWf (({ s with sys := { s.sys with updBusy := false } }.flashSectors i l).updClear).mems :=
    State.updClear_wf (State.flashSectors_wf (by simpa using hs) i l)
  unfold State.fwUpdateEnd
  dsimp only
  split
  · simp only [↓State.mboxPost_mems, cleared]
  · split
    · simp only [↓State.mboxPost_mems, cleared]
    · split
      · simp only [↓State.mboxPost_mems, cleared]
      · rw [State.mboxPost_mems]
        exact State.dirWrite_wf (cleared _) _

@[simp ↓] theorem State.fwActivateEnd_wf (i : Nat) : allWf (s.fwActivateEnd i).mems := by
  unfold State.fwActivateEnd; split <;> simp [hs]
@[simp ↓] theorem State.restartEnd_wf (core slot : Nat) : allWf (s.restartEnd core slot).mems := by
  unfold State.restartEnd; split <;> simp [hs]

@[simp ↓] theorem State.recoverEnd_wf (slot len got : Nat) (stop : Option FlashStop) :
    allWf (s.recoverEnd slot len got stop).mems := by
  have cleared (l : List (Nat × List Byte)) : allWf ((s.flashSectors slot l).updClear).mems :=
    State.updClear_wf (State.flashSectors_wf hs slot l)
  unfold State.recoverEnd
  dsimp only
  split
  · simp only [↓State.mboxPost_mems, cleared]
  · split
    · exact hs
    · split
      · simpa using State.updClear_wf hs
      · split
        · rw [State.mboxPost_mems]
          exact State.dirWrite_wf (cleared _) _
        · simp only [↓State.mboxPost_mems, cleared]

@[simp ↓] theorem State.mboxDone_wf (stop : Option FlashStop) : allWf (s.mboxDone stop).mems := by
  unfold State.mboxDone
  split
  · exact hs
  · split <;> simp [hs]

@[simp ↓] theorem State.rcvData_wf (who : Who) (v : Word) : allWf (s.rcvData who v).mems := by
  unfold State.rcvData
  split
  · next i len got _ =>
    split
    · simpa using hs
    · split
      · simpa using State.updClear_wf hs
      · have put : allWf ((if got % sectorSize = 0 then s.eraseSector i (got / sectorSize) else s).updPut 1 i
            (got / sectorSize)).mems := by
          refine State.updPut_wf ?_ _ _ _
          split
          · exact State.eraseSector_wf hs _ _
          · exact hs
        simp [put, wrSpan_wf]
  · simpa using hs

/-! ### ModeReq -/

@[simp ↓] theorem State.leaveSafe_wf : allWf s.leaveSafe.mems := by unfold State.leaveSafe; simp [hs]
@[simp ↓] theorem State.modeRequest_wf (n : Nat) : allWf (s.modeRequest n).mems := by
  unfold State.modeRequest; dsimp only; (repeat' split) <;> simp [hs]
@[simp ↓] theorem State.modeReqWrite_wf (v : Word) : allWf (s.modeReqWrite v).mems := by
  unfold State.modeReqWrite; simp [hs]
theorem State.sysWrite_wf (who : Who) (a : Nat) (v : Word) {t : State} (h : s.sysWrite who a v = some t) :
    allWf t.mems := by
  unfold State.sysWrite at h; (repeat' split at h) <;> simp at h <;> subst h <;> simp [hs]

/-! ### Readout -/

@[simp ↓] theorem State.process_wf (f : Frame) (sub : SubRef) (n : Nat) : allWf (s.process f sub n).mems := by
  unfold State.process; (repeat' split) <;> simp [hs]
@[simp ↓] theorem State.rowSlot_wf (convs : List Conv) : allWf (s.rowSlot convs).mems := by
  unfold State.rowSlot; (repeat' split) <;> simp [hs]

/-! ### Tick -/

@[simp ↓] theorem State.deadlines_wf (f : Frame) : allWf (s.deadlines f).mems := by
  have proxy : allWf (((s.proxyBegin f.num).proxyEnd f.num false).proxyVoid f.num).mems :=
    State.proxyVoid_wf (State.proxyEnd_wf (State.proxyBegin_wf hs _) _ _) _
  unfold State.deadlines
  simp [hs, proxy]

@[simp ↓] theorem State.ageFrames_wf (ft : Bool) : allWf (s.ageFrames ft).mems := by
  unfold State.ageFrames
  simp only [State.bankDrained_mems, State.mems_mk, State.mems_fold]
  exact foldl_wf _ _ (by simpa using hs) fun a f ha => State.deadlines_wf ha f

@[simp ↓] theorem State.dramAtFT_wf : allWf s.dramAtFT.mems := by
  unfold State.dramAtFT; dsimp only; (repeat' split) <;> simp [hs, wipe_wf]
@[simp ↓] theorem State.changesAtFT_wf (t : Nat) : allWf (s.changesAtFT t).mems := by
  unfold State.changesAtFT; simp [hs]

@[simp ↓] theorem State.ftWork_wf (t : Nat) : allWf (s.ftWork t).mems := by
  -- `c` keeps Lean's kernel from running the changes at the FT.
  obtain ⟨c, hc⟩ : ∃ c, s.changesAtFT t = c := ⟨_, rfl⟩
  have changed : allWf c.mems := hc ▸ State.changesAtFT_wf hs t
  unfold State.ftWork
  rw [hc]
  simp [changed]

@[simp ↓] theorem State.endInterval_wf (ft : Bool) : allWf (s.endInterval ft).mems := by
  unfold State.endInterval; split <;> simp [hs]

@[simp ↓] theorem State.tick_wf (ft : Bool) : allWf (s.tick ft).mems := by
  have ended (t : Nat) : allWf ((s.goTo t).endInterval ft).mems := State.endInterval_wf (by simpa using hs) ft
  unfold State.tick
  simp [ended]

@[simp ↓] theorem State.subFrameTick_wf : allWf s.subFrameTick.mems := by unfold State.subFrameTick; simp [hs]
@[simp ↓] theorem State.frameTick_wf : allWf s.frameTick.mems := by unfold State.frameTick; simp [hs]

/-! ### Dump -/

@[simp ↓] theorem State.dumpHeader_wf (d : DumpRun) (n : Nat) (crcs : List Nat) (complete : Bool) :
    allWf (s.dumpHeader d n crcs complete).mems := by
  unfold State.dumpHeader; simp [hs, wrSpan_wf]

@[simp ↓] theorem State.dumpCopy_wf (d : DumpRun) (k : Nat) (crcs : List Nat) :
    allWf (s.dumpCopy d k crcs).1.mems := by
  unfold State.dumpCopy
  dsimp only
  refine State.dumpHeader_wf ?_ d k _ false
  split <;> simp [hs, wrSpan_wf]

@[simp ↓] theorem State.dumpWrite_wf (d : DumpRun) (n : Nat) (complete : Bool) :
    allWf (s.dumpWrite d n complete).mems := by
  have copies (l : List Nat) (a : State × List Nat) (ha : allWf a.1.mems) :
      allWf (l.foldl (fun (a : State × List Nat) k => a.1.dumpCopy d (k + 1) a.2) a).1.mems := by
    induction l generalizing a with
    | nil => exact ha
    | cons k r ih => exact ih _ (State.dumpCopy_wf ha d (k + 1) a.2)
  have copied := copies (List.range n) (s, []) hs
  unfold State.dumpWrite
  simp [copied]

@[simp ↓] theorem State.dumpComplete_wf : allWf s.dumpComplete.mems := by
  unfold State.dumpComplete; split <;> simp [hs]
@[simp ↓] theorem State.dumpCut_wf (n : Nat) : allWf (s.dumpCut n).mems := by
  unfold State.dumpCut; split <;> simp [hs]

/-! ### Reset -/

@[simp ↓] theorem State.cutRecord_wf (k : Nat) (erasing : Bool) : allWf (s.cutRecord k erasing).mems := by
  unfold State.cutRecord; split <;> simp [hs]
@[simp ↓] theorem State.dirCut_wf (c : Cut) : allWf (s.dirCut c).mems := by
  unfold State.dirCut; dsimp only; (repeat' split) <;> simp [hs, wrSpan_wf]

@[simp ↓] theorem State.interrupted_wf (c : Cut) : allWf (s.interrupted c).mems := by
  have cut (l : List (Nat × List Byte)) (n : Nat) (e : Bool) :
      allWf ((((s.dirCut c).dumpCut c.dump).programSectors l).cutRecord n e).mems :=
    State.cutRecord_wf (State.programSectors_wf (State.dumpCut_wf (State.dirCut_wf hs c) c.dump) l) n e
  unfold State.interrupted
  dsimp only
  split <;> split <;> simp [cut, wrSpan_wf]

@[simp ↓] theorem State.cold_wf (until_ : Nat) : allWf (s.cold until_).mems := by
  have nothing : Memory.wf [] = true := rfl
  unfold State.cold State.reset
  simp [hs, nothing]

@[simp ↓] theorem State.warm_wf (until_ trigEnd causes last : Nat) :
    allWf (s.warm until_ trigEnd causes last).mems := by unfold State.warm; simp [hs]
@[simp ↓] theorem State.powerOn_wf (back : Nat) : allWf (s.powerOn back).mems := by unfold State.powerOn; simp [hs]

@[simp ↓] theorem State.wdtRecord_wf : allWf s.wdtRecord.mems := by
  have record (n nmi periods : Nat) :
      Memory.wf (wrLE (wrLE (wrLE s.ret 0x1040 4 n) 0x1044 4 nmi) 0x1048 4 periods) = true :=
    wrLE_wf _ _ _ (wrLE_wf _ _ _ (wrLE_wf _ _ _ (State.ret_wf hs)))
  unfold State.wdtRecord
  simp [hs, record]

@[simp ↓] theorem State.warmReset_wf (code end_ : Nat) (c : Cut) : allWf (s.warmReset code end_ c).mems := by
  unfold State.warmReset
  split
  · split <;> simpa using hs
  · simpa using hs
  · refine State.warm_wf (State.interrupted_wf ?_ c) _ _ _ _
    split <;> simp [hs]

@[simp ↓] theorem State.supplyTrip_wf (outNs backNs : Nat) (c : Cut) : allWf (s.supplyTrip outNs backNs c).mems := by
  unfold State.supplyTrip; (repeat' split) <;> simp [hs]
@[simp ↓] theorem State.pinReset_wf (lowNs : Nat) (c : Cut) : allWf (s.pinReset lowNs c).mems := by
  unfold State.pinReset; dsimp only; (repeat' split) <;> simp [hs]
@[simp ↓] theorem State.resetWrite_wf (who : Who) (v : Word) (c : Cut) : allWf (s.resetWrite who v c).mems := by
  unfold State.resetWrite; simp [hs]
@[simp ↓] theorem State.hardTimerEnd_wf (c : Cut) : allWf (s.hardTimerEnd c).mems := by
  unfold State.hardTimerEnd; (repeat' split) <;> simp [hs]

/-! ### Access -/

theorem State.homeWrite_wf (who : Who) (a : Nat) (v : Word) {t : State} (h : s.homeWrite who a v = some t) :
    allWf t.mems := by
  unfold State.homeWrite at h
  split at h
  · cases h; exact hs
  · split at h
    · cases h; exact State.resetWrite_wf hs _ _ _
    · exact State.sysWrite_wf hs _ _ _ h
  · exact State.clkWrite_wf hs _ _ _ h
  · rwa [State.planWrite_mems _ _ _ _ h]
  · rwa [State.tmgWrite_mems _ _ _ _ _ h]
  · rwa [State.cnvWrite_mems _ _ _ _ h]
  · rwa [State.lnkWrite_mems _ _ _ _ h]
  · rwa [State.fabWrite_mems _ _ _ h]
  · obtain ⟨u, hu, rfl⟩ := Option.map_eq_some_iff.mp h
    rwa [State.rigFlush_mems, State.timeWrite_mems _ _ _ _ hu]
  · rwa [State.monWrite_mems _ _ _ _ h]
  · rwa [State.thmWrite_mems _ _ _ _ h]
  · exact State.wdtWrite_wf hs _ _ _ h
  · rwa [State.vltWrite_mems _ _ _ _ h]
  · rwa [State.secWrite_mems _ _ _ _ h]
  · exact State.evlWrite_wf hs _ _ _ h
  · rwa [State.calWrite_mems _ _ _ h]
  · rwa [State.strWrite_mems _ _ _ _ h]

@[simp ↓] theorem State.regWrite_wf (who : Who) (a : Nat) (v : Word) : allWf (s.regWrite who a v).mems := by
  unfold State.regWrite
  split
  · simpa using hs
  · split
    · next t ht => simpa using State.homeWrite_wf (by simpa using hs) who a _ ht
    · simp [hs]

@[simp ↓] theorem State.retWrite_wf (who : Who) (a n : Nat) (v : Word) : allWf (s.retWrite who a n v).mems := by
  unfold State.retWrite; split <;> simp [hs]
@[simp ↓] theorem State.dramWrite_wf (who : Who) (base a n : Nat) (v : Word) :
    allWf (s.dramWrite who base a n v).mems := by
  unfold State.dramWrite; dsimp only; (repeat' split) <;> simp [hs, wrLE_wf]
@[simp ↓] theorem State.write_wf (who : Who) (base addr size : Nat) (v : Word) :
    allWf (s.write who base addr size v).mems := by unfold State.write; dsimp only; (repeat' split) <;> simp [hs]

/-! ### Port -/

@[simp ↓] theorem State.portWords_wf (base a : Nat) (data : List Word) : allWf (s.portWords base a data).mems := by
  induction data generalizing s a with
  | nil => exact hs
  | cons w r ih =>
    have written := State.write_wf hs .host base a 4 w
    unfold State.portWords
    split
    · exact hs
    · dsimp only
      split
      · exact written
      · exact ih (by simpa using written) _

@[simp ↓] theorem State.portWrite_wf (addr : Nat) (data : List Word) (partial_ : Bool) :
    allWf (s.portWrite addr data partial_).mems := by unfold State.portWrite; simp [hs]

/-! ### Cmd -/

@[simp ↓] theorem State.poke_wf (who : Who) (a : Nat) (w : Word) : allWf (s.poke who a w).mems := by
  unfold State.poke; simp [hs]
@[simp ↓] theorem State.mail_wf (who : Who) (op : Nat) (args : List Word) : allWf (s.mail who op args).mems := by
  unfold State.mail; simp [hs]
@[simp ↓] theorem State.vault_wf (who : Who) (op arg : Nat) : allWf (s.vault who op arg).mems := by
  unfold State.vault; simp [hs]
@[simp ↓] theorem State.resetOut_wf (who : Who) (w : Word) (cut : Cut) : allWf (s.resetOut who w cut).mems := by
  unfold State.resetOut; simp [hs]
@[simp ↓] theorem State.frameDone_wf : allWf s.frameDone.mems := by
  unfold State.frameDone; dsimp only; (repeat' split) <;> simp [hs]

end Sys2Proof.Machine
end

section
/-!
PROOFS. Every command, and so every step, keeps the byte memories canonical (O7).
-/

namespace Sys2Proof.Machine

/-- A state that a command answers has canonical memories. -/
def Out.memsWf (o : Out) : Prop := ∀ t, o = .next t → allWf t.mems

theorem ok_memsWf {s : State} (hs : allWf s.mems) : (ok s : Out).memsWf := by
  intro t h
  cases h
  simpa using hs

theorem act_memsWf {s f : State} (hs : allWf s.mems) (hf : allWf f.mems) : (act s f).memsWf := by
  intro t h
  unfold act at h
  split at h
  · exact ok_memsWf hf t h
  · cases h
    exact hs

/-- All commands but those named first run as `act` of one function of the state, which has its lemma above. -/
theorem exec_memsWf {s : State} (hs : allWf s.mems) (i : Instr) : Out.memsWf (exec i s) := by
  cases i
  case status => exact ok_memsWf (by simp [hs])
  case powerOnReset => exact ok_memsWf (by simp [hs])
  case supplyTrip => exact ok_memsWf (by simp [hs])
  case pinReset => exact ok_memsWf (by simp [hs])
  case hostReset => exact ok_memsWf (by simp [hs])
  case firmwareReset => exact ok_memsWf (by simp [hs])
  case resetRelease => exact ok_memsWf (by simp [hs])
  case pllLockWindow pll win =>
    have ticked : allWf s.frameTick.mems := State.frameTick_wf hs
    have window : allWf ({ s.frameTick with now := s.windowEnd 1 }.pllWindow pll.val win.div win.count).mems := by
      simp [ticked]
    exact act_memsWf hs (by simp [hs, window])
  all_goals exact act_memsWf hs (by simp [hs])

/-- Settles O7: a step is one idle cycle, which touches no memory, or a command (`exec_memsWf`). -/
theorem memoriesStayCanonical : Obligations.MemoriesStayCanonical := by
  unfold Obligations.MemoriesStayCanonical
  intro s t h ok
  have wf : allWf s.mems := s.memsOk_iff.1 ok
  refine t.memsOk_iff.2 ?_
  unfold step at h
  split at h
  · cases h
    simpa [idle] using wf
  · exact exec_memsWf (by simpa using wf) _ t h

end Sys2Proof.Machine
end

section
/-!
PROOFS. What waits for a tick (R30, R163), taken together: what a record update, a condition and a fold make of it.
-/

namespace Sys2Proof.Machine

/-- What can wait for a tick (R30, R163), with the state of the sequencer, which makes the ticks run or not. -/
def State.waits (s : State) : SeqState × List Take × List Switch := (s.tmg.seq, s.str.takes, s.str.switches)

/-- The rule that a record update leaves what waits. As `State.mems_mk`, it is proved by a rewrite. -/
@[simp ↓] theorem State.waits_mk (pending : List Instr) (now draws : Nat) (regs : List (Nat × Word)) (rwc : Rwc)
    (dram ret sram0 sram1 flash : Memory) (part : Part) (sys : Sys) (clk : Clk) (tmg : Tmg) (plan : PlanBlk)
    (cnv : Cnv) (str : Str) (time : TimeBlk) (frames : List Frame) (lnk : Lnk) (seals : Seal) (vlt : Vlt) (fab : Fab)
    (mon : Mon) (thm : Thm) (cal : Cal) (wdt : Wdt) (evl : Evl) :
    (State.mk pending now draws regs rwc dram ret sram0 sram1 flash part sys clk tmg plan cnv str time frames lnk seals
      vlt fab mon thm cal wdt evl).waits = (tmg.seq, str.takes, str.switches) := by rw [State.waits]

@[simp ↓] theorem State.waits_fold (s : State) : (s.tmg.seq, s.str.takes, s.str.switches) = s.waits := by
  rw [State.waits]

/-- A choice by a condition that no proof about what waits looks into. -/
def branch {α : Type} (c : Prop) [Decidable c] (x y : α) : α := if c then x else y

@[congr] theorem branch_congr {α : Type} (c : Prop) [Decidable c] {x x' y y' : α} (hx : x = x') (hy : y = y') :
    branch c x y = branch c x' y' := by rw [hx, hy]

@[simp] theorem branch_self {α : Type} (c : Prop) [Decidable c] (x : α) : branch c x x = x := ite_self x

@[simp ↓] theorem State.waits_ite (c : Prop) [Decidable c] (s t : State) :
    (if c then s else t).waits = branch c s.waits t.waits := apply_ite _ _ _ _

@[simp ↓] theorem State.waits_foldl {β : Type} (f : State → β → State) (l : List β) (s : State)
    (h : ∀ a x, (f a x).waits = a.waits) : (l.foldl f s).waits = s.waits := foldl_keeps State.waits f l s h

end Sys2Proof.Machine
end

section
/-!
PROOFS. What changes nothing that waits for a tick, function by function: each lemma unfolds its function once and
is a rewrite rule for the functions that call it. The functions here write no byte memory either.
-/

namespace Sys2Proof.Machine

variable (s : State)

/-! ### Ops -/

@[simp ↓] theorem State.setReg_waits (a : Nat) (v : Word) : (s.setReg a v).waits = s.waits := by
  unfold State.setReg; simp
@[simp ↓] theorem State.setRn_waits (a n : Nat) : (s.setRn a n).waits = s.waits := by unfold State.setRn; simp
@[simp ↓] theorem State.orReg_waits (a mask : Nat) : (s.orReg a mask).waits = s.waits := by unfold State.orReg; simp
@[simp ↓] theorem State.note_waits (a mask : Nat) : (s.note a mask).waits = s.waits := by unfold State.note; simp
@[simp ↓] theorem State.markWriter_waits (who : Who) (a : Nat) : (s.markWriter who a).waits = s.waits := by
  unfold State.markWriter; simp
@[simp ↓] theorem State.storeBy_waits (who : Who) (a v : Nat) : (s.storeBy who a v).waits = s.waits := by
  unfold State.storeBy; simp
@[simp ↓] theorem State.setInt_waits (a i : Nat) : (s.setInt a i).waits = s.waits := by unfold State.setInt; simp
@[simp ↓] theorem State.dropInt_waits (a i : Nat) : (s.dropInt a i).waits = s.waits := by unfold State.dropInt; simp
@[simp ↓] theorem State.clrReg_waits (a v : Nat) : (s.clrReg a v).waits = s.waits := by unfold State.clrReg; simp
@[simp ↓] theorem State.raise_waits (e : Event) : (s.raise e).waits = s.waits := by unfold State.raise; simp
@[simp ↓] theorem State.warn_waits (cls code unit detail : Nat) : (s.warn cls code unit detail).waits = s.waits := by
  unfold State.warn; simp
@[simp ↓] theorem State.faultEv_waits (cls code unit detail : Nat) :
    (s.faultEv cls code unit detail).waits = s.waits := by unfold State.faultEv; simp
@[simp ↓] theorem State.info_waits (cls code unit detail : Nat) : (s.info cls code unit detail).waits = s.waits := by
  unfold State.info; simp
@[simp ↓] theorem State.ignored_waits (cls : Nat) (who : Who) (addr : Nat) :
    (s.ignored cls who addr).waits = s.waits := by unfold State.ignored; simp
@[simp ↓] theorem State.lockViolation_waits (cls : Nat) (who : Who) (addr : Nat) :
    (s.lockViolation cls who addr).waits = s.waits := by unfold State.lockViolation; simp
@[simp ↓] theorem State.setEvlInt_waits (i : Nat) : (s.setEvlInt i).waits = s.waits := by unfold State.setEvlInt; simp
@[simp ↓] theorem State.goTo_waits (t : Nat) : (s.goTo t).waits = s.waits := by unfold State.goTo; simp
@[simp ↓] theorem State.goMgt_waits (n : Nat) : (s.goMgt n).waits = s.waits := by unfold State.goMgt; simp
@[simp ↓] theorem State.timeUp_waits (t : Nat) : (s.timeUp t).waits = s.waits := by unfold State.timeUp; simp
@[simp ↓] theorem State.cycleUp_waits (n : Nat) : (s.cycleUp n).waits = s.waits := by unfold State.cycleUp; simp
@[simp ↓] theorem State.setPll_waits (i : Nat) (p : Pll) : (s.setPll i p).waits = s.waits := by unfold State.setPll; simp
@[simp ↓] theorem State.draw_waits : s.draw.2.waits = s.waits := by unfold State.draw; simp
@[simp ↓] theorem State.setBank_waits (i : Nat) (b : Bank) : (s.setBank i b).waits = s.waits := by
  unfold State.setBank; simp

/-! ### Ledger -/

@[simp ↓] theorem State.fin_waits : s.fin.waits = s.waits := by unfold State.fin; simp
@[simp ↓] theorem State.unraise_waits (p : Event → Bool) : (s.unraise p).waits = s.waits := by unfold State.unraise; simp
@[simp ↓] theorem State.reraise_waits (f : Event → Event) : (s.reraise f).waits = s.waits := by
  unfold State.reraise; simp

/-! ### TimeBase -/

@[simp ↓] theorem State.setTb_waits (k : Nat) (t : TimeBase) : (s.setTb k t).waits = s.waits := by
  unfold State.setTb; simp
@[simp ↓] theorem State.tbLine_waits (k n inc : Nat) : (s.tbLine k n inc).waits = s.waits := by unfold State.tbLine; simp
@[simp ↓] theorem State.tbIncUse_waits (k : Nat) : (s.tbIncUse k).waits = s.waits := by unfold State.tbIncUse; simp
@[simp ↓] theorem State.resourceTb_waits (k : Nat) : (s.resourceTb k).waits = s.waits := by unfold State.resourceTb; simp
@[simp ↓] theorem State.resource_waits : s.resource.waits = s.waits := by unfold State.resource; simp
@[simp ↓] theorem State.setMgtSource_waits (src : ClkSrc) : (s.setMgtSource src).waits = s.waits := by
  unfold State.setMgtSource; simp

/-! ### Watchdog -/

@[simp ↓] theorem State.wdtGrace_waits : s.wdtGrace.waits = s.waits := by unfold State.wdtGrace; simp
@[simp ↓] theorem State.wdtStartAt_waits (c : Nat) (hw : Bool) : (s.wdtStartAt c hw).waits = s.waits := by
  unfold State.wdtStartAt; simp
@[simp ↓] theorem State.wdtCtrlWrite_waits (who : Who) (v : Word) : (s.wdtCtrlWrite who v).waits = s.waits := by
  unfold State.wdtCtrlWrite; simp
@[simp ↓] theorem State.wdtCfgWrite_waits (who : Who) (v : Word) : (s.wdtCfgWrite who v).waits = s.waits := by
  unfold State.wdtCfgWrite; simp
@[simp ↓] theorem State.wdtMaskWrite_waits (who : Who) (v : Word) : (s.wdtMaskWrite who v).waits = s.waits := by
  unfold State.wdtMaskWrite; simp
@[simp ↓] theorem State.wdtStatusWrite_waits (v : Word) : (s.wdtStatusWrite v).waits = s.waits := by
  unfold State.wdtStatusWrite; simp
@[simp ↓] theorem State.wdtWindowOpen_waits : s.wdtWindowOpen.waits = s.waits := by unfold State.wdtWindowOpen; simp
@[simp ↓] theorem State.wdtFreeze_waits : s.wdtFreeze.waits = s.waits := by unfold State.wdtFreeze; simp
@[simp ↓] theorem State.wdtThaw_waits : s.wdtThaw.waits = s.waits := by unfold State.wdtThaw; split <;> simp

/-! ### EventLedger -/

@[simp ↓] theorem State.evlAckWrite_waits (who : Who) (v : Word) : (s.evlAckWrite who v).waits = s.waits := by
  unfold State.evlAckWrite; simp
@[simp ↓] theorem State.evlFwEntryWrite_waits (who : Who) (v : Word) : (s.evlFwEntryWrite who v).waits = s.waits := by
  unfold State.evlFwEntryWrite; (repeat' split) <;> simp
@[simp ↓] theorem State.evlHoldoffEnd_waits : s.evlHoldoffEnd.waits = s.waits := by
  unfold State.evlHoldoffEnd; split <;> simp
@[simp ↓] theorem State.storeSummary_waits (src : Nat) (body : List Byte) :
    (s.storeSummary src body).waits = s.waits := by unfold State.storeSummary; simp

/-! ### Lanes -/

@[simp ↓] theorem State.alarm_waits (src kind unit : Nat) : (s.alarm src kind unit).waits = s.waits := by
  unfold State.alarm; simp
@[simp ↓] theorem State.setLane_waits (p : Nat) (l : Lane) : (s.setLane p l).waits = s.waits := by
  unfold State.setLane; simp
@[simp ↓] theorem State.loseFlight_waits (p : Nat) : (s.loseFlight p).waits = s.waits := by
  unfold State.loseFlight; dsimp only; (repeat' split) <;> simp
@[simp ↓] theorem State.failLane_waits (p cause : Nat) : (s.failLane p cause).waits = s.waits := by
  unfold State.failLane; simp
@[simp ↓] theorem State.remapLane_waits (p : Nat) : (s.remapLane p).waits = s.waits := by
  unfold State.remapLane; dsimp only; (repeat' split) <;> simp
@[simp ↓] theorem State.remapsAtFT_waits (t : Nat) : (s.remapsAtFT t).waits = s.waits := by unfold State.remapsAtFT; simp
@[simp ↓] theorem State.remapsNow_waits : s.remapsNow.waits = s.waits := by unfold State.remapsNow; simp
@[simp ↓] theorem State.assignLanes_waits (o : OutCfg) : (s.assignLanes o).waits = s.waits := by
  unfold State.assignLanes; simp
@[simp ↓] theorem State.trainLane_waits (p : Nat) : (s.trainLane p).waits = s.waits := by unfold State.trainLane; simp
@[simp ↓] theorem State.trainOffLanes_waits : s.trainOffLanes.waits = s.waits := by unfold State.trainOffLanes; simp
@[simp ↓] theorem State.lanesOff_waits : s.lanesOff.waits = s.waits := by unfold State.lanesOff; simp
@[simp ↓] theorem State.trainGo_waits (who : Who) : (s.trainGo who).waits = s.waits := by unfold State.trainGo; simp
@[simp ↓] theorem State.lanesOk_waits (mask : Nat) : (s.lanesOk mask).waits = s.waits := by unfold State.lanesOk; simp
@[simp ↓] theorem State.lanesFailReq_waits (mask : Nat) : (s.lanesFailReq mask).waits = s.waits := by
  unfold State.lanesFailReq; simp
@[simp ↓] theorem State.quadFail_waits (q : Nat) : (s.quadFail q).waits = s.waits := by unfold State.quadFail; simp
@[simp ↓] theorem State.quadOff_waits (q : Nat) : (s.quadOff q).waits = s.waits := by unfold State.quadOff; simp
@[simp ↓] theorem State.driverFault_waits (p kind : Nat) : (s.driverFault p kind).waits = s.waits := by
  unfold State.driverFault; simp
@[simp ↓] theorem State.eqWrite_waits (p : Nat) (v : Word) : (s.eqWrite p v).waits = s.waits := by
  unfold State.eqWrite; simp

/-! ### Sequencer -/

@[simp ↓] theorem State.planIgnored_waits (who : Who) (a : Nat) : (s.planIgnored who a).waits = s.waits := by
  unfold State.planIgnored; simp
@[simp ↓] theorem State.bankFails_waits (i cause errofs : Nat) (k : Option Nat) :
    (s.bankFails i cause errofs k).waits = s.waits := by unfold State.bankFails; simp
@[simp ↓] theorem State.bankInvalid_waits (i cause errofs : Nat) : (s.bankInvalid i cause errofs).waits = s.waits := by
  unfold State.bankInvalid; simp
@[simp ↓] theorem State.loadStart_waits (i : Nat) (kind : LoadKind) : (s.loadStart i kind).waits = s.waits := by
  unfold State.loadStart; simp
@[simp ↓] theorem State.loadFinish_waits (i : Nat) : (s.loadFinish i).waits = s.waits := by unfold State.loadFinish; simp
@[simp ↓] theorem State.loadCtrlWrite_waits (who : Who) (v : Word) : (s.loadCtrlWrite who v).waits = s.waits := by
  unfold State.loadCtrlWrite; dsimp only; (repeat' split) <;> simp
@[simp ↓] theorem State.loadDataWrite_waits (who : Who) (v : Word) : (s.loadDataWrite who v).waits = s.waits := by
  unfold State.loadDataWrite; split <;> simp
@[simp ↓] theorem State.flashHeaderRead_waits (err : Bool) : (s.flashHeaderRead err).waits = s.waits := by
  unfold State.flashHeaderRead; dsimp only; (repeat' split) <;> simp
@[simp ↓] theorem State.flashCopyDone_waits (err : Bool) : (s.flashCopyDone err).waits = s.waits := by
  unfold State.flashCopyDone; dsimp only; (repeat' split) <;> simp
@[simp ↓] theorem State.checkDone_waits (slot : List Byte → Option Nat) (must : Bool) :
    (s.checkDone slot must).waits = s.waits := by unfold State.checkDone; dsimp only; (repeat' split) <;> simp
@[simp ↓] theorem State.commitResult_waits (result cause : Nat) : (s.commitResult result cause).waits = s.waits := by
  unfold State.commitResult; simp
@[simp ↓] theorem State.endCommit_waits (result cause : Nat) : (s.endCommit result cause).waits = s.waits := by
  unfold State.endCommit; (repeat' split) <;> simp
@[simp ↓] theorem State.commitRequest_waits (bank when_ tb frame sec ns w : Nat) (origin : Option Nat) :
    (s.commitRequest bank when_ tb frame sec ns w origin).waits = s.waits := by unfold State.commitRequest; simp
@[simp ↓] theorem State.commitCancel_waits : s.commitCancel.waits = s.waits := by
  unfold State.commitCancel; split <;> simp
@[simp ↓] theorem State.commitCtrlWrite_waits (who : Who) (v : Word) : (s.commitCtrlWrite who v).waits = s.waits := by
  unfold State.commitCtrlWrite; simp
@[simp ↓] theorem State.tbStopped_waits (k : Nat) : (s.tbStopped k).waits = s.waits := by
  unfold State.tbStopped; (repeat' split) <;> simp
@[simp ↓] theorem State.freshBlack_waits (p : Nat → Bool) : (s.freshBlack p).waits = s.waits := by
  unfold State.freshBlack; simp
@[simp ↓] theorem State.trigMissed_waits : s.trigMissed.waits = s.waits := by unfold State.trigMissed; simp
@[simp ↓] theorem State.livePast_waits : s.livePast.waits = s.waits := by unfold State.livePast; simp

@[simp ↓] theorem State.stageEntry_waits (j : Nat) (e : Entry) : (s.stageEntry j e).waits = s.waits := by
  unfold State.stageEntry; simp
@[simp ↓] theorem State.liveCopy_waits : s.liveCopy.waits = s.waits := by unfold State.liveCopy; simp
@[simp ↓] theorem State.liveReject_waits (result : Nat) (bad : List Nat) :
    (s.liveReject result bad).waits = s.waits := by unfold State.liveReject; simp
@[simp ↓] theorem State.liveGo_waits (atFrame : Bool) (mask : Nat) : (s.liveGo atFrame mask).waits = s.waits := by
  unfold State.liveGo; simp
@[simp ↓] theorem State.liveCtrlWrite_waits (v : Word) : (s.liveCtrlWrite v).waits = s.waits := by
  unfold State.liveCtrlWrite; simp
@[simp ↓] theorem State.dropRealign_waits : s.dropRealign.waits = s.waits := by unfold State.dropRealign; simp
@[simp ↓] theorem State.alignAt_waits (ft : Nat) : (s.alignAt ft).waits = s.waits := by unfold State.alignAt; simp
@[simp ↓] theorem State.glMeasure_waits (sch : Option Sched) (e : Nat) : (s.glMeasure sch e).waits = s.waits := by
  unfold State.glMeasure; split <;> simp
@[simp ↓] theorem State.glPeriodUpdate_waits (e : Nat) : (s.glPeriodUpdate e).waits = s.waits := by
  unfold State.glPeriodUpdate; split <;> simp

/-! ### Converter -/

@[simp ↓] theorem State.setEnt_waits (k : Nat) (e : SliceEnt) : (s.setEnt k e).waits = s.waits := by
  unfold State.setEnt; simp
@[simp ↓] theorem State.setGrp_waits (key : Nat) (g : Grp) : (s.setGrp key g).waits = s.waits := by
  unfold State.setGrp; simp
@[simp ↓] theorem State.checkSpares_waits (key before : Nat) : (s.checkSpares key before).waits = s.waits := by
  unfold State.checkSpares; simp
@[simp ↓] theorem State.declareFail_waits (key pos : Nat) (spare : Option Nat) (cause : Nat) :
    (s.declareFail key pos spare cause).waits = s.waits := by unfold State.declareFail; simp
@[simp ↓] theorem State.stepOver_waits (key : Nat) : (s.stepOver key).waits = s.waits := by unfold State.stepOver; simp
@[simp ↓] theorem State.nextTarget_waits (key : Nat) : (s.nextTarget key).waits = s.waits := by
  unfold State.nextTarget; simp
@[simp ↓] theorem State.countCycles_waits : s.countCycles.waits = s.waits := by unfold State.countCycles; simp
@[simp ↓] theorem State.applySub_waits (p : PendSub) : (s.applySub p).waits = s.waits := by
  unfold State.applySub; dsimp only; (repeat' split) <;> simp
@[simp ↓] theorem State.applySubs_waits (due : List PendSub) : (s.applySubs due).waits = s.waits := by
  unfold State.applySubs; simp
@[simp ↓] theorem State.subsAtFT_waits (t : Nat) : (s.subsAtFT t).waits = s.waits := by unfold State.subsAtFT; simp
@[simp ↓] theorem State.subsNow_waits : s.subsNow.waits = s.waits := by unfold State.subsNow; simp
@[simp ↓] theorem State.retireGo_waits : s.retireGo.waits = s.waits := by unfold State.retireGo; simp
@[simp ↓] theorem State.rotateGroup_waits (fg : Bool) (key : Nat) : (s.rotateGroup fg key).waits = s.waits := by
  unfold State.rotateGroup; dsimp only; (repeat' split) <;> simp
@[simp ↓] theorem State.cnvAtSft_waits (fg : Bool) : (s.cnvAtSft fg).waits = s.waits := by unfold State.cnvAtSft; simp
@[simp ↓] theorem State.voidStep_waits (key : Nat) : (s.voidStep key).waits = s.waits := by unfold State.voidStep; simp

@[simp ↓] theorem State.mean2_waits (a b : Int) : (s.mean2 a b).2.waits = s.waits := by
  unfold State.mean2; split <;> simp
@[simp ↓] theorem State.takeMeas_waits (k key cnt : Nat) (m : Meas) : (s.takeMeas k key cnt m).waits = s.waits := by
  unfold State.takeMeas; simp
@[simp ↓] theorem State.measured_waits (key pos cnt : Nat) (spare : Option Nat) (m : Meas) :
    (s.measured key pos cnt spare m).waits = s.waits := by unfold State.measured; simp
@[simp ↓] theorem State.evalGroup_waits (cyc n key : Nat) (gm : Option GroupMeas) :
    (s.evalGroup cyc n key gm).waits = s.waits := by unfold State.evalGroup; dsimp only; (repeat' split) <;> simp
@[simp ↓] theorem State.rotationEvaluate_waits (meas : List GroupMeas) : (s.rotationEvaluate meas).waits = s.waits := by
  unfold State.rotationEvaluate; split <;> simp
@[simp ↓] theorem State.grefApply_waits (gh gl : Nat) : (s.grefApply gh gl).waits = s.waits := by
  unfold State.grefApply; simp
@[simp ↓] theorem State.cnvReadoutDone_waits : s.cnvReadoutDone.waits = s.waits := by unfold State.cnvReadoutDone; simp
@[simp ↓] theorem State.cnvSlot_waits (w : Win) (slot : Nat) (convs : List Conv) :
    (s.cnvSlot w slot convs).waits = s.waits := by unfold State.cnvSlot; simp
@[simp ↓] theorem State.tdacEnd_waits (result reps : Nat) : (s.tdacEnd result reps).waits = s.waits := by
  unfold State.tdacEnd; simp
@[simp ↓] theorem State.tdacRun_waits (x : Tdac) (t : Nat) : (s.tdacRun x t).waits = s.waits := by
  unfold State.tdacRun; simp
@[simp ↓] theorem State.tdacGo_waits (who : Who) : (s.tdacGo who).waits = s.waits := by unfold State.tdacGo; simp
@[simp ↓] theorem State.tdacStart_waits : s.tdacStart.waits = s.waits := by
  unfold State.tdacStart; (repeat' split) <;> simp
@[simp ↓] theorem State.tdacTry_waits : s.tdacTry.waits = s.waits := by unfold State.tdacTry; split <;> simp
@[simp ↓] theorem State.meanCode_waits (l : List Nat) : (s.meanCode l).2.waits = s.waits := by
  unfold State.meanCode; dsimp only; (repeat' split) <;> simp
@[simp ↓] theorem State.tdacColumn_waits (x : Tdac) (convs : List TdacConv) (c : Nat) :
    (s.tdacColumn x convs c).waits = s.waits := by unfold State.tdacColumn; simp
@[simp ↓] theorem State.tdacDone_waits (convs : List TdacConv) : (s.tdacDone convs).waits = s.waits := by
  unfold State.tdacDone; (repeat' split) <;> simp
@[simp ↓] theorem State.tdacAbort_waits : s.tdacAbort.waits = s.waits := by unfold State.tdacAbort; split <;> simp
@[simp ↓] theorem State.winRead_waits (who : Who) (a : Nat) : (s.winRead who a).2.waits = s.waits := by
  unfold State.winRead; (repeat' split) <;> simp
@[simp ↓] theorem State.winRefused_waits (who : Who) (a : Nat) : (s.winRefused who a).waits = s.waits := by
  unfold State.winRefused; simp
@[simp ↓] theorem State.winWrite_waits (who : Who) (a : Nat) (v : Word) (fg : Bool) :
    (s.winWrite who a v fg).waits = s.waits := by unfold State.winWrite; dsimp only; (repeat' split) <;> simp
@[simp ↓] theorem State.cnvCntClr_waits : s.cnvCntClr.waits = s.waits := by unfold State.cnvCntClr; simp
@[simp ↓] theorem State.cnvCtrlWrite_waits (who : Who) (v : Word) : (s.cnvCtrlWrite who v).waits = s.waits := by
  unfold State.cnvCtrlWrite; simp
theorem State.cnvWrite_waits (who : Who) (a : Nat) (v : Word) {t : State} (h : s.cnvWrite who a v = some t) :
    t.waits = s.waits := by
  unfold State.cnvWrite at h
  (repeat' split at h) <;> simp at h
  subst h
  simp

/-! ### Monitor -/

@[simp ↓] theorem State.setAcc_waits (c : Nat) (x : MonAcc) : (s.setAcc c x).waits = s.waits := by
  unfold State.setAcc; simp
@[simp ↓] theorem State.monRestart_waits : s.monRestart.waits = s.waits := by unfold State.monRestart; simp
@[simp ↓] theorem State.monTake_waits (sel filt : Nat) (ft again : Bool) :
    (s.monTake sel filt ft again).waits = s.waits := by unfold State.monTake; simp
@[simp ↓] theorem State.monApply_waits (again : Bool) : (s.monApply again).waits = s.waits := by
  unfold State.monApply; simp
@[simp ↓] theorem State.monAtFT_waits : s.monAtFT.waits = s.waits := by unfold State.monAtFT; simp
@[simp ↓] theorem State.monSet_waits (a v : Nat) (who : Who) : (s.monSet a v who).waits = s.waits := by
  unfold State.monSet; simp
@[simp ↓] theorem State.monLand_waits (c : Nat) (k : MonKind) (code : Int) : (s.monLand c k code).waits = s.waits := by
  unfold State.monLand; simp
@[simp ↓] theorem State.monInvalid_waits (c : Nat) : (s.monInvalid c).waits = s.waits := by unfold State.monInvalid; simp
@[simp ↓] theorem State.monOverrange_waits (c : Nat) (code : Int) : (s.monOverrange c code).waits = s.waits := by
  unfold State.monOverrange; simp
@[simp ↓] theorem State.monCode_waits (g : Nat) (raw : Int) : (s.monCode g raw).2.waits = s.waits := by
  unfold State.monCode; dsimp only; (repeat' split) <;> simp
@[simp ↓] theorem State.monOutput_waits (raw : Int) : (s.monOutput raw).waits = s.waits := by
  unfold State.monOutput; simp
@[simp ↓] theorem State.monClear_waits (mask : Nat) : (s.monClear mask).waits = s.waits := by
  unfold State.monClear; split <;> simp
@[simp ↓] theorem State.monCalGo_waits : s.monCalGo.waits = s.waits := by unfold State.monCalGo; simp
@[simp ↓] theorem State.monFactors_waits (g : Nat) (runs : List (Int × Int × Int × Int)) :
    (s.monFactors g runs).waits = s.waits := by
  induction runs generalizing s g with
  | nil => rfl
  | cons x r ih => simp [State.monFactors, ih]
@[simp ↓] theorem State.monCalEnd_waits (runs : List (Int × Int × Int × Int)) :
    (s.monCalEnd runs).1.waits = s.waits := by unfold State.monCalEnd; split <;> simp
@[simp ↓] theorem State.monSumLoRead_waits (who : Who) (c : Nat) : (s.monSumLoRead who c).2.waits = s.waits := by
  unfold State.monSumLoRead; simp
@[simp ↓] theorem State.monCtrlWrite_waits (v : Word) : (s.monCtrlWrite v).waits = s.waits := by
  unfold State.monCtrlWrite; simp
theorem State.monWrite_waits (who : Who) (a : Nat) (v : Word) {t : State} (h : s.monWrite who a v = some t) :
    t.waits = s.waits := by unfold State.monWrite at h; (repeat' split at h) <;> simp at h <;> subst h <;> simp

/-! ### ThermalBase -/

@[simp ↓] theorem State.setSensor_waits (i : Nat) (x : Sensor) : (s.setSensor i x).waits = s.waits := by
  unfold State.setSensor; simp
@[simp ↓] theorem State.sensorFail_waits (i cause : Nat) : (s.sensorFail i cause).waits = s.waits := by
  unfold State.sensorFail; simp
@[simp ↓] theorem State.takeWindows_waits (wins : List SensorWin) : (s.takeWindows wins).waits = s.waits := by
  unfold State.takeWindows; simp
@[simp ↓] theorem State.sensorConds_waits (i : Nat) : (s.sensorConds i).waits = s.waits := by
  unfold State.sensorConds; dsimp only; (repeat' split) <;> simp
@[simp ↓] theorem State.noteGate_waits (mint : Bool) : (s.noteGate mint).waits = s.waits := by
  unfold State.noteGate; simp
@[simp ↓] theorem State.thmConds_waits : s.thmConds.waits = s.waits := by unfold State.thmConds; simp
@[simp ↓] theorem State.thmTimers_waits : s.thmTimers.waits = s.waits := by unfold State.thmTimers; simp
@[simp ↓] theorem State.thmPin_waits : s.thmPin.waits = s.waits := by unfold State.thmPin; simp
@[simp ↓] theorem State.thmTo_waits (st : ThmState) : (s.thmTo st).waits = s.waits := by unfold State.thmTo; simp
@[simp ↓] theorem State.thmSafe_waits : s.thmSafe.waits = s.waits := by unfold State.thmSafe; simp

/-! ### CalBase -/

@[simp ↓] theorem State.calEvent_waits (bit detail : Nat) : (s.calEvent bit detail).waits = s.waits := by
  unfold State.calEvent; simp
@[simp ↓] theorem State.calResult_waits (kind code cause : Nat) (dis : Option Nat) :
    (s.calResult kind code cause dis).waits = s.waits := by unfold State.calResult; simp
@[simp ↓] theorem State.saveFails_waits (detail : Nat) : (s.saveFails detail).waits = s.waits := by
  unfold State.saveFails; simp
@[simp ↓] theorem State.calAbort_waits (cause : Nat) : (s.calAbort cause).waits = s.waits := by
  unfold State.calAbort; split <;> simp
@[simp ↓] theorem State.eqRelease_waits (ps : List Nat) : (s.eqRelease ps).waits = s.waits := by
  unfold State.eqRelease; simp
@[simp ↓] theorem State.eqRestore_waits : s.eqRestore.waits = s.waits := by unfold State.eqRestore; split <;> simp
@[simp ↓] theorem State.calAbortKind_waits (kind cause : Nat) : (s.calAbortKind kind cause).waits = s.waits := by
  unfold State.calAbortKind; simp
@[simp ↓] theorem State.calMode_waits (m : Mode) : (s.calMode m).waits = s.waits := by unfold State.calMode; simp

/-! ### Timing -/

@[simp ↓] theorem State.setTpo_waits (i : Nat) (x : Tpo) : (s.setTpo i x).waits = s.waits := by unfold State.setTpo; simp
@[simp ↓] theorem State.placeTpo_waits (i : Nat) (how : Jump) : (s.placeTpo i how).waits = s.waits := by
  unfold State.placeTpo; simp
@[simp ↓] theorem State.replaceTpos_waits (k : Nat) (how : Jump) : (s.replaceTpos k how).waits = s.waits := by
  unfold State.replaceTpos; simp
@[simp ↓] theorem State.armTpo_waits (i : Nat) (who : Who) : (s.armTpo i who).waits = s.waits := by
  unfold State.armTpo; simp
@[simp ↓] theorem State.disarmTpo_waits (i : Nat) : (s.disarmTpo i).waits = s.waits := by unfold State.disarmTpo; simp
@[simp ↓] theorem State.tpoCtrlWrite_waits (i : Nat) (who : Who) (v : Word) :
    (s.tpoCtrlWrite i who v).waits = s.waits := by unfold State.tpoCtrlWrite; simp
@[simp ↓] theorem State.tbIncWrite_waits (k : Nat) (v : Word) : (s.tbIncWrite k v).waits = s.waits := by
  unfold State.tbIncWrite; simp
@[simp ↓] theorem State.tbJump_waits (k v : Nat) : (s.tbJump k v).waits = s.waits := by unfold State.tbJump; simp
@[simp ↓] theorem State.tbSet_waits (k : Nat) : (s.tbSet k).waits = s.waits := by unfold State.tbSet; simp
@[simp ↓] theorem State.tbStep_waits (k : Nat) : (s.tbStep k).waits = s.waits := by unfold State.tbStep; simp
@[simp ↓] theorem State.tbCtrlWrite_waits (k : Nat) (v : Word) : (s.tbCtrlWrite k v).waits = s.waits := by
  unfold State.tbCtrlWrite; simp
@[simp ↓] theorem State.tbSecLoRead_waits (who : Who) (k : Nat) : (s.tbSecLoRead who k).2.waits = s.waits := by
  unfold State.tbSecLoRead; simp
@[simp ↓] theorem State.setCap_waits (x : Nat) (c : Cap) : (s.setCap x c).waits = s.waits := by unfold State.setCap; simp
@[simp ↓] theorem State.captureEdge_waits (x at_ : Nat) (falling : Bool) :
    (s.captureEdge x at_ falling).waits = s.waits := by unfold State.captureEdge; simp
@[simp ↓] theorem State.capturePop_waits (who : Who) (x : Nat) : (s.capturePop who x).2.waits = s.waits := by
  unfold State.capturePop; simp
@[simp ↓] theorem State.capCtrlWrite_waits (x : Nat) (v : Word) : (s.capCtrlWrite x v).waits = s.waits := by
  unfold State.capCtrlWrite; simp
@[simp ↓] theorem State.xchkSample_waits : s.xchkSample.waits = s.waits := by unfold State.xchkSample; simp
@[simp ↓] theorem State.tpoStatusWrite_waits (i : Nat) (v : Word) : (s.tpoStatusWrite i v).waits = s.waits := by
  unfold State.tpoStatusWrite; simp

/-! ### FabBase -/

@[simp ↓] theorem State.setFport_waits (p : Nat) (x : FabPort) : (s.setFport p x).waits = s.waits := by
  unfold State.setFport; simp
@[simp ↓] theorem State.fabRefresh_waits : s.fabRefresh.waits = s.waits := by unfold State.fabRefresh; simp
@[simp ↓] theorem State.enqueue_waits (p : Nat) (t : FabTx) : (s.enqueue p t).waits = s.waits := by
  unfold State.enqueue; simp
@[simp ↓] theorem State.noRoute_waits : s.noRoute.waits = s.waits := by unfold State.noRoute; simp
@[simp ↓] theorem State.routeTx_waits (dst : Nat) (t : FabTx) : (s.routeTx dst t).waits = s.waits := by
  unfold State.routeTx; simp
@[simp ↓] theorem State.treeTx_waits (except : Nat) (t : FabTx) : (s.treeTx except t).waits = s.waits := by
  unfold State.treeTx; simp
@[simp ↓] theorem State.nextMid_waits : s.nextMid.2.waits = s.waits := by unfold State.nextMid; simp
@[simp ↓] theorem State.sendCtl_waits (dst msg : Nat) (payload : List Byte) :
    (s.sendCtl dst msg payload).waits = s.waits := by unfold State.sendCtl; split <;> simp
@[simp ↓] theorem State.sendBcast_waits (msg : Nat) (payload : List Byte) :
    (s.sendBcast msg payload).waits = s.waits := by unfold State.sendBcast; split <;> simp
@[simp ↓] theorem State.sendLocal_waits (p msg : Nat) (payload : List Byte) :
    (s.sendLocal p msg payload).waits = s.waits := by unfold State.sendLocal; simp
@[simp ↓] theorem State.ttlDrop_waits : s.ttlDrop.waits = s.waits := by unfold State.ttlDrop; simp

/-! ### Ptp -/

@[simp ↓] theorem State.setDom_waits (d : Nat) (x : Domain) : (s.setDom d x).waits = s.waits := by
  unfold State.setDom; simp
@[simp ↓] theorem State.setPdelay_waits (p d : Nat) (x : PDelay) : (s.setPdelay p d x).waits = s.waits := by
  unfold State.setPdelay; simp
@[simp ↓] theorem State.ptpDrop_waits (b : List Byte) : (s.ptpDrop b).waits = s.waits := by unfold State.ptpDrop; simp
@[simp ↓] theorem State.ptpStamp_waits (d x : Nat) : (s.ptpStamp d x).2.waits = s.waits := by unfold State.ptpStamp; simp
@[simp ↓] theorem State.ingress_waits (p d : Nat) : (s.ingress p d).2.waits = s.waits := by unfold State.ingress; simp
@[simp ↓] theorem State.egress_waits (p d : Nat) : (s.egress p d).2.waits = s.waits := by unfold State.egress; simp
@[simp ↓] theorem State.toMc1_waits (d : Nat) (b : List Byte) (stamp path : Int) :
    (s.toMc1 d b stamp path).waits = s.waits := by unfold State.toMc1; simp
@[simp ↓] theorem State.domMove_waits (d : Nat) (x : Domain) (mark : Bool) : (s.domMove d x mark).waits = s.waits := by
  unfold State.domMove; simp
@[simp ↓] theorem State.domCfgWrite_waits (d : Nat) (v : Word) : (s.domCfgWrite d v).waits = s.waits := by
  unfold State.domCfgWrite; simp
@[simp ↓] theorem State.domCount_waits (d : Nat) (x : Domain) (p : Int) : (s.domCount d x p).waits = s.waits := by
  unfold State.domCount; split <;> simp
@[simp ↓] theorem State.domSync_waits (d port : Nat) (p : Int) : (s.domSync d port p).waits = s.waits := by
  unfold State.domSync; dsimp only; (repeat' split) <;> simp
@[simp ↓] theorem State.domLost_waits (d : Nat) : (s.domLost d).waits = s.waits := by unfold State.domLost; simp
@[simp ↓] theorem State.syncIn_waits (p d : Nat) (b : List Byte) : (s.syncIn p d b).1.waits = s.waits := by
  unfold State.syncIn; simp
@[simp ↓] theorem State.dropPend_waits (e : PtpPend) : (s.dropPend e).waits = s.waits := by unfold State.dropPend; simp
@[simp ↓] theorem State.pushPend_waits (e : PtpPend) : (s.pushPend e).waits = s.waits := by
  unfold State.pushPend; dsimp only; (repeat' split) <;> simp
@[simp ↓] theorem State.pendEvict_waits : s.pendEvict.waits = s.waits := by unfold State.pendEvict; split <;> simp
@[simp ↓] theorem State.ptpOut_waits (p : Nat) (t : FabTx) : (s.ptpOut p t).2.waits = s.waits := by
  unfold State.ptpOut; dsimp only; (repeat' split) <;> simp
@[simp ↓] theorem State.pdFail_waits (p d : Nat) : (s.pdFail p d).waits = s.waits := by unfold State.pdFail; simp
@[simp ↓] theorem State.pdDue_waits (p d : Nat) : (s.pdDue p d).waits = s.waits := by unfold State.pdDue; split <;> simp
@[simp ↓] theorem State.pdTimeout_waits (p d : Nat) : (s.pdTimeout p d).waits = s.waits := by
  unfold State.pdTimeout; simp
@[simp ↓] theorem State.pdSend_waits (p d : Nat) : (s.pdSend p d).waits = s.waits := by unfold State.pdSend; simp
@[simp ↓] theorem State.pdAnswer_waits (p d : Nat) (b : List Byte) : (s.pdAnswer p d b).waits = s.waits := by
  unfold State.pdAnswer; simp
@[simp ↓] theorem State.pdComplete_waits (p d : Nat) : (s.pdComplete p d).waits = s.waits := by
  unfold State.pdComplete; dsimp only; (repeat' split) <;> simp
@[simp ↓] theorem State.pdResp_waits (p d : Nat) (b : List Byte) : (s.pdResp p d b).waits = s.waits := by
  unfold State.pdResp; simp
@[simp ↓] theorem State.pdFollow_waits (p d : Nat) (b : List Byte) : (s.pdFollow p d b).waits = s.waits := by
  unfold State.pdFollow; dsimp only; (repeat' split) <;> simp
@[simp ↓] theorem State.pdDown_waits (p : Nat) : (s.pdDown p).waits = s.waits := by unfold State.pdDown; simp
@[simp ↓] theorem State.ptpReceive_waits (p : Nat) (b : List Byte) : (s.ptpReceive p b).waits = s.waits := by
  unfold State.ptpReceive; dsimp only; (repeat' split) <;> simp
theorem State.timeWrite_waits (who : Who) (a : Nat) (v : Word) {t : State} (h : s.timeWrite who a v = some t) :
    t.waits = s.waits := by
  unfold State.timeWrite at h
  dsimp only at h
  (repeat' split at h) <;> cases h <;> simp

/-! ### Rig -/

@[simp ↓] theorem State.rigCheck_waits : s.rigCheck.waits = s.waits := by unfold State.rigCheck; simp
@[simp ↓] theorem State.rigLate_waits (ack : Bool) : (s.rigLate ack).waits = s.waits := by unfold State.rigLate; simp
@[simp ↓] theorem State.rigNote_waits (ack : Bool) : (s.rigNote ack).waits = s.waits := by unfold State.rigNote; simp
@[simp ↓] theorem State.rigAnswered_waits (f : State → State) (hf : ∀ a, (f a).waits = a.waits) :
    (s.rigAnswered f).waits = s.waits := by
  unfold State.rigAnswered
  split
  · split <;> simp [hf]
  · exact hf s
@[simp ↓] theorem State.rigAckTake_waits (a result : Nat) (s : State) : (s.rigAckTake a result).waits = s.waits := by
  unfold State.rigAckTake; simp
@[simp ↓] theorem State.rigAck_waits (a result : Nat) : (s.rigAck a result).waits = s.waits := by
  unfold State.rigAck; simp
@[simp ↓] theorem State.rigDoneTake_waits (a result : Nat) (s : State) : (s.rigDoneTake a result).waits = s.waits := by
  unfold State.rigDoneTake; simp
@[simp ↓] theorem State.rigDone_waits (a result : Nat) : (s.rigDone a result).waits = s.waits := by
  unfold State.rigDone; simp
@[simp ↓] theorem State.rigSend_waits (x : RigAnswer) : (s.rigSend x).waits = s.waits := by unfold State.rigSend; simp
@[simp ↓] theorem State.rigFlush_waits : s.rigFlush.waits = s.waits := by unfold State.rigFlush; simp
@[simp ↓] theorem State.rigReply_waits (origin result cause : Nat) :
    (s.rigReply origin result cause).waits = s.waits := by unfold State.rigReply; simp
@[simp ↓] theorem State.rigTarget_waits (origin bank tb sec ns id : Nat) :
    (s.rigTarget origin bank tb sec ns id).waits = s.waits := by unfold State.rigTarget; simp
@[simp ↓] theorem State.rigCommitMsg_waits (b : List Byte) : (s.rigCommitMsg b).waits = s.waits := by
  unfold State.rigCommitMsg; simp
@[simp ↓] theorem State.rigCancelAt_waits (origin : Nat) : (s.rigCancelAt origin).waits = s.waits := by
  unfold State.rigCancelAt; split <;> simp
@[simp ↓] theorem State.rigGo_waits : s.rigGo.waits = s.waits := by unfold State.rigGo; simp
@[simp ↓] theorem State.rigCancel_waits : s.rigCancel.waits = s.waits := by unfold State.rigCancel; simp
@[simp ↓] theorem State.rigCtrlWrite_waits (v : Word) : (s.rigCtrlWrite v).waits = s.waits := by
  unfold State.rigCtrlWrite; simp
@[simp ↓] theorem State.rigTimeout_waits : s.rigTimeout.waits = s.waits := by unfold State.rigTimeout; simp

/-! ### Discovery -/

@[simp ↓] theorem State.applyTables_waits (addr gen root tree parent : Nat) (routes : List (Nat × Route)) :
    (s.applyTables addr gen root tree parent routes).waits = s.waits := by unfold State.applyTables; simp
@[simp ↓] theorem State.resendLocal_waits (p : Nat) (b : List Byte) : (s.resendLocal p b).waits = s.waits := by
  unfold State.resendLocal; simp
@[simp ↓] theorem State.assignMsg_waits (b : List Byte) : (s.assignMsg b).waits = s.waits := by
  unfold State.assignMsg; simp
@[simp ↓] theorem State.assignSend_waits : s.assignSend.waits = s.waits := by
  unfold State.assignSend; dsimp only; (repeat' split) <;> simp
@[simp ↓] theorem State.assignPop_waits (lost : Bool) : (s.assignPop lost).waits = s.waits := by
  unfold State.assignPop; simp
@[simp ↓] theorem State.assignAck_waits (b : List Byte) : (s.assignAck b).waits = s.waits := by
  unfold State.assignAck; simp
@[simp ↓] theorem State.assignTimeout_waits : s.assignTimeout.waits = s.waits := by unfold State.assignTimeout; simp
@[simp ↓] theorem State.newTables_waits : s.newTables.waits = s.waits := by
  unfold State.newTables; dsimp only; (repeat' split) <;> simp
@[simp ↓] theorem State.discFinish_waits : s.discFinish.waits = s.waits := by unfold State.discFinish; simp
@[simp ↓] theorem State.probeSend_waits (x : Probe) : (s.probeSend x).waits = s.waits := by
  unfold State.probeSend; split <;> simp
@[simp ↓] theorem State.discNext_waits : s.discNext.waits = s.waits := by
  unfold State.discNext; dsimp only; (repeat' split) <;> simp
@[simp ↓] theorem State.discStart_waits (rank : Nat) (fresh : Bool) : (s.discStart rank fresh).waits = s.waits := by
  unfold State.discStart; simp
@[simp ↓] theorem State.discFail_waits : s.discFail.waits = s.waits := by unfold State.discFail; simp
@[simp ↓] theorem State.rootYield_waits : s.rootYield.waits = s.waits := by unfold State.rootYield; simp
@[simp ↓] theorem State.conflict_waits (k n : Nat) : (s.conflict k n).waits = s.waits := by unfold State.conflict; simp
@[simp ↓] theorem State.probeTimeout_waits : s.probeTimeout.waits = s.waits := by
  unfold State.probeTimeout; split <;> simp
@[simp ↓] theorem State.probeMsg_waits (p : Nat) (b : List Byte) : (s.probeMsg p b).waits = s.waits := by
  unfold State.probeMsg; simp
@[simp ↓] theorem State.reportAt_waits (x : Probe) (b : List Byte) : (s.reportAt x b).waits = s.waits := by
  unfold State.reportAt; simp
@[simp ↓] theorem State.reportMsg_waits (p : Nat) (b : List Byte) : (s.reportMsg p b).waits = s.waits := by
  unfold State.reportMsg; dsimp only; (repeat' split) <;> simp
@[simp ↓] theorem State.rootLink_waits (n p : Nat) (up : Bool) : (s.rootLink n p up).waits = s.waits := by
  unfold State.rootLink; simp
@[simp ↓] theorem State.linkEventMsg_waits (b : List Byte) : (s.linkEventMsg b).waits = s.waits := by
  unfold State.linkEventMsg; split <;> simp
@[simp ↓] theorem State.tellRoot_waits (p : Nat) (up : Bool) : (s.tellRoot p up).waits = s.waits := by
  unfold State.tellRoot; simp
@[simp ↓] theorem State.partitionSet_waits : s.partitionSet.waits = s.waits := by unfold State.partitionSet; simp
@[simp ↓] theorem State.fabCtrlActs_waits (v : Word) : (s.fabCtrlActs v).waits = s.waits := by
  unfold State.fabCtrlActs; simp

/-! ### Stripe -/

@[simp ↓] theorem State.setDp_waits (d : Nat) (x : Datapath) : (s.setDp d x).waits = s.waits := by
  unfold State.setDp; simp
@[simp ↓] theorem State.strWarn_waits (d mask : Nat) : (s.strWarn d mask).waits = s.waits := by
  unfold State.strWarn; simp
@[simp ↓] theorem State.strCmdEnd_waits (r : Nat) : (s.strCmdEnd r).waits = s.waits := by unfold State.strCmdEnd; simp
@[simp ↓] theorem State.freshBlackAll_waits : s.freshBlackAll.waits = s.waits := by unfold State.freshBlackAll; simp
@[simp ↓] theorem State.stripeFail_waits (d : Nat) : (s.stripeFail d).waits = s.waits := by unfold State.stripeFail; simp
@[simp ↓] theorem State.damageFrame_waits (n : Nat) : (s.damageFrame n).waits = s.waits := by
  unfold State.damageFrame; simp
@[simp ↓] theorem State.flagLine_waits (n key j b0 : Nat) : (s.flagLine n key j b0).waits = s.waits := by
  unfold State.flagLine; simp
@[simp ↓] theorem State.testGo_waits (d : Nat) : (s.testGo d).waits = s.waits := by unfold State.testGo; simp
@[simp ↓] theorem State.clampPath_waits (r : Rd) (settling : Bool) (stripe bank path : Nat) :
    (s.clampPath r settling stripe bank path).waits = s.waits := by unfold State.clampPath; simp
@[simp ↓] theorem State.defOrder_waits (r : Rd) (stripe : Nat) : (s.defOrder r stripe).waits = s.waits := by
  unfold State.defOrder; simp
@[simp ↓] theorem State.clampAll_waits (f : Frame) (j : Nat) (settling : Bool) :
    (s.clampAll f j settling).waits = s.waits := by unfold State.clampAll; simp

/-! ### Shape -/

@[simp ↓] theorem State.modFrame_waits (n : Nat) (f : Frame → Frame) : (s.modFrame n f).waits = s.waits := by
  unfold State.modFrame; simp
@[simp ↓] theorem State.overrun_waits (kind : Nat) (units : List Nat) (f : Frame) (sub : Nat) :
    (s.overrun kind units f sub).waits = s.waits := by unfold State.overrun; simp
@[simp ↓] theorem State.cutEmission_waits (n : Nat) (twin : Bool) : (s.cutEmission n twin).waits = s.waits := by
  unfold State.cutEmission; split <;> simp
@[simp ↓] theorem State.writerReaches_waits (n buf outRow stripe : Nat) :
    (s.writerReaches n buf outRow stripe).waits = s.waits := by unfold State.writerReaches; simp
@[simp ↓] theorem State.countLine_waits (d : Nat) (x : LinePx) : (s.countLine d x).waits = s.waits := by
  unfold State.countLine; simp
@[simp ↓] theorem State.abandonLine_waits (n key j stripe : Nat) : (s.abandonLine n key j stripe).waits = s.waits := by
  unfold State.abandonLine; simp
@[simp ↓] theorem State.countHeld_waits (d held brk : Nat) : (s.countHeld d held brk).waits = s.waits := by
  unfold State.countHeld; simp
@[simp ↓] theorem State.finishAbandoned_waits (f : Frame) (key j stripe : Nat) :
    (s.finishAbandoned f key j stripe).waits = s.waits := by unfold State.finishAbandoned; simp
@[simp ↓] theorem State.procOb_waits (r : Rd) (bank j : Nat) : (s.procOb r bank j).waits = s.waits := by
  unfold State.procOb; simp
@[simp ↓] theorem State.latchCounters_waits : s.latchCounters.waits = s.waits := by unfold State.latchCounters; simp
@[simp ↓] theorem State.latchCentroid_waits (f : Frame) : (s.latchCentroid f).waits = s.waits := by
  unfold State.latchCentroid; simp
@[simp ↓] theorem State.basesAtFT_waits : s.basesAtFT.waits = s.waits := by unfold State.basesAtFT; simp
@[simp ↓] theorem State.deliverStat_waits (n : Nat) (late : Bool) : (s.deliverStat n late).waits = s.waits := by
  unfold State.deliverStat; dsimp only; (repeat' split) <;> simp
@[simp ↓] theorem State.statDelivery_waits : s.statDelivery.waits = s.waits := by
  unfold State.statDelivery; split <;> simp
@[simp ↓] theorem State.statCtrlWrite_waits (v : Word) : (s.statCtrlWrite v).waits = s.waits := by
  unfold State.statCtrlWrite; simp
theorem Str.setFrozen_takes (x : Str) (who : Who) (c : Option CentReg) : (x.setFrozen who c).takes = x.takes := by
  cases who <;> rfl
theorem Str.setFrozen_switches (x : Str) (who : Who) (c : Option CentReg) :
    (x.setFrozen who c).switches = x.switches := by cases who <;> rfl
@[simp ↓] theorem State.centRead_waits (who : Who) (a : Nat) : (s.centRead who a).2.waits = s.waits := by
  unfold State.centRead; (repeat' split) <;> simp [Str.setFrozen_takes, Str.setFrozen_switches]

/-! ### FabProxy -/

@[simp ↓] theorem State.fabBasesCheck_waits : s.fabBasesCheck.waits = s.waits := by unfold State.fabBasesCheck; simp
@[simp ↓] theorem State.fabBasesNow_waits : s.fabBasesNow.waits = s.waits := by unfold State.fabBasesNow; simp
@[simp ↓] theorem State.proxyDrop_waits (a : Nat) : (s.proxyDrop a).waits = s.waits := by unfold State.proxyDrop; simp
@[simp ↓] theorem State.proxyQueue_waits (p : Nat) (b : List Byte) : (s.proxyQueue p b).waits = s.waits := by
  unfold State.proxyQueue; simp
@[simp ↓] theorem State.offerProxy_waits (f : Frame) : (s.offerProxy f).waits = s.waits := by
  unfold State.offerProxy; split <;> simp
@[simp ↓] theorem State.bulkCtrlWrite_waits (v : Word) : (s.bulkCtrlWrite v).waits = s.waits := by
  unfold State.bulkCtrlWrite; simp
@[simp ↓] theorem State.bulkEnd_waits (b : List Byte) : (s.bulkEnd b).waits = s.waits := by unfold State.bulkEnd; simp

/-! ### Fabric -/

@[simp ↓] theorem State.linkinfo_waits (p peerPort peerAddr : Nat) (valid : Bool) (serial : Nat) :
    (s.linkinfo p peerPort peerAddr valid serial).waits = s.waits := by unfold State.linkinfo; simp
@[simp ↓] theorem State.linkinfoSend_waits (p : Nat) : (s.linkinfoSend p).waits = s.waits := by
  unfold State.linkinfoSend; simp
@[simp ↓] theorem State.portUpEvent_waits (p : Nat) : (s.portUpEvent p).waits = s.waits := by
  unfold State.portUpEvent; dsimp only; (repeat' split) <;> simp
@[simp ↓] theorem State.switchRoutes_waits (p : Nat) : (s.switchRoutes p).waits = s.waits := by
  unfold State.switchRoutes; simp
@[simp ↓] theorem State.ctlDrop_waits : s.ctlDrop.waits = s.waits := by unfold State.ctlDrop; simp
@[simp ↓] theorem State.reroute_waits (t : FabTx) : (s.reroute t).waits = s.waits := by unfold State.reroute; simp
@[simp ↓] theorem State.portLost_waits (p : Nat) : (s.portLost p).waits = s.waits := by unfold State.portLost; simp
@[simp ↓] theorem State.portFall_waits (p : Nat) : (s.portFall p).waits = s.waits := by
  unfold State.portFall; dsimp only; (repeat' split) <;> simp
@[simp ↓] theorem State.portDown_waits (p : Nat) (lockLost : Bool) : (s.portDown p lockLost).waits = s.waits := by
  unfold State.portDown; dsimp only; (repeat' split) <;> simp
@[simp ↓] theorem State.fabCheck_waits : s.fabCheck.waits = s.waits := by unfold State.fabCheck; simp
@[simp ↓] theorem State.fabCtrlWrite_waits (v : Word) : (s.fabCtrlWrite v).waits = s.waits := by
  unfold State.fabCtrlWrite; simp
@[simp ↓] theorem State.fabStart_waits : s.fabStart.waits = s.waits := by unfold State.fabStart; simp
@[simp ↓] theorem State.onWire_waits (p : Nat) (x : FabPort) (body : List Byte) :
    (s.onWire p x body).waits = s.waits := by unfold State.onWire; simp
@[simp ↓] theorem State.sendAcked_waits (p : Nat) (x : FabPort) (t : FabTx) (fseq : Nat) :
    (s.sendAcked p x t fseq).waits = s.waits := by unfold State.sendAcked; simp
@[simp ↓] theorem State.frameSend_waits (p : Nat) : (s.frameSend p).waits = s.waits := by
  unfold State.frameSend; dsimp only; (repeat' split) <;> simp
@[simp ↓] theorem State.repeatTx_waits (p : Nat) (u : Unacked) : (s.repeatTx p u).waits = s.waits := by
  unfold State.repeatTx; simp
@[simp ↓] theorem State.ackBlock_waits (p cls fseq : Nat) : (s.ackBlock p cls fseq).waits = s.waits := by
  unfold State.ackBlock; dsimp only; (repeat' split) <;> simp
@[simp ↓] theorem State.nakBlock_waits (p cls fseq : Nat) : (s.nakBlock p cls fseq).waits = s.waits := by
  unfold State.nakBlock; split <;> simp
@[simp ↓] theorem State.hopTimeout_waits (p : Nat) : (s.hopTimeout p).waits = s.waits := by
  unfold State.hopTimeout; split <;> simp
@[simp ↓] theorem State.midKeep_waits (src mid : Nat) : (s.midKeep src mid).waits = s.waits := by
  unfold State.midKeep; simp
@[simp ↓] theorem State.control_waits (p : Nat) (b : List Byte) : (s.control p b).waits = s.waits := by
  unfold State.control; dsimp only; (repeat' split) <;> simp
@[simp ↓] theorem State.forward_waits (b : List Byte) : (s.forward b).waits = s.waits := by
  unfold State.forward; split <;> simp
@[simp ↓] theorem State.forwardBcast_waits (p : Nat) (b : List Byte) : (s.forwardBcast p b).waits = s.waits := by
  unfold State.forwardBcast; split <;> simp
@[simp ↓] theorem State.badFrame_waits (p cls fseq : Nat) (crcBad : Bool) :
    (s.badFrame p cls fseq crcBad).waits = s.waits := by unfold State.badFrame; simp
@[simp ↓] theorem State.modeDropped_waits : s.modeDropped.waits = s.waits := by unfold State.modeDropped; simp
@[simp ↓] theorem State.summaryOut_waits (dst : Option Nat) (reason : Nat) :
    (s.summaryOut dst reason).waits = s.waits := by unfold State.summaryOut; split <;> simp
theorem State.fabWrite_waits (a : Nat) (v : Word) {t : State} (h : s.fabWrite a v = some t) : t.waits = s.waits := by
  unfold State.fabWrite at h
  split at h
  · obtain rfl := Option.some.inj h; simp
  · split at h
    · obtain rfl := Option.some.inj h; simp
    · cases h

/-! ### Link -/

@[simp ↓] theorem State.modEmit_waits (n : Nat) (twin : Bool) (g : Emit → Emit) :
    (s.modEmit n twin g).waits = s.waits := by unfold State.modEmit; simp
@[simp ↓] theorem State.sendMark_waits (p t : Nat) : (s.sendMark p t).waits = s.waits := by unfold State.sendMark; simp
@[simp ↓] theorem State.startPacket_waits (p t set type stream frame : Nat) (fields : List Byte) :
    (s.startPacket p t set type stream frame fields).waits = s.waits := by unfold State.startPacket; simp
@[simp ↓] theorem State.setChain_waits (c : Chain) : (s.setChain c).waits = s.waits := by unfold State.setChain; simp
@[simp ↓] theorem State.openChain_waits (twin : Bool) : (s.openChain twin).waits = s.waits := by
  unfold State.openChain; simp
@[simp ↓] theorem State.wantChain_waits (twin : Bool) : (s.wantChain twin).waits = s.waits := by
  unfold State.wantChain; simp
@[simp ↓] theorem State.beginChain_waits (f : Frame) (twin : Bool) : (s.beginChain f twin).waits = s.waits := by
  unfold State.beginChain; simp
@[simp ↓] theorem State.placeFrame_waits (f : Frame) (twin : Bool) : (s.placeFrame f twin).waits = s.waits := by
  unfold State.placeFrame; split <;> simp
@[simp ↓] theorem State.endSegment_waits (c : Chain) (close : Bool) : (s.endSegment c close).waits = s.waits := by
  unfold State.endSegment; simp
@[simp ↓] theorem State.closeChain_waits (c : Chain) : (s.closeChain c).waits = s.waits := by
  unfold State.closeChain; simp
@[simp ↓] theorem State.endChain_waits (twin : Bool) : (s.endChain twin).waits = s.waits := by
  unfold State.endChain; dsimp only; (repeat' split) <;> simp

@[simp ↓] theorem State.closeAll_waits : s.closeAll.waits = s.waits := by
  unfold State.closeAll
  exact foldl_keeps State.waits _ _ _ fun a c => by split <;> simp
@[simp ↓] theorem State.linkFrame_waits (f : Frame) (twin : Bool) : (s.linkFrame f twin).1.waits = s.waits := by
  unfold State.linkFrame; split <;> simp
@[simp ↓] theorem State.afterTrailer_waits (f : Frame) (twin : Bool) : (s.afterTrailer f twin).waits = s.waits := by
  unfold State.afterTrailer; split <;> simp
@[simp ↓] theorem State.sealCtrlWrite_waits (v : Word) : (s.sealCtrlWrite v).waits = s.waits := by
  unfold State.sealCtrlWrite; simp
@[simp ↓] theorem State.bypassMark_waits (n : Nat) (twin : Bool) : (s.bypassMark n twin).waits = s.waits := by
  unfold State.bypassMark; simp
@[simp ↓] theorem State.headerSend_waits : s.headerSend.waits = s.waits := by
  unfold State.headerSend; dsimp only; (repeat' split) <;> simp
@[simp ↓] theorem State.lineSend_waits : s.lineSend.waits = s.waits := by unfold State.lineSend; split <;> simp
@[simp ↓] theorem State.reconSend_waits : s.reconSend.waits = s.waits := by unfold State.reconSend; split <;> simp
@[simp ↓] theorem State.sendTrailer_waits (n : Nat) (twin : Bool) (p t : Nat) :
    (s.sendTrailer n twin p t).waits = s.waits := by unfold State.sendTrailer; dsimp only; (repeat' split) <;> simp
@[simp ↓] theorem State.trailerSend_waits : s.trailerSend.waits = s.waits := by unfold State.trailerSend; split <;> simp
@[simp ↓] theorem State.statSend_waits : s.statSend.waits = s.waits := by unfold State.statSend; (repeat' split) <;> simp
@[simp ↓] theorem State.sealSend_waits : s.sealSend.waits = s.waits := by
  unfold State.sealSend; dsimp only; (repeat' split) <;> simp
@[simp ↓] theorem State.markerSend_waits : s.markerSend.waits = s.waits := by unfold State.markerSend; split <;> simp
@[simp ↓] theorem State.linkDumpEnd_waits (r : LinkDumpResult) : (s.linkDumpEnd r).waits = s.waits := by
  unfold State.linkDumpEnd; simp
@[simp ↓] theorem State.dropDumpSet_waits : s.dropDumpSet.waits = s.waits := by unfold State.dropDumpSet; simp
@[simp ↓] theorem State.linkDumpGo_waits : s.linkDumpGo.waits = s.waits := by unfold State.linkDumpGo; simp
@[simp ↓] theorem State.dumpSend_waits : s.dumpSend.waits = s.waits := by
  unfold State.dumpSend; dsimp only; (repeat' split) <;> simp
@[simp ↓] theorem State.linkDumpDone_waits : s.linkDumpDone.waits = s.waits := by unfold State.linkDumpDone; simp
@[simp ↓] theorem State.linkDumpAbort_waits : s.linkDumpAbort.waits = s.waits := by unfold State.linkDumpAbort; simp
@[simp ↓] theorem State.lnkCntClr_waits : s.lnkCntClr.waits = s.waits := by unfold State.lnkCntClr; simp
@[simp ↓] theorem State.cutAll_waits (twin : Bool) : (s.cutAll twin).waits = s.waits := by
  unfold State.cutAll
  refine foldl_keeps State.waits _ _ _ fun a f => ?_
  dsimp only
  split
  · rfl
  · split <;> simp
@[simp ↓] theorem State.linkSafe_waits : s.linkSafe.waits = s.waits := by unfold State.linkSafe; simp
@[simp ↓] theorem State.lnkCtrlWrite_waits (who : Who) (v : Word) : (s.lnkCtrlWrite who v).waits = s.waits := by
  unfold State.lnkCtrlWrite; simp
theorem State.lnkWrite_waits (who : Who) (a : Nat) (v : Word) {t : State} (h : s.lnkWrite who a v = some t) :
    t.waits = s.waits := by unfold State.lnkWrite at h; (repeat' split at h) <;> simp at h <;> subst h <;> simp

/-! ### Vault -/

@[simp ↓] theorem State.vaultSense_waits (ovr : List (Nat × Nat × Nat)) (dead : Bool) :
    (s.vaultSense ovr dead).waits = s.waits := by unfold State.vaultSense; simp
@[simp ↓] theorem State.vaultLockAll_waits : s.vaultLockAll.waits = s.waits := by unfold State.vaultLockAll; simp
@[simp ↓] theorem State.vaultLockSet_waits (v : Word) : (s.vaultLockSet v).waits = s.waits := by
  unfold State.vaultLockSet; simp
@[simp ↓] theorem State.vaultEndBad_waits (result : Nat) : (s.vaultEndBad result).waits = s.waits := by
  unfold State.vaultEndBad; simp
@[simp ↓] theorem State.vaultRefuse_waits (who : Who) (result : Nat) : (s.vaultRefuse who result).waits = s.waits := by
  unfold State.vaultRefuse; simp
@[simp ↓] theorem State.vaultBegin_waits (who : Who) (r : VaultRun) : (s.vaultBegin who r).waits = s.waits := by
  unfold State.vaultBegin; simp
@[simp ↓] theorem State.vaultMint_waits (who : Who) (r : Nat) : (s.vaultMint who r).waits = s.waits := by
  unfold State.vaultMint; simp
@[simp ↓] theorem State.vaultFinalise_waits (who : Who) (k : Nat) : (s.vaultFinalise who k).waits = s.waits := by
  unfold State.vaultFinalise; simp
@[simp ↓] theorem State.vaultClose_waits (who : Who) (k : Nat) : (s.vaultClose who k).waits = s.waits := by
  unfold State.vaultClose; simp
@[simp ↓] theorem State.vaultRevoke_waits (who : Who) (k : Nat) : (s.vaultRevoke who k).waits = s.waits := by
  unfold State.vaultRevoke; simp
@[simp ↓] theorem State.vaultJudge_waits (who : Who) (op : Nat) : (s.vaultJudge who op).waits = s.waits := by
  unfold State.vaultJudge; simp
@[simp ↓] theorem State.vaultTakeBack_waits (x : VaultTurn) : (s.vaultTakeBack x).waits = s.waits := by
  unfold State.vaultTakeBack; split <;> simp
@[simp ↓] theorem State.vaultYield_waits (who : Who) : (s.vaultYield who).waits = s.waits := by
  unfold State.vaultYield; split <;> simp
@[simp ↓] theorem State.vaultCmd_waits (who : Who) (op : Nat) : (s.vaultCmd who op).waits = s.waits := by
  unfold State.vaultCmd; simp
@[simp ↓] theorem State.vaultRows_waits (first : Bool) (gates : List (Nat × Bool)) (rows : List (Nat × Nat))
    (bs : List Burn) : (s.vaultRows first gates rows bs).waits = s.waits := by
  induction rows generalizing s first bs with
  | nil => simp [State.vaultRows]
  | cons x r ih =>
    unfold State.vaultRows
    split
    · simp
    · dsimp only
      split <;> simp [ih]
@[simp ↓] theorem State.vaultDone_waits (bs : List Burn) : (s.vaultDone bs).waits = s.waits := by
  unfold State.vaultDone; split <;> simp
@[simp ↓] theorem State.shadowWrite_waits (who : Who) (a : Nat) (w : Word) :
    (s.shadowWrite who a w).waits = s.waits := by unfold State.shadowWrite; simp
@[simp ↓] theorem State.idkLoad_waits : s.idkLoad.waits = s.waits := by unfold State.idkLoad; simp
@[simp ↓] theorem State.idkDone_waits : s.idkDone.waits = s.waits := by unfold State.idkDone; simp
theorem State.vltWrite_waits (who : Who) (a : Nat) (w : Word) {t : State} (h : s.vltWrite who a w = some t) :
    t.waits = s.waits := by unfold State.vltWrite at h; (repeat' split at h) <;> simp at h <;> subst h <;> simp

/-! ### Modes -/

@[simp ↓] theorem State.swapSched_waits (on : Bool) : (s.swapSched on).waits = s.waits := by
  unfold State.swapSched; split <;> simp
@[simp ↓] theorem State.thmApply_waits (on : Bool) : (s.thmApply on).waits = s.waits := by unfold State.thmApply; simp
@[simp ↓] theorem State.thmNow_waits : s.thmNow.waits = s.waits := by unfold State.thmNow; simp
@[simp ↓] theorem State.thmAtFT_waits (t : Nat) : (s.thmAtFT t).waits = s.waits := by unfold State.thmAtFT; simp

@[simp ↓] theorem State.setMode_waits (m : Mode) : (s.setMode m).waits = s.waits := by unfold State.setMode; simp
@[simp ↓] theorem State.unplan_waits : s.unplan.waits = s.waits := by unfold State.unplan; split <;> simp

/-! ### Thermal -/

@[simp ↓] theorem State.thmWarn_waits (bit : Nat) : (s.thmWarn bit).waits = s.waits := by unfold State.thmWarn; simp
@[simp ↓] theorem State.safePrune_waits : s.safePrune.waits = s.waits := by unfold State.safePrune; simp
@[simp ↓] theorem State.alertRelease_waits : s.alertRelease.waits = s.waits := by unfold State.alertRelease; simp
@[simp ↓] theorem State.extScan_waits : s.extScan.waits = s.waits := by unfold State.extScan; simp
@[simp ↓] theorem State.phaseOutput_waits (c : Nat) (a : Int × Bool × State) (raw : Int) :
    (State.phaseOutput c a raw).2.2.waits = a.2.2.waits := by
  unfold State.phaseOutput
  dsimp only
  split
  · simp
  · split <;> simp
@[simp ↓] theorem State.phaseSum_waits (c : Nat) (raws : List Int) : (s.phaseSum c raws).2.2.waits = s.waits := by
  have outputs (l : List Int) (a : Int × Bool × State) :
      (l.foldl (State.phaseOutput c) a).2.2.waits = a.2.2.waits := by
    induction l generalizing a with
    | nil => rfl
    | cons x r ih => rw [List.foldl_cons, ih, State.phaseOutput_waits]
  unfold State.phaseSum
  dsimp only
  rw [outputs]; simp
@[simp ↓] theorem State.extJudge_waits (i : Nat) (t : Int) (above rail low : Bool) :
    (s.extJudge i t above rail low).waits = s.waits := by unfold State.extJudge; simp
@[simp ↓] theorem State.extPoint_waits (i : Nat) (phases : List (List Int)) : (s.extPoint i phases).waits = s.waits := by
  unfold State.extPoint; simp
@[simp ↓] theorem State.extAll_waits (points : List Nat) (phases : List (List Int)) :
    (s.extAll points phases).waits = s.waits := by
  induction points generalizing s phases with
  | nil => rfl
  | cons i r ih => simp [State.extAll, ih]
@[simp ↓] theorem State.thmCfgWrite_waits (who : Who) (a v : Nat) : (s.thmCfgWrite who a v).waits = s.waits := by
  unfold State.thmCfgWrite; simp
@[simp ↓] theorem State.thmCtrlWrite_waits (v : Word) : (s.thmCtrlWrite v).waits = s.waits := by
  unfold State.thmCtrlWrite; simp
theorem State.thmWrite_waits (who : Who) (a : Nat) (v : Word) {t : State} (h : s.thmWrite who a v = some t) :
    t.waits = s.waits := by unfold State.thmWrite at h; (repeat' split at h) <;> simp at h <;> subst h <;> simp

/-! ### Clock -/

@[simp ↓] theorem State.pllAcquire_waits (i : Nat) (whole : Bool) : (s.pllAcquire i whole).waits = s.waits := by
  unfold State.pllAcquire; simp
@[simp ↓] theorem State.pllMoved_waits (t s : State) (i bit : Nat) : (t.pllMoved s i bit).waits = t.waits := by
  unfold State.pllMoved; simp
@[simp ↓] theorem State.pllTaken_waits (s1 : State) (i : Nat) : (s1.pllTaken i).waits = s1.waits := by
  unfold State.pllTaken; simp
@[simp ↓] theorem State.pllLock_waits (i : Nat) : (s.pllLock i).waits = s.waits := by unfold State.pllLock; simp
@[simp ↓] theorem State.winAcquire_waits (i : Nat) (p : Pll) (far : Bool) : (s.winAcquire i p far).waits = s.waits := by
  unfold State.winAcquire; simp
@[simp ↓] theorem State.acqSlow_waits (i : Nat) : (s.acqSlow i).waits = s.waits := by unfold State.acqSlow; simp
@[simp ↓] theorem State.pllDrop_waits (i bit : Nat) (m : PllMove) : (s.pllDrop i bit m).waits = s.waits := by
  unfold State.pllDrop; dsimp only; (repeat' split) <;> simp
@[simp ↓] theorem State.pllUndo_waits (i : Nat) : (s.pllUndo i).waits = s.waits := by
  unfold State.pllUndo; dsimp only; (repeat' split) <;> simp
@[simp ↓] theorem State.pllOn_waits (i : Nat) : (s.pllOn i).waits = s.waits := by unfold State.pllOn; simp
@[simp ↓] theorem State.lanesRefLost_waits : s.lanesRefLost.waits = s.waits := by unfold State.lanesRefLost; simp
@[simp ↓] theorem State.refIsPresent_waits : s.refIsPresent.waits = s.waits := by unfold State.refIsPresent; simp

/-! ### Calib -/

@[simp ↓] theorem State.calRequest_waits : s.calRequest.waits = s.waits := by unfold State.calRequest; simp
@[simp ↓] theorem State.calGrant_waits (forced : Bool) : (s.calGrant forced).waits = s.waits := by
  unfold State.calGrant; simp
@[simp ↓] theorem State.calDefer_waits : s.calDefer.waits = s.waits := by unfold State.calDefer; simp
@[simp ↓] theorem State.calMonStart_waits : s.calMonStart.waits = s.waits := by unfold State.calMonStart; simp
@[simp ↓] theorem State.fgStart_waits : s.fgStart.waits = s.waits := by unfold State.fgStart; simp
@[simp ↓] theorem State.eqReady_waits (r : EqRun) : (s.eqReady r).waits = s.waits := by unfold State.eqReady; simp
@[simp ↓] theorem State.eqFinish_waits (r : EqRun) (good : Nat × EqLane → Bool) (cause : Nat) :
    (s.eqFinish r good cause).waits = s.waits := by unfold State.eqFinish; simp
@[simp ↓] theorem State.eqNext_waits (r : EqRun) : (s.eqNext r).waits = s.waits := by unfold State.eqNext; simp
@[simp ↓] theorem State.eqStart_waits : s.eqStart.waits = s.waits := by unfold State.eqStart; simp
@[simp ↓] theorem State.eqStepDone_waits : s.eqStepDone.waits = s.waits := by unfold State.eqStepDone; split <;> simp
@[simp ↓] theorem State.eqEye_waits (v : Word) : (s.eqEye v).waits = s.waits := by unfold State.eqEye; split <;> simp
@[simp ↓] theorem State.calTake_waits (k : Nat) : (s.calTake k).waits = s.waits := by unfold State.calTake; simp
@[simp ↓] theorem State.calTry_waits : s.calTry.waits = s.waits := by unfold State.calTry; simp
@[simp ↓] theorem State.bootCommit_waits : s.bootCommit.waits = s.waits := by unfold State.bootCommit; simp
@[simp ↓] theorem State.calDelta_waits : s.calDelta.waits = s.waits := by unfold State.calDelta; split <;> simp
@[simp ↓] theorem State.calListEnd_waits : s.calListEnd.waits = s.waits := by unfold State.calListEnd; simp
@[simp ↓] theorem State.calAfter_waits : s.calAfter.waits = s.waits := by unfold State.calAfter; simp
@[simp ↓] theorem State.enterCalibrate_waits (boot : Bool) : (s.enterCalibrate boot).waits = s.waits := by
  unfold State.enterCalibrate; simp
@[simp ↓] theorem State.calRefuse_waits (k : Nat) : (s.calRefuse k).waits = s.waits := by unfold State.calRefuse; simp
@[simp ↓] theorem State.calRunGo_waits : s.calRunGo.waits = s.waits := by unfold State.calRunGo; simp
@[simp ↓] theorem State.calCtrlWrite_waits (v : Word) : (s.calCtrlWrite v).waits = s.waits := by
  unfold State.calCtrlWrite; simp
@[simp ↓] theorem State.calAnswerEnd_waits : s.calAnswerEnd.waits = s.waits := by
  unfold State.calAnswerEnd; split <;> simp
@[simp ↓] theorem State.calDeferEnd_waits : s.calDeferEnd.waits = s.waits := by unfold State.calDeferEnd; split <;> simp
@[simp ↓] theorem State.calHoldoffEnd_waits : s.calHoldoffEnd.waits = s.waits := by
  unfold State.calHoldoffEnd; split <;> simp
@[simp ↓] theorem State.calClockEnd_waits : s.calClockEnd.waits = s.waits := by unfold State.calClockEnd; split <;> simp
@[simp ↓] theorem State.fgWrite_waits : s.fgWrite.waits = s.waits := by unfold State.fgWrite; simp
@[simp ↓] theorem State.fgEnd_waits : s.fgEnd.waits = s.waits := by unfold State.fgEnd; simp
@[simp ↓] theorem State.fgPasses_waits (slices : List SliceCal) (refs : List RefCal) (spur rms : List SliceLevel) :
    (s.fgPasses slices refs spur rms).waits = s.waits := by unfold State.fgPasses; simp
@[simp ↓] theorem State.calAtSft_waits (ft : Bool) : (s.calAtSft ft).waits = s.waits := by
  unfold State.calAtSft; dsimp only; (repeat' split) <;> simp
@[simp ↓] theorem State.monCalDone_waits (runs : List (Int × Int × Int × Int)) (ch7 : Int) :
    (s.monCalDone runs ch7).waits = s.waits := by unfold State.monCalDone; dsimp only; (repeat' split) <;> simp
@[simp ↓] theorem State.eqTimeout_waits : s.eqTimeout.waits = s.waits := by unfold State.eqTimeout; split <;> simp
@[simp ↓] theorem State.eqCtrlWrite_waits (v : Word) : (s.eqCtrlWrite v).waits = s.waits := by
  unfold State.eqCtrlWrite; simp
theorem State.calWrite_waits (a : Nat) (v : Word) {t : State} (h : s.calWrite a v = some t) : t.waits = s.waits := by
  unfold State.calWrite at h; (repeat' split at h) <;> simp at h <;> subst h <;> simp

/-! ### CalStore -/

@[simp ↓] theorem forWords_waits (l : List Byte) (n : Nat) (f : State → Nat → Nat → State) (s : State)
    (hf : ∀ a i w, (f a i w).waits = a.waits) : (forWords l n f s).waits = s.waits := by unfold forWords; simp [hf]
@[simp ↓] theorem State.loadWin_waits (l : List Byte) : (s.loadWin l).waits = s.waits := by unfold State.loadWin; simp
@[simp ↓] theorem State.bootRetire_waits (key pos spare : Nat) : (s.bootRetire key pos spare).waits = s.waits := by
  unfold State.bootRetire; simp
@[simp ↓] theorem State.loadSubs_waits (l : List Byte) : (s.loadSubs l).waits = s.waits := by unfold State.loadSubs; simp
@[simp ↓] theorem State.withSec_waits (x : Option (List Byte)) (f : State → List Byte → State)
    (hf : ∀ a l, (f a l).waits = a.waits) : (s.withSec x f).waits = s.waits := by
  unfold State.withSec; split <;> simp [hf]

/-! ### Boot -/

@[simp ↓] theorem State.stepBad_waits (detail : Nat) : (s.stepBad detail).state.waits = s.waits := by
  unfold State.stepBad; simp
@[simp ↓] theorem State.modBoot_waits (f : Boot → Boot) : (s.modBoot f).waits = s.waits := by unfold State.modBoot; simp
@[simp ↓] theorem State.bootVerify_waits (v : Nat) (b : BootIn) : (s.bootVerify v b).state.waits = s.waits := by
  unfold State.bootVerify; dsimp only; (repeat' split) <;> simp
@[simp ↓] theorem State.bootComplete_waits : s.bootComplete.waits = s.waits := by unfold State.bootComplete; simp
@[simp ↓] theorem State.bootCalibrate_waits (t : Nat) : (s.bootCalibrate t).waits = s.waits := by
  unfold State.bootCalibrate; simp

/-! ### Mailbox -/

@[simp ↓] theorem State.mboxPost_waits (code : Nat) : (s.mboxPost code).waits = s.waits := by unfold State.mboxPost; simp
@[simp ↓] theorem State.fwActivateStart_waits (slot : Nat) : (s.fwActivateStart slot).1.waits = s.waits := by
  unfold State.fwActivateStart; (repeat' split) <;> simp
@[simp ↓] theorem State.restartStart_waits (core slot : Nat) : (s.restartStart core slot).1.waits = s.waits := by
  unfold State.restartStart; split <;> simp
@[simp ↓] theorem State.saveMapsStart_waits : s.saveMapsStart.1.waits = s.waits := by
  unfold State.saveMapsStart; split <;> simp
@[simp ↓] theorem State.stripeEnd_waits : s.stripeEnd.waits = s.waits := by unfold State.stripeEnd; simp
@[simp ↓] theorem State.restartGraceEnd_waits (core : Nat) : (s.restartGraceEnd core).waits = s.waits := by
  unfold State.restartGraceEnd; (repeat' split) <;> simp
@[simp ↓] theorem State.alarmPop_waits : s.alarmPop.2.waits = s.waits := by unfold State.alarmPop; split <;> simp
@[simp ↓] theorem State.ackRetire_waits (who : Who) (unit : Nat) : (s.ackRetire who unit).waits = s.waits := by
  unfold State.ackRetire; simp
@[simp ↓] theorem State.ackFailLane_waits (unit : Nat) : (s.ackFailLane unit).waits = s.waits := by
  unfold State.ackFailLane; simp

/-! ### ModeReq -/

@[simp ↓] theorem State.portError_waits (i : Nat) : (s.portError i).waits = s.waits := by unfold State.portError; simp
@[simp ↓] theorem State.denied_waits (cls : Nat) (who : Who) (a : Nat) : (s.denied cls who a).waits = s.waits := by
  unfold State.denied; simp
@[simp ↓] theorem State.modeRefused_waits (code : Nat) : (s.modeRefused code).waits = s.waits := by
  unfold State.modeRefused; simp
@[simp ↓] theorem State.modeAtFT_waits (t : Nat) : (s.modeAtFT t).waits = s.waits := by
  unfold State.modeAtFT; split <;> simp
@[simp ↓] theorem State.serviceWrite_waits (who : Who) (v : Word) : (s.serviceWrite who v).waits = s.waits := by
  unfold State.serviceWrite; simp

/-! ### Attest -/

@[simp ↓] theorem State.sealShow_waits (stmt sig : List Byte) : (s.sealShow stmt sig).waits = s.waits := by
  unfold State.sealShow; simp
@[simp ↓] theorem State.sealUnsigned_waits (stream bit : Nat) : (s.sealUnsigned stream bit).waits = s.waits := by
  unfold State.sealUnsigned; simp
@[simp ↓] theorem State.signDone_waits (bad : Bool) : (s.signDone bad).waits = s.waits := by
  unfold State.signDone
  split
  · rfl
  · dsimp only
    simp only [State.waits_ite, State.sealShow_waits, State.sealUnsigned_waits, State.waits_mk, State.waits_fold, branch_self]
@[simp ↓] theorem State.attGo_waits (who : Who) : (s.attGo who).waits = s.waits := by unfold State.attGo; simp
@[simp ↓] theorem State.attChecked_waits : s.attChecked.waits = s.waits := by unfold State.attChecked; simp
@[simp ↓] theorem State.attWrite_waits (r : Report) (result : Nat) (sig : List Byte) :
    (s.attWrite r result sig).waits = s.waits := by unfold State.attWrite; simp
@[simp ↓] theorem State.attDone_waits (bad : Bool) : (s.attDone bad).waits = s.waits := by
  unfold State.attDone
  split
  · rfl
  · dsimp only
    simp only [State.waits_ite, State.attWrite_waits, State.faultEv_eq, State.raise_waits, State.draw_waits, branch_self]
@[simp ↓] theorem State.secCtrlWrite_waits (who : Who) (w : Word) : (s.secCtrlWrite who w).waits = s.waits := by
  unfold State.secCtrlWrite; simp
theorem State.secWrite_waits (who : Who) (a : Nat) (w : Word) {t : State} (h : s.secWrite who a w = some t) :
    t.waits = s.waits := by unfold State.secWrite at h; (repeat' split at h) <;> simp at h <;> subst h <;> simp

/-! ### Readout -/

@[simp ↓] theorem State.integrationStart_waits : s.integrationStart.waits = s.waits := by
  unfold State.integrationStart; split <;> simp
@[simp ↓] theorem State.markSettling_waits : s.markSettling.waits = s.waits := by
  unfold State.markSettling; split <;> simp
@[simp ↓] theorem State.globalTransfer_waits : s.globalTransfer.waits = s.waits := by
  unfold State.globalTransfer; split <;> simp
@[simp ↓] theorem State.readoutComplete_waits : s.readoutComplete.waits = s.waits := by
  unfold State.readoutComplete; (repeat' split) <;> simp
@[simp ↓] theorem State.referenceSwitch_waits : s.referenceSwitch.waits = s.waits := by
  unfold State.referenceSwitch; split <;> simp

/-! ### Tick -/

@[simp ↓] theorem State.bankDrained_waits (i : Nat) : (s.bankDrained i).waits = s.waits := by
  unfold State.bankDrained; simp
@[simp ↓] theorem State.commitApply_waits (b : Nat) : (s.commitApply b).waits = s.waits := by
  unfold State.commitApply; split <;> simp
@[simp ↓] theorem State.commitAtFT_waits (n : Option Nat) (t : Nat) : (s.commitAtFT n t).waits = s.waits := by
  unfold State.commitAtFT; (repeat' split) <;> simp
@[simp ↓] theorem State.liveApply_waits (l : LiveSet) (c : InForce) : (s.liveApply l c).waits = s.waits := by
  unfold State.liveApply; simp
@[simp ↓] theorem State.liveAtFT_waits (n : Option Nat) (t : Nat) : (s.liveAtFT n t).waits = s.waits := by
  unfold State.liveAtFT; dsimp only; (repeat' split) <;> simp
@[simp ↓] theorem State.chainsAtFT_waits (was wasTwin : Bool) : (s.chainsAtFT was wasTwin).waits = s.waits := by
  unfold State.chainsAtFT; simp
@[simp ↓] theorem State.lanesAtFT_waits : s.lanesAtFT.waits = s.waits := by unfold State.lanesAtFT; split <;> simp
@[simp ↓] theorem State.gridAtFT_waits : s.gridAtFT.waits = s.waits := by unfold State.gridAtFT; split <;> simp
@[simp ↓] theorem State.beginFrame_waits (t : Nat) (trig : Bool) : (s.beginFrame t trig).waits = s.waits := by
  unfold State.beginFrame; split <;> simp
@[simp ↓] theorem State.beginReadout_waits (old : Option SubRef) (t : Nat) (ft : Bool) :
    (s.beginReadout old t ft).waits = s.waits := by unfold State.beginReadout; dsimp only; (repeat' split) <;> simp

/-! ### Peek -/

@[simp ↓] theorem State.readReg_waits (who : Who) (a : Nat) : (s.readReg who a).2.waits = s.waits := by
  unfold State.readReg; (repeat' split) <;> simp
@[simp ↓] theorem State.readWord_waits (who : Who) (base a : Nat) : (s.readWord who base a).2.waits = s.waits := by
  unfold State.readWord; dsimp only; (repeat' split) <;> simp

/-! ### Reset -/

@[simp ↓] theorem State.joinReset_waits (code : Nat) : (s.joinReset code).waits = s.waits := by
  unfold State.joinReset; simp
@[simp ↓] theorem State.resetRelease_waits (straps : Nat) (root : Bool) :
    (s.resetRelease straps root).waits = s.waits := by unfold State.resetRelease; split <;> simp
@[simp ↓] theorem State.debugHalt_waits (core : Nat) : (s.debugHalt core).waits = s.waits := by
  unfold State.debugHalt; simp
@[simp ↓] theorem State.debugRelease_waits (core : Nat) : (s.debugRelease core).waits = s.waits := by
  unfold State.debugRelease; simp

/-! ### Access -/

theorem State.planWrite_waits (who : Who) (a : Nat) (v : Word) {t : State} (h : s.planWrite who a v = some t) :
    t.waits = s.waits := by unfold State.planWrite at h; (repeat' split at h) <;> simp at h <;> subst h <;> simp
@[simp ↓] theorem State.turn_waits (who : Who) (a : Nat) : (s.turn who a).waits = s.waits := by unfold State.turn; simp
@[simp ↓] theorem State.wroteBy_waits (t s : State) (who : Who) (a : Nat) : (t.wroteBy s who a).waits = t.waits := by
  unfold State.wroteBy; simp

/-! ### Port -/

@[simp ↓] theorem State.nextAccess_waits : s.nextAccess.waits = s.waits := by unfold State.nextAccess; simp
@[simp ↓] theorem State.portReads_waits (base a : Nat) (first : Bool) (n : Nat) :
    (s.portReads base a first n).2.2.waits = s.waits := by
  induction n generalizing s a first with
  | zero => rfl
  | succ n ih => simp [State.portReads, ih]
@[simp ↓] theorem State.portRead_waits (addr n : Nat) (partial_ : Bool) :
    (s.portRead addr n partial_).waits = s.waits := by unfold State.portRead; simp
@[simp ↓] theorem State.portStatus_waits : s.portStatus.waits = s.waits := by unfold State.portStatus; simp
@[simp ↓] theorem State.portUnknown_waits (op : Byte) : (s.portUnknown op).waits = s.waits := by
  unfold State.portUnknown; simp

/-! ### Cmd -/

@[simp ↓] theorem State.readPart_waits (who : Who) (base addr size : Nat) :
    (s.readPart who base addr size).2.waits = s.waits := by unfold State.readPart; simp
@[simp ↓] theorem State.fetch_waits (r : Reader) (a : Nat) : (s.fetch r a).waits = s.waits := by unfold State.fetch; simp
@[simp ↓] theorem State.vaultData_waits (who : Who) (lo hi : Word) : (s.vaultData who lo hi).waits = s.waits := by
  unfold State.vaultData; simp
@[simp ↓] theorem State.planChecked_waits : s.planChecked.waits = s.waits := by unfold State.planChecked; simp
@[simp ↓] theorem State.summarySend_waits : s.summarySend.waits = s.waits := by
  unfold State.summarySend; (repeat' split) <;> simp

end Sys2Proof.Machine
end

section
/-!
PROOFS. What changes nothing that waits for a tick, continued: the functions that write a byte memory, and those that
call them.
-/

namespace Sys2Proof.Machine

variable (s : State)

/-! ### BootLedger -/

@[simp ↓] theorem State.retPut_waits (o n v : Nat) : (s.retPut o n v).waits = s.waits := by unfold State.retPut; simp
@[simp ↓] theorem State.bootPut_waits (e : BootEntry) : (s.bootPut e).waits = s.waits := by unfold State.bootPut; simp
@[simp ↓] theorem State.bootNote_waits (k variant outcome detail : Nat) :
    (s.bootNote k variant outcome detail).waits = s.waits := by unfold State.bootNote; simp
@[simp ↓] theorem State.eccCount_waits (n : Nat) : (s.eccCount n).waits = s.waits := by unfold State.eccCount; simp
@[simp ↓] theorem State.bootBegin_waits (ecc : Bool) (cause : Nat) : (s.bootBegin ecc cause).waits = s.waits := by
  unfold State.bootBegin; simp
@[simp ↓] theorem State.bootCause_waits (cause : Nat) : (s.bootCause cause).waits = s.waits := by
  unfold State.bootCause; simp

/-! ### Watchdog -/

@[simp ↓] theorem State.dumpStart_waits (tr : DumpTrigger) : (s.dumpStart tr).waits = s.waits := by
  unfold State.dumpStart; split <;> simp
@[simp ↓] theorem State.wdtExpire_waits (cause : NmiCause) (task : Nat) :
    (s.wdtExpire cause task).waits = s.waits := by unfold State.wdtExpire; simp
@[simp ↓] theorem State.wdtDup_waits (strict : Bool) (i : Nat) : (s.wdtDup strict i).waits = s.waits := by
  unfold State.wdtDup; simp
@[simp ↓] theorem State.wdtLate_waits (p : WdtPeriod) (i : Nat) : (s.wdtLate p i).waits = s.waits := by
  unfold State.wdtLate; simp
@[simp ↓] theorem State.wdtTally1_waits (i : Nat) : (s.wdtTally1 i).waits = s.waits := by
  unfold State.wdtTally1; dsimp only; (repeat' split) <;> simp
@[simp ↓] theorem State.wdtTallyWrite_waits (who : Who) (v : Word) : (s.wdtTallyWrite who v).waits = s.waits := by
  unfold State.wdtTallyWrite; simp
@[simp ↓] theorem State.wdtPeriodEnd_waits : s.wdtPeriodEnd.waits = s.waits := by unfold State.wdtPeriodEnd; simp
theorem State.wdtWrite_waits (who : Who) (a : Nat) (v : Word) {t : State} (h : s.wdtWrite who a v = some t) :
    t.waits = s.waits := by
  unfold State.wdtWrite at h; (repeat' split at h) <;> simp at h <;> subst h <;> simp

/-! ### EventLedger -/

theorem State.evlWrite_waits (who : Who) (a : Nat) (v : Word) {t : State} (h : s.evlWrite who a v = some t) :
    t.waits = s.waits := by
  unfold State.evlWrite at h; (repeat' split at h) <;> simp at h <;> subst h <;> simp

/-! ### Shape -/

@[simp ↓] theorem State.writeOut_waits (n : Nat) (twin : Bool) (bank j : Nat) :
    (s.writeOut n twin bank j).waits = s.waits := by unfold State.writeOut; split <;> simp
@[simp ↓] theorem State.procLine_waits (r : Rd) (sub : SubRef) (bank j stripe : Nat) :
    (s.procLine r sub bank j stripe).waits = s.waits := by unfold State.procLine; split <;> simp
@[simp ↓] theorem State.procSlot_waits (sub : SubRef) (j : Nat) : (s.procSlot sub j).waits = s.waits := by
  unfold State.procSlot; split <;> simp
@[simp ↓] theorem State.procUpTo_waits (sub : SubRef) (n : Nat) : (s.procUpTo sub n).waits = s.waits :=
  foldl_keeps State.waits _ _ _ fun a j => State.procSlot_waits a sub j
@[simp ↓] theorem State.abandonRest_waits (sub : SubRef) : (s.abandonRest sub).waits = s.waits := by
  unfold State.abandonRest
  split
  · rfl
  · extract_lets win total
    split
    · rfl
    · next last isTwin rest s1 s2 src s3 s4 _ =>
      have written : s1.waits = s.waits := foldl_keeps State.waits _ _ _ fun a j =>
        foldl_keeps State.waits _ _ _ fun c b => by
          extract_lets c1 c2
          have lines : c1.waits = c.waits := foldl_keeps State.waits _ _ _ fun e i => by
            rw [State.modFrame_waits, State.finishAbandoned_waits]
          have outs : c2.waits = c.waits := by unfold c2; split <;> simp [lines]
          split <;> simp [outs]
      have counted : s4.waits = s.waits := by
        calc s4.waits = s3.waits := by unfold s4; split <;> simp
          _ = s2.waits := rfl
          _ = s1.waits := State.modFrame_waits _ _ _
          _ = s.waits := written
      simp [counted]
@[simp ↓] theorem State.proxyBegin_waits (n : Nat) : (s.proxyBegin n).waits = s.waits := by
  unfold State.proxyBegin; split <;> simp
@[simp ↓] theorem State.proxyEnd_waits (n : Nat) (valid : Bool) : (s.proxyEnd n valid).waits = s.waits := by
  unfold State.proxyEnd; split <;> simp
@[simp ↓] theorem State.reconWrite_waits (f : Frame) : (s.reconWrite f).waits = s.waits := by
  unfold State.reconWrite; simp
@[simp ↓] theorem State.frameComplete_waits : s.frameComplete.1.waits = s.waits := by
  unfold State.frameComplete; split <;> simp

/-! ### FabProxy -/

@[simp ↓] theorem State.proxyVoid_waits (n : Nat) : (s.proxyVoid n).waits = s.waits := by
  unfold State.proxyVoid; split <;> simp
@[simp ↓] theorem State.rxState_waits (a pseq v : Nat) : (s.rxState a pseq v).waits = s.waits := by
  unfold State.rxState; simp
@[simp ↓] theorem State.rxData_waits (a pseq off : Nat) (d : List Byte) :
    (s.rxData a pseq off d).waits = s.waits := by unfold State.rxData; simp
@[simp ↓] theorem State.proxySink_waits (b : List Byte) : (s.proxySink b).waits = s.waits := by
  unfold State.proxySink; simp
@[simp ↓] theorem State.bulkWrite_waits (b : List Byte) : (s.bulkWrite b).waits = s.waits := by
  unfold State.bulkWrite; simp

/-! ### Fabric -/

@[simp ↓] theorem State.deliver_waits (p : Nat) (b : List Byte) : (s.deliver p b).waits = s.waits := by
  unfold State.deliver; simp
@[simp ↓] theorem State.handle_waits (p : Nat) (b : List Byte) : (s.handle p b).waits = s.waits := by
  unfold State.handle; split <;> simp
@[simp ↓] theorem State.stored_waits (p : Nat) (b : List Byte) : (s.stored p b).waits = s.waits := by
  unfold State.stored; simp
@[simp ↓] theorem State.fabReceive_waits (p : Nat) (b : List Byte) : (s.fabReceive p b).waits = s.waits := by
  unfold State.fabReceive; simp
@[simp ↓] theorem State.receiveIf_waits (p : Nat) (b : List Byte) (cls : Nat) (msg : Option Nat) :
    (s.receiveIf p b cls msg).waits = s.waits := by unfold State.receiveIf; simp
@[simp ↓] theorem State.receivePtp_waits (p : Nat) (b : List Byte) (k : Nat → Bool) :
    (s.receivePtp p b k).waits = s.waits := by unfold State.receivePtp; simp

/-! ### Modes -/

/-! ### Thermal -/

/-! ### Clock -/

/-! ### Calib -/

@[simp ↓] theorem State.darkDone_waits (light : DarkLevel) (cols : List ColMeas) (pix : List PixMeas) :
    (s.darkDone light cols pix).waits = s.waits := by unfold State.darkDone; split <;> simp

/-! ### CalStore -/

@[simp ↓] theorem State.programSectors_waits (l : List (Nat × List Byte)) : (s.programSectors l).waits = s.waits := by
  unfold State.programSectors; simp
@[simp ↓] theorem State.saveGood_waits : s.saveGood.waits = s.waits := by unfold State.saveGood; simp
@[simp ↓] theorem State.saveBad_waits (l : List (Nat × List Byte)) : (s.saveBad l).waits = s.waits := by
  unfold State.saveBad; simp
@[simp ↓] theorem State.saveDone_waits (stop : Option FlashStop) : (s.saveDone stop).waits = s.waits := by
  unfold State.saveDone; simp
@[simp ↓] theorem State.zeroMaps_waits : s.zeroMaps.waits = s.waits := by unfold State.zeroMaps; simp
theorem State.calLoad_waits {t : State} (h : s.calLoad = some t) : t.waits = s.waits := by
  unfold State.calLoad at h; (repeat' split at h) <;> cases h <;> simp
@[simp ↓] theorem State.emptyDefects_waits : s.emptyDefects.waits = s.waits := by unfold State.emptyDefects; simp
theorem State.defLoad_waits {t : State} (h : s.defLoad = some t) : t.waits = s.waits := by
  unfold State.defLoad at h; (repeat' split at h) <;> cases h <;> simp

/-! ### Boot -/

@[simp ↓] theorem State.dirWrite_waits (d : Directory) : (s.dirWrite d).waits = s.waits := by
  unfold State.dirWrite; simp
@[simp ↓] theorem State.coreLoads_waits (i slot : Nat) : (s.coreLoads i slot).waits = s.waits := by
  unfold State.coreLoads; simp
@[simp ↓] theorem State.recoverSlot_waits (i : Nat) : (s.recoverSlot i).1.waits = s.waits := by
  unfold State.recoverSlot; dsimp only; (repeat' split) <;> simp
@[simp ↓] theorem State.bootFlash_waits (v : Nat) (b : BootIn) : (s.bootFlash v b).state.waits = s.waits := by
  unfold State.bootFlash; dsimp only; (repeat' split) <;> simp
@[simp ↓] theorem State.bootFirmware_waits (b : BootIn) : (s.bootFirmware b).state.waits = s.waits := by
  unfold State.bootFirmware; dsimp only; (repeat' split) <;> simp
@[simp ↓] theorem State.bootDram_waits (v : Nat) (b : BootIn) : (s.bootDram v b).state.waits = s.waits := by
  unfold State.bootDram; dsimp only; (repeat' split) <;> simp
@[simp ↓] theorem State.bootStart_waits (k v : Nat) : (s.bootStart k v).waits = s.waits := by
  unfold State.bootStart; simp

/-! ### Mailbox -/

@[simp ↓] theorem State.updPut_waits (op slot sector : Nat) : (s.updPut op slot sector).waits = s.waits := by
  unfold State.updPut; simp
@[simp ↓] theorem State.updClear_waits : s.updClear.waits = s.waits := by unfold State.updClear; simp
@[simp ↓] theorem State.eraseSector_waits (i k : Nat) : (s.eraseSector i k).waits = s.waits := by
  unfold State.eraseSector; simp
@[simp ↓] theorem State.flashSectors_waits (i : Nat) (l : List (Nat × List Byte)) :
    (s.flashSectors i l).waits = s.waits := by unfold State.flashSectors; simp
@[simp ↓] theorem State.fwUpdateStart_waits (addr len : Nat) (activate : Bool) :
    (s.fwUpdateStart addr len activate).1.waits = s.waits := by
  unfold State.fwUpdateStart; dsimp only; (repeat' split) <;> simp
@[simp ↓] theorem State.recoverStart_waits (slot len : Nat) : (s.recoverStart slot len).1.waits = s.waits := by
  unfold State.recoverStart; dsimp only; (repeat' split) <;> simp
@[simp ↓] theorem State.fwUpdateEnd_waits (addr len : Nat) (activate : Bool) (i : Nat) (stop : Option FlashStop) :
    (s.fwUpdateEnd addr len activate i stop).waits = s.waits := by unfold State.fwUpdateEnd; split <;> simp
@[simp ↓] theorem State.fwActivateEnd_waits (i : Nat) : (s.fwActivateEnd i).waits = s.waits := by
  unfold State.fwActivateEnd; simp
@[simp ↓] theorem State.restartEnd_waits (core slot : Nat) : (s.restartEnd core slot).waits = s.waits := by
  unfold State.restartEnd; simp
@[simp ↓] theorem State.recoverEnd_waits (slot len got : Nat) (stop : Option FlashStop) :
    (s.recoverEnd slot len got stop).waits = s.waits := by unfold State.recoverEnd; split <;> simp
@[simp ↓] theorem State.mboxDone_waits (stop : Option FlashStop) : (s.mboxDone stop).waits = s.waits := by
  unfold State.mboxDone
  split
  · rfl
  · split <;> simp
@[simp ↓] theorem State.rcvData_waits (who : Who) (v : Word) : (s.rcvData who v).waits = s.waits := by
  unfold State.rcvData; split <;> simp

/-! ### ModeReq -/

/-! ### Readout -/

@[simp ↓] theorem State.process_waits (f : Frame) (sub : SubRef) (n : Nat) :
    (s.process f sub n).waits = s.waits := by unfold State.process; simp
@[simp ↓] theorem State.rowSlot_waits (convs : List Conv) : (s.rowSlot convs).waits = s.waits := by
  unfold State.rowSlot; dsimp only; (repeat' split) <;> simp

/-! ### Tick -/

@[simp ↓] theorem State.deadlines_waits (f : Frame) : (s.deadlines f).waits = s.waits := by
  unfold State.deadlines; simp
@[simp ↓] theorem State.ageFrames_waits (ft : Bool) : (s.ageFrames ft).waits = s.waits := by
  unfold State.ageFrames; simp
@[simp ↓] theorem State.dramAtFT_waits : s.dramAtFT.waits = s.waits := by unfold State.dramAtFT; simp

/-! ### Dump -/

@[simp ↓] theorem State.dumpHeader_waits (d : DumpRun) (n : Nat) (crcs : List Nat) (complete : Bool) :
    (s.dumpHeader d n crcs complete).waits = s.waits := by unfold State.dumpHeader; simp
@[simp ↓] theorem State.dumpCopy_waits (d : DumpRun) (k : Nat) (crcs : List Nat) :
    (s.dumpCopy d k crcs).1.waits = s.waits := by unfold State.dumpCopy; simp
@[simp ↓] theorem State.dumpWrite_waits (d : DumpRun) (n : Nat) (complete : Bool) :
    (s.dumpWrite d n complete).waits = s.waits := by
  have copies (l : List Nat) (a : State × List Nat) :
      (l.foldl (fun (a : State × List Nat) k => a.1.dumpCopy d (k + 1) a.2) a).1.waits = a.1.waits := by
    induction l generalizing a with
    | nil => rfl
    | cons k r ih => rw [List.foldl_cons, ih, State.dumpCopy_waits]
  unfold State.dumpWrite
  simp [copies]
@[simp ↓] theorem State.dumpComplete_waits : s.dumpComplete.waits = s.waits := by
  unfold State.dumpComplete; split <;> simp

/-! ### Reset -/

@[simp ↓] theorem State.wdtRecord_waits : s.wdtRecord.waits = s.waits := by unfold State.wdtRecord; simp

/-! ### Access -/

@[simp ↓] theorem State.retWrite_waits (who : Who) (a n : Nat) (v : Word) :
    (s.retWrite who a n v).waits = s.waits := by unfold State.retWrite; simp
@[simp ↓] theorem State.dramWrite_waits (who : Who) (base a n : Nat) (v : Word) :
    (s.dramWrite who base a n v).waits = s.waits := by unfold State.dramWrite; simp

/-! ### Port -/

/-! ### Cmd -/

@[simp ↓] theorem State.frameDone_waits : s.frameDone.waits = s.waits := by
  unfold State.frameDone; dsimp only; (repeat' split) <;> simp

end Sys2Proof.Machine
end

section
/-!
PROOFS. While no ticks run, nothing waits for one: the rule, and the two places where takeovers are carried out.
-/

namespace Sys2Proof.Machine

/-- What `State.takesQuiet` says, of `State.waits`. -/
def Quiet (w : SeqState × List Take × List Switch) : Prop := w.1 = .stopped → w.2.1 = [] ∧ w.2.2 = []

theorem State.ticking_eq_false {s : State} : s.ticking = false ↔ s.tmg.seq = .stopped := by simp [State.ticking]

theorem State.takesQuiet_iff (s : State) : s.takesQuiet ↔ Quiet s.waits := imp_congr_left State.ticking_eq_false

theorem Quiet.of_running {w : SeqState × List Take × List Switch} (h : w.1 ≠ .stopped) : Quiet w :=
  fun stopped => absurd stopped h

theorem State.quiet_of_ticking {s : State} (h : s.ticking = true) : Quiet s.waits :=
  Quiet.of_running fun stopped => by simp [State.ticking_eq_false.2 stopped] at h

@[simp] theorem quiet_mk (q : SeqState) (t : List Take) (l : List Switch) :
    Quiet (q, t, l) ↔ (q = .stopped → t = [] ∧ l = []) := Iff.rfl

@[simp] theorem quiet_branch (c : Prop) [Decidable c] {x y : SeqState × List Take × List Switch} (hx : Quiet x)
    (hy : Quiet y) : Quiet (branch c x y) := by unfold branch; split <;> assumption

theorem foldl_quiet {β : Type} (f : State → β → State) (l : List β) {s : State} (hs : Quiet s.waits)
    (h : ∀ a x, Quiet a.waits → Quiet (f a x).waits) : Quiet (l.foldl f s).waits :=
  List.foldlRecOn l f (motive := fun a => Quiet a.waits) hs fun a ha x _ => h a x ha

/-! ### Takeovers -/

theorem State.stripeFail_seq (s : State) (d : Nat) : (s.stripeFail d).tmg.seq = s.tmg.seq :=
  congrArg Prod.fst (s.stripeFail_waits d)
theorem State.stripeFail_takes (s : State) (d : Nat) : (s.stripeFail d).str.takes = s.str.takes :=
  congrArg (fun w => w.2.1) (s.stripeFail_waits d)

/-- A takeover adds a switch at most. -/
theorem State.applyTake_seq (s : State) (t : Take) : (s.applyTake t).tmg.seq = s.tmg.seq := by
  unfold State.applyTake; dsimp only; (repeat' split) <;> simp [State.setDp, State.strCmdEnd, State.stripeFail_seq]
theorem State.applyTake_takes (s : State) (t : Take) : (s.applyTake t).str.takes = s.str.takes := by
  unfold State.applyTake; dsimp only; (repeat' split) <;> simp [State.setDp, State.strCmdEnd, State.stripeFail_takes]

theorem State.endSwitches_waits (s : State) : s.endSwitches.waits = (s.tmg.seq, s.str.takes, []) := by
  unfold State.endSwitches
  extract_lets s1 s2
  have ended : s1.waits = s.waits := foldl_keeps State.waits _ _ _ fun a w => by simp
  have fresh : s2.waits = s.waits := by unfold s2; split <;> simp [ended]
  have seq : s2.tmg.seq = s.tmg.seq := congrArg Prod.fst fresh
  have takes : s2.str.takes = s.str.takes := congrArg (fun w => w.2.1) fresh
  rw [State.waits_mk, seq, takes]

@[simp ↓] theorem State.takesAtFT_quiet {s : State} (hs : Quiet s.waits) (t : Nat) : Quiet (s.takesAtFT t).waits := by
  unfold State.takesAtFT
  extract_lets ripe due ord _ s1
  by_cases stopped : s.tmg.seq = .stopped
  · obtain ⟨takes, switches⟩ := hs stopped
    have takes : s.str.takes = [] := takes
    have nothing : ord true ++ ord false = [] := by simp [ord, due, takes]
    rw [nothing]
    exact fun _ => ⟨by simp [s1, takes, State.waits_mk], switches⟩
  · have seq : ((ord true ++ ord false).foldl (fun (a : State) x => a.applyTake x) s1).tmg.seq = s.tmg.seq :=
      foldl_keeps (fun a => a.tmg.seq) _ _ _ fun a x => a.applyTake_seq x
    exact Quiet.of_running fun h => stopped (seq.symm.trans h)

/-- While no ticks run, a take is carried out at once. -/
@[simp ↓] theorem State.takesNow_quiet (s : State) : Quiet s.takesNow.waits := by
  unfold State.takesNow
  split
  · next h => exact State.quiet_of_ticking h
  · rw [State.endSwitches_waits]
    exact fun _ => ⟨foldl_keeps (fun a => a.str.takes) _ _ _ fun a x => a.applyTake_takes x, rfl⟩

end Sys2Proof.Machine
end

section
/-!
PROOFS. What keeps the rule that nothing waits while no ticks run, function by function, up to those the commands run.
-/

namespace Sys2Proof.Machine

variable {s : State} (hs : Quiet s.waits)
include hs

omit hs in
@[simp ↓] theorem State.placeGrid_quiet (sch : Sched) (t : Nat) : Quiet (s.placeGrid sch t).waits :=
  Quiet.of_running nofun

@[simp ↓] theorem State.sequencerStart_quiet : Quiet s.sequencerStart.waits := by
  unfold State.sequencerStart; split <;> simp [hs]

@[simp ↓] theorem State.trigger_quiet (f : TrigFrom) (e : Nat) (blocked : Bool) :
    Quiet (s.trigger f e blocked).waits := by unfold State.trigger; (repeat' split) <;> simp [hs]

@[simp ↓] theorem State.softTrig_quiet (blocked : Bool) : Quiet (s.softTrig blocked).waits := by
  unfold State.softTrig; simp [hs]

@[simp ↓] theorem State.softsNow_quiet (blocked : Bool) : Quiet (s.softsNow blocked).waits := by
  unfold State.softsNow
  exact foldl_quiet _ _ (by simpa using hs) fun a e ha => State.trigger_quiet ha _ _ _

@[simp ↓] theorem State.tmgCtrlWrite_quiet (who : Who) (v : Word) (blocked : Bool) :
    Quiet (s.tmgCtrlWrite who v blocked).waits := by unfold State.tmgCtrlWrite; simp [hs]

@[simp ↓] theorem State.genlockEdge_quiet (at_ : Nat) : Quiet (s.genlockEdge at_).waits := by
  unfold State.genlockEdge; dsimp only; (repeat' split) <;> simp [hs]

@[simp ↓] theorem State.tpoPulse_quiet (i : Nat) : Quiet (s.tpoPulse i).waits := by
  unfold State.tpoPulse; split <;> simp [hs]

theorem State.tmgWrite_quiet (who : Who) (a : Nat) (v : Word) (blocked : Bool) {t : State}
    (h : s.tmgWrite who a v blocked = some t) :
    Quiet t.waits := by unfold State.tmgWrite at h; (repeat' split at h) <;> simp at h <;> subst h <;> simp [hs]

@[simp ↓] theorem State.tpoFire_quiet (i : Nat) (blocked : Bool) : Quiet (s.tpoFire i blocked).waits := by
  unfold State.tpoFire
  extract_lets t k b cyclic n s1 v onTime back edge t1 s2 s3 s4
  split
  · exact hs
  · have marked : s3.waits = s.waits := by
      have pulse : s2.waits = s.waits := by simp only [s2, s1, State.note_waits, State.setTpo_waits, State.goMgt_waits]
      unfold s3
      split
      · rw [State.setInt_waits, pulse]
      · exact pulse
    have placed : s4.waits = s.waits := by
      unfold s4
      split
      · rw [State.placeTpo_waits, marked]
      · exact marked
    exact State.tpoPulse_quiet (State.trigger_quiet (by rwa [placed]) _ _ _) i

@[simp ↓] theorem State.endSwitches_quiet : Quiet s.endSwitches.waits := by
  rw [State.endSwitches_waits]
  exact fun stopped => ⟨(hs stopped).1, rfl⟩

omit hs in
@[simp ↓] theorem State.schedule_quiet (t : Take) : Quiet (s.schedule t).waits := State.takesNow_quiet _

@[simp ↓] theorem State.dropRestore_quiet (stripe : Nat) : Quiet (s.dropRestore stripe).waits := by
  unfold State.dropRestore
  extract_lets mine
  split
  · rw [State.strCmdEnd_waits]
    intro stopped
    obtain ⟨takes, switches⟩ := hs stopped
    exact ⟨by simp [State.waits_mk, show s.str.takes = [] from takes], switches⟩
  · exact hs

@[simp ↓] theorem State.takeCmd_quiet (stripe : Nat) (restore : Bool) : Quiet (s.takeCmd stripe restore).waits := by
  unfold State.takeCmd; (repeat' split) <;> simp [hs]

@[simp ↓] theorem State.dpFault_quiet (d kind : Nat) : Quiet (s.dpFault d kind).waits := by
  unfold State.dpFault
  extract_lets x s1 works s2 s3
  have hit : s1.waits = s.waits := by simp only [s1, State.note_waits, State.setDp_waits]
  have flagged : s2.waits = s.waits := by
    unfold s2
    split
    · extract_lets
      split
      · rw [State.damageFrame_waits, foldl_keeps State.waits _ _ _ fun a k => by rw [State.flagLine_waits], hit]
      · exact hit
    · exact hit
  have told : Quiet s3.waits := by simpa only [s3, State.alarm_waits, State.faultEv_waits, State.setInt_waits, flagged]
  (repeat' split) <;> simp [told]

@[simp ↓] theorem State.testResult_quiet (d : Nat) (back : DpState) (pass : Bool) :
    Quiet (s.testResult d back pass).waits := by unfold State.testResult; simp [hs]

@[simp ↓] theorem State.selftestDone_quiet (pass : Bool) : Quiet (s.selftestDone pass).waits := by
  unfold State.selftestDone; split <;> simp [hs]

@[simp ↓] theorem State.spareSelftest_quiet (d : Nat) (pass : Bool) : Quiet (s.spareSelftest d pass).waits := by
  unfold State.spareSelftest
  extract_lets last k start s0 src s1
  have begun : Quiet s1.waits := by
    rw [State.waits_mk]
    split <;> exact hs
  split
  · exact hs
  · simp [begun]

@[simp ↓] theorem State.strCtrlWrite_quiet (v : Word) : Quiet (s.strCtrlWrite v).waits := by
  unfold State.strCtrlWrite
  extract_lets s0 stripe s1 s2
  have tested : Quiet s1.waits := by unfold s1; split <;> simpa [s0] using hs
  have restored : Quiet s2.waits := by unfold s2; split <;> simp [tested]
  split <;> simp [restored]

theorem State.strWrite_quiet (who : Who) (a : Nat) (v : Word) {t : State} (h : s.strWrite who a v = some t) :
    Quiet t.waits := by unfold State.strWrite at h; (repeat' split at h) <;> simp at h <;> subst h <;> simp [hs]

omit hs in
@[simp ↓] theorem State.quietNow_quiet : Quiet s.quietNow.waits := by
  unfold State.quietNow
  split
  · next ticks => exact State.quiet_of_ticking ticks
  · simp

@[simp ↓] theorem State.bootTest_quiet (b : BootIn) : Quiet (s.bootTest b).state.waits := by
  unfold State.bootTest
  extract_lets one s1 lanes s2 spared s3
  have tested : Quiet s1.waits := foldl_quiet _ _ hs fun a d ha => State.testResult_quiet ha _ _ _
  have failed : Quiet s2.waits := by unfold s2; split <;> simp [tested]
  have spared : Quiet s3.waits := by simpa only [s3, State.modBoot_waits] using failed
  split <;> simpa using spared

@[simp ↓] theorem State.stripeStart_quiet (op arg : Nat) : Quiet (s.stripeStart op arg).1.waits := by
  unfold State.stripeStart; simp [hs]

@[simp ↓] theorem State.ackTakeover_quiet (unit : Nat) : Quiet (s.ackTakeover unit).waits := by
  unfold State.ackTakeover; simp [hs]

@[simp ↓] theorem State.alarmAck_quiet (who : Who) (v : Word) : Quiet (s.alarmAck who v).waits := by
  unfold State.alarmAck; split <;> simp [hs]

omit hs in
theorem State.seqTo_quiet {q : SeqState} (h : q ≠ .stopped) : Quiet (s.seqTo q).waits := Quiet.of_running h

omit hs in
@[simp ↓] theorem State.drainFrom_quiet : Quiet s.drainFrom.waits := Quiet.of_running nofun

@[simp ↓] theorem State.drainPassed_quiet : Quiet s.drainPassed.waits := by
  unfold State.drainPassed; (repeat' split) <;> simp [hs, State.seqTo_quiet]

@[simp ↓] theorem State.drainTick_quiet : Quiet s.drainTick.waits := by
  unfold State.drainTick; dsimp only; (repeat' split) <;> simp [hs]

@[simp ↓] theorem State.seqAtFT_quiet (t : Nat) (trig cont : Bool) : Quiet (s.seqAtFT t trig cont).1.waits := by
  unfold State.seqAtFT; dsimp only; (repeat' split) <;> simp [hs, State.seqTo_quiet]

@[simp ↓] theorem State.softsTaken_quiet : Quiet s.softsTaken.waits := by unfold State.softsTaken; simp [hs]

@[simp ↓] theorem State.trigPin_quiet (edge : Nat) : Quiet (s.trigPin edge).waits := by
  unfold State.trigPin; simp [hs]

@[simp ↓] theorem State.stopTicks_quiet : Quiet s.stopTicks.waits := by
  unfold State.stopTicks; split <;> simp [hs]

@[simp ↓] theorem State.pll1Lost_quiet : Quiet s.pll1Lost.waits := by unfold State.pll1Lost; simp [hs]

@[simp ↓] theorem State.enterSafe_quiet (cause : SafeCause) : Quiet (s.enterSafe cause).waits := by
  unfold State.enterSafe; (repeat' split) <;> simp [hs]

@[simp ↓] theorem State.thmSafeReq_quiet : Quiet s.thmSafeReq.waits := by unfold State.thmSafeReq; simp [hs]

@[simp ↓] theorem State.thmStep_quiet (f : ThmFired) : Quiet (s.thmStep f).1.waits := by
  unfold State.thmStep; dsimp only; (repeat' split) <;> simp [hs]

@[simp ↓] theorem State.thmSteps_quiet (f : ThmFired) (n : Nat) : Quiet (s.thmSteps f n).waits := by
  induction n generalizing s with
  | zero => exact hs
  | succ n ih =>
    have step := State.thmStep_quiet hs f
    unfold State.thmSteps
    dsimp only
    split
    · exact ih step
    · exact step

@[simp ↓] theorem State.thmFurther_quiet : Quiet s.thmFurther.waits := by
  unfold State.thmFurther; dsimp only; (repeat' split) <;> simp [hs]

@[simp ↓] theorem State.thmEvalF_quiet (f : ThmFired) : Quiet (s.thmEvalF f).waits := by unfold State.thmEvalF; simp [hs]

@[simp ↓] theorem State.thmEval_quiet : Quiet s.thmEval.waits := by unfold State.thmEval; simp [hs]

@[simp ↓] theorem State.thmLeaveSafe_quiet : Quiet s.thmLeaveSafe.waits := by unfold State.thmLeaveSafe; simp [hs]

@[simp ↓] theorem State.sensorWindow_quiet (wins : List SensorWin) : Quiet (s.sensorWindow wins).waits := by
  unfold State.sensorWindow; simp [hs]

@[simp ↓] theorem State.timerTo_quiet (t : Nat) (f : ThmFired) (clear : Thm → Thm) :
    Quiet (s.timerTo t f clear).waits := by unfold State.timerTo; simp [hs]

@[simp ↓] theorem State.graceEnd_quiet : Quiet s.graceEnd.waits := by unfold State.graceEnd; split <;> simp [hs]

@[simp ↓] theorem State.critTimerEnd_quiet : Quiet s.critTimerEnd.waits := by
  unfold State.critTimerEnd; split <;> simp [hs]

@[simp ↓] theorem State.persistEnd_quiet : Quiet s.persistEnd.waits := by unfold State.persistEnd; split <;> simp [hs]

@[simp ↓] theorem State.releaseEnd_quiet : Quiet s.releaseEnd.waits := by unfold State.releaseEnd; split <;> simp [hs]

@[simp ↓] theorem State.extScanEnd_quiet (phases : List (List Int)) : Quiet (s.extScanEnd phases).waits := by
  unfold State.extScanEnd; split <;> simp [hs]

@[simp ↓] theorem State.pllGone_quiet (i : Nat) : Quiet (s.pllGone i).waits := by
  unfold State.pllGone; split <;> simp [hs]

@[simp ↓] theorem State.pllUnlock_quiet (i : Nat) : Quiet (s.pllUnlock i).waits := by unfold State.pllUnlock; simp [hs]

@[simp ↓] theorem State.winLocked_quiet (i : Nat) (p : Pll) (far lost : Bool) :
    Quiet (s.winLocked i p far lost).waits := by unfold State.winLocked; simp [hs]

@[simp ↓] theorem State.pllWindow_quiet (i div count : Nat) : Quiet (s.pllWindow i div count).waits := by
  unfold State.pllWindow; dsimp only; (repeat' split) <;> simp [hs]

@[simp ↓] theorem State.pllOff_quiet (i : Nat) : Quiet (s.pllOff i).waits := by
  unfold State.pllOff; dsimp only; (repeat' split) <;> simp [hs]

@[simp ↓] theorem State.clkCtrlWrite_quiet (who : Who) (v : Word) : Quiet (s.clkCtrlWrite who v).waits := by
  unfold State.clkCtrlWrite; split <;> simp [hs]

@[simp ↓] theorem State.lpllWrite_quiet (who : Who) (v : Word) : Quiet (s.lpllWrite who v).waits := by
  unfold State.lpllWrite
  split
  · simpa using hs
  · refine foldl_quiet _ _ (by simpa using hs) fun a q ha => ?_
    split
    · simpa using ha
    · exact State.pllOff_quiet ha _

@[simp ↓] theorem State.refIsLost_quiet : Quiet s.refIsLost.waits := by
  unfold State.refIsLost
  split
  · exact hs
  · extract_lets s0 s1 s2 old s3 s4
    have undone : s0.waits = s.waits := foldl_keeps State.waits _ _ _ fun a i => State.pllUndo_waits a i
    have held : s1.waits = s.waits := by
      refine (foldl_keeps State.waits _ _ _ fun a i => ?_).trans undone
      extract_lets p b
      split
      · rw [State.setInt_waits, State.setPll_waits]
      · exact State.setPll_waits a _ _
    have quiet : Quiet s1.waits := (congrArg Quiet held).mpr hs
    clear_value s1
    have lost : Quiet s2.waits := by
      unfold s2
      rw [State.setMgtSource_waits]
      split
      · exact State.pll1Lost_quiet quiet
      · exact quiet
    clear_value s2
    have told : Quiet s4.waits := by
      unfold s4
      rw [State.faultEv_waits, State.setInt_waits]
      exact lost
    exact State.enterSafe_quiet (by simpa only [State.fabCheck_waits, State.lanesRefLost_waits] using told) _

@[simp ↓] theorem State.refWindow_quiet (edges : Nat) : Quiet (s.refWindow edges).waits := by
  unfold State.refWindow; dsimp only; (repeat' split) <;> simp [hs]

@[simp ↓] theorem State.refTimeout_quiet (last : Nat) : Quiet (s.refTimeout last).waits := by
  unfold State.refTimeout; simp [hs]

theorem State.clkWrite_quiet (who : Who) (a : Nat) (v : Word) {t : State} (h : s.clkWrite who a v = some t) :
    Quiet t.waits := by
  unfold State.clkWrite at h; (repeat' split at h) <;> simp at h <;> subst h <;> simp [hs]

theorem State.bootClocks_quiet : Quiet ((s.clkCtrlWrite .mc0 1).lpllWrite .mc0 0xffff).waits := by
  -- `c` keeps Lean's kernel from running the first write.
  obtain ⟨c, hc⟩ : ∃ c, s.clkCtrlWrite .mc0 1 = c := ⟨_, rfl⟩
  have written : Quiet c.waits := by rw [← hc]; exact State.clkCtrlWrite_quiet hs .mc0 1
  rw [hc]
  exact State.lpllWrite_quiet written .mc0 0xffff

theorem State.stepEnd_quiet (k v : Nat) (b : BootIn) {e : StepEnd} (h : s.stepEnd k v b = some e) :
    Quiet e.state.waits := by
  unfold State.stepEnd at h
  split at h
  · split at h
    · obtain rfl := Option.some.inj h
      split <;> simpa using hs
    · cases h
  · obtain rfl := Option.some.inj h
    split <;> simpa using hs
  · obtain rfl := Option.some.inj h
    simpa using hs
  · obtain rfl := Option.some.inj h
    simpa using hs
  · obtain rfl := Option.some.inj h
    simpa using hs
  · obtain rfl := Option.some.inj h
    simpa using hs
  · obtain rfl := Option.some.inj h
    dsimp only
    exact State.bootClocks_quiet hs
  · -- step 8: the calibration maps, from the store or at their defaults
    split at h
    · obtain rfl := Option.some.inj h
      simpa using hs
    · split at h
      · next t ht =>
        obtain rfl := Option.some.inj h
        have loaded : s.calLoad = some t := by
          split at ht
          · cases ht
          · exact ht
        simpa [State.calLoad_waits s loaded] using hs
      · obtain rfl := Option.some.inj h
        simpa using hs
  · -- step 9: the defect lists
    split at h
    · obtain rfl := Option.some.inj h
      simpa using hs
    · split at h
      · next t ht =>
        obtain rfl := Option.some.inj h
        have loaded : s.defLoad = some t := by
          split at ht
          · cases ht
          · exact ht
        simpa [State.defLoad_waits s loaded] using hs
      · obtain rfl := Option.some.inj h
        simpa using hs
  · split at h
    · obtain rfl := Option.some.inj h
      exact State.bootTest_quiet hs _
    · split at h
      · cases h
      · obtain rfl := Option.some.inj h
        exact State.bootTest_quiet hs b
  · split at h
    · obtain rfl := Option.some.inj h
      simpa using hs
    · split at h
      · cases h
      · split at h
        all_goals
          obtain rfl := Option.some.inj h
          simpa using hs
  · split at h
    · obtain rfl := Option.some.inj h
      simpa using hs
    · obtain rfl := Option.some.inj h
      split <;> simpa using hs
  · dsimp only at h
    (repeat' split at h) <;> cases h <;> simpa using hs
  · obtain rfl := Option.some.inj h
    split <;> simpa using hs

@[simp ↓] theorem State.bootSafe_quiet : Quiet s.bootSafe.waits := by unfold State.bootSafe; simp [hs]

@[simp ↓] theorem State.bootExhausted_quiet (k : Nat) : Quiet (s.bootExhausted k).waits := by
  unfold State.bootExhausted; simp [hs]

@[simp ↓] theorem State.bootUsedUp_quiet (k : Nat) : Quiet (s.bootUsedUp k).waits := by
  unfold State.bootUsedUp; split <;> simp [hs]

@[simp ↓] theorem State.bootNext_quiet (k : Nat) : Quiet (s.bootNext k).waits := by
  unfold State.bootNext; split <;> simp [hs]

@[simp ↓] theorem State.bootFailed_quiet (k v : Nat) : Quiet (s.bootFailed k v).waits := by
  unfold State.bootFailed; split <;> simp [hs]

@[simp ↓] theorem State.bootStep_quiet (b : BootIn) : Quiet (s.bootStep b).waits := by
  have counted : Quiet ((s.goTo b.at_).eccCount b.corrected).waits := by simpa using hs
  unfold State.bootStep
  dsimp only
  split
  · simpa using hs
  · split
    · exact State.bootNext_quiet (by simpa using hs) 1
    · split
      · exact hs
      · next e he =>
        have noted : Quiet (e.state.bootNote s.sys.boot.step s.sys.boot.variant e.outcome e.detail).waits := by
          simpa using State.stepEnd_quiet counted _ _ b he
        split
        · exact State.bootFailed_quiet noted _ _
        · split
          · simpa using noted
          · exact State.bootNext_quiet noted _

@[simp ↓] theorem State.mboxStart_quiet (op : Nat) : Quiet (s.mboxStart op).1.waits := by
  unfold State.mboxStart; (repeat' split) <;> simp [hs]

@[simp ↓] theorem State.mboxCmd_quiet (op : Nat) : Quiet (s.mboxCmd op).waits := by unfold State.mboxCmd; simp [hs]

@[simp ↓] theorem State.leaveSafe_quiet : Quiet s.leaveSafe.waits := by unfold State.leaveSafe; simp [hs]

@[simp ↓] theorem State.modeRequest_quiet (n : Nat) : Quiet (s.modeRequest n).waits := by
  unfold State.modeRequest; dsimp only; (repeat' split) <;> simp [hs]

@[simp ↓] theorem State.modeReqWrite_quiet (v : Word) : Quiet (s.modeReqWrite v).waits := by
  unfold State.modeReqWrite; simp [hs]

theorem State.sysWrite_quiet (who : Who) (a : Nat) (v : Word) {t : State} (h : s.sysWrite who a v = some t) :
    Quiet t.waits := by
  unfold State.sysWrite at h; (repeat' split at h) <;> simp at h <;> subst h <;> simp [hs]

@[simp ↓] theorem State.changesAtFT_quiet (t : Nat) : Quiet (s.changesAtFT t).waits := by
  unfold State.changesAtFT; simp [hs]

@[simp ↓] theorem State.ftWork_quiet (t : Nat) : Quiet (s.ftWork t).waits := by
  -- `c` keeps Lean's kernel from running the changes at the FT.
  obtain ⟨c, hc⟩ : ∃ c, s.changesAtFT t = c := ⟨_, rfl⟩
  have changed : Quiet c.waits := hc ▸ State.changesAtFT_quiet hs t
  unfold State.ftWork
  rw [hc]
  simp [changed]

@[simp ↓] theorem State.endInterval_quiet (ft : Bool) : Quiet (s.endInterval ft).waits := by
  unfold State.endInterval; split <;> simp [hs]

@[simp ↓] theorem State.tick_quiet (ft : Bool) : Quiet (s.tick ft).waits := by
  unfold State.tick
  extract_lets t old s1 src s2 s3
  have ended : Quiet s1.waits := State.endInterval_quiet (by simpa using hs) ft
  clear_value s1
  have moved : Quiet s2.waits := ended
  clear_value s2
  have worked : Quiet s3.waits := by
    unfold s3
    split
    · exact State.ftWork_quiet moved t
    · exact moved
  refine State.softsTaken_quiet ?_
  rw [State.rigFlush_waits]
  split
  · rwa [State.beginReadout_waits]
  · exact worked

@[simp ↓] theorem State.subFrameTick_quiet : Quiet s.subFrameTick.waits := by unfold State.subFrameTick; simp [hs]

@[simp ↓] theorem State.frameTick_quiet : Quiet s.frameTick.waits := by unfold State.frameTick; simp [hs]

omit hs in
@[simp ↓] theorem State.cold_quiet (until_ : Nat) : Quiet (s.cold until_).waits := fun _ => ⟨rfl, rfl⟩

omit hs in
@[simp ↓] theorem State.warm_quiet (until_ trigEnd causes last : Nat) :
    Quiet (s.warm until_ trigEnd causes last).waits := fun _ => ⟨rfl, rfl⟩

omit hs in
@[simp ↓] theorem State.powerOn_quiet (back : Nat) : Quiet (s.powerOn back).waits := by unfold State.powerOn; simp

@[simp ↓] theorem State.warmReset_quiet (code end_ : Nat) (c : Cut) : Quiet (s.warmReset code end_ c).waits := by
  unfold State.warmReset
  split
  · split <;> simpa using hs
  · simpa using hs
  · exact State.warm_quiet _ _ _ _

@[simp ↓] theorem State.supplyTrip_quiet (outNs backNs : Nat) (c : Cut) : Quiet (s.supplyTrip outNs backNs c).waits := by
  unfold State.supplyTrip; (repeat' split) <;> simp [hs]

@[simp ↓] theorem State.pinReset_quiet (lowNs : Nat) (c : Cut) : Quiet (s.pinReset lowNs c).waits := by
  unfold State.pinReset; dsimp only; (repeat' split) <;> simp [hs]

@[simp ↓] theorem State.resetWrite_quiet (who : Who) (v : Word) (c : Cut) : Quiet (s.resetWrite who v c).waits := by
  unfold State.resetWrite; simp [hs]

@[simp ↓] theorem State.hardTimerEnd_quiet (c : Cut) : Quiet (s.hardTimerEnd c).waits := by
  unfold State.hardTimerEnd; (repeat' split) <;> simp [hs]

theorem State.homeWrite_quiet (who : Who) (a : Nat) (v : Word) {t : State} (h : s.homeWrite who a v = some t) :
    Quiet t.waits := by
  unfold State.homeWrite at h
  split at h
  · cases h; exact hs
  · split at h
    · cases h; exact State.resetWrite_quiet hs _ _ _
    · exact State.sysWrite_quiet hs _ _ _ h
  · exact State.clkWrite_quiet hs _ _ _ h
  · rwa [State.planWrite_waits _ _ _ _ h]
  · exact State.tmgWrite_quiet hs _ _ _ _ h
  · rwa [State.cnvWrite_waits _ _ _ _ h]
  · rwa [State.lnkWrite_waits _ _ _ _ h]
  · rwa [State.fabWrite_waits _ _ _ h]
  · obtain ⟨u, hu, rfl⟩ := Option.map_eq_some_iff.mp h
    rwa [State.rigFlush_waits, State.timeWrite_waits _ _ _ _ hu]
  · rwa [State.monWrite_waits _ _ _ _ h]
  · rwa [State.thmWrite_waits _ _ _ _ h]
  · rwa [State.wdtWrite_waits _ _ _ _ h]
  · rwa [State.vltWrite_waits _ _ _ _ h]
  · rwa [State.secWrite_waits _ _ _ _ h]
  · rwa [State.evlWrite_waits _ _ _ _ h]
  · rwa [State.calWrite_waits _ _ _ h]
  · exact State.strWrite_quiet hs _ _ _ h

@[simp ↓] theorem State.regWrite_quiet (who : Who) (a : Nat) (v : Word) : Quiet (s.regWrite who a v).waits := by
  unfold State.regWrite
  split
  · simpa using hs
  · split
    · next t ht => simpa using State.homeWrite_quiet (by simpa using hs) who a _ ht
    · simp [hs]

@[simp ↓] theorem State.write_quiet (who : Who) (base addr size : Nat) (v : Word) :
    Quiet (s.write who base addr size v).waits := by unfold State.write; dsimp only; (repeat' split) <;> simp [hs]

@[simp ↓] theorem State.portWords_quiet (base a : Nat) (data : List Word) : Quiet (s.portWords base a data).waits := by
  induction data generalizing s a with
  | nil => exact hs
  | cons w r ih =>
    have written := State.write_quiet hs .host base a 4 w
    unfold State.portWords
    split
    · exact hs
    · dsimp only
      split
      · exact written
      · exact ih (by simpa using written) _

@[simp ↓] theorem State.portWrite_quiet (addr : Nat) (data : List Word) (partial_ : Bool) :
    Quiet (s.portWrite addr data partial_).waits := by unfold State.portWrite; simp [hs]

@[simp ↓] theorem State.poke_quiet (who : Who) (a : Nat) (w : Word) : Quiet (s.poke who a w).waits := by
  unfold State.poke; simp [hs]

@[simp ↓] theorem State.mail_quiet (who : Who) (op : Nat) (args : List Word) : Quiet (s.mail who op args).waits := by
  unfold State.mail; simp [hs]

@[simp ↓] theorem State.vault_quiet (who : Who) (op arg : Nat) : Quiet (s.vault who op arg).waits := by
  unfold State.vault; simp [hs]

@[simp ↓] theorem State.resetOut_quiet (who : Who) (w : Word) (cut : Cut) : Quiet (s.resetOut who w cut).waits := by
  unfold State.resetOut; simp [hs]

end Sys2Proof.Machine
end

section
/-!
PROOFS. While no ticks run, nothing waits for one, of every command (R30, R163): O9.
-/

namespace Sys2Proof.Machine

/-- A state that a command answers is quiet. -/
def Out.quiet (o : Out) : Prop := ∀ t, o = .next t → Quiet t.waits

theorem ok_quiet {s : State} (hs : Quiet s.waits) : (ok s : Out).quiet := by
  intro t h
  cases h
  simpa using hs

theorem act_quiet {s f : State} (hs : Quiet s.waits) (hf : Quiet f.waits) : (act s f).quiet := by
  intro t h
  unfold act at h
  split at h
  · exact ok_quiet hf t h
  · cases h
    exact hs

/-- All commands but those named first run as `act` of one function of the state, which has its lemma above. -/
theorem exec_quiet {s : State} (hs : Quiet s.waits) (i : Instr) : Out.quiet (exec i s) := by
  cases i
  case status => exact ok_quiet (by simp [hs])
  case powerOnReset => exact ok_quiet (by simp)
  case supplyTrip => exact ok_quiet (by simp [hs])
  case pinReset => exact ok_quiet (by simp [hs])
  case hostReset => exact ok_quiet (by simp [hs])
  case firmwareReset => exact ok_quiet (by simp [hs])
  case resetRelease => exact ok_quiet (by simp [hs])
  case pllLockWindow pll win =>
    have ticked : Quiet s.frameTick.waits := State.frameTick_quiet hs
    have window : Quiet ({ s.frameTick with now := s.windowEnd 1 }.pllWindow pll.val win.div win.count).waits := by
      simp [ticked]
    exact act_quiet hs (by simp [hs, window])
  all_goals exact act_quiet hs (by simp [hs])

/-- Settles O9: a step is one idle cycle, which changes nothing that waits, or a command (`exec_quiet`). -/
theorem nothingWaitsWhileStopped : Obligations.NothingWaitsWhileStopped := by
  unfold Obligations.NothingWaitsWhileStopped
  intro s t h ok
  have quiet : Quiet s.waits := s.takesQuiet_iff.1 ok
  refine t.takesQuiet_iff.2 ?_
  unfold step at h
  split at h
  · cases h
    simpa [idle] using quiet
  · exact exec_quiet (by simpa using quiet) _ t h

end Sys2Proof.Machine
end

section
/-!
PROOFS. The frame of the commands (O10): a host write that is turned away counts a port error.
-/

namespace Sys2Proof.Machine

/-- A turned-away host write of `WDT_CTRL` is a port error, and that is kept in the system part. -/
theorem State.poke_WDT_CTRL_host_portErrCnt (s : State) (w : Word) :
    (s.poke .host A.WDT_CTRL w).fin.sys.portErrCnt = satAdd s.sys.portErrCnt 1 16 := by
  rw [State.poke_WDT_CTRL, if_pos rfl, State.fin_frame]
  rfl

/-- Refutes O10: `mayChange` lists device time and the watchdog for WDT_START, and the host's WDT_START, which R294
turns away, counts a port error in the system part. Right after reset the count goes from 0 to 1. -/
theorem not_otherPartsStay : ¬ Obligations.OtherPartsStay := by
  unfold Obligations.OtherPartsStay
  rintro ⟨-, frame⟩
  have run : exec (.wdtStart .host 0) State.reset = .next (State.reset.poke .host A.WDT_CTRL (force 0 0)).fin :=
    act_run (s := State.reset) (State.reset.poke .host A.WDT_CTRL (force 0 0)) rfl
  have stays := frame (.wdtStart .host 0) State.reset _ .sys run (by decide) (by decide)
  have counted := State.poke_WDT_CTRL_host_portErrCnt State.reset (force 0 0)
  rw [show _ = State.reset.sys from stays] at counted
  exact absurd counted (by decide)

end Sys2Proof.Machine
end

section
/-!
PROOFS. Writes of DRAM and retained SRAM (R12, R13, R327, R352): O48.
-/

namespace Sys2Proof.Machine

/-! ### Little-endian numbers in memory -/

theorem leBytes_length (v n : Nat) : (leBytes v n).length = n := by
  induction n generalizing v with
  | zero => rfl
  | succ n ih => rw [leBytes, List.length_cons, ih]

theorem ofLE_leBytes (v n : Nat) : ofLE (leBytes v n) = v % 2 ^ (8 * n) := by
  induction n generalizing v with
  | zero => simp [leBytes, ofLE, Nat.mod_one]
  | succ n ih =>
    rw [leBytes, ofLE, ih, BitVec.toNat_ofNat, Nat.mul_succ, Nat.pow_add, Nat.mul_comm (2 ^ (8 * n))]
    exact (Nat.mod_mul (a := 256)).symm

theorem rdBytes_wrBytes (m : Memory) (a : Nat) (l : List Byte) : rdBytes (wrBytes m a l) a l.length = l := by
  induction l generalizing m a with
  | nil => rfl
  | cons b r ih =>
    rw [List.length_cons, rdBytes, wrBytes, ih, rdByte_wrBytes_other _ _ _ _ (.inl (Nat.lt_succ_self a)),
      rdByte_wrByte_same]

/-- A number that was written is read back, cut to its bytes. -/
theorem rdLE_wrLE (m : Memory) (a n v : Nat) : rdLE (wrLE m a n v) a n = v % 2 ^ (8 * n) := by
  have back := rdBytes_wrBytes m a (leBytes v n)
  rw [leBytes_length] at back
  rw [rdLE, wrLE, back, ofLE_leBytes]

theorem rdByte_wrLE_other (m : Memory) (a n v : Nat) {q : Nat} (h : q < a ∨ a + n ≤ q) :
    rdByte (wrLE m a n v) q = rdByte m q := rdByte_wrBytes_other _ _ _ _ (by rwa [leBytes_length])

/-! ### The DRAM window -/

theorem State.dramWrite_shut {s : State} {who : Who} {base a : Nat} (n : Nat) (v : Word)
    (h : s.dramShut who (dramAddr base a)) : s.dramWrite who base a n v = s.ignored clsSYS who a := by
  unfold State.dramShut at h
  simp only [State.dramWrite, not_or]
  exact if_pos h

theorem State.dramWrite_open {s : State} {who : Who} {base a : Nat} (n : Nat) (v : Word)
    (h : ¬ s.dramShut who (dramAddr base a)) : s.dramWrite who base a n v =
      { s with dram := wrLE s.dram (dramAddr base a) n (v.toNat % 2 ^ (8 * n)) } := by
  unfold State.dramShut at h
  simp only [State.dramWrite, not_or]
  exact if_neg h

theorem inDramWin_window (off : Nat) : inDramWin (0x10000000 + off % 0x10000000) = true := by
  have below : off % 0x10000000 < 0x10000000 := Nat.mod_lt _ (by decide)
  simp only [inDramWin, Bool.and_eq_true, decide_eq_true_eq]
  omega

/-- A write through the DRAM window acts at its address with the low bits below its width cleared. -/
theorem exec_dramWindowWrite {s : State} (h : s.released = true) (who : Who) (aper off size : Nat) (v : Word) :
    exec (.dramWindowWrite who aper off size v) s = .next (s.dramWrite who (s.aperture who aper)
      ((0x10000000 + off % 0x10000000) / accessSize who size * accessSize who size) (accessSize who size) v).fin := by
  have inside := (inDramWin_access who size _).trans (inDramWin_window off)
  have isDram : s.write who (s.aperture who aper) (0x10000000 + off % 0x10000000) size v = s.dramWrite who
      (s.aperture who aper) ((0x10000000 + off % 0x10000000) / accessSize who size * accessSize who size)
      (accessSize who size) v := by
    simp only [State.write]
    exact if_pos inside
  rw [← isDram]
  exact act_run _ h

theorem dramWindowIsGuarded : Claims.DramWindowIsGuarded := by
  intro s who aper off size v run n a d
  rw [exec_dramWindowWrite run]
  refine ⟨fun shut => ?_, fun opened => ⟨_, exec_dramWindowWrite run who aper off size v, ?_⟩⟩
  · rw [State.dramWrite_shut n v shut]
  · rw [State.dramWrite_open n v opened]
    dsimp only
    rw [State.fin_dram]
    refine ⟨(rdLE_wrLE ..).trans (Nat.mod_mod _ _), fun q outside => rdByte_wrLE_other _ _ _ _ outside, ?_⟩
    exact State.fin_frame _

/-! ### Retained SRAM -/

/-- Firmware's own words and scratch in retained SRAM (R327). -/
theorem State.retWrite_own (s : State) {who : Who} (p n : Nat) (v : Word) (hw : who ≠ .host)
    (own : (0x1000 ≤ p ∧ p < 0x1004) ∨ (0x1100 ≤ p ∧ p < 0x2000)) :
    s.retWrite who (0x400000 + p) n v = { s with ret := wrLE s.ret p n (v.toNat % 2 ^ (8 * n)) } := by
  simp only [State.retWrite, Nat.add_sub_cancel_left]
  rw [if_neg hw, if_pos own]
  rfl

theorem State.retWrite_ignored (s : State) {who : Who} {p : Nat} (n : Nat) (v : Word)
    (h : who = .host ∨ p < 0x1000 ∨ (0x1004 ≤ p ∧ p < 0x1008) ∨ (0x1040 ≤ p ∧ p < 0x1100)) :
    s.retWrite who (0x400000 + p) n v = s.ignored clsSYS who (0x400000 + p) := by
  simp only [State.retWrite, Nat.add_sub_cancel_left]
  by_cases hw : who = .host
  · rw [if_pos hw]
  · have record := h.resolve_left hw
    rw [if_neg hw, if_neg (by omega), if_neg (by omega)]

/-- Retained SRAM begins on a word, so clearing low address bits clears those of the offset. -/
theorem retAddr_access (who : Who) (size o : Nat) :
    (0x400000 + o) / accessSize who size * accessSize who size =
      0x400000 + o / accessSize who size * accessSize who size := by
  rcases accessSize_cases who size with h | h | h <;> rw [h] <;> omega

theorem exec_registerWrite_ret {s : State} (h : s.released = true) (who : Who) (aper : Nat) {o : Nat} (size : Nat)
    (v : Word) (ho : o < 0x2000) : exec (.registerWrite who aper (mkWord (0x400000 + o)) size v) s =
      .next (s.retWrite who (0x400000 + o / accessSize who size * accessSize who size) (accessSize who size) v).fin := by
  have address : (mkWord (0x400000 + o)).toNat = 0x400000 + o := Nat.mod_eq_of_lt (by omega)
  have dram : inDramWin ((0x400000 + o) / accessSize who size * accessSize who size) = false := by
    rw [inDramWin_access]
    simp [inDramWin]
    omega
  have ret : inRet ((0x400000 + o) / accessSize who size * accessSize who size) = true := by
    rw [inRet_access]
    simp [inRet]
    omega
  have block : blockClass ((0x400000 + o) / accessSize who size * accessSize who size) = some clsSYS := by
    simp only [inRet, Bool.and_eq_true, decide_eq_true_eq] at ret
    unfold blockClass
    rw [if_neg (by omega), if_neg (by omega), if_neg (by omega), if_neg (by omega), if_pos (by omega)]
  rw [exec_registerWrite h, address, ← retAddr_access]
  simp only [State.write, dram, block, ret, Bool.false_eq_true, if_false, if_true]

theorem retainedMemoryIsGuarded : Claims.RetainedMemoryIsGuarded := by
  intro s who aper o size v run ho n p
  refine ⟨fun hw own => ⟨_, exec_registerWrite_ret run who aper size v ho, ?_⟩, fun ignored => ?_⟩
  · rw [State.retWrite_own s p n v hw own]
    dsimp only
    rw [State.fin_ret]
    refine ⟨(rdLE_wrLE ..).trans (Nat.mod_mod _ _), fun q outside => rdByte_wrLE_other _ _ _ _ outside, ?_⟩
    exact State.fin_frame _
  · rw [exec_registerWrite_ret run who aper size v ho, State.retWrite_ignored s n v ignored]

/-- Settles O48: a write of DRAM or of retained SRAM is `wrLE` at its address, or `State.ignored`. -/
theorem memoriesAreGuarded : Obligations.MemoriesAreGuarded := by
  unfold Obligations.MemoriesAreGuarded
  exact ⟨dramWindowIsGuarded, retainedMemoryIsGuarded⟩

end Sys2Proof.Machine
end

section
/-!
PROOFS. Mode requests (R17, R298): O49.
-/

namespace Sys2Proof.Machine

/-- A device in SAFE for a lost reference that is back, both PLLs locked again, while a die sensor reads 126 °C and
condition X of R372 holds. Condition X is not among the active causes of SAFE here, which R318 would make it; the
statement does not ask for that. -/
def hotSafe : State :=
  { State.reset with
    sys := { State.reset.sys with mode := .safe, safeCause := 3, safeActive := 4 }
    clk := { State.reset.clk with refOk := true, plls := [(0, { state := .locked }), (1, { state := .locked })] }
    thm := { State.reset.thm with state := .safe, condX := true, tjMax := some (degC 126, 0) } }

/-- The request of `hotSafe` for STANDBY ends in SAFE again: the thermal block, which takes up its states as SAFE is
left, finds condition X. -/
theorem hotSafe_standby_mode : (hotSafe.poke .host A.SYS_MODE_REQ (force 1 3)).fin.sys.mode = .safe := by
  decide +kernel

/-- Refutes O49: at `hotSafe` no cause of refusal holds for STANDBY, and the device does not stay there. The statement
speaks of all states and asks nothing of the thermal conditions. -/
theorem not_modeRequestsAreJudged : ¬ Obligations.ModeRequestsAreJudged := by
  unfold Obligations.ModeRequestsAreJudged
  intro judged
  obtain ⟨-, -, -, accepted, -⟩ := judged hotSafe .host 1 rfl
  obtain ⟨leaves, -, -⟩ := accepted .standby (by decide) (by decide) (by decide +kernel)
  obtain ⟨t, run, mode, -⟩ := leaves rfl
  have run' : exec (.modeRequest .host 1) hotSafe = .next (hotSafe.poke .host A.SYS_MODE_REQ (force 1 3)).fin :=
    act_run (s := hotSafe) _ rfl
  rw [Host.Outcome.next.inj (run.symm.trans run'), hotSafe_standby_mode] at mode
  cases mode

end Sys2Proof.Machine
end

section
/-!
PROOFS. The word that a control write brings to a register of the TMG block, and what is left of it when one of its
bits is written as 1 in any case (R290, R67).
-/

namespace Sys2Proof.Machine

/-! ### Words with one bit forced to 1 -/

theorem force_toNat (w : Word) {k : Nat} (hk : k < 32) : (force w k).toNat = w.toNat ||| 2 ^ k := by
  have below : 2 ^ k < 2 ^ 32 := Nat.pow_lt_pow_right (by decide) hk
  simp only [force, mkWord, BitVec.toNat_or, BitVec.toNat_ofNat, Nat.mod_eq_of_lt below]

theorem wbit_force_same (w : Word) {k : Nat} (hk : k < 32) : wbit (force w k) k = true := by
  simp [wbit, force_toNat w hk]

theorem wbit_force_other (w : Word) {k i : Nat} (hk : k < 32) (h : i ≠ k) : wbit (force w k) i = wbit w i := by
  simp [wbit, force_toNat w hk, Ne.symm h]

theorem wfield_force_above (w : Word) {k lo : Nat} (n : Nat) (hk : k < 32) (h : k < lo) :
    wfield (force w k) lo n = wfield w lo n := by
  have gone : 2 ^ k >>> lo = 0 := by
    rw [Nat.shiftRight_eq_div_pow]
    exact Nat.div_eq_of_lt (Nat.pow_lt_pow_right (by decide) h)
  rw [wfield, field, force_toNat w hk, Nat.shiftRight_or_distrib, gone, Nat.or_zero]
  rfl

/-! ### The word that stands (R290) -/

theorem State.standing_eq {a : Nat} {y : Word} (h : homeMask a = y.toNat) (s : State) (who : Who) (w : Word) :
    s.standing who a w = if s.outranked who a then (w &&& ~~~y) ||| (s.reg a &&& y) else w := by
  have kept : mkWord ((s.reg a).toNat &&& y.toNat) = s.reg a &&& y := by
    rw [← BitVec.toNat_and]
    exact BitVec.ofNat_toNat _ _
  have both : mkWord ((w.toNat - (w.toNat &&& y.toNat)) ||| (s.rn a &&& y.toNat)) =
      (w &&& ~~~y) ||| (s.reg a &&& y) := by
    rw [State.rn_eq, ← mkWord_sub_and, ← kept]
    exact BitVec.ofNat_or
  rw [State.standing, h, both]

/-- A bit that no later writer's word replaces may be forced to 1 before or after. -/
theorem State.standing_force {a k : Nat} {y : Word} (h : homeMask a = y.toNat) (hk : mkWord (2 ^ k) &&& ~~~y = mkWord (2 ^ k))
    (s : State) (who : Who) (w : Word) : s.standing who a (force w k) = force (s.standing who a w) k := by
  rw [State.standing_eq h, State.standing_eq h]
  split
  · rw [force, force, BitVec.and_or_distrib_right, hk, BitVec.or_assoc, BitVec.or_assoc, BitVec.or_comm (mkWord (2 ^ k))]
  · rfl

theorem State.wbit_standing {a i : Nat} {y : Word} (h : homeMask a = y.toNat) (hi : y.toNat.testBit i = false)
    (s : State) (who : Who) (w : Word) : wbit (s.standing who a w) i = wbit w i := by
  rw [State.standing_eq h]
  split
  · rw [wbit, BitVec.toNat_or, Nat.testBit_or, testBit_and_not, BitVec.toNat_and, Nat.testBit_and, hi]
    simp [wbit]
  · rfl

/-- The RW bits of `TMG_LIVE_CTRL`: AT_FRAME and MASK (R71). -/
def liveCtrlBits : Word := 0x0FFF0002

theorem homeMask_TMG_LIVE_CTRL : homeMask A.TMG_LIVE_CTRL = liveCtrlBits.toNat := by decide

end Sys2Proof.Machine
end

section
/-!
PROOFS. Live exposure sets (R67 to R69): O41.
-/

namespace Sys2Proof.Machine

/-! ### The staging registers (R71) -/

/-- The words of a staging entry, in the order of their registers. -/
def Entry.word (e : Entry) : Nat → Nat
  | 0 => e.start
  | 1 => e.len
  | 2 => e.hcg + 16 * e.lcg
  | _ => e.weight

/-- Register `i` of staging entry `j`. -/
def stagingReg (j i : Nat) : Nat := A.TMG_LSTG + 16 * j + 4 * i

theorem State.stageEntry_reg_own (s : State) (j : Nat) (e : Entry) {i : Nat} (hi : i < 4) :
    (s.stageEntry j e).reg (stagingReg j i) = mkWord (e.word i) := by
  simp only [State.stageEntry, State.setRn_eq, State.setReg_reg, stagingReg]
  match i, hi with
  | 0, _ | 1, _ | 2, _ | 3, _ => simp [Entry.word]

theorem State.stageEntry_reg_other (s : State) (j : Nat) (e : Entry) {a : Nat}
    (h : a < A.TMG_LSTG + 16 * j ∨ A.TMG_LSTG + 16 * j + 16 ≤ a) : (s.stageEntry j e).reg a = s.reg a := by
  simp only [State.stageEntry, State.setRn_eq, State.setReg_reg]
  rw [if_neg (by omega), if_neg (by omega), if_neg (by omega), if_neg (by omega)]

/-- The first `n` entries of `f`, copied to staging. -/
def State.staged (s : State) (f : Nat → Entry) (n : Nat) : State :=
  (List.range n).foldl (fun (a : State) j => a.stageEntry j (f j)) s

theorem State.staged_succ (s : State) (f : Nat → Entry) (n : Nat) :
    s.staged f (n + 1) = (s.staged f n).stageEntry n (f n) := by simp [State.staged, List.range_succ]

theorem State.staged_reg_in (s : State) (f : Nat → Entry) (n : Nat) {j i : Nat} (hj : j < n) (hi : i < 4) :
    (s.staged f n).reg (stagingReg j i) = mkWord ((f j).word i) := by
  induction n with
  | zero => exact absurd hj (Nat.not_lt_zero j)
  | succ n ih =>
    rw [State.staged_succ]
    rcases Nat.lt_succ_iff_lt_or_eq.1 hj with below | rfl
    · rw [State.stageEntry_reg_other _ _ _ (by simp only [stagingReg]; omega), ih below]
    · exact State.stageEntry_reg_own _ _ _ hi

theorem State.staged_reg_out (s : State) (f : Nat → Entry) (n : Nat) {a : Nat}
    (h : a < A.TMG_LSTG ∨ A.TMG_LSTG + 16 * n ≤ a) : (s.staged f n).reg a = s.reg a := by
  induction n with
  | zero => rfl
  | succ n ih => rw [State.staged_succ, State.stageEntry_reg_other _ _ _ (by omega), ih (by omega)]

/-- Copying to staging writes registers and nothing else. -/
theorem State.staged_frame (s : State) (f : Nat → Entry) (n : Nat) :
    s.staged f n = { s with regs := (s.staged f n).regs } := by
  induction n with
  | zero => rfl
  | succ n ih =>
    have step (a : State) : a.stageEntry n (f n) = { a with regs := (a.stageEntry n (f n)).regs } := rfl
    rw [State.staged_succ, step, ih]

/-- Entry `j` of what is in force, 0 while no plan is live (R67). -/
def State.entryInForce (s : State) (j : Nat) : Entry :=
  match s.inForce with
  | some c => c.sched.entries.getD j {}
  | none => {}

theorem State.liveCopy_eq (s : State) : s.liveCopy = s.staged s.entryInForce 12 := by
  unfold State.liveCopy State.staged State.entryInForce State.inForce
  cases s.plan.live <;> cases s.tmg.cur <;> rfl

theorem State.stagingEntry_congr {s t : State} {j : Nat} (h : ∀ i, i < 4 → t.reg (stagingReg j i) = s.reg (stagingReg j i)) :
    t.stagingEntry j = s.stagingEntry j := by
  have w0 : t.reg (A.TMG_LSTG + 16 * j) = s.reg (A.TMG_LSTG + 16 * j) := h 0 (by decide)
  have w1 : t.reg (A.TMG_LSTG + 16 * j + 4) = s.reg (A.TMG_LSTG + 16 * j + 4) := h 1 (by decide)
  have w2 : t.reg (A.TMG_LSTG + 16 * j + 8) = s.reg (A.TMG_LSTG + 16 * j + 8) := h 2 (by decide)
  have w3 : t.reg (A.TMG_LSTG + 16 * j + 12) = s.reg (A.TMG_LSTG + 16 * j + 12) := h 3 (by decide)
  simp only [State.stagingEntry, State.rf_eq, w0, w1, w2, w3]

/-! ### What GO judges -/

/-- What a write of `v` to `TMG_LIVE_CTRL` does before its GO acts: it stores the RW bits, and COPY copies. -/
def State.liveStaged (s : State) (v : Word) : State :=
  let s0 := s.setRn A.TMG_LIVE_CTRL (v.toNat &&& 0x0FFF0002)
  if wbit v 2 then s0.liveCopy else s0

theorem State.liveCtrlWrite_eq (s : State) (v : Word) : s.liveCtrlWrite v =
    if wbit v 0 then (s.liveStaged v).liveGo (wbit v 1) (wfield v 16 12) else s.liveStaged v := rfl

theorem State.liveStaged_copy (s : State) {v : Word} (h : wbit v 2 = true) :
    s.liveStaged v = (s.setRn A.TMG_LIVE_CTRL (v.toNat &&& 0x0FFF0002)).staged s.entryInForce 12 := by
  rw [State.liveStaged, if_pos h, State.liveCopy_eq]
  rfl

theorem State.liveStaged_frame (s : State) (v : Word) : s.liveStaged v = { s with regs := (s.liveStaged v).regs } := by
  cases copy : wbit v 2 with
  | true => rw [State.liveStaged_copy s copy, State.staged_frame]; rfl
  | false => rw [State.liveStaged, copy]; rfl

theorem State.liveStaged_reg_other (s : State) (v : Word) {a : Nat} (h : a < A.TMG_LSTG) (ha : a ≠ A.TMG_LIVE_CTRL) :
    (s.liveStaged v).reg a = s.reg a := by
  cases copy : wbit v 2 with
  | true => rw [State.liveStaged_copy s copy, State.staged_reg_out _ _ _ (.inl h), State.setRn_eq, State.setReg_reg_other _ _ ha]
  | false =>
    rw [State.liveStaged, copy]
    exact State.setReg_reg_other _ _ ha

theorem State.liveStaged_stagingEntry (s : State) (v : Word) {j : Nat} (hj : j < 12) :
    (s.liveStaged v).stagingEntry j = (if wbit v 2 then s.liveCopy else s).stagingEntry j := by
  refine State.stagingEntry_congr fun i hi => ?_
  cases copy : wbit v 2 with
  | true =>
    rw [State.liveStaged_copy s copy, State.staged_reg_in _ _ _ hj hi, if_pos rfl, State.liveCopy_eq,
      State.staged_reg_in _ _ _ hj hi]
  | false =>
    rw [State.liveStaged, copy]
    exact State.setReg_reg_other _ _ (by simp only [stagingReg, A.TMG_LSTG, A.TMG_LIVE_CTRL]; omega)

/-- The set that GO takes from the staging registers. -/
def State.liveTaken (s : State) (atFrame : Bool) (mask : Nat) : LiveSet :=
  { entries := (List.range 12).map s.stagingEntry, mask := mask
    target := if atFrame then some (s.rn A.TMG_LIVE_TARGET) else none, go := s.seqEdge s.now }

theorem State.liveGo_eq (s : State) (atFrame : Bool) (mask : Nat) : s.liveGo atFrame mask =
    let l := s.liveTaken atFrame mask
    if l.bad s.inForce ≠ [] then s.liveReject 2 (l.bad s.inForce)
    else if atFrame && s.targetPast (s.rn A.TMG_LIVE_TARGET) (s.seqEdge s.now) then s.livePast
    else { s with tmg := { s.tmg with
      live := some l, liveResult := if s.tmg.live.isSome then 5 else s.tmg.liveResult } } := rfl

/-- GO on the staged state takes the set that `State.liveSetOf` describes, and judges it by what was in force. -/
theorem State.liveTaken_liveStaged (s : State) (who : Who) (w : Word) :
    let v := s.standing who A.TMG_LIVE_CTRL w
    (s.liveStaged (force v 0)).liveTaken (wbit v 1) (wfield v 16 12) = s.liveSetOf who w := by
  intro v
  have copy : wbit (force v 0) 2 = wbit w 2 :=
    (wbit_force_other v (by decide) (by decide)).trans (State.wbit_standing homeMask_TMG_LIVE_CTRL (by decide) s who w)
  have entries : (List.range 12).map (s.liveStaged (force v 0)).stagingEntry =
      (List.range 12).map (if wbit w 2 then s.liveCopy else s).stagingEntry :=
    List.map_congr_left fun j hj => by rw [State.liveStaged_stagingEntry _ _ (List.mem_range.1 hj), copy]
  have target : (s.liveStaged (force v 0)).rn A.TMG_LIVE_TARGET = s.rn A.TMG_LIVE_TARGET :=
    congrArg BitVec.toNat (State.liveStaged_reg_other s _ (by decide) (by decide))
  have go : (s.liveStaged (force v 0)).seqEdge (s.liveStaged (force v 0)).now = s.seqEdge s.now := by
    rw [State.liveStaged_frame]
    rfl
  simp only [State.liveTaken, State.liveSetOf, entries, target, go, v]

/-- A write with GO, in terms of the state before it. -/
theorem State.liveCtrlWrite_go (s : State) (who : Who) (w : Word) :
    let v := s.standing who A.TMG_LIVE_CTRL w
    let l := s.liveSetOf who w
    let t := s.liveStaged (force v 0)
    s.liveCtrlWrite (force v 0) =
      if l.bad s.inForce ≠ [] then t.liveReject 2 (l.bad s.inForce)
      else if wbit v 1 && s.targetPast (s.rn A.TMG_LIVE_TARGET) (s.seqEdge s.now) then t.livePast
      else { t with tmg := { s.tmg with
        live := some l, liveResult := if s.tmg.live.isSome then 5 else s.tmg.liveResult } } := by
  intro v l t
  have frame : t = { s with regs := t.regs } := s.liveStaged_frame (force v 0)
  have target : t.rn A.TMG_LIVE_TARGET = s.rn A.TMG_LIVE_TARGET :=
    congrArg BitVec.toNat (State.liveStaged_reg_other s _ (by decide) (by decide))
  have inForce : t.inForce = s.inForce := by rw [frame]; rfl
  have tmg : t.tmg = s.tmg := by rw [frame]
  have past (f x : Nat) : t.targetPast f x = s.targetPast f x := by rw [frame]; rfl
  have go : t.seqEdge t.now = s.seqEdge s.now := by rw [frame]; rfl
  rw [State.liveCtrlWrite_eq, if_pos (wbit_force_same v (by decide)), State.liveGo_eq,
    wbit_force_other v (by decide) (by decide), wfield_force_above v _ (by decide) (by decide),
    State.liveTaken_liveStaged s who w, inForce, target, past, go, tmg]

/-! ### The commands -/

theorem State.wroteBy_tmg (t s : State) (who : Who) (a : Nat) : (t.wroteBy s who a).tmg = t.tmg := by
  rw [State.wroteBy_frame]
theorem State.wroteBy_plan (t s : State) (who : Who) (a : Nat) : (t.wroteBy s who a).plan = t.plan := by
  rw [State.wroteBy_frame]
theorem State.wroteBy_reg (t s : State) (who : Who) (a b : Nat) : (t.wroteBy s who a).reg b = t.reg b :=
  State.reg_of_regs (by rw [State.wroteBy_frame]) b

theorem State.setInt_rb_same (s : State) (a : Nat) {i : Nat} (hi : i < 32) : (s.setInt a i).rb a i = true := by
  have below : (s.rn a ||| 2 ^ i) < 2 ^ 32 :=
    Nat.or_lt_two_pow (s.reg a).isLt (Nat.pow_lt_pow_right (by decide) hi)
  rw [State.setInt_eq, State.rb_eq, State.note_reg, State.setReg_reg_same, mkWord, BitVec.toNat_ofNat,
    Nat.mod_eq_of_lt below]
  simp

theorem State.liveReject_rb (s : State) (result : Nat) (bad : List Nat) :
    (s.liveReject result bad).rb A.TMG_INT_STATUS 5 = true := by
  rw [State.liveReject, State.warn_eq, State.rb_eq, State.raise_reg]
  exact State.setInt_rb_same _ _ (by decide)

theorem State.livePast_rb (s : State) : s.livePast.rb A.TMG_INT_STATUS 5 = true := State.setInt_rb_same _ _ (by decide)

theorem State.liveGo_reg_other (s : State) (atFrame : Bool) (mask : Nat) {a : Nat} (h : a ≠ A.TMG_INT_STATUS) :
    (s.liveGo atFrame mask).reg a = s.reg a := by
  rw [State.liveGo_eq]
  dsimp only
  split
  · exact State.setReg_reg_other _ _ h
  · split
    · exact State.setReg_reg_other _ _ h
    · rfl

/-- A write with COPY leaves the entries in force in staging, whatever its GO does. -/
theorem State.liveCtrlWrite_copied (s : State) (v : Word) {j i : Nat} (hj : j < 12) (hi : i < 4) :
    (s.liveCtrlWrite (force v 2)).reg (stagingReg j i) = mkWord ((s.entryInForce j).word i) := by
  have copied : (s.liveStaged (force v 2)).reg (stagingReg j i) = mkWord ((s.entryInForce j).word i) := by
    rw [State.liveStaged_copy s (wbit_force_same v (by decide)), State.staged_reg_in _ _ _ hj hi]
  rw [State.liveCtrlWrite_eq]
  split
  · rw [State.liveGo_reg_other _ _ _ (by simp only [stagingReg, A.TMG_LSTG, A.TMG_INT_STATUS]; omega), copied]
  · exact copied

theorem exec_liveGo {s : State} (h : s.released = true) (who : Who) (w : Word) : exec (.liveGo who w) s =
    .next ((s.liveCtrlWrite (force (s.standing who A.TMG_LIVE_CTRL w) 0)).wroteBy s who A.TMG_LIVE_CTRL).fin := by
  rw [← State.standing_force homeMask_TMG_LIVE_CTRL (by decide), ← State.poke_TMG_LIVE_CTRL]
  exact act_run _ h

theorem exec_liveCopy {s : State} (h : s.released = true) (who : Who) (w : Word) : exec (.liveCopy who w) s =
    .next ((s.liveCtrlWrite (force (s.standing who A.TMG_LIVE_CTRL w) 2)).wroteBy s who A.TMG_LIVE_CTRL).fin := by
  rw [← State.standing_force homeMask_TMG_LIVE_CTRL (by decide), ← State.poke_TMG_LIVE_CTRL]
  exact act_run _ h

/-- Settles O41: GO judges the set that COPY and the staging registers leave (`State.liveCtrlWrite_go`), and COPY
leaves the entries in force in those registers (`State.liveCtrlWrite_copied`). -/
theorem liveSetsArePending : Obligations.LiveSetsArePending := by
  unfold Obligations.LiveSetsArePending
  intro s who w run v l
  refine ⟨fun bad => ⟨_, exec_liveGo run who w, ?_⟩, fun good frame past => ⟨_, exec_liveGo run who w, ?_⟩,
    fun good ahead => ⟨_, exec_liveGo run who w, ?_⟩, fun j hj => ⟨_, exec_liveCopy run who w, ?_⟩⟩
  · rw [State.liveCtrlWrite_go, if_pos bad]
    simp only [State.rb_eq, State.fin_reg, State.wroteBy_reg, State.fin_tmg, State.wroteBy_tmg]
    exact ⟨rfl, rfl, rfl, State.liveReject_rb _ _ _⟩
  · rw [State.liveCtrlWrite_go, if_neg (not_not_intro good), if_pos (by rw [frame, past]; rfl)]
    simp only [State.rb_eq, State.fin_reg, State.wroteBy_reg, State.fin_tmg, State.wroteBy_tmg]
    exact ⟨rfl, rfl, State.livePast_rb _⟩
  · have notPast : ¬ (wbit v 1 && s.targetPast (s.rn A.TMG_LIVE_TARGET) (s.seqEdge s.now)) = true := by
      rcases ahead with now_ | later
      · simp [now_]
      · simp [later]
    rw [State.liveCtrlWrite_go, if_neg (not_not_intro good), if_neg notPast]
    simp only [State.fin_tmg, State.wroteBy_tmg, State.fin_plan, State.wroteBy_plan]
    exact ⟨rfl, by rw [State.liveStaged_frame]⟩
  · have copied {i : Nat} (hi : i < 4) := State.liveCtrlWrite_copied s v hj hi
    simp only [State.rn_eq, State.fin_reg, State.wroteBy_reg]
    exact ⟨congrArg BitVec.toNat (copied (i := 0) (by decide)), congrArg BitVec.toNat (copied (i := 1) (by decide)),
      congrArg BitVec.toNat (copied (i := 2) (by decide)), congrArg BitVec.toNat (copied (i := 3) (by decide))⟩

end Sys2Proof.Machine
end

section
/-!
PROOFS. Triggers and the controls of `TMG_CTRL` (R54 to R56, R59, R71): O39.
-/

namespace Sys2Proof.Machine

/-! ### What a trigger can do (R55) -/

theorem State.commitResult_frame (s : State) (result cause : Nat) : s.commitResult result cause =
    { s with plan := (s.commitResult result cause).plan, regs := (s.commitResult result cause).regs
             rwc := (s.commitResult result cause).rwc } := by
  unfold State.commitResult
  dsimp only
  split <;> rfl

/-- The end of a commit is kept in the plan block and its interrupt register. -/
theorem State.endCommit_frame (s : State) (result cause : Nat) : s.endCommit result cause =
    { s with plan := (s.endCommit result cause).plan, regs := (s.endCommit result cause).regs
             rwc := (s.endCommit result cause).rwc } := by
  unfold State.endCommit
  split
  · rfl
  · dsimp only
    split <;> rw [State.commitResult_frame]

/-- The targets that a trigger tests can end a commit and a live set, and nothing else. -/
theorem State.targetsAtTrigger_keeps {γ : Type} (π : State → γ) (commit : ∀ a, π (a.endCommit 3 0) = π a)
    (live : ∀ a, π a.livePast = π a) (s : State) (ft : Nat) : π (s.targetsAtTrigger ft) = π s := by
  unfold State.targetsAtTrigger
  extract_lets s1
  have first : π s1 = π s := by
    unfold s1
    (repeat' split) <;> simp only [commit]
  (repeat' split) <;> simp only [live, first]

/-- The TMG block but for the live set that waits and its result. -/
def Tmg.besidesLive (t : Tmg) : Tmg := { t with live := none, liveResult := 0 }

theorem State.targetsAtTrigger_tmg (s : State) (ft : Nat) :
    (s.targetsAtTrigger ft).tmg.besidesLive = s.tmg.besidesLive :=
  State.targetsAtTrigger_keeps (fun a => a.tmg.besidesLive) (fun a => by rw [State.endCommit_frame]) (fun _ => rfl) s ft

theorem State.targetsAtTrigger_now (s : State) (ft : Nat) : (s.targetsAtTrigger ft).now = s.now :=
  State.targetsAtTrigger_keeps (fun a => a.now) (fun a => by rw [State.endCommit_frame]) (fun _ => rfl) s ft

/-- A trigger taken: the sequence starts with an FT at instant `ft`. -/
def State.taken (s : State) (ft : Nat) : State :=
  let t := s.targetsAtTrigger ft
  { t with tmg := { t.tmg with seq := .running, pos := ft, fresh := true, j := 0, trigFT := true, burstLeft := 0 } }

section
variable {s : State} {f : TrigFrom} {c : InForce} (live : s.plan.live ≠ none) (cur : s.tmg.cur = some c)
include live cur

theorem State.trigger_eq (mine : c.sched.isTrigger f = true) (e : Nat) (blocked : Bool) : s.trigger f e blocked =
    if s.tmg.seq = .armed ∧ ¬ blocked then s.taken (s.seqEdge (e + us 2))
    else if s.sys.mode.capturing then s.trigMissed else s := by
  obtain ⟨b, live⟩ := Option.ne_none_iff_exists'.1 live
  simp only [State.trigger, live, cur]
  rw [if_neg (not_not_intro mine)]
  rfl

theorem State.trigger_taken (mine : c.sched.isTrigger f = true) (armed : s.tmg.seq = .armed) (e : Nat) :
    s.trigger f e false = s.taken (s.seqEdge (e + us 2)) := by
  rw [State.trigger_eq live cur mine, if_pos ⟨armed, Bool.false_ne_true⟩]

theorem State.trigger_missed (mine : c.sched.isTrigger f = true) {blocked : Bool}
    (shut : s.tmg.seq ≠ .armed ∨ blocked = true) (act : s.sys.mode.capturing = true) (e : Nat) :
    s.trigger f e blocked = s.trigMissed := by
  rw [State.trigger_eq live cur mine, if_neg (fun open_ => shut.elim (· open_.1) open_.2), if_pos act]

theorem State.trigger_inactive (mine : c.sched.isTrigger f = true) {blocked : Bool}
    (shut : s.tmg.seq ≠ .armed ∨ blocked = true) (act : s.sys.mode.capturing = false) (e : Nat) :
    s.trigger f e blocked = s := by
  rw [State.trigger_eq live cur mine, if_neg (fun open_ => shut.elim (· open_.1) open_.2), act]
  rfl

end

theorem State.trigger_foreign {s : State} {f : TrigFrom} {c : InForce} (cur : s.tmg.cur = some c)
    (foreign : s.plan.live = none ∨ c.sched.isTrigger f = false) (e : Nat) (blocked : Bool) :
    s.trigger f e blocked = s := by
  unfold State.trigger
  split
  · next live cur' =>
    obtain rfl := Option.some.inj (cur.symm.trans cur')
    rcases foreign with none | other
    · simp [none] at live
    · simp [other]
  · rfl

/-- A trigger is taken from ARMED, or counts as missed, or does nothing. -/
theorem State.trigger_cases (s : State) (f : TrigFrom) (e : Nat) (blocked : Bool) :
    (s.tmg.seq = .armed ∧ s.trigger f e blocked = s.taken (s.seqEdge (e + us 2))) ∨
      s.trigger f e blocked = s.trigMissed ∨ s.trigger f e blocked = s := by
  cases cur : s.tmg.cur with
  | none => exact .inr (.inr (by unfold State.trigger; rw [cur]; cases s.plan.live <;> rfl))
  | some c =>
    by_cases live : s.plan.live = none
    · exact .inr (.inr (State.trigger_foreign cur (.inl live) e blocked))
    · cases mine : c.sched.isTrigger f with
      | false => exact .inr (.inr (State.trigger_foreign cur (.inr mine) e blocked))
      | true =>
        rw [State.trigger_eq live cur mine]
        split
        · next open_ => exact .inl ⟨open_.1, rfl⟩
        · split
          · exact .inr (.inl rfl)
          · exact .inr (.inr rfl)

/-! ### SOFT_TRIG (R55) -/

/-- A tick is due by the edge of a SOFT_TRIG written now. -/
def State.tickFirst (s : State) : Prop := s.ticking = true ∧ s.seqEdge s.tmg.nextSft ≤ s.seqEdge s.now

theorem State.softTrig_waits {s : State} (h : s.tickFirst) (blocked : Bool) :
    s.softTrig blocked = { s with tmg := { s.tmg with softs := s.tmg.softs ++ [s.seqEdge s.now] } } := by
  unfold State.softTrig
  exact if_pos h

theorem State.softTrig_now {s : State} (h : ¬ s.tickFirst) (blocked : Bool) :
    s.softTrig blocked = s.trigger .soft (s.seqEdge s.now) blocked := by
  unfold State.softTrig
  exact if_neg h

/-- The TMG block but for what a trigger can change. -/
def Tmg.besidesTrigger (t : Tmg) : Tmg :=
  { t.besidesLive with
    seq := .stopped, pos := 0, fresh := false, j := 0, trigFT := false, burstLeft := 0, softs := [], missed := 0 }

theorem State.taken_tmg (s : State) (ft : Nat) : (s.taken ft).tmg.besidesTrigger = s.tmg.besidesTrigger :=
  (congrArg Tmg.besidesTrigger (s.targetsAtTrigger_tmg ft) :)

theorem State.trigger_tmg (s : State) (f : TrigFrom) (e : Nat) (blocked : Bool) :
    (s.trigger f e blocked).tmg.besidesTrigger = s.tmg.besidesTrigger := by
  rcases s.trigger_cases f e blocked with ⟨-, eq⟩ | eq | eq
  · rw [eq, State.taken_tmg]
  · rw [eq]
    rfl
  · rw [eq]

theorem State.softTrig_tmg (s : State) (blocked : Bool) :
    (s.softTrig blocked).tmg.besidesTrigger = s.tmg.besidesTrigger := by
  by_cases tick : s.tickFirst
  · rw [State.softTrig_waits tick]
    rfl
  · rw [State.softTrig_now tick, State.trigger_tmg]

/-- Where the sequencer is not ARMED, a SOFT_TRIG waits, counts as missed or does nothing. -/
theorem State.softTrig_unarmed {s : State} (h : s.tmg.seq ≠ .armed) (blocked : Bool) : (s.softTrig blocked).tmg =
    { s.tmg with softs := (s.softTrig blocked).tmg.softs, missed := (s.softTrig blocked).tmg.missed } := by
  by_cases tick : s.tickFirst
  · rw [State.softTrig_waits tick]
  · rw [State.softTrig_now tick]
    rcases s.trigger_cases .soft (s.seqEdge s.now) blocked with ⟨armed, -⟩ | eq | eq
    · exact absurd armed h
    · rw [eq]
      rfl
    · rw [eq]

theorem State.trigMissed_rb (s : State) : s.trigMissed.rb A.TMG_INT_STATUS 2 = true :=
  State.setInt_rb_same _ _ (by decide)

/-! ### The other controls of `TMG_CTRL` -/

/-- CNT_CLR (R71). -/
def State.ctrlClear (s : State) (v : Word) : State :=
  if wbit v 3 then { s with tmg := { s.tmg with accepted := 0, missed := 0, settleCnt := 0 } } else s

/-- PRESET_LOAD (R59). -/
def State.ctrlPreset (s : State) (who : Who) (v : Word) : State :=
  if wbit v 2 then
    if s.sys.mode = .standby ∧ (s.tmg.seq = .idle ∨ s.tmg.seq = .stopped) then
      { s with tmg := { s.tmg with nNext := s.rn A.TMG_FRAME_PRESET } }
    else s.ignored clsTMG who A.TMG_CTRL
  else s

/-- REALIGN (R54). -/
def State.ctrlRealign (s : State) (who : Who) (v : Word) : State :=
  if wbit v 1 then
    if s.tmg.seq = .idle then { s with tmg := { s.tmg with realign := some s.now } }
    else s.ignored clsTMG who A.TMG_CTRL
  else s

/-- What a write of `v` to `TMG_CTRL` does before its SOFT_TRIG (log entry 9). -/
def State.ctrlActs (s : State) (who : Who) (v : Word) : State :=
  ((s.ctrlClear v).ctrlPreset who v).ctrlRealign who v

theorem State.tmgCtrlWrite_eq (s : State) (who : Who) (v : Word) (blocked : Bool) : s.tmgCtrlWrite who v blocked =
    if wbit v 0 then (s.ctrlActs who v).softTrig blocked else s.ctrlActs who v := rfl

theorem State.ctrlClear_frame (s : State) (v : Word) : s.ctrlClear v = { s with tmg := (s.ctrlClear v).tmg } := by
  unfold State.ctrlClear
  split <;> rfl

theorem State.ctrlPreset_frame (s : State) (who : Who) (v : Word) : s.ctrlPreset who v =
    { s with tmg := (s.ctrlPreset who v).tmg, evl := (s.ctrlPreset who v).evl } := by
  unfold State.ctrlPreset
  (repeat' split) <;> rfl

theorem State.ctrlRealign_frame (s : State) (who : Who) (v : Word) : s.ctrlRealign who v =
    { s with tmg := (s.ctrlRealign who v).tmg, evl := (s.ctrlRealign who v).evl } := by
  unfold State.ctrlRealign
  (repeat' split) <;> rfl

theorem State.ctrlActs_frame (s : State) (who : Who) (v : Word) : s.ctrlActs who v =
    { s with tmg := (s.ctrlActs who v).tmg, evl := (s.ctrlActs who v).evl } := by
  unfold State.ctrlActs
  rw [State.ctrlRealign_frame, State.ctrlPreset_frame, State.ctrlClear_frame]

theorem State.ctrlClear_tmg (s : State) (v : Word) : (s.ctrlClear v).tmg =
    { s.tmg with
      accepted := if wbit v 3 then 0 else s.tmg.accepted, missed := if wbit v 3 then 0 else s.tmg.missed
      settleCnt := if wbit v 3 then 0 else s.tmg.settleCnt } := by
  unfold State.ctrlClear
  split <;> rfl

theorem State.ctrlPreset_tmg (s : State) (who : Who) (v : Word) : (s.ctrlPreset who v).tmg =
    { s.tmg with
      nNext := if wbit v 2 ∧ s.sys.mode = .standby ∧ (s.tmg.seq = .idle ∨ s.tmg.seq = .stopped)
        then s.rn A.TMG_FRAME_PRESET else s.tmg.nNext } := by
  unfold State.ctrlPreset
  split
  · next load =>
    split
    · next open_ => rw [if_pos ⟨load, open_⟩]
    · next shut =>
      rw [if_neg fun h => shut h.2]
      rfl
  · next load => rw [if_neg fun h => load h.1]

theorem State.ctrlRealign_tmg (s : State) (who : Who) (v : Word) : (s.ctrlRealign who v).tmg =
    { s.tmg with realign := if wbit v 1 ∧ s.tmg.seq = .idle then some s.now else s.tmg.realign } := by
  unfold State.ctrlRealign
  split
  · next realign =>
    split
    · next idle => rw [if_pos ⟨realign, idle⟩]
    · next busy =>
      rw [if_neg fun h => busy h.2]
      rfl
  · next realign => rw [if_neg fun h => realign h.1]

theorem State.ctrlActs_tmg (s : State) (who : Who) (v : Word) : (s.ctrlActs who v).tmg =
    { s.tmg with
      accepted := if wbit v 3 then 0 else s.tmg.accepted, missed := if wbit v 3 then 0 else s.tmg.missed
      settleCnt := if wbit v 3 then 0 else s.tmg.settleCnt
      nNext := if wbit v 2 ∧ s.sys.mode = .standby ∧ (s.tmg.seq = .idle ∨ s.tmg.seq = .stopped)
        then s.rn A.TMG_FRAME_PRESET else s.tmg.nNext
      realign := if wbit v 1 ∧ s.tmg.seq = .idle then some s.now else s.tmg.realign } := by
  unfold State.ctrlActs
  rw [State.ctrlRealign_tmg, State.ctrlPreset_tmg, State.ctrlPreset_frame, State.ctrlClear_tmg, State.ctrlClear_frame]
  rfl

/-! ### The commands -/

theorem State.turn_tmg (s : State) (who : Who) (a : Nat) : (s.turn who a).tmg = s.tmg := by rw [State.turn_frame]

theorem State.markWriter_tmg (s : State) (who : Who) (a : Nat) : (s.markWriter who a).tmg = s.tmg := by
  rw [State.markWriter_frame]

/-- A command that writes `v` to `TMG_CTRL`, at the turn of its writer (R290). -/
theorem act_poke_TMG_CTRL {s : State} (h : s.released = true) (who : Who) (v : Word) :
    act s (s.poke who A.TMG_CTRL v) =
      .next (((s.turn who A.TMG_CTRL).tmgCtrlWrite who v s.fgRuns).markWriter who A.TMG_CTRL).fin := by
  have runs : (s.turn who A.TMG_CTRL).fgRuns = s.fgRuns := by rw [State.turn_frame]; rfl
  rw [act_run _ h, State.poke_TMG_CTRL, runs]

theorem State.turn_plan (s : State) (who : Who) (a : Nat) : (s.turn who a).plan = s.plan := by rw [State.turn_frame]

theorem State.turn_seqEdge (s : State) (who : Who) (a x : Nat) : (s.turn who a).seqEdge x = s.seqEdge x := by
  rw [State.turn_frame]
  rfl

/-- The state in which the SOFT_TRIG of a write of `w` is judged. -/
def State.beforeSoft (s : State) (who : Who) (w : Word) : State := (s.turn who A.TMG_CTRL).ctrlActs who (force w 0)

theorem exec_softTrig {s : State} (h : s.released = true) (who : Who) (w : Word) : exec (.softTrig who w) s =
    .next (((s.beforeSoft who w).softTrig s.fgRuns).markWriter who A.TMG_CTRL).fin := by
  have soft : wbit (force w 0) 0 = true := wbit_force_same w (by decide)
  refine (act_poke_TMG_CTRL h who (force w 0)).trans ?_
  rw [State.tmgCtrlWrite_eq, if_pos soft]
  rfl

section
variable (s : State) (who : Who) (w : Word)

theorem State.beforeSoft_frame : s.beforeSoft who w = { s with
    now := (s.turn who A.TMG_CTRL).now, tmg := (s.beforeSoft who w).tmg, evl := (s.beforeSoft who w).evl } := by
  unfold State.beforeSoft
  rw [State.ctrlActs_frame, State.turn_frame]

/-- Nothing but a count, the next frame number and a REALIGN can be other than before. -/
theorem State.beforeSoft_tmg : (s.beforeSoft who w).tmg = { s.tmg with
    accepted := (s.beforeSoft who w).tmg.accepted, missed := if wbit w 3 then 0 else s.tmg.missed
    settleCnt := (s.beforeSoft who w).tmg.settleCnt, nNext := (s.beforeSoft who w).tmg.nNext
    realign := (s.beforeSoft who w).tmg.realign } := by
  unfold State.beforeSoft
  rw [State.ctrlActs_tmg, State.turn_tmg, wbit_force_other (i := 3) w (by decide) (by decide)]

theorem State.beforeSoft_plan : (s.beforeSoft who w).plan = s.plan := by rw [State.beforeSoft_frame]
theorem State.beforeSoft_mode : (s.beforeSoft who w).sys.mode = s.sys.mode := by rw [State.beforeSoft_frame]
theorem State.beforeSoft_seq : (s.beforeSoft who w).tmg.seq = s.tmg.seq := by rw [State.beforeSoft_tmg]
theorem State.beforeSoft_cur : (s.beforeSoft who w).tmg.cur = s.tmg.cur := by rw [State.beforeSoft_tmg]
theorem State.beforeSoft_missed : (s.beforeSoft who w).tmg.missed = if wbit w 3 then 0 else s.tmg.missed := by
  rw [State.beforeSoft_tmg]

theorem State.beforeSoft_seqEdge (x : Nat) : (s.beforeSoft who w).seqEdge x = s.seqEdge x := by
  rw [State.beforeSoft_frame]
  rfl

theorem State.beforeSoft_now : (s.beforeSoft who w).now = (s.turn who A.TMG_CTRL).now := by
  rw [State.beforeSoft_frame]

theorem State.beforeSoft_tickFirst : (s.beforeSoft who w).tickFirst ↔
    s.ticking = true ∧ s.seqEdge s.tmg.nextSft ≤ s.seqEdge (s.turn who A.TMG_CTRL).now := by
  have ticking : (s.beforeSoft who w).ticking = s.ticking := by
    unfold State.ticking
    rw [State.beforeSoft_seq]
  have next : (s.beforeSoft who w).tmg.nextSft = s.tmg.nextSft := by rw [State.beforeSoft_tmg]; rfl
  unfold State.tickFirst
  rw [ticking, next, State.beforeSoft_seqEdge, State.beforeSoft_seqEdge, State.beforeSoft_now]

end

theorem triggersAreTaken : Claims.TriggersAreTaken := by
  intro s c who w e run cur missed edge waits
  have soft {P : State → Prop} (h : ∀ t, t.tmg = ((s.beforeSoft who w).softTrig s.fgRuns).tmg →
      (∀ a, t.reg a = ((s.beforeSoft who w).softTrig s.fgRuns).reg a) → P t) : Runs (.softTrig who w) s P :=
    ⟨_, exec_softTrig run who w, h _ (by rw [State.fin_tmg, State.markWriter_tmg])
      fun a => by rw [State.fin_reg, State.markWriter_reg]⟩
  have pin {P : State → Prop} (h : P (s.trigPin e).fin) : Runs (.trigEdge e) s P := ⟨_, act_run _ run, h⟩
  have cur' : (s.beforeSoft who w).tmg.cur = some c := (s.beforeSoft_cur who w).trans cur
  refine ⟨fun live mine now_ => ?_, fun first => soft fun t tmg _ => ?_, fun foreign => soft fun t tmg _ => ?_,
    fun live mine => ?_, fun foreign => pin ?_⟩
  · have live' : (s.beforeSoft who w).plan.live ≠ none := by rwa [State.beforeSoft_plan]
    have judged : (s.beforeSoft who w).softTrig s.fgRuns = (s.beforeSoft who w).trigger .soft edge s.fgRuns := by
      rw [State.softTrig_now (mt (s.beforeSoft_tickFirst who w).1 now_), State.beforeSoft_seqEdge, State.beforeSoft_now]
    refine ⟨fun armed free => soft fun t tmg _ => ?_, fun shut act => soft fun t tmg reg => ?_⟩
    · have taken := State.trigger_taken live' cur' mine ((s.beforeSoft_seq who w).trans armed) edge
      have kept := congrArg Tmg.missed ((s.beforeSoft who w).targetsAtTrigger_tmg (s.seqEdge (edge + us 2)))
      rw [judged, free, taken, State.beforeSoft_seqEdge] at tmg
      rw [tmg]
      exact ⟨rfl, rfl, rfl, rfl, kept.trans (s.beforeSoft_missed who w)⟩
    · have missed' := State.trigger_missed live' cur' mine (by rwa [State.beforeSoft_seq])
        (by rwa [State.beforeSoft_mode]) edge
      rw [judged, missed'] at tmg reg
      rw [tmg, State.rb_eq, reg]
      refine ⟨s.beforeSoft_seq who w, ?_, State.trigMissed_rb _⟩
      exact congrArg (satAdd · 1 16) (s.beforeSoft_missed who w)
  · rw [tmg, State.softTrig_waits ((s.beforeSoft_tickFirst who w).2 first), State.beforeSoft_seqEdge,
      State.beforeSoft_now]
    refine ⟨s.beforeSoft_seq who w, ?_, s.beforeSoft_missed who w, ?_⟩
    · exact (congrArg Tmg.pos (s.beforeSoft_tmg who w) :)
    · exact congrArg (· ++ [edge]) (congrArg Tmg.softs (s.beforeSoft_tmg who w) :)
  · by_cases first : (s.beforeSoft who w).tickFirst
    · rw [tmg, State.softTrig_waits first]
      exact ⟨s.beforeSoft_seq who w, s.beforeSoft_missed who w⟩
    · rw [tmg, State.softTrig_now first, State.trigger_foreign cur' (by rwa [State.beforeSoft_plan])]
      exact ⟨s.beforeSoft_seq who w, s.beforeSoft_missed who w⟩
  · refine ⟨fun armed free => pin ?_, fun shut act => pin ?_, fun unarmed inactive => pin ?_⟩
    · have kept := congrArg Tmg.missed ((s.goTo (e + ns30)).targetsAtTrigger_tmg (s.seqEdge (e + us 2)))
      rw [State.trigPin, free, State.trigger_taken (s := s.goTo (e + ns30)) live cur mine armed e, State.fin_tmg,
        State.fin_now]
      exact ⟨rfl, rfl, rfl, rfl, kept, State.targetsAtTrigger_now _ _⟩
    · rw [State.trigPin, State.trigger_missed (s := s.goTo (e + ns30)) live cur mine shut act, State.fin_tmg,
        State.rb_eq, State.fin_reg]
      exact ⟨rfl, State.trigMissed_rb _⟩
    · rw [State.trigPin, State.trigger_inactive (s := s.goTo (e + ns30)) live cur mine (.inl unarmed) inactive,
        State.fin_tmg]
      rfl
  · rw [State.trigPin, State.trigger_foreign (s := s.goTo (e + ns30)) cur foreign, State.fin_tmg]
    rfl

section
variable (s : State) (who : Who) (v : Word) (blocked : Bool)

theorem State.tmgCtrlWrite_tmg :
    (s.tmgCtrlWrite who v blocked).tmg.besidesTrigger = (s.ctrlActs who v).tmg.besidesTrigger := by
  rw [State.tmgCtrlWrite_eq]
  split
  · exact State.softTrig_tmg _ _
  · rfl

theorem State.tmgCtrlWrite_realign : (s.tmgCtrlWrite who v blocked).tmg.realign =
    if wbit v 1 ∧ s.tmg.seq = .idle then some s.now else s.tmg.realign :=
  (congrArg Tmg.realign (s.tmgCtrlWrite_tmg who v blocked) :).trans (congrArg Tmg.realign (s.ctrlActs_tmg who v) :)

theorem State.tmgCtrlWrite_nNext : (s.tmgCtrlWrite who v blocked).tmg.nNext =
    if wbit v 2 ∧ s.sys.mode = .standby ∧ (s.tmg.seq = .idle ∨ s.tmg.seq = .stopped)
      then s.rn A.TMG_FRAME_PRESET else s.tmg.nNext :=
  (congrArg Tmg.nNext (s.tmgCtrlWrite_tmg who v blocked) :).trans (congrArg Tmg.nNext (s.ctrlActs_tmg who v) :)

theorem State.tmgCtrlWrite_accepted :
    (s.tmgCtrlWrite who v blocked).tmg.accepted = if wbit v 3 then 0 else s.tmg.accepted :=
  (congrArg Tmg.accepted (s.tmgCtrlWrite_tmg who v blocked) :).trans (congrArg Tmg.accepted (s.ctrlActs_tmg who v) :)

theorem State.tmgCtrlWrite_settleCnt :
    (s.tmgCtrlWrite who v blocked).tmg.settleCnt = if wbit v 3 then 0 else s.tmg.settleCnt :=
  (congrArg Tmg.settleCnt (s.tmgCtrlWrite_tmg who v blocked) :).trans (congrArg Tmg.settleCnt (s.ctrlActs_tmg who v) :)

variable {s v}

/-- Where the sequencer is not ARMED, a write of `TMG_CTRL` moves neither the sequencer nor the grid. -/
theorem State.tmgCtrlWrite_unarmed (h : s.tmg.seq ≠ .armed) : (s.tmgCtrlWrite who v blocked).tmg.seq = s.tmg.seq ∧
    (s.tmgCtrlWrite who v blocked).tmg.pos = s.tmg.pos := by
  have seq : (s.ctrlActs who v).tmg.seq = s.tmg.seq := (congrArg Tmg.seq (s.ctrlActs_tmg who v) :)
  have pos : (s.ctrlActs who v).tmg.pos = s.tmg.pos := (congrArg Tmg.pos (s.ctrlActs_tmg who v) :)
  rw [State.tmgCtrlWrite_eq]
  split
  · rw [State.softTrig_unarmed (by rwa [seq])]
    exact ⟨seq, pos⟩
  · exact ⟨seq, pos⟩

theorem State.tmgCtrlWrite_noSoft (h : wbit v 0 = false) : s.tmgCtrlWrite who v blocked = s.ctrlActs who v := by
  rw [State.tmgCtrlWrite_eq, h, if_neg Bool.false_ne_true]

end

/-- A REALIGN alone outside IDLE is ignored. -/
theorem State.ctrlActs_realign_ignored {s : State} (who : Who) {v : Word} (clear : wbit v 3 = false)
    (preset : wbit v 2 = false) (realign : wbit v 1 = true) (busy : s.tmg.seq ≠ .idle) :
    s.ctrlActs who v = s.ignored clsTMG who A.TMG_CTRL := by
  simp only [State.ctrlActs, State.ctrlClear, State.ctrlPreset, clear, preset, Bool.false_eq_true, if_false]
  rw [State.ctrlRealign, if_pos realign, if_neg busy]

/-- A PRESET_LOAD alone that is not taken is ignored. -/
theorem State.ctrlActs_preset_ignored {s : State} (who : Who) {v : Word} (clear : wbit v 3 = false)
    (preset : wbit v 2 = true) (realign : wbit v 1 = false)
    (shut : ¬ (s.sys.mode = .standby ∧ (s.tmg.seq = .idle ∨ s.tmg.seq = .stopped))) :
    s.ctrlActs who v = s.ignored clsTMG who A.TMG_CTRL := by
  simp only [State.ctrlActs, State.ctrlClear, State.ctrlRealign, clear, realign, Bool.false_eq_true, if_false]
  rw [State.ctrlPreset, if_pos preset, if_neg shut]

theorem timingControlsAct : Claims.TimingControlsAct := by
  intro s who w run
  have acts (k : Nat) {P : State → Prop} (h : ∀ t, t.tmg =
      ((s.turn who A.TMG_CTRL).tmgCtrlWrite who (force w k) s.fgRuns).tmg → P t) :
      ∃ t, act s (s.poke who A.TMG_CTRL (force w k)) = .next t ∧ P t :=
    ⟨_, act_poke_TMG_CTRL run who _, h _ (by rw [State.fin_tmg, State.markWriter_tmg])⟩
  have tmg := s.turn_tmg who A.TMG_CTRL
  have mode : (s.turn who A.TMG_CTRL).sys.mode = s.sys.mode := by rw [State.turn_frame]
  have preset : (s.turn who A.TMG_CTRL).rn A.TMG_FRAME_PRESET = s.rn A.TMG_FRAME_PRESET := by
    rw [State.turn_frame]
    rfl
  have shut (h : s.sys.mode ≠ .standby ∨ (s.tmg.seq ≠ .idle ∧ s.tmg.seq ≠ .stopped)) :
      ¬ ((s.turn who A.TMG_CTRL).sys.mode = .standby ∧
        ((s.turn who A.TMG_CTRL).tmg.seq = .idle ∨ (s.turn who A.TMG_CTRL).tmg.seq = .stopped)) := by
    rw [mode, tmg]
    tauto
  refine ⟨fun idle => acts 1 fun t eq => ?_, fun busy => acts 1 fun t eq => ?_, fun busy b0 b2 b3 => ?_,
    fun standby quiet => acts 2 fun t eq => ?_, fun refused => acts 2 fun t eq => ?_, fun refused b0 b1 b3 => ?_,
    acts 3 fun t eq => ?_, fun b0 b1 b2 => acts 3 fun t eq => ?_⟩
  · obtain ⟨seq, pos⟩ := State.tmgCtrlWrite_unarmed (s := s.turn who A.TMG_CTRL) who (v := force w 1) s.fgRuns
      (by rw [tmg, idle]; decide)
    rw [eq, seq, pos, State.tmgCtrlWrite_realign, tmg, if_pos ⟨wbit_force_same w (by decide), idle⟩]
    exact ⟨rfl, rfl, idle⟩
  · rw [eq, State.tmgCtrlWrite_realign, tmg, if_neg fun h => busy h.2]
  · refine (act_poke_TMG_CTRL run who (force w 1)).trans ?_
    rw [State.tmgCtrlWrite_noSoft _ _ (by rwa [wbit_force_other w (by decide) (by decide)]),
      State.ctrlActs_realign_ignored who (by rwa [wbit_force_other w (by decide) (by decide)])
        (by rwa [wbit_force_other w (by decide) (by decide)]) (wbit_force_same w (by decide)) (by rwa [tmg])]
  · obtain ⟨seq, -⟩ := State.tmgCtrlWrite_unarmed (s := s.turn who A.TMG_CTRL) who (v := force w 2) s.fgRuns
      (by rw [tmg]; rcases quiet with h | h <;> rw [h] <;> decide)
    rw [eq, seq, State.tmgCtrlWrite_nNext, tmg, mode, preset,
      if_pos ⟨wbit_force_same w (by decide), standby, quiet⟩]
    exact ⟨rfl, rfl⟩
  · rw [eq, State.tmgCtrlWrite_nNext, if_neg fun h => shut refused h.2, tmg]
  · refine (act_poke_TMG_CTRL run who (force w 2)).trans ?_
    rw [State.tmgCtrlWrite_noSoft _ _ (by rwa [wbit_force_other w (by decide) (by decide)]),
      State.ctrlActs_preset_ignored who (by rwa [wbit_force_other w (by decide) (by decide)])
        (wbit_force_same w (by decide)) (by rwa [wbit_force_other w (by decide) (by decide)]) (shut refused)]
  · have clear : wbit (force w 3) 3 = true := wbit_force_same w (by decide)
    rw [eq, State.tmgCtrlWrite_accepted, State.tmgCtrlWrite_settleCnt, if_pos clear, if_pos clear]
    refine ⟨rfl, rfl, fun b0 => ?_⟩
    rw [State.tmgCtrlWrite_noSoft _ _ (by rwa [wbit_force_other w (by decide) (by decide)]), State.ctrlActs_tmg]
    exact if_pos clear
  · have clear : wbit (force w 3) 3 = true := wbit_force_same w (by decide)
    have noSoft : wbit (force w 3) 0 = false := by rwa [wbit_force_other w (by decide) (by decide)]
    have noPreset : wbit (force w 3) 2 = false := by rwa [wbit_force_other w (by decide) (by decide)]
    have noRealign : wbit (force w 3) 1 = false := by rwa [wbit_force_other w (by decide) (by decide)]
    rw [eq, State.tmgCtrlWrite_noSoft _ _ noSoft, State.ctrlActs_tmg, tmg]
    simp only [clear, noPreset, noRealign, Bool.false_eq_true, false_and, if_true, if_false]

/-- Settles O39: a write of `TMG_CTRL` does its acts in their order (`State.tmgCtrlWrite_eq`), and a trigger is one of
the cases of `State.trigger_cases`. -/
theorem triggersAndControls : Obligations.TriggersAndControls := by
  unfold Obligations.TriggersAndControls
  exact ⟨triggersAreTaken, timingControlsAct⟩

end Sys2Proof.Machine
end

section
/-!
PROOFS. GENLOCK edges and the start of the grid (R53, R54, R62, R127, R284, R285): O40.
-/

namespace Sys2Proof.Machine

/-! ### What an edge is captured with (R284) -/

/-- The device when the edge at `at_` has held for 30 ns, the edge captured and its period measured. -/
def State.glCaptured (s : State) (at_ : Nat) : State := (s.goTo (at_ + ns30)).glPeriodUpdate (s.glInstant at_)

theorem State.glPeriodUpdate_frame (s : State) (e : Nat) : s.glPeriodUpdate e =
    { s with clk := { s.clk with
        glPeriod := (s.glPeriodUpdate e).clk.glPeriod, glValid := (s.glPeriodUpdate e).clk.glValid
        glLast := some e, glSeen := some e } } := by
  unfold State.glPeriodUpdate
  split <;> rfl

/-- The period in SEQCLK cycles between two edges (R284). -/
theorem State.glPeriodUpdate_period {s : State} {l : Nat} (last : s.clk.glLast = some l) (e : Nat) :
    (s.glPeriodUpdate e).clk.glValid = s.locked 1 ∧
      (s.glPeriodUpdate e).clk.glPeriod = min ((e - l) / s.clk.seqPer) (2 ^ 31 - 1) := by
  unfold State.glPeriodUpdate
  rw [last]
  exact ⟨rfl, rfl⟩

section
variable (s : State) (at_ : Nat)

theorem State.glCaptured_frame : s.glCaptured at_ =
    { s with
      now := max s.now (at_ + ns30)
      clk := { s.clk with
        glPeriod := (s.glCaptured at_).clk.glPeriod, glValid := (s.glCaptured at_).clk.glValid
        glLast := some (s.glInstant at_), glSeen := some (s.glInstant at_) } } :=
  State.glPeriodUpdate_frame _ _

theorem State.glCaptured_startPlan : (s.glCaptured at_).startPlan = s.startPlan := by
  rw [State.glCaptured_frame]
  rfl

theorem State.glCaptured_phaseOk (base : Nat) (tm : Option (Nat × Nat)) (t : Nat) :
    (s.glCaptured at_).phaseOk base tm t = s.phaseOk base tm t := by
  rw [State.glCaptured_frame]
  rfl

theorem State.glCaptured_tmg : (s.glCaptured at_).tmg = s.tmg := by rw [State.glCaptured_frame]

end

/-! ### What an edge does to the grid (R53, R54, R285) -/

/-- The schedule in force. -/
def State.liveSched (s : State) : Option Sched :=
  match s.plan.live, s.tmg.cur with
  | some _, some c => some c.sched
  | _, _ => none

/-- The edge of instant `e`, seen at contact instant `at_`, starts the grid, restarts it for a REALIGN, or leaves it;
with the schedule that its phase is measured by. `o` is an edge of SEQCLK before it. -/
def State.glGrid (s : State) (o at_ e : Nat) : State × Option Sched :=
  match s.startPlan with
  | some (sch, base, tm) =>
    if ¬ sch.freeStart ∧ sch.phaseSrc = 1 ∧ s.phaseOk base tm e then
      ((s.alignAt (e + 34560)).placeGrid sch (e + 34560), some sch)
    else (s, s.liveSched)
  | none =>
    match s.tmg.realign with
    | some w =>
      let same : Bool := (at_ + ns30 - o) / Config.seqTU = (w - o) / Config.seqTU
      if s.tmg.seq = SeqState.idle ∧ w ≤ at_ + ns30 ∧ ¬ same then
        let s2 := s.alignAt (e + 34560)
        ({ s2 with tmg := { s2.tmg with realign := none, pos := e + 34560, fresh := true, j := 0 } }, s.liveSched)
      else (s, s.liveSched)
    | none => (s, s.liveSched)

theorem State.genlockEdge_eq (s : State) (at_ : Nat) : s.genlockEdge at_ =
    let x := (s.glCaptured at_).glGrid (s.clk.seqOrg % Config.seqTU) at_ (s.glInstant at_)
    x.1.glMeasure x.2 (s.glInstant at_) := rfl

/-- The grid moved to an FT at `ft` for a REALIGN. -/
def State.realigned (s : State) (ft : Nat) : State :=
  { s.alignAt ft with tmg := { (s.alignAt ft).tmg with realign := none, pos := ft, fresh := true, j := 0 } }

/-- The grid stays, moves to an FT for a REALIGN, or starts. -/
theorem State.glGrid_cases (s : State) (o at_ e : Nat) : (s.glGrid o at_ e).1 = s ∨
    (s.glGrid o at_ e).1 = s.realigned (e + 34560) ∨
      ∃ sch, (s.glGrid o at_ e).1 = (s.alignAt (e + 34560)).placeGrid sch (e + 34560) := by
  unfold State.glGrid
  split
  · split
    · exact .inr (.inr ⟨_, rfl⟩)
    · exact .inl rfl
  · split
    · dsimp only
      split
      · exact .inr (.inl rfl)
      · exact .inl rfl
    · exact .inl rfl

/-- Device time and what the last edge was captured with. -/
def State.glRecord (s : State) : Nat × Option Nat × Option Nat × Bool × Nat :=
  (s.now, s.clk.glLast, s.clk.glSeen, s.clk.glValid, s.clk.glPeriod)

theorem State.realigned_glRecord (s : State) (ft : Nat) : (s.realigned ft).glRecord = s.glRecord := rfl

theorem State.placeGrid_alignAt_glRecord (s : State) (sch : Sched) (ft : Nat) :
    ((s.alignAt ft).placeGrid sch ft).glRecord = s.glRecord := rfl

theorem State.glGrid_glRecord (s : State) (o at_ e : Nat) : (s.glGrid o at_ e).1.glRecord = s.glRecord := by
  rcases s.glGrid_cases o at_ e with stays | realigned | ⟨sch, placed⟩
  · rw [stays]
  · rw [realigned, State.realigned_glRecord]
  · rw [placed, State.placeGrid_alignAt_glRecord]

theorem State.glGrid_start {s : State} {sch : Sched} {base : Nat} {tm : Option (Nat × Nat)}
    (plan : s.startPlan = some (sch, base, tm)) (cont : sch.startMode = 0) (src : sch.phaseSrc = 1) {e : Nat}
    (ok : s.phaseOk base tm e = true) (o at_ : Nat) :
    (s.glGrid o at_ e).1 = (s.alignAt (e + 34560)).placeGrid sch (e + 34560) := by
  have notFree : ¬ sch.freeStart = true := by simp [Sched.freeStart, cont, src]
  unfold State.glGrid
  rw [plan]
  dsimp only
  rw [if_pos ⟨notFree, src, ok⟩]

theorem State.glGrid_realign {s : State} (plan : s.startPlan = none) {w : Nat} (waits : s.tmg.realign = some w)
    (idle : s.tmg.seq = .idle) {o at_ : Nat} (after : w ≤ at_ + ns30)
    (other : (at_ + ns30 - o) / Config.seqTU ≠ (w - o) / Config.seqTU) (e : Nat) :
    (s.glGrid o at_ e).1 = s.realigned (e + 34560) := by
  unfold State.glGrid
  rw [plan, waits]
  dsimp only
  rw [if_pos ⟨idle, after, by simpa using other⟩]
  rfl

theorem State.glGrid_stays {s : State} (plan : s.startPlan = none) (none_ : s.tmg.realign = none ∨ s.tmg.seq ≠ .idle)
    (o at_ e : Nat) : (s.glGrid o at_ e).1 = s := by
  unfold State.glGrid
  rw [plan]
  dsimp only
  split
  · next w waits =>
    have busy : s.tmg.seq ≠ .idle := none_.resolve_left (by rw [waits]; simp)
    rw [if_neg fun h => busy h.1]
  · rfl

/-- The phase measurement changes nothing but its figures, its interrupt bit and the ledger. -/
theorem State.glMeasure_frame (s : State) (sch : Option Sched) (e : Nat) : s.glMeasure sch e =
    { s with
      tmg := { s.tmg with
        glErr := (s.glMeasure sch e).tmg.glErr, glSat := (s.glMeasure sch e).tmg.glSat
        glMeas := (s.glMeasure sch e).tmg.glMeas }
      regs := (s.glMeasure sch e).regs, rwc := (s.glMeasure sch e).rwc, evl := (s.glMeasure sch e).evl } := by
  unfold State.glMeasure
  split
  · dsimp only
    (repeat' split) <;> rfl
  · rfl

/-! ### The commands -/

theorem exec_genlockEdge {s : State} (h : s.released = true) (e : PinEdge) : exec (.genlockEdge e) s =
    .next (if s.glQualifies e.heldNs e.rising then s.genlockEdge e.at_ else s).fin := act_run _ h

theorem State.glQualifies_of {s : State} {k : Nat} (long : 30 ≤ k) {up : Bool} (pol : up = !s.rb A.CLK_GL_CTRL 0) :
    s.glQualifies k up = true := by simp [State.glQualifies, long, pol]

theorem State.not_glQualifies_of_short (s : State) {k : Nat} (short : k < 30) (up : Bool) :
    s.glQualifies k up = false := by simp [State.glQualifies, Nat.not_le.2 short]

theorem State.not_glQualifies_of_polarity {s : State} {up : Bool} (pol : up = !s.rb A.CLK_GL_CTRL 0) (k : Nat) :
    s.glQualifies k (!up) = false := by simp [State.glQualifies, pol]

theorem genlockEdgesAlign : Claims.GenlockEdgesAlign := by
  intro s e h up run long pol x
  have edge {P : State → Prop} (p : ∀ t, t.now = (s.genlockEdge e).now → t.clk = (s.genlockEdge e).clk →
      t.tmg = (s.genlockEdge e).tmg → P t) : Runs (.genlockEdge ⟨e, h, up⟩) s P := by
    refine ⟨_, exec_genlockEdge run _, ?_⟩
    rw [if_pos (State.glQualifies_of long pol)]
    exact p _ (State.fin_now _) (State.fin_clk _) (State.fin_tmg _)
  let o := s.clk.seqOrg % Config.seqTU
  let g := ((s.glCaptured e).glGrid o e x).1
  have now_ : (s.genlockEdge e).now = g.now := by rw [State.genlockEdge_eq, State.glMeasure_frame]
  have clk : (s.genlockEdge e).clk = g.clk := by rw [State.genlockEdge_eq, State.glMeasure_frame]
  have tmg : (s.genlockEdge e).tmg = { g.tmg with
      glErr := (s.genlockEdge e).tmg.glErr, glSat := (s.genlockEdge e).tmg.glSat
      glMeas := (s.genlockEdge e).tmg.glMeas } := by
    rw [State.genlockEdge_eq]
    exact (congrArg State.tmg (State.glMeasure_frame _ _ _) :)
  have captured := s.glCaptured_frame e
  have startPlan := s.glCaptured_startPlan e
  have tmg0 := s.glCaptured_tmg e
  refine ⟨edge fun t now' clk' _ => ?_, fun k short => ?_, ?_, fun sch base tm plan cont src ok =>
    edge fun t _ clk' tmg' => ?_, fun r plan waits idle later => edge fun t _ clk' tmg' => ?_,
    fun plan none_ => edge fun t _ clk' tmg' => ?_⟩
  · have record := (s.glCaptured e).glGrid_glRecord o e x
    simp only [State.glRecord, Prod.mk.injEq] at record
    obtain ⟨gNow, gLast, gSeen, gValid, gPeriod⟩ := record
    rw [now', now_, clk', clk, gNow, gLast, gSeen, gValid, gPeriod]
    refine ⟨by rw [captured], by rw [captured], by rw [captured], fun l last => ?_⟩
    exact State.glPeriodUpdate_period (s := s.goTo (e + ns30)) last x
  · rw [exec_genlockEdge run, State.not_glQualifies_of_short s short]
    rfl
  · rw [exec_genlockEdge run, State.not_glQualifies_of_polarity pol]
    rfl
  · have placed : g = ((s.glCaptured e).alignAt (x + 34560)).placeGrid sch (x + 34560) :=
      State.glGrid_start (startPlan.trans plan) cont src ((s.glCaptured_phaseOk e base tm x).trans ok) o e
    rw [tmg', tmg, clk', clk, placed]
    exact ⟨rfl, rfl, rfl, rfl, rfl, rfl, rfl⟩
  · have placed : g = (s.glCaptured e).realigned (x + 34560) := by
      have below : o < Config.seqTU := Nat.mod_lt _ (by decide)
      refine State.glGrid_realign (startPlan.trans plan) (by rw [tmg0, waits]) (by rw [tmg0, idle]) ?_ ?_ x
      · omega
      · simp only [Config.seqTU, ns30] at *
        omega
    rw [tmg', tmg, clk', clk, placed]
    refine ⟨rfl, ?_, rfl, rfl, rfl, rfl, ?_⟩
    · exact (congrArg Tmg.seq tmg0 :).trans idle
    · exact congrArg (wrapAdd · 1 16) (by rw [captured] : (s.glCaptured e).clk.alignCnt = s.clk.alignCnt)
  · have placed : g = s.glCaptured e := State.glGrid_stays (startPlan.trans plan) (by rwa [tmg0]) o e x
    rw [tmg', tmg, clk', clk, placed, tmg0]
    exact ⟨rfl, rfl, rfl, rfl, by rw [captured]⟩

/-! ### SEQUENCER_START (R53, R62, R127) -/

section
variable {s : State} (stopped : s.ticking = false) (lock : s.locked 1 = true) (mode : s.sys.mode = .standby)
include stopped lock mode

theorem State.startPlan_live {b : Nat} {f : InForce} (live : s.plan.live = some b) (cur : s.tmg.cur = some f) :
    s.startPlan = some (f.sched, s.seqEdge s.clk.lock1 + us64, none) := by
  simp [State.startPlan, stopped, lock, mode, live, cur]

/-- With no plan live a start follows the pending commit, at its time where it has one. -/
theorem State.startPlan_commit {c : Commit} (live : s.plan.live = none) (commit : s.plan.commit = some c) :
    s.startPlan = some ((s.plan.bank c.bank).plan.sched, max c.w (s.seqEdge s.clk.lock1) + us64,
      match c.when_ with
      | .time tb sec ns => some (tb, tbOf sec ns 0)
      | _ => none) := by
  simp only [State.startPlan, stopped, lock, mode, live, commit]
  cases c.when_ <;> rfl

end

/-- The grid placed at the first SEQCLK edge from `t` and from now on. -/
def State.startedAt (s : State) (sch : Sched) (t : Nat) : State :=
  (s.goTo (s.seqEdge (max t s.now))).placeGrid sch (s.seqEdge (max t s.now))

theorem State.sequencerStart_at {s : State} {sch : Sched} {base : Nat} (plan : s.startPlan = some (sch, base, none))
    (free : sch.startMode ≠ 0 ∨ sch.phaseSrc = 0) : s.sequencerStart = s.startedAt sch base := by
  have isFree : sch.freeStart = true := by simpa [Sched.freeStart] using free
  unfold State.sequencerStart
  rw [plan]
  exact if_pos isFree

theorem State.sequencerStart_time {s : State} {sch : Sched} {base tb v : Nat}
    (plan : s.startPlan = some (sch, base, some (tb, v))) (free : sch.startMode ≠ 0 ∨ sch.phaseSrc = 0) :
    s.sequencerStart = s.startedAt sch (max base (s.seqEdge (s.mgtInstant ((s.tb tb).reach v)))) := by
  have isFree : sch.freeStart = true := by simpa [Sched.freeStart] using free
  unfold State.sequencerStart
  rw [plan]
  exact if_pos isFree

theorem State.sequencerStart_genlock {s : State} {sch : Sched} {base : Nat} {tm : Option (Nat × Nat)}
    (plan : s.startPlan = some (sch, base, tm)) (cont : sch.startMode = 0) (src : sch.phaseSrc ≠ 0) :
    s.sequencerStart = s := by
  have notFree : ¬ sch.freeStart = true := by simp [Sched.freeStart, cont, src]
  unfold State.sequencerStart
  rw [plan]
  exact if_neg notFree

theorem gridStarts : Claims.GridStarts := by
  intro s c run stopped lock mode
  have start {P : State → Prop} (h : ∀ t, t.now = s.sequencerStart.now → t.tmg = s.sequencerStart.tmg → P t) :
      Runs .sequencerStart s P := ⟨_, act_run _ run, h _ (State.fin_now _) (State.fin_tmg _)⟩
  refine ⟨fun b f live cur free => start fun t now_ tmg => ?_, fun live commit => ?_⟩
  · rw [now_, tmg, State.sequencerStart_at (State.startPlan_live stopped lock mode live cur) free]
    exact ⟨rfl, rfl, rfl, rfl, rfl, rfl, rfl⟩
  · intro sch base
    have plan := State.startPlan_commit stopped lock mode live commit
    refine ⟨fun free => ⟨fun next => start fun t now_ tmg => ?_, fun tb sec ns time => start fun t now_ tmg => ?_⟩,
      fun cont src => start fun t now_ tmg => ?_⟩
    · rw [next] at plan
      rw [now_, tmg, State.sequencerStart_at plan free]
      exact ⟨rfl, rfl, rfl, rfl, rfl, rfl, rfl⟩
    · rw [time] at plan
      rw [tmg, State.sequencerStart_time plan free]
      exact ⟨rfl, rfl, rfl, rfl, rfl⟩
    · rw [tmg, State.sequencerStart_genlock plan cont src]
      exact ⟨rfl, State.ticking_eq_false.1 stopped⟩

/-- Settles O40: an edge is captured, then the grid stays, moves or starts (`State.glGrid_cases`), and a start without
an edge follows `State.startPlan`. -/
theorem genlockAndGridStart : Obligations.GenlockAndGridStart := by
  unfold Obligations.GenlockAndGridStart
  exact ⟨genlockEdgesAlign, gridStarts⟩

end Sys2Proof.Machine
end

section
/-!
PROOFS. Where the grid stands (R41, R42) and which SOFT_TRIG edges wait for its next tick (R55), taken together: what
a record update, a condition and a fold make of it.
-/

namespace Sys2Proof.Machine

/-- The instant, the last tick with its sub-frame, the edges that wait for the next one, and the frame numbers. -/
def State.grid (s : State) : Nat × Nat × Bool × Nat × List Nat × Nat × Nat :=
  (s.now, s.tmg.pos, s.tmg.fresh, s.tmg.j, s.tmg.softs, s.tmg.nNext, s.tmg.nLast)

/-- The rule that a record update leaves the grid. As `State.waits_mk`, it is proved by a rewrite. -/
@[simp ↓] theorem State.grid_mk (pending : List Instr) (now draws : Nat) (regs : List (Nat × Word)) (rwc : Rwc)
    (dram ret sram0 sram1 flash : Memory) (part : Part) (sys : Sys) (clk : Clk) (tmg : Tmg) (plan : PlanBlk)
    (cnv : Cnv) (str : Str) (time : TimeBlk) (frames : List Frame) (lnk : Lnk) (seals : Seal) (vlt : Vlt) (fab : Fab)
    (mon : Mon) (thm : Thm) (cal : Cal) (wdt : Wdt) (evl : Evl) :
    (State.mk pending now draws regs rwc dram ret sram0 sram1 flash part sys clk tmg plan cnv str time frames lnk seals
      vlt fab mon thm cal wdt evl).grid = (now, tmg.pos, tmg.fresh, tmg.j, tmg.softs, tmg.nNext, tmg.nLast) := by
  rw [State.grid]

@[simp ↓] theorem State.grid_fold (s : State) :
    (s.now, s.tmg.pos, s.tmg.fresh, s.tmg.j, s.tmg.softs, s.tmg.nNext, s.tmg.nLast) = s.grid := by rw [State.grid]

@[simp ↓] theorem State.grid_ite (c : Prop) [Decidable c] (s t : State) :
    (if c then s else t).grid = branch c s.grid t.grid := apply_ite _ _ _ _

@[simp ↓] theorem State.grid_foldl {β : Type} (f : State → β → State) (l : List β) (s : State)
    (h : ∀ a x, (f a x).grid = a.grid) : (l.foldl f s).grid = s.grid := foldl_keeps State.grid f l s h

end Sys2Proof.Machine
end

section
/-!
PROOFS. What leaves the grid where it stands, function by function: each lemma unfolds its function once and is a
rewrite rule for the functions that call it.
-/

namespace Sys2Proof.Machine

variable (s : State)

/-! ### Ops -/

@[simp ↓] theorem State.setReg_grid (a : Nat) (v : Word) : (s.setReg a v).grid = s.grid := by
  unfold State.setReg; simp
@[simp ↓] theorem State.setRn_grid (a n : Nat) : (s.setRn a n).grid = s.grid := by unfold State.setRn; simp
@[simp ↓] theorem State.orReg_grid (a mask : Nat) : (s.orReg a mask).grid = s.grid := by unfold State.orReg; simp
@[simp ↓] theorem State.note_grid (a mask : Nat) : (s.note a mask).grid = s.grid := by unfold State.note; simp
@[simp ↓] theorem State.setInt_grid (a i : Nat) : (s.setInt a i).grid = s.grid := by unfold State.setInt; simp
@[simp ↓] theorem State.dropInt_grid (a i : Nat) : (s.dropInt a i).grid = s.grid := by unfold State.dropInt; simp
@[simp ↓] theorem State.raise_grid (e : Event) : (s.raise e).grid = s.grid := by unfold State.raise; simp
@[simp ↓] theorem State.warn_grid (cls code unit detail : Nat) : (s.warn cls code unit detail).grid = s.grid := by
  unfold State.warn; simp
@[simp ↓] theorem State.faultEv_grid (cls code unit detail : Nat) :
    (s.faultEv cls code unit detail).grid = s.grid := by unfold State.faultEv; simp
@[simp ↓] theorem State.info_grid (cls code unit detail : Nat) : (s.info cls code unit detail).grid = s.grid := by
  unfold State.info; simp
/-- A command moves the instant on, and nothing else of the grid. -/
theorem State.goTo_grid (t : Nat) : (s.goTo t).grid = (max s.now t, s.grid.2) := by
  rw [State.goTo, State.grid_mk, State.grid]
@[simp ↓] theorem State.draw_grid : s.draw.2.grid = s.grid := by unfold State.draw; simp
@[simp ↓] theorem State.setBank_grid (i : Nat) (b : Bank) : (s.setBank i b).grid = s.grid := by
  unfold State.setBank; simp

/-! ### Lanes -/

@[simp ↓] theorem State.alarm_grid (src kind unit : Nat) : (s.alarm src kind unit).grid = s.grid := by
  unfold State.alarm; simp
@[simp ↓] theorem State.setLane_grid (p : Nat) (l : Lane) : (s.setLane p l).grid = s.grid := by
  unfold State.setLane; simp
@[simp ↓] theorem State.remapLane_grid (p : Nat) : (s.remapLane p).grid = s.grid := by
  unfold State.remapLane; dsimp only; (repeat' split) <;> simp
@[simp ↓] theorem State.remapsAtFT_grid (t : Nat) : (s.remapsAtFT t).grid = s.grid := by unfold State.remapsAtFT; simp
@[simp ↓] theorem State.remapsNow_grid : s.remapsNow.grid = s.grid := by unfold State.remapsNow; simp
@[simp ↓] theorem State.assignLanes_grid (o : OutCfg) : (s.assignLanes o).grid = s.grid := by
  unfold State.assignLanes; simp
@[simp ↓] theorem State.trainLane_grid (p : Nat) : (s.trainLane p).grid = s.grid := by unfold State.trainLane; simp
@[simp ↓] theorem State.trainOffLanes_grid : s.trainOffLanes.grid = s.grid := by unfold State.trainOffLanes; simp

/-! ### Sequencer -/

@[simp ↓] theorem State.commitResult_grid (result cause : Nat) : (s.commitResult result cause).grid = s.grid := by
  unfold State.commitResult; simp
@[simp ↓] theorem State.endCommit_grid (result cause : Nat) : (s.endCommit result cause).grid = s.grid := by
  unfold State.endCommit; (repeat' split) <;> simp
@[simp ↓] theorem State.commitRequest_grid (bank when_ tb frame sec ns w : Nat) (origin : Option Nat) :
    (s.commitRequest bank when_ tb frame sec ns w origin).grid = s.grid := by unfold State.commitRequest; simp
@[simp ↓] theorem State.commitCancel_grid : s.commitCancel.grid = s.grid := by
  unfold State.commitCancel; split <;> simp
@[simp ↓] theorem State.commitCtrlWrite_grid (who : Who) (v : Word) : (s.commitCtrlWrite who v).grid = s.grid := by
  unfold State.commitCtrlWrite; simp
@[simp ↓] theorem State.freshBlack_grid (p : Nat → Bool) : (s.freshBlack p).grid = s.grid := by
  unfold State.freshBlack; simp
@[simp ↓] theorem State.trigMissed_grid : s.trigMissed.grid = s.grid := by unfold State.trigMissed; simp
@[simp ↓] theorem State.livePast_grid : s.livePast.grid = s.grid := by unfold State.livePast; simp
@[simp ↓] theorem State.liveReject_grid (result : Nat) (bad : List Nat) :
    (s.liveReject result bad).grid = s.grid := by unfold State.liveReject; simp
@[simp ↓] theorem State.dropRealign_grid : s.dropRealign.grid = s.grid := by unfold State.dropRealign; simp

/-! ### Converter -/

@[simp ↓] theorem State.setEnt_grid (k : Nat) (e : SliceEnt) : (s.setEnt k e).grid = s.grid := by
  unfold State.setEnt; simp
@[simp ↓] theorem State.setGrp_grid (key : Nat) (g : Grp) : (s.setGrp key g).grid = s.grid := by
  unfold State.setGrp; simp
@[simp ↓] theorem State.checkSpares_grid (key before : Nat) : (s.checkSpares key before).grid = s.grid := by
  unfold State.checkSpares; simp
@[simp ↓] theorem State.declareFail_grid (key pos : Nat) (spare : Option Nat) (cause : Nat) :
    (s.declareFail key pos spare cause).grid = s.grid := by unfold State.declareFail; simp
@[simp ↓] theorem State.stepOver_grid (key : Nat) : (s.stepOver key).grid = s.grid := by unfold State.stepOver; simp
@[simp ↓] theorem State.nextTarget_grid (key : Nat) : (s.nextTarget key).grid = s.grid := by
  unfold State.nextTarget; simp
@[simp ↓] theorem State.applySub_grid (p : PendSub) : (s.applySub p).grid = s.grid := by
  unfold State.applySub; dsimp only; (repeat' split) <;> simp
@[simp ↓] theorem State.applySubs_grid (due : List PendSub) : (s.applySubs due).grid = s.grid := by
  unfold State.applySubs; simp
@[simp ↓] theorem State.subsAtFT_grid (t : Nat) : (s.subsAtFT t).grid = s.grid := by unfold State.subsAtFT; simp
@[simp ↓] theorem State.subsNow_grid : s.subsNow.grid = s.grid := by unfold State.subsNow; simp
@[simp ↓] theorem State.rotateGroup_grid (fg : Bool) (key : Nat) : (s.rotateGroup fg key).grid = s.grid := by
  unfold State.rotateGroup; dsimp only; (repeat' split) <;> simp
@[simp ↓] theorem State.cnvAtSft_grid (fg : Bool) : (s.cnvAtSft fg).grid = s.grid := by unfold State.cnvAtSft; simp
@[simp ↓] theorem State.voidStep_grid (key : Nat) : (s.voidStep key).grid = s.grid := by unfold State.voidStep; simp
@[simp ↓] theorem State.voidAll_grid : s.voidAll.grid = s.grid := by unfold State.voidAll; simp
@[simp ↓] theorem State.grefApply_grid (gh gl : Nat) : (s.grefApply gh gl).grid = s.grid := by
  unfold State.grefApply; simp
@[simp ↓] theorem State.tdacEnd_grid (result reps : Nat) : (s.tdacEnd result reps).grid = s.grid := by
  unfold State.tdacEnd; simp
@[simp ↓] theorem State.tdacTry_grid : s.tdacTry.grid = s.grid := by unfold State.tdacTry; split <;> simp
@[simp ↓] theorem State.tdacAbort_grid : s.tdacAbort.grid = s.grid := by unfold State.tdacAbort; split <;> simp

/-! ### Monitor -/

@[simp ↓] theorem State.monRestart_grid : s.monRestart.grid = s.grid := by unfold State.monRestart; simp
@[simp ↓] theorem State.monTake_grid (sel filt : Nat) (ft again : Bool) :
    (s.monTake sel filt ft again).grid = s.grid := by unfold State.monTake; simp
@[simp ↓] theorem State.monAtFT_grid : s.monAtFT.grid = s.grid := by unfold State.monAtFT; simp
@[simp ↓] theorem State.monCalGo_grid : s.monCalGo.grid = s.grid := by unfold State.monCalGo; simp

/-! ### ThermalBase -/

@[simp ↓] theorem State.thmTimers_grid : s.thmTimers.grid = s.grid := by unfold State.thmTimers; simp
@[simp ↓] theorem State.thmPin_grid : s.thmPin.grid = s.grid := by unfold State.thmPin; simp
@[simp ↓] theorem State.thmTo_grid (st : ThmState) : (s.thmTo st).grid = s.grid := by unfold State.thmTo; simp

/-! ### CalBase -/

@[simp ↓] theorem State.calEvent_grid (bit detail : Nat) : (s.calEvent bit detail).grid = s.grid := by
  unfold State.calEvent; simp
@[simp ↓] theorem State.calResult_grid (kind code cause : Nat) (dis : Option Nat) :
    (s.calResult kind code cause dis).grid = s.grid := by unfold State.calResult; simp
@[simp ↓] theorem State.saveFails_grid (detail : Nat) : (s.saveFails detail).grid = s.grid := by
  unfold State.saveFails; simp
@[simp ↓] theorem State.calAbort_grid (cause : Nat) : (s.calAbort cause).grid = s.grid := by
  unfold State.calAbort; split <;> simp
@[simp ↓] theorem State.eqRelease_grid (ps : List Nat) : (s.eqRelease ps).grid = s.grid := by
  unfold State.eqRelease; simp
@[simp ↓] theorem State.eqRestore_grid : s.eqRestore.grid = s.grid := by unfold State.eqRestore; split <;> simp
@[simp ↓] theorem State.calAbortKind_grid (kind cause : Nat) : (s.calAbortKind kind cause).grid = s.grid := by
  unfold State.calAbortKind; simp
@[simp ↓] theorem State.calMode_grid (m : Mode) : (s.calMode m).grid = s.grid := by unfold State.calMode; simp

/-! ### FabBase -/

@[simp ↓] theorem State.setFport_grid (p : Nat) (x : FabPort) : (s.setFport p x).grid = s.grid := by
  unfold State.setFport; simp
@[simp ↓] theorem State.enqueue_grid (p : Nat) (t : FabTx) : (s.enqueue p t).grid = s.grid := by
  unfold State.enqueue; simp
@[simp ↓] theorem State.noRoute_grid : s.noRoute.grid = s.grid := by unfold State.noRoute; simp
@[simp ↓] theorem State.routeTx_grid (dst : Nat) (t : FabTx) : (s.routeTx dst t).grid = s.grid := by
  unfold State.routeTx; simp
@[simp ↓] theorem State.nextMid_grid : s.nextMid.2.grid = s.grid := by unfold State.nextMid; simp
@[simp ↓] theorem State.sendCtl_grid (dst msg : Nat) (payload : List Byte) :
    (s.sendCtl dst msg payload).grid = s.grid := by unfold State.sendCtl; split <;> simp

/-! ### Rig -/

@[simp ↓] theorem State.rigCheck_grid : s.rigCheck.grid = s.grid := by unfold State.rigCheck; simp
@[simp ↓] theorem State.rigLate_grid (ack : Bool) : (s.rigLate ack).grid = s.grid := by unfold State.rigLate; simp
@[simp ↓] theorem State.rigNote_grid (ack : Bool) : (s.rigNote ack).grid = s.grid := by unfold State.rigNote; simp
@[simp ↓] theorem State.rigAnswered_grid (f : State → State) (hf : ∀ a, (f a).grid = a.grid) :
    (s.rigAnswered f).grid = s.grid := by
  unfold State.rigAnswered
  split
  · split <;> simp [hf]
  · exact hf s
@[simp ↓] theorem State.rigAckTake_grid (a result : Nat) (s : State) : (s.rigAckTake a result).grid = s.grid := by
  unfold State.rigAckTake; simp
@[simp ↓] theorem State.rigAck_grid (a result : Nat) : (s.rigAck a result).grid = s.grid := by
  unfold State.rigAck; simp
@[simp ↓] theorem State.rigDoneTake_grid (a result : Nat) (s : State) : (s.rigDoneTake a result).grid = s.grid := by
  unfold State.rigDoneTake; simp
@[simp ↓] theorem State.rigDone_grid (a result : Nat) : (s.rigDone a result).grid = s.grid := by
  unfold State.rigDone; simp
@[simp ↓] theorem State.rigSend_grid (x : RigAnswer) : (s.rigSend x).grid = s.grid := by unfold State.rigSend; simp
@[simp ↓] theorem State.rigFlush_grid : s.rigFlush.grid = s.grid := by unfold State.rigFlush; simp

/-! ### Stripe -/

@[simp ↓] theorem State.setDp_grid (d : Nat) (x : Datapath) : (s.setDp d x).grid = s.grid := by
  unfold State.setDp; simp
@[simp ↓] theorem State.strCmdEnd_grid (r : Nat) : (s.strCmdEnd r).grid = s.grid := by unfold State.strCmdEnd; simp
@[simp ↓] theorem State.freshBlackAll_grid : s.freshBlackAll.grid = s.grid := by unfold State.freshBlackAll; simp
@[simp ↓] theorem State.stripeFail_grid (d : Nat) : (s.stripeFail d).grid = s.grid := by unfold State.stripeFail; simp
@[simp ↓] theorem State.applyTake_grid (t : Take) : (s.applyTake t).grid = s.grid := by
  unfold State.applyTake; dsimp only; (repeat' split) <;> simp
@[simp ↓] theorem State.endSwitches_grid : s.endSwitches.grid = s.grid := by unfold State.endSwitches; simp
@[simp ↓] theorem State.takesAtFT_grid (t : Nat) : (s.takesAtFT t).grid = s.grid := by unfold State.takesAtFT; simp
@[simp ↓] theorem State.takesNow_grid : s.takesNow.grid = s.grid := by unfold State.takesNow; simp
@[simp ↓] theorem State.damageFrame_grid (n : Nat) : (s.damageFrame n).grid = s.grid := by
  unfold State.damageFrame; simp
@[simp ↓] theorem State.flagLine_grid (n key j b0 : Nat) : (s.flagLine n key j b0).grid = s.grid := by
  unfold State.flagLine; simp

/-! ### Shape -/

@[simp ↓] theorem State.modFrame_grid (n : Nat) (f : Frame → Frame) : (s.modFrame n f).grid = s.grid := by
  unfold State.modFrame; simp
@[simp ↓] theorem State.overrun_grid (kind : Nat) (units : List Nat) (f : Frame) (sub : Nat) :
    (s.overrun kind units f sub).grid = s.grid := by unfold State.overrun; simp
@[simp ↓] theorem State.cutEmission_grid (n : Nat) (twin : Bool) : (s.cutEmission n twin).grid = s.grid := by
  unfold State.cutEmission; split <;> simp
@[simp ↓] theorem State.writerReaches_grid (n buf outRow stripe : Nat) :
    (s.writerReaches n buf outRow stripe).grid = s.grid := by unfold State.writerReaches; simp
@[simp ↓] theorem State.writeOut_grid (n : Nat) (twin : Bool) (bank j : Nat) :
    (s.writeOut n twin bank j).grid = s.grid := by unfold State.writeOut; split <;> simp
@[simp ↓] theorem State.abandonLine_grid (n key j stripe : Nat) : (s.abandonLine n key j stripe).grid = s.grid := by
  unfold State.abandonLine; simp
@[simp ↓] theorem State.countHeld_grid (d held brk : Nat) : (s.countHeld d held brk).grid = s.grid := by
  unfold State.countHeld; simp
@[simp ↓] theorem State.finishAbandoned_grid (f : Frame) (key j stripe : Nat) :
    (s.finishAbandoned f key j stripe).grid = s.grid := by unfold State.finishAbandoned; simp
@[simp ↓] theorem State.latchCounters_grid : s.latchCounters.grid = s.grid := by unfold State.latchCounters; simp
@[simp ↓] theorem State.abandonRest_grid (sub : SubRef) : (s.abandonRest sub).grid = s.grid := by
  unfold State.abandonRest
  split
  · rfl
  · extract_lets win total
    split
    · rfl
    · next last isTwin rest s1 s2 src s3 s4 _ =>
      have written : s1.grid = s.grid := foldl_keeps State.grid _ _ _ fun a j =>
        foldl_keeps State.grid _ _ _ fun c b => by
          extract_lets c1 c2
          have lines : c1.grid = c.grid := foldl_keeps State.grid _ _ _ fun e i => by
            rw [State.modFrame_grid, State.finishAbandoned_grid]
          have outs : c2.grid = c.grid := by unfold c2; split <;> simp [lines]
          split <;> simp [outs]
      have counted : s4.grid = s.grid := by
        calc s4.grid = s3.grid := by unfold s4; split <;> simp
          _ = s2.grid := rfl
          _ = s1.grid := State.modFrame_grid _ _ _
          _ = s.grid := written
      simp [counted]
@[simp ↓] theorem State.proxyBegin_grid (n : Nat) : (s.proxyBegin n).grid = s.grid := by
  unfold State.proxyBegin; split <;> simp
@[simp ↓] theorem State.proxyEnd_grid (n : Nat) (valid : Bool) : (s.proxyEnd n valid).grid = s.grid := by
  unfold State.proxyEnd; split <;> simp
@[simp ↓] theorem State.basesAtFT_grid : s.basesAtFT.grid = s.grid := by unfold State.basesAtFT; simp
@[simp ↓] theorem State.deliverStat_grid (n : Nat) (late : Bool) : (s.deliverStat n late).grid = s.grid := by
  unfold State.deliverStat; dsimp only; (repeat' split) <;> simp

/-! ### FabProxy -/

@[simp ↓] theorem State.fabBasesCheck_grid : s.fabBasesCheck.grid = s.grid := by unfold State.fabBasesCheck; simp
@[simp ↓] theorem State.fabBasesNow_grid : s.fabBasesNow.grid = s.grid := by unfold State.fabBasesNow; simp
@[simp ↓] theorem State.proxyVoid_grid (n : Nat) : (s.proxyVoid n).grid = s.grid := by
  unfold State.proxyVoid; split <;> simp

/-! ### Link -/

@[simp ↓] theorem State.modEmit_grid (n : Nat) (twin : Bool) (g : Emit → Emit) :
    (s.modEmit n twin g).grid = s.grid := by unfold State.modEmit; simp
@[simp ↓] theorem State.sendMark_grid (p t : Nat) : (s.sendMark p t).grid = s.grid := by unfold State.sendMark; simp
/-- A packet goes out at its lane's instant and moves nothing else of the grid. -/
@[simp] theorem State.startPacket_grid (p t set type stream frame : Nat) (fields : List Byte) :
    (s.startPacket p t set type stream frame fields).grid = (max s.now t, s.grid.2) := by
  unfold State.startPacket; simp [State.goTo_grid]
@[simp ↓] theorem State.setChain_grid (c : Chain) : (s.setChain c).grid = s.grid := by unfold State.setChain; simp
@[simp ↓] theorem State.openChain_grid (twin : Bool) : (s.openChain twin).grid = s.grid := by
  unfold State.openChain; simp
@[simp ↓] theorem State.wantChain_grid (twin : Bool) : (s.wantChain twin).grid = s.grid := by
  unfold State.wantChain; simp
@[simp ↓] theorem State.beginChain_grid (f : Frame) (twin : Bool) : (s.beginChain f twin).grid = s.grid := by
  unfold State.beginChain; simp
@[simp ↓] theorem State.endSegment_grid (c : Chain) (close : Bool) : (s.endSegment c close).grid = s.grid := by
  unfold State.endSegment; simp
@[simp ↓] theorem State.closeChain_grid (c : Chain) : (s.closeChain c).grid = s.grid := by
  unfold State.closeChain; simp
@[simp ↓] theorem State.endChain_grid (twin : Bool) : (s.endChain twin).grid = s.grid := by
  unfold State.endChain; dsimp only; (repeat' split) <;> simp
@[simp ↓] theorem State.closeGone_grid : s.closeGone.grid = s.grid := by
  unfold State.closeGone
  refine foldl_keeps State.grid _ _ _ fun a c => ?_
  (repeat' split) <;> simp
@[simp ↓] theorem State.linkFrame_grid (f : Frame) (twin : Bool) : (s.linkFrame f twin).1.grid = s.grid := by
  unfold State.linkFrame; split <;> simp
@[simp ↓] theorem State.afterTrailer_grid (f : Frame) (twin : Bool) : (s.afterTrailer f twin).grid = s.grid := by
  unfold State.afterTrailer; split <;> simp
@[simp ↓] theorem State.bypassMark_grid (n : Nat) (twin : Bool) : (s.bypassMark n twin).grid = s.grid := by
  unfold State.bypassMark; simp
theorem State.sendTrailer_grid (n : Nat) (twin : Bool) (p t : Nat) :
    (s.sendTrailer n twin p t).grid.2 = s.grid.2 := by
  unfold State.sendTrailer; dsimp only; (repeat' split) <;> simp
theorem State.cutAll_grid (twin : Bool) : (s.cutAll twin).grid.2 = s.grid.2 := by
  unfold State.cutAll
  refine foldl_keeps (fun a => a.grid.2) _ _ _ fun a f => ?_
  dsimp only
  split
  · rfl
  · split
    · rw [State.sendTrailer_grid]; split <;> simp
    · simp

/-! ### Vault -/

@[simp ↓] theorem State.vaultLockAll_grid : s.vaultLockAll.grid = s.grid := by unfold State.vaultLockAll; simp

/-! ### Modes -/

@[simp ↓] theorem State.swapSched_grid (on : Bool) : (s.swapSched on).grid = s.grid := by
  unfold State.swapSched; split <;> simp
@[simp ↓] theorem State.thmApply_grid (on : Bool) : (s.thmApply on).grid = s.grid := by unfold State.thmApply; simp
@[simp ↓] theorem State.thmNow_grid : s.thmNow.grid = s.grid := by unfold State.thmNow; simp
@[simp ↓] theorem State.thmAtFT_grid (t : Nat) : (s.thmAtFT t).grid = s.grid := by unfold State.thmAtFT; simp
@[simp ↓] theorem State.drained_grid : s.drained.grid = s.grid := by unfold State.drained; simp
@[simp ↓] theorem State.proxiesEnd_grid : s.proxiesEnd.grid = s.grid := by unfold State.proxiesEnd; simp
/-- The frames are dropped at the instant of the fault: the trailers that cut them move no time. -/
@[simp ↓] theorem State.dropFrames_grid : s.dropFrames.grid = s.grid := by
  unfold State.dropFrames
  extract_lets t s1
  have cut : s1.grid.2 = s.grid.2 := by simp only [s1, State.cutAll_grid, State.proxiesEnd_grid]
  rw [State.closeGone_grid, State.grid_mk]
  exact congrArg (Prod.mk s.now) cut
@[simp ↓] theorem State.quietNow_grid : s.quietNow.grid = s.grid := by unfold State.quietNow; simp
@[simp ↓] theorem State.setMode_grid (m : Mode) : (s.setMode m).grid = s.grid := by unfold State.setMode; simp

/-! ### Calib -/

@[simp ↓] theorem State.calRequest_grid : s.calRequest.grid = s.grid := by unfold State.calRequest; simp
@[simp ↓] theorem State.calMonStart_grid : s.calMonStart.grid = s.grid := by unfold State.calMonStart; simp
@[simp ↓] theorem State.fgStart_grid : s.fgStart.grid = s.grid := by unfold State.fgStart; simp
@[simp ↓] theorem State.eqReady_grid (r : EqRun) : (s.eqReady r).grid = s.grid := by unfold State.eqReady; simp
@[simp ↓] theorem State.eqFinish_grid (r : EqRun) (good : Nat × EqLane → Bool) (cause : Nat) :
    (s.eqFinish r good cause).grid = s.grid := by unfold State.eqFinish; simp
@[simp ↓] theorem State.eqStart_grid : s.eqStart.grid = s.grid := by unfold State.eqStart; simp
@[simp ↓] theorem State.calTake_grid (k : Nat) : (s.calTake k).grid = s.grid := by unfold State.calTake; simp
@[simp ↓] theorem State.calTry_grid : s.calTry.grid = s.grid := by unfold State.calTry; simp
@[simp ↓] theorem State.bootCommit_grid : s.bootCommit.grid = s.grid := by unfold State.bootCommit; simp
@[simp ↓] theorem State.calDelta_grid : s.calDelta.grid = s.grid := by unfold State.calDelta; split <;> simp
@[simp ↓] theorem State.calListEnd_grid : s.calListEnd.grid = s.grid := by unfold State.calListEnd; simp
@[simp ↓] theorem State.calAfter_grid : s.calAfter.grid = s.grid := by unfold State.calAfter; simp
@[simp ↓] theorem State.fgWrite_grid : s.fgWrite.grid = s.grid := by unfold State.fgWrite; simp
@[simp ↓] theorem State.fgEnd_grid : s.fgEnd.grid = s.grid := by unfold State.fgEnd; simp
@[simp ↓] theorem State.calAtSft_grid (ft : Bool) : (s.calAtSft ft).grid = s.grid := by
  unfold State.calAtSft; dsimp only; (repeat' split) <;> simp

/-! ### ModeReq -/

@[simp ↓] theorem State.modeAtFT_grid (t : Nat) : (s.modeAtFT t).grid = s.grid := by
  unfold State.modeAtFT; split <;> simp

/-! ### Tick -/

@[simp ↓] theorem State.deadlines_grid (f : Frame) : (s.deadlines f).grid = s.grid := by
  unfold State.deadlines; simp
@[simp ↓] theorem State.bankDrained_grid (i : Nat) : (s.bankDrained i).grid = s.grid := by
  unfold State.bankDrained; simp
@[simp ↓] theorem State.ageFrames_grid (ft : Bool) : (s.ageFrames ft).grid = s.grid := by
  unfold State.ageFrames; simp
@[simp ↓] theorem State.seqTo_grid (q : SeqState) : (s.seqTo q).grid = s.grid := by unfold State.seqTo; simp
@[simp ↓] theorem State.drainFrom_grid : s.drainFrom.grid = s.grid := by unfold State.drainFrom; simp
@[simp ↓] theorem State.drainPassed_grid : s.drainPassed.grid = s.grid := by unfold State.drainPassed; simp
@[simp ↓] theorem State.drainTick_grid : s.drainTick.grid = s.grid := by unfold State.drainTick; simp
@[simp ↓] theorem State.commitApply_grid (b : Nat) : (s.commitApply b).grid = s.grid := by
  unfold State.commitApply; split <;> simp
@[simp ↓] theorem State.commitAtFT_grid (n : Option Nat) (t : Nat) : (s.commitAtFT n t).grid = s.grid := by
  unfold State.commitAtFT; (repeat' split) <;> simp
@[simp ↓] theorem State.liveApply_grid (l : LiveSet) (c : InForce) : (s.liveApply l c).grid = s.grid := by
  unfold State.liveApply; simp
@[simp ↓] theorem State.liveAtFT_grid (n : Option Nat) (t : Nat) : (s.liveAtFT n t).grid = s.grid := by
  unfold State.liveAtFT; dsimp only; (repeat' split) <;> simp
@[simp ↓] theorem State.chainsAtFT_grid (was wasTwin : Bool) : (s.chainsAtFT was wasTwin).grid = s.grid := by
  unfold State.chainsAtFT; simp
@[simp ↓] theorem State.dramAtFT_grid : s.dramAtFT.grid = s.grid := by unfold State.dramAtFT; simp
@[simp ↓] theorem State.lanesAtFT_grid : s.lanesAtFT.grid = s.grid := by unfold State.lanesAtFT; split <;> simp
@[simp ↓] theorem State.gridAtFT_grid : s.gridAtFT.grid = s.grid := by unfold State.gridAtFT; split <;> simp
@[simp ↓] theorem State.changesAtFT_grid (t : Nat) : (s.changesAtFT t).grid = s.grid := by
  unfold State.changesAtFT; simp
@[simp ↓] theorem State.seqAtFT_grid (t : Nat) (trig cont : Bool) : (s.seqAtFT t trig cont).1.grid = s.grid := by
  unfold State.seqAtFT; dsimp only; (repeat' split) <;> simp
@[simp ↓] theorem State.endInterval_grid (ft : Bool) : (s.endInterval ft).grid = s.grid := by
  unfold State.endInterval; split <;> simp
@[simp ↓] theorem State.beginReadout_grid (old : Option SubRef) (t : Nat) (ft : Bool) :
    (s.beginReadout old t ft).grid = s.grid := by unfold State.beginReadout; dsimp only; (repeat' split) <;> simp
end Sys2Proof.Machine
end

section
/-!
PROOFS. Inside a sub-frame interval: the start of integration, the transfer and the switch of the references (R39,
R43, R47, R48): O15.
-/

namespace Sys2Proof.Machine

/-- A sub-frame marked SETTLING once more, or for the first time. -/
theorem State.markSettling_integ {s : State} {r : SubRef} (integ : s.tmg.integ = some r)
    (later : s.tmg.firstSub = false) : s.markSettling.tmg.integ = some { r with settling := true } := by
  unfold State.markSettling
  rw [integ]
  dsimp only
  split
  · next marked =>
    have settling : r.settling = true := marked.resolve_right (by simp [later])
    rw [integ, ← settling]
  · rfl

theorem State.markSettling_stored (s : State) : s.markSettling.tmg.stored = s.tmg.stored := by
  unfold State.markSettling
  (repeat' split) <;> rfl

theorem State.markSettling_now (s : State) : s.markSettling.now = s.now := by
  unfold State.markSettling
  (repeat' split) <;> rfl

section
variable {s : State} {r : SubRef} (integ : s.tmg.integ = some r)
include integ

theorem State.integrationStart_of (waits : r.started = false) : s.integrationStart =
    { s.goTo (s.afterSft (s.entryOf r).start) with tmg := { s.tmg with integ := some { r with started := true } } } := by
  unfold State.integrationStart
  rw [integ]
  dsimp only
  rw [waits, if_neg Bool.false_ne_true]
  rfl

/-- The transfer sequence of sub-frame `r` while the storage is free, or may not be so and is the first. -/
theorem State.globalTransfer_moves (waits : r.moved = false)
    (free : s.tmg.firstSub = true ∨ s.transferLate (s.entryOf r) = false) : s.globalTransfer =
    { s.goTo (s.afterSft ((s.entryOf r).start + (s.entryOf r).len + 14)) with
      tmg := { s.tmg with
        integ := some { r with moved := true, omitted := false }
        stored := some { r with moved := true, omitted := false } } } := by
  have onTime : (s.transferLate (s.entryOf r) && !s.tmg.firstSub) = false := by
    rcases free with first | free
    · simp [first]
    · simp [free]
  unfold State.globalTransfer
  rw [integ]
  dsimp only
  rw [waits, if_neg Bool.false_ne_true, onTime]
  simp only [Bool.false_eq_true, if_false, State.goTo_tmg, integ, Option.getD_some]

theorem State.globalTransfer_late (waits : r.moved = false) (later : s.tmg.firstSub = false)
    (late : s.transferLate (s.entryOf r) = true) :
    s.globalTransfer.tmg.integ = some { r with moved := true, omitted := true, settling := true } ∧
      s.globalTransfer.tmg.stored = s.tmg.stored := by
  have isLate : (s.transferLate (s.entryOf r) && !s.tmg.firstSub) = true := by simp [late, later]
  have marked (t : Nat) : (s.goTo t).markSettling.tmg.integ = some { r with settling := true } :=
    State.markSettling_integ integ later
  unfold State.globalTransfer
  rw [integ]
  dsimp only
  rw [waits, if_neg Bool.false_ne_true, isLate]
  simp only [if_true, marked, Option.getD_some, State.markSettling_stored]
  exact ⟨trivial, rfl⟩

theorem State.referenceSwitch_of (waits : s.tmg.switched = false) : s.referenceSwitch.tmg.dacH = (s.entryOf r).hcg ∧
    s.referenceSwitch.tmg.dacL = (s.entryOf r).lcg ∧ s.referenceSwitch.tmg.switched = true ∧
    s.referenceSwitch.now = max s.now s.tmg.rdEnd := by
  unfold State.referenceSwitch
  rw [integ]
  dsimp only
  rw [waits, if_neg Bool.false_ne_true]
  refine ⟨rfl, rfl, rfl, ?_⟩
  simp only [State.grefApply]
  split
  · rw [State.markSettling_now]
    rfl
  · rfl

end

theorem integrationAndTransfer : Claims.IntegrationAndTransfer := by
  intro s r run integ
  refine ⟨fun waits => ⟨_, act_run _ run, ?_⟩, fun waits free => ⟨_, act_run _ run, ?_⟩,
    fun waits later late => ⟨_, act_run _ run, ?_⟩, fun waits => ⟨_, act_run _ run, ?_⟩⟩
  · have eq := State.integrationStart_of integ waits
    exact ⟨(State.fin_tmg _).trans (congrArg State.tmg eq), (State.fin_now _).trans (congrArg State.now eq)⟩
  · have eq := State.globalTransfer_moves integ waits free
    exact ⟨(State.fin_tmg _).trans (congrArg State.tmg eq), (State.fin_now _).trans (congrArg State.now eq),
      (State.fin_frames _).trans (congrArg State.frames eq :)⟩
  · simp only [State.fin_tmg]
    exact State.globalTransfer_late integ waits later late
  · simp only [State.fin_tmg, State.fin_now]
    exact State.referenceSwitch_of integ waits

end Sys2Proof.Machine
end

section
/-!
PROOFS. The ticks of the grid (R41, R42) and the SOFT_TRIG edges that wait for them (R55; log entry 46): O15.
-/

namespace Sys2Proof.Machine

/-! ### What waits for a tick is taken after it -/

theorem State.trigger_now (s : State) (f : TrigFrom) (e : Nat) (blocked : Bool) : (s.trigger f e blocked).now = s.now := by
  obtain ⟨_, taken⟩ | missed | same := s.trigger_cases f e blocked
  · rw [taken]; exact s.targetsAtTrigger_now _
  · rw [missed]; exact congrArg Prod.fst s.trigMissed_grid
  · rw [same]

theorem State.trigger_softs (s : State) (f : TrigFrom) (e : Nat) (blocked : Bool) :
    (s.trigger f e blocked).tmg.softs = s.tmg.softs := by
  obtain ⟨_, taken⟩ | missed | same := s.trigger_cases f e blocked
  · rw [taken]; exact (congrArg Tmg.softs (s.targetsAtTrigger_tmg _) :)
  · rw [missed]; exact (congrArg (fun g => g.2.2.2.2.1) s.trigMissed_grid :)
  · rw [same]

theorem State.softsTaken_now (s : State) : s.softsTaken.now = s.now := by
  unfold State.softsTaken
  split
  · rfl
  · exact foldl_keeps (fun a => a.now) _ _ _ fun a e => a.trigger_now .soft e _

theorem State.softsTaken_softs (s : State) : s.softsTaken.tmg.softs = [] := by
  unfold State.softsTaken
  split
  · assumption
  · exact foldl_keeps (fun a => a.tmg.softs) _ _ _ fun a e => a.trigger_softs .soft e _

theorem State.softsTaken_unawaited {s : State} (unawaited : s.tmg.softs = []) : s.softsTaken = s := if_pos unawaited

/-! ### An FT moves no time, and leaves the tick it is -/

/-- No time passes, and a tick that no edge waited for stays the last one, with its sub-frame, and none waits. -/
def State.SameTick (s t : State) : Prop :=
  t.now = s.now ∧ (s.tmg.softs = [] → s.tmg.fresh = false →
    t.tmg.softs = [] ∧ t.tmg.fresh = false ∧ t.tmg.pos = s.tmg.pos ∧ t.tmg.j = s.tmg.j)

theorem State.sameTick_of_grid {s t : State} (h : t.grid = s.grid) : s.SameTick t := by
  simp only [State.grid, Prod.mk.injEq] at h
  obtain ⟨now, pos, fresh, j, softs, -, -⟩ := h
  exact ⟨now, fun hs hf => ⟨softs.trans hs, fresh.trans hf, pos, j⟩⟩

theorem State.SameTick.trans {s t u : State} (first : s.SameTick t) (second : t.SameTick u) : s.SameTick u := by
  obtain ⟨now, same⟩ := first
  obtain ⟨now', same'⟩ := second
  refine ⟨now'.trans now, fun hs hf => ?_⟩
  obtain ⟨softs, fresh, pos, j⟩ := same hs hf
  obtain ⟨softs', fresh', pos', j'⟩ := same' softs fresh
  exact ⟨softs', fresh', pos'.trans pos, j'.trans j⟩

theorem State.softsLost_sameTick (s : State) : s.SameTick s.softsLost := by
  have forgotten : s.SameTick { s with tmg := { s.tmg with softs := [] } } := ⟨rfl, fun _ hf => ⟨rfl, hf, rfl, rfl⟩⟩
  unfold State.softsLost
  dsimp only
  split
  · exact forgotten.trans (State.sameTick_of_grid (foldl_keeps State.grid _ _ _ fun a _ => a.trigMissed_grid))
  · exact forgotten

theorem State.stopTicks_sameTick (s : State) : s.SameTick s.stopTicks := by
  unfold State.stopTicks
  split
  · exact State.sameTick_of_grid s.tdacAbort_grid
  · -- `c` keeps Lean's kernel from dropping the frames.
    obtain ⟨c, hc⟩ : ∃ c, s.softsLost.voidAll.tdacAbort.dropRealign.dropFrames.endSwitches = c := ⟨_, rfl⟩
    have dropped : s.softsLost.SameTick c := hc ▸ State.sameTick_of_grid (by simp)
    rw [hc]
    extract_lets s1 tmg cnv s2
    have stopped : c.SameTick s2 := ⟨rfl, fun hs _ => ⟨hs, rfl, rfl, rfl⟩⟩
    exact ((s.softsLost_sameTick.trans dropped).trans stopped).trans (State.sameTick_of_grid (by simp))

theorem State.beginFrame_sameTick (s : State) (t : Nat) (trig : Bool) : s.SameTick (s.beginFrame t trig) := by
  unfold State.beginFrame
  split
  · exact State.sameTick_of_grid rfl
  · extract_lets f n g s1 _ s2
    have counted : s.SameTick s1 := by
      refine State.SameTick.trans ?_ (State.sameTick_of_grid (State.setInt_grid _ _ _))
      exact ⟨rfl, fun hs hf => ⟨hs, hf, rfl, rfl⟩⟩
    have first : s2.grid = s1.grid := by unfold s2; split <;> simp
    exact counted.trans (State.sameTick_of_grid (by simp [first]))

theorem State.ftWork_sameTick (s : State) (t : Nat) : s.SameTick (s.ftWork t) := by
  -- `c` keeps Lean's kernel from running the changes at the FT.
  obtain ⟨c, hc⟩ : ∃ c, s.changesAtFT t = c := ⟨_, rfl⟩
  have changed : s.SameTick c := hc ▸ State.sameTick_of_grid (s.changesAtFT_grid t)
  unfold State.ftWork
  rw [hc]
  extract_lets trig cont s1 tmg s2
  have ready : c.SameTick s2 := State.sameTick_of_grid rfl
  split
  · exact (changed.trans ready).trans s2.stopTicks_sameTick
  · have sequenced : s2.SameTick (s2.seqAtFT t trig cont).1 := State.sameTick_of_grid (s2.seqAtFT_grid t trig cont)
    split
    next s3 go is =>
    rw [is] at sequenced
    extract_lets s4
    have dropped : s3.SameTick s4 := State.sameTick_of_grid (by unfold s4; split <;> simp)
    refine (((changed.trans ready).trans sequenced).trans dropped).trans ?_
    split
    · exact s4.beginFrame_sameTick t trig
    · exact State.sameTick_of_grid rfl

/-! ### A tick -/

/-- The grid at its next tick, before the work of that tick. -/
def State.atTick (s : State) (ft : Bool) : State :=
  let s1 := (s.goTo (s.seqEdge s.tmg.nextSft)).endInterval ft
  { s1 with tmg := { s1.tmg with
      pos := s.tmg.nextSft, fresh := false, j := if ft then 0 else s.tmg.j + 1
      integ := s.tmg.integ.map SubRef.next
      firstSub := s1.tmg.firstSub && s.tmg.integ.isNone }, cnv := s1.cnv.freeze }

theorem State.atTick_grid (s : State) (ft : Bool) : (s.atTick ft).grid =
    (max s.now (s.seqEdge s.tmg.nextSft), s.tmg.nextSft, false, if ft then 0 else s.tmg.j + 1, s.tmg.softs,
      s.tmg.nNext, s.tmg.nLast) := by
  have ended := ((s.goTo (s.seqEdge s.tmg.nextSft)).endInterval_grid ft).trans (s.goTo_grid _)
  simp only [State.grid, Prod.mk.injEq] at ended
  obtain ⟨now, -, -, -, softs, nNext, nLast⟩ := ended
  unfold State.atTick
  simp only [State.grid, now, softs, nNext, nLast]

theorem State.atTick_now (s : State) (ft : Bool) : (s.atTick ft).now = max s.now (s.seqEdge s.tmg.nextSft) := by
  have grid := s.atTick_grid ft
  simp only [State.grid, Prod.mk.injEq] at grid
  obtain ⟨now, -⟩ := grid
  exact now

theorem State.atTick_softs (s : State) (ft : Bool) : (s.atTick ft).tmg.softs = s.tmg.softs := by
  have grid := s.atTick_grid ft
  simp only [State.grid, Prod.mk.injEq] at grid
  obtain ⟨-, -, -, -, softs, -⟩ := grid
  exact softs

/-- The tick with its work, before the edges that waited for it are judged. -/
def State.tickWork (s : State) (ft : Bool) : State :=
  let t := s.seqEdge s.tmg.nextSft
  let s1 := if ft then (s.atTick ft).ftWork t else s.atTick ft
  (if s1.ticking then s1.beginReadout s.tmg.integ t ft else s1).rigFlush

theorem State.tick_eq (s : State) (ft : Bool) : s.tick ft = (s.tickWork ft).softsTaken := rfl

theorem State.tickWork_grid (s : State) (ft : Bool) : (s.tickWork ft).grid =
    (if ft then (s.atTick ft).ftWork (s.seqEdge s.tmg.nextSft) else s.atTick ft).grid := by
  unfold State.tickWork
  extract_lets t s1
  rw [State.rigFlush_grid]
  split
  · exact s1.beginReadout_grid _ t ft
  · rfl

/-- The work of an SFT that is no FT leaves the grid at the tick. -/
theorem State.tickWork_sft (s : State) : (s.tickWork false).grid = (s.atTick false).grid :=
  (s.tickWork_grid false).trans (congrArg State.grid (if_neg Bool.false_ne_true))

theorem State.tickWork_sameTick (s : State) : ∀ ft, (s.atTick ft).SameTick (s.tickWork ft)
  | false => State.sameTick_of_grid s.tickWork_sft
  | true => ((s.atTick true).ftWork_sameTick _).trans
      (State.sameTick_of_grid ((s.tickWork_grid true).trans (congrArg State.grid (if_pos rfl))))

theorem State.tick_now (s : State) (ft : Bool) : (s.tick ft).now = max s.now (s.seqEdge s.tmg.nextSft) := by
  rw [State.tick_eq, State.softsTaken_now, (s.tickWork_sameTick ft).1, State.atTick_now]

theorem State.tick_softs (s : State) (ft : Bool) : (s.tick ft).tmg.softs = [] := by
  rw [State.tick_eq, State.softsTaken_softs]

section
variable {s : State} (unawaited : s.tmg.softs = [])
include unawaited

/-- Where no edge waits, the tick is over with its work. -/
theorem State.tick_unawaited (ft : Bool) : s.tick ft = s.tickWork ft := by
  obtain ⟨-, same⟩ := s.tickWork_sameTick ft
  obtain ⟨softs, -⟩ := same ((s.atTick_softs ft).trans unawaited) rfl
  exact State.softsTaken_unawaited softs

theorem State.tick_stands (ft : Bool) : (s.tick ft).tmg.pos = s.tmg.nextSft ∧ (s.tick ft).tmg.fresh = false ∧
    (s.tick ft).tmg.j = if ft then 0 else s.tmg.j + 1 := by
  obtain ⟨-, same⟩ := s.tickWork_sameTick ft
  obtain ⟨-, fresh, pos, j⟩ := same ((s.atTick_softs ft).trans unawaited) rfl
  rw [State.tick_unawaited unawaited]
  exact ⟨pos, fresh, j⟩

/-- An SFT that is no FT begins no frame. -/
theorem State.sft_frameNumbers : (s.tick false).tmg.nNext = s.tmg.nNext ∧ (s.tick false).tmg.nLast = s.tmg.nLast := by
  have same := s.tickWork_sft.trans (s.atTick_grid false)
  rw [← State.tick_unawaited unawaited] at same
  simp only [State.grid, Prod.mk.injEq] at same
  obtain ⟨-, -, -, -, -, nNext, nLast⟩ := same
  exact ⟨nNext, nLast⟩

end

theorem ticksMoveTheGrid : Claims.TicksMoveTheGrid := by
  intro s run ticking
  refine ⟨fun sft => ⟨_, act_run _ run, ?_⟩, fun ft => ⟨_, act_run _ run, ?_⟩⟩
  · have ticks : s.subFrameTick = s.tick false := by simp [State.subFrameTick, ticking, sft]
    simp only [ticks, State.fin_tmg, State.fin_now, State.tick_now]
    refine ⟨le_max_right _ _, s.tick_softs false, fun unawaited => ?_⟩
    obtain ⟨pos, fresh, j⟩ := State.tick_stands unawaited false
    obtain ⟨nNext, nLast⟩ := State.sft_frameNumbers unawaited
    exact ⟨pos, fresh, j, nNext, nLast⟩
  · have ticks : s.frameTick = s.tick true := by simp [State.frameTick, ticking, ft]
    have kept := (s.tick true).calDelta_grid
    simp only [State.grid, Prod.mk.injEq] at kept
    obtain ⟨now, pos, fresh, j, softs, -, -⟩ := kept
    simp only [ticks, State.fin_tmg, State.fin_now, now, pos, fresh, j, softs, State.tick_now]
    exact ⟨le_max_right _ _, s.tick_softs true, fun unawaited => State.tick_stands unawaited true⟩

/-- Settles O15: a tick is judged in two parts, its own work, of which `State.grid` and `State.SameTick` tell where it
leaves the grid, and the edges that waited for it; the rest of the interval is `integrationAndTransfer`. -/
theorem gridAndExposure : Obligations.GridAndExposure := by
  unfold Obligations.GridAndExposure
  exact ⟨ticksMoveTheGrid, integrationAndTransfer⟩

end Sys2Proof.Machine
end

section
/-!
PROOFS. The slice-correction window (R108, R109, R392, R434, R436): O43.
-/

namespace Sys2Proof.Machine

/-! ### What each accessor holds (R436) -/

theorem Cnv.setLatched_slices (c : Cnv) (who : Who) (x : Option (Nat × Nat)) : (c.setLatched who x).slices = c.slices := by
  cases who <;> rfl
theorem Cnv.setHeld_slices (c : Cnv) (who : Who) (k : Nat) (x : Option Nat) : (c.setHeld who k x).slices = c.slices := by
  cases who <;> rfl
theorem Cnv.setLatched_held (c : Cnv) (who : Who) (x : Option (Nat × Nat)) (k : Nat) :
    (c.setLatched who x).held who k = c.held who k := by cases who <;> rfl
theorem Cnv.latched_setLatched (c : Cnv) (who : Who) (x : Option (Nat × Nat)) : (c.setLatched who x).latched who = x := by
  cases who <;> rfl

theorem Cnv.heldAll_setHeld_none (c : Cnv) (who : Who) (k : Nat) :
    (c.setHeld who k none).heldAll who = (c.heldAll who).filter fun y => y.1 ≠ k := by
  cases who <;> exact List.append_nil _

/-- A word 0 that is dropped is held no more. -/
theorem Cnv.held_setHeld_none (c : Cnv) (who : Who) (k : Nat) : (c.setHeld who k none).held who k = none := by
  have gone : ((c.heldAll who).filter fun y => y.1 ≠ k).find? (fun x => x.1 = k) = none := by simp
  rw [Cnv.held, Cnv.heldAll_setHeld_none, gone]
  rfl

theorem Cnv.ent_of_slices {c d : Cnv} (h : d.slices = c.slices) (k : Nat) : d.ent k = c.ent k := by simp only [Cnv.ent, h]

theorem State.setEnt_ent (s : State) (k : Nat) (e : SliceEnt) (q : Nat) :
    (s.setEnt k e).cnv.ent q = if q = k then e else s.cnv.ent q := sget_sput _ _ _ _ _

/-! ### Words of the window (R108) -/

/-- Address of word `j` of the entry of slice `k`. -/
def windowWord (k j : Nat) : Nat := 0x600000 + (8 * k + 4 * j)

theorem winTarget_windowWord {k j : Nat} (hk : k < 83720) (hj : j < 2) : winTarget (windowWord k j) = .slice k j := by
  have inside : 0x600000 ≤ windowWord k j ∧ windowWord k j < 0x6A3840 := by simp only [windowWord]; omega
  have entry : (windowWord k j - 0x600000) / 8 = k := by simp only [windowWord]; omega
  have word : (windowWord k j - 0x600000) % 8 / 4 = j := by simp only [windowWord]; omega
  rw [winTarget, if_pos inside, entry, word]

theorem State.poke_window (s : State) (who : Who) {a : Nat} (v : Word) (lo : 0x600000 ≤ a) (hi : a < 0x700000)
    (aligned : a % 4 = 0) : s.poke who a v = s.winWrite who a v s.fgRuns := by
  have size : accessSize who 4 = 4 := by simp [accessSize]
  have word : a / 4 * 4 = a := by omega
  have dram : inDramWin a = false := by simp [inDramWin]; omega
  have ret : inRet a = false := by simp [inRet]; omega
  have block : blockClass a = some clsCNV := by
    rw [blockClass, if_neg (by omega), if_neg (by omega), if_neg (by omega), if_neg (by omega), if_neg (by omega),
      if_pos (by omega)]
  simp only [State.poke, State.write, size, word, dram, ret, block, Bool.false_eq_true, if_false, aligned]
  rw [if_neg (by simp), if_pos lo]

theorem exec_sliceWindowWrite {s : State} (run : s.released = true) (who : Who) {k j : Nat} (hk : k < 83720) (hj : j < 2)
    (v : Word) : exec (.sliceWindowWrite who (8 * k + 4 * j) v) s =
      .next (s.winWrite who (windowWord k j) v s.fgRuns).fin := by
  have offset : 0x600000 + (8 * k + 4 * j) % 0x100000 = windowWord k j := by simp only [windowWord]; omega
  have poked : s.poke who (windowWord k j) v = s.winWrite who (windowWord k j) v s.fgRuns :=
    State.poke_window s who v (by simp only [windowWord]; omega) (by simp only [windowWord]; omega)
      (by simp only [windowWord]; omega)
  rw [← poked, ← offset]
  exact act_run _ run

/-! ### What a write of the window does (R109, R392) -/

theorem State.winRefused_rb (s : State) (who : Who) (a : Nat) : (s.winRefused who a).rb A.CNV_INT_STATUS 9 = true := by
  rw [State.winRefused, State.ignored_eq, State.rb_eq, State.raise_reg]
  exact State.setInt_rb_same _ _ (by decide)

theorem State.fin_rb (s : State) (a i : Nat) : s.fin.rb a i = s.rb a i := by rw [State.rb_eq, State.fin_reg, ← State.rb_eq]

/-- The accessor's latched word 1 is gone with its next access (R436). -/
def State.unlatched (s : State) (who : Who) : State := { s with cnv := s.cnv.setLatched who none }

section
variable {s : State} {who : Who}

theorem State.not_winTurned (opened : s.windowOpen who) :
    ¬ (s.fgRuns = true ∨ (who = .host ∧ ¬ (s.sys.mode = .standby ∨ s.sys.mode = .calibrate))) := by
  obtain ⟨idle, host⟩ := opened
  rintro (busy | ⟨isHost, mode⟩)
  · exact Bool.noConfusion (idle.symm.trans busy)
  · exact mode (host isHost)

variable {k : Nat} (v : Word) (hk : k < 83720)
include hk

theorem State.winWrite_shut {j : Nat} (hj : j < 2) (shut : ¬ s.windowOpen who) :
    s.winWrite who (windowWord k j) v s.fgRuns = (s.unlatched who).winRefused who (windowWord k j) := by
  have turned : s.fgRuns = true ∨ (who = .host ∧ ¬ (s.sys.mode = .standby ∨ s.sys.mode = .calibrate)) := by
    by_contra neither
    obtain ⟨idle, host⟩ := not_or.1 neither
    exact shut ⟨Bool.eq_false_iff.2 idle, fun isHost => not_not.1 fun mode => host ⟨isHost, mode⟩⟩
  simp only [State.winWrite, winTarget_windowWord hk hj, if_pos turned]
  rfl

variable (opened : s.windowOpen who)
include opened

theorem State.winWrite_word0 : s.winWrite who (windowWord k 0) v s.fgRuns =
    { s with cnv := (s.cnv.setLatched who none).setHeld who k (some v.toNat) } := by
  simp only [State.winWrite, winTarget_windowWord hk (show 0 < 2 by decide), if_neg (State.not_winTurned opened)]

/-- Word 1 with no word 0 before it brings the gain alone. -/
theorem State.winWrite_gain (alone : s.cnv.held who k = none) :
    (s.winWrite who (windowWord k 1) v s.fgRuns).cnv.ent k = { s.cnv.ent k with gain := wfield v 0 16 } := by
  simp only [State.winWrite, winTarget_windowWord hk (show 1 < 2 by decide), if_neg (State.not_winTurned opened),
    Cnv.setLatched_held, alone, State.setEnt_ent, if_pos, Cnv.ent_of_slices (s.cnv.setLatched_slices who none)]

variable {x : Nat} (pair : s.cnv.held who k = some x)
include pair

/-- A pair that would move a tap while frames are taken is refused. -/
theorem State.winWrite_pair_refused (live : s.sys.mode.capturing = true)
    (moves : field x 12 6 ≠ (s.cnv.ent k).samp ∨ field x 18 5 ≠ (s.cnv.ent k).thr) :
    s.winWrite who (windowWord k 1) v s.fgRuns =
      State.winRefused { s with cnv := (s.cnv.setLatched who none).setHeld who k none } who (windowWord k 1) := by
  simp only [State.winWrite, winTarget_windowWord hk (show 1 < 2 by decide), if_neg (State.not_winTurned opened),
    Cnv.setLatched_held, pair, Cnv.ent_of_slices (s.cnv.setLatched_slices who none), if_pos (And.intro live moves)]

theorem State.winWrite_pair
    (taken : s.sys.mode.capturing = false ∨ (field x 12 6 = (s.cnv.ent k).samp ∧ field x 18 5 = (s.cnv.ent k).thr)) :
    (s.winWrite who (windowWord k 1) v s.fgRuns).cnv.ent k = { s.cnv.ent k with
      offset := field x 0 12, samp := field x 12 6, thr := field x 18 5, valid := x.testBit 24, gain := wfield v 0 16 } ∧
    (s.winWrite who (windowWord k 1) v s.fgRuns).cnv.held who k = none := by
  have kept : ¬ (s.sys.mode.capturing = true ∧ (field x 12 6 ≠ (s.cnv.ent k).samp ∨ field x 18 5 ≠ (s.cnv.ent k).thr)) := by
    rintro ⟨live, moves⟩
    rcases taken with stopped | ⟨samp, thr⟩
    · exact Bool.noConfusion (stopped.symm.trans live)
    · exact moves.elim (· samp) (· thr)
  simp only [State.winWrite, winTarget_windowWord hk (show 1 < 2 by decide), if_neg (State.not_winTurned opened),
    Cnv.setLatched_held, pair, Cnv.ent_of_slices (s.cnv.setLatched_slices who none), if_neg kept, State.setEnt_ent, if_pos]
  refine ⟨trivial, ?_⟩
  have dropped := (s.cnv.setLatched who none).held_setHeld_none who k
  cases who <;> exact dropped

end

/-! ### What a read of a word 0 does (R436) -/

theorem State.readPart_window (s : State) (r : Reader) (base : Nat) {a : Nat} (lo : 0x600000 ≤ a) (hi : a < 0x700000)
    (aligned : a % 4 = 0) : s.readPart r.who base (a + r.off.val) r.size =
      (partOf r (s.winRead r.who a).1, (s.winRead r.who a).2) := by
  have below := r.off.isLt
  have word : (a + r.off.val) / 4 * 4 = a := by omega
  have bytes : (a + r.off.val) % 4 = r.off.val := by omega
  have dram : inDramWin a = false := by simp [inDramWin]; omega
  have read : s.readWord r.who base (a + r.off.val) = s.winRead r.who a := by
    simp only [State.readWord, word, dram, State.readReg, A.SYS_ALARM_FIFO, A.MON_CH, A.STR_CENT_FRAME, A.STR_CENT_FRAC,
      Bool.false_eq_true, if_false]
    rw [if_neg (by omega), if_neg (by omega), if_neg (by omega), if_neg (by omega), if_neg (by omega), if_pos ⟨lo, hi⟩]
  simp only [State.readPart, read, bytes, partOf]

theorem State.winRead_word0 (s : State) (who : Who) {k : Nat} (hk : k < 83720) : s.winRead who (windowWord k 0) =
    (s.cnv.word0 s.readingNow k, { s with cnv := s.cnv.setLatched who (some (k, s.cnv.word1 k)) }) := by
  simp only [State.winRead, winTarget_windowWord hk (show 0 < 2 by decide)]

theorem State.fetch_readBack (s : State) (r : Reader) (a : Nat) :
    (s.fetch r a).readBack r.who = mkWord (s.readPart r.who (s.aperture r.who 0) (a + r.off.val) r.size).1 := by
  simp only [State.fetch, State.readBack]
  cases r.who <;> rfl

theorem State.fin_readBack (s : State) (who : Who) : s.fin.readBack who = s.readBack who := by
  simp only [State.readBack, State.fin_sys]

theorem State.fetch_cnv (s : State) (r : Reader) (a : Nat) :
    (s.fetch r a).cnv = (s.readPart r.who (s.aperture r.who 0) (a + r.off.val) r.size).2.cnv := rfl

theorem exec_sliceWord0Read {s : State} (run : s.released = true) (r : Reader) {k : Nat} (hk : k < 83720) :
    exec (.sliceWord0Read r k) s = .next (s.fetch r (windowWord k 0)).fin := by
  have entry : 0x600000 + 8 * (k % 83720) = windowWord k 0 := by simp only [windowWord]; omega
  rw [← entry]
  exact act_run _ run

/-- Settles O43: a write of the window goes by its target, the host's mode and the word 0 that the accessor holds
(`State.winWrite_shut` to `State.winWrite_pair`), and a read of word 0 is `State.winRead_word0` in any width. -/
theorem sliceWindowIsWritten : Obligations.SliceWindowIsWritten := by
  unfold Obligations.SliceWindowIsWritten
  intro s who k v run hk
  have write0 := exec_sliceWindowWrite run who hk (show 0 < 2 by decide) v
  have write1 := exec_sliceWindowWrite run who hk (show 1 < 2 by decide) v
  refine ⟨fun shut => ⟨_, write0, ?_⟩, fun shut => ⟨_, write1, ?_⟩, fun opened => ⟨_, write0, ?_⟩,
    fun opened alone => ⟨_, write1, ?_⟩, fun x opened pair => ⟨fun live moves => ⟨_, write1, ?_⟩,
      fun taken => ⟨_, write1, ?_⟩⟩, fun r => ⟨_, exec_sliceWord0Read run r hk, ?_⟩⟩
  · rw [State.winWrite_shut v hk (by decide) shut]
    simp only [State.fin_cnv, State.fin_rb]
    exact ⟨rfl, State.winRefused_rb _ _ _⟩
  · rw [State.winWrite_shut v hk (by decide) shut]
    simp only [State.fin_cnv, State.fin_rb]
    exact ⟨rfl, State.winRefused_rb _ _ _⟩
  · simp only [State.fin_cnv, State.winWrite_word0 v hk opened]
  · simp only [State.fin_cnv, State.winWrite_gain v hk opened alone]
  · rw [State.winWrite_pair_refused v hk opened pair live moves]
    simp only [State.fin_cnv, State.fin_rb]
    refine ⟨Cnv.ent_of_slices ?_ k, State.winRefused_rb _ _ _⟩
    exact (Cnv.setHeld_slices _ _ _ _).trans (Cnv.setLatched_slices _ _ _)
  · simp only [State.fin_cnv]
    exact State.winWrite_pair v hk opened pair taken
  · have read := s.readPart_window r (s.aperture r.who 0) (a := windowWord k 0) (by simp only [windowWord]; omega)
      (by simp only [windowWord]; omega) (by simp only [windowWord]; omega)
    rw [State.winRead_word0 s r.who hk] at read
    simp only [State.fin_readBack, State.fetch_readBack, State.fin_cnv, State.fetch_cnv, read]
    exact ⟨trivial, Cnv.latched_setLatched _ _ _, Cnv.setLatched_slices _ _ _⟩

end Sys2Proof.Machine
end

section
/-!
PROOFS. What a substitution may change (R97 to R99, R107).
-/

namespace Sys2Proof.Machine

/-- `t` is `s` but for the slice entries, the rotation, what waits for substitution with its reports, the ledger, and
`CNV_INT_STATUS`. -/
structure State.RetireFrame (s t : State) : Prop where
  frame : t = { s with
    regs := t.regs, rwc := t.rwc, evl := t.evl
    cnv := { s.cnv with slices := t.cnv.slices, grps := t.cnv.grps, subs := t.cnv.subs, failLast := t.cnv.failLast
                        retireResult := t.cnv.retireResult } }
  reg : ∀ a, a ≠ A.CNV_INT_STATUS → t.reg a = s.reg a

theorem State.RetireFrame.refl (s : State) : s.RetireFrame s := ⟨rfl, fun _ _ => rfl⟩

theorem State.RetireFrame.trans {s t u : State} (first : s.RetireFrame t) (second : t.RetireFrame u) :
    s.RetireFrame u := by
  obtain ⟨frame, reg⟩ := first
  obtain ⟨frame', reg'⟩ := second
  refine ⟨?_, fun a other => (reg' a other).trans (reg a other)⟩
  rw [frame] at frame'
  exact frame'

section
variable {s t : State} (h : s.RetireFrame t)
include h

theorem State.RetireFrame.now : t.now = s.now := by rw [h.frame]
theorem State.RetireFrame.clk : t.clk = s.clk := by rw [h.frame]
theorem State.RetireFrame.tmg : t.tmg = s.tmg := by rw [h.frame]
theorem State.RetireFrame.tdac : t.cnv.tdac = s.cnv.tdac := by rw [h.frame]
theorem State.RetireFrame.evalDue : t.cnv.evalDue = s.cnv.evalDue := by rw [h.frame]
theorem State.RetireFrame.counts : (t.cnv.steps, t.cnv.voids, t.cnv.rejects, t.cnv.cycles) =
    (s.cnv.steps, s.cnv.voids, s.cnv.rejects, s.cnv.cycles) := by rw [h.frame]

end

/-- Of `CNV_INT_STATUS` no bit is cleared, no failed slice works again, and the last retire command keeps its result
or is answered. -/
structure State.Retires (s t : State) : Prop extends s.RetireFrame t where
  bits : ∀ i, s.rb A.CNV_INT_STATUS i = true → t.rb A.CNV_INT_STATUS i = true
  failed : ∀ k, (s.cnv.ent k).failed = true → (t.cnv.ent k).failed = true
  result : t.cnv.retireResult = s.cnv.retireResult ∨ t.cnv.retireResult = 2 ∨ t.cnv.retireResult = 5

theorem State.Retires.refl (s : State) : s.Retires s := ⟨.refl s, fun _ h => h, fun _ h => h, .inl rfl⟩

theorem State.Retires.trans {s t u : State} (first : s.Retires t) (second : t.Retires u) : s.Retires u := by
  refine ⟨first.toRetireFrame.trans second.toRetireFrame, fun i h => second.bits i (first.bits i h),
    fun k h => second.failed k (first.failed k h), ?_⟩
  rcases second.result with kept | answered
  · rw [kept]
    exact first.result
  · exact .inr answered

theorem State.setInt_rb (s : State) (a : Nat) {i j : Nat} (hi : i < 32) (h : s.rb a j = true) :
    (s.setInt a i).rb a j = true := by
  have below : (s.rn a ||| 2 ^ i) < 2 ^ 32 :=
    Nat.or_lt_two_pow (s.reg a).isLt (Nat.pow_lt_pow_right (by decide) hi)
  rw [State.rb] at h
  rw [State.setInt_eq, State.rb_eq, State.note_reg, State.setReg_reg_same, mkWord, BitVec.toNat_ofNat,
    Nat.mod_eq_of_lt below, Nat.testBit_or, h, Bool.true_or]

theorem State.retires_setInt (s : State) {i : Nat} (hi : i < 32) : s.Retires (s.setInt A.CNV_INT_STATUS i) :=
  ⟨⟨rfl, fun _ other => State.setReg_reg_other _ _ other⟩, fun _ h => s.setInt_rb _ hi h, fun _ h => h, .inl rfl⟩

theorem State.retires_faultEv (s : State) (cls code unit detail : Nat) : s.Retires (s.faultEv cls code unit detail) :=
  ⟨⟨rfl, fun _ _ => rfl⟩, fun _ h => h, fun _ h => h, .inl rfl⟩

theorem State.retires_setGrp (s : State) (key : Nat) (g : Grp) : s.Retires (s.setGrp key g) :=
  ⟨⟨rfl, fun _ _ => rfl⟩, fun _ h => h, fun _ h => h, .inl rfl⟩

theorem State.retires_stepOver (s : State) (key : Nat) : s.Retires (s.stepOver key) := s.retires_setGrp key _

theorem State.retires_setEnt (s : State) (k : Nat) {e : SliceEnt}
    (h : (s.cnv.ent k).failed = true → e.failed = true) : s.Retires (s.setEnt k e) := by
  refine ⟨⟨rfl, fun _ _ => rfl⟩, fun _ h => h, fun q failed => ?_, .inl rfl⟩
  rw [State.setEnt_ent]
  split
  · next same => exact h (same ▸ failed)
  · exact failed

theorem State.retires_subs (s : State) (l : List PendSub) : s.Retires { s with cnv := { s.cnv with subs := l } } :=
  ⟨⟨rfl, fun _ _ => rfl⟩, fun _ h => h, fun _ h => h, .inl rfl⟩

theorem State.retires_checkSpares (s : State) (key before : Nat) : s.Retires (s.checkSpares key before) := by
  unfold State.checkSpares
  split
  · dsimp only
    refine State.Retires.trans ?_ (State.retires_setInt _ (by decide))
    split
    · exact .refl s
    · exact s.retires_setGrp key _
  · exact .refl s

/-! ### Substitutions (R98, R99) -/

/-- A substitution fails its slice, answers the command that asked for it, and is reported. -/
theorem State.applySub_spec (s : State) (p : PendSub) :
    s.Retires (s.applySub p) ∧ ((s.applySub p).cnv.ent (130 * p.key + p.pos)).failed = true ∧
      (s.applySub p).rb A.CNV_INT_STATUS 1 = true ∧
      (p.req ≠ none → (s.applySub p).cnv.retireResult = 2 ∨ (s.applySub p).cnv.retireResult = 5) := by
  unfold State.applySub
  extract_lets before k e need s1 _ s2 pick s3 _ s4 s5 _
  have failing : s.Retires s1 := s.retires_setEnt k fun _ => rfl
  have failed : (s1.cnv.ent k).failed = true := by rw [State.setEnt_ent, if_pos rfl]
  have taken : s1.Retires s2 := s1.retires_subs _
  have served : s2.Retires s3 := by
    unfold s3
    clear_value need pick
    split
    · exact .refl s2
    · split
      · exact s2.retires_setEnt _ id
      · exact (s2.retires_setInt (by decide)).trans (State.retires_faultEv _ _ _ _ _)
  have turned : s3.Retires s4 := by
    unfold s4
    split
    · exact (s3.retires_stepOver _).trans (State.retires_setGrp _ _ _)
    · exact .refl s3
  have checked : s4.Retires s5 := (s4.retires_checkSpares _ _).trans (State.retires_setInt _ (by decide))
  have rest : s1.Retires s5 := ((taken.trans served).trans turned).trans checked
  have reported : s5.rb A.CNV_INT_STATUS 1 = true := State.setInt_rb_same _ _ (by decide)
  split
  · next declared => exact ⟨failing.trans rest, rest.failed k failed, reported, fun asked => absurd declared asked⟩
  · have answer : (if pick = none ∧ need.isSome = true then 5 else 2) = 2 ∨
        (if pick = none ∧ need.isSome = true then 5 else 2) = 5 := by split <;> simp
    have whole := failing.trans rest
    exact ⟨⟨whole.toRetireFrame.trans ⟨rfl, fun _ _ => rfl⟩, whole.bits, whole.failed, .inr answer⟩,
      rest.failed k failed, reported, fun _ => answer⟩

theorem State.retires_applySub (s : State) (p : PendSub) : s.Retires (s.applySub p) := (s.applySub_spec p).1

theorem State.retires_foldl (l : List PendSub) (s : State) :
    s.Retires (l.foldl (fun (a : State) p => a.applySub p) s) := by
  induction l generalizing s with
  | nil => exact .refl s
  | cons p l ih => exact (s.retires_applySub p).trans (ih _)

theorem State.retires_applySubs (s : State) (due : List PendSub) : s.Retires (s.applySubs due) := State.retires_foldl _ s

theorem State.retires_subsNow (s : State) : s.Retires s.subsNow := by
  unfold State.subsNow
  split
  · exact .refl s
  · exact s.retires_applySubs _

/-- The slice of a command that is among the substitutions due is failed, and the command answered. -/
theorem State.applySubs_answers (s : State) {due : List PendSub} {p : PendSub} (mem : p ∈ due) (asked : p.req ≠ none)
    (named : p.pos < 130) : ((s.applySubs due).cnv.ent (130 * p.key + p.pos)).failed = true ∧
      ((s.applySubs due).cnv.retireResult = 2 ∨ (s.applySubs due).cnv.retireResult = 5) ∧
      (s.applySubs due).rb A.CNV_INT_STATUS 1 = true := by
  unfold State.applySubs
  extract_lets first rest sorted
  have inOrder : p ∈ first ++ sorted := by
    refine List.mem_append_right _ (List.mem_flatMap.2 ⟨p.pos, List.mem_range.2 named, ?_⟩)
    simp [rest, mem, asked]
  obtain ⟨before, after, order⟩ := List.append_of_mem inOrder
  rw [order, List.foldl_append, List.foldl_cons]
  obtain ⟨-, failed, reported, answered⟩ := (before.foldl (fun (a : State) q => a.applySub q) s).applySub_spec p
  have later := State.retires_foldl after ((before.foldl (fun (a : State) q => a.applySub q) s).applySub p)
  refine ⟨later.failed _ failed, ?_, later.bits 1 reported⟩
  rcases later.result with kept | answered'
  · rw [kept]
    exact answered asked
  · exact answered'

end Sys2Proof.Machine
end

section
/-!
PROOFS. The control write of the converter block (R100, R103, R105, R107): O42.
-/

namespace Sys2Proof.Machine

/-! ### RETIRE_GO (R100) -/

/-- The substitution that the command `n` of `CNV_RETIRE` asks for, at the instant `t` with its SEQCLK edge. -/
def retireSub (n edge t : Nat) : PendSub :=
  { key := 322 * field n 17 1 + field n 8 9, pos := field n 0 8
    spare := if field n 19 2 = 0 then none else some (field n 19 2 - 1), force := n.testBit 18
    req := some edge, at_ := t }

/-- The substitution that a RETIRE_GO asks for now. -/
def State.retireSub (s : State) : PendSub := Machine.retireSub (s.rn A.CNV_RETIRE) (s.seqEdge s.now) s.now

/-- The command of `CNV_RETIRE` is accepted: it takes the place of one that waits. -/
def State.retireTaken (s : State) : State :=
  { s with cnv := { s.cnv with
      retireResult := 1, subs := s.cnv.subs.filter (fun q => q.req = none) ++ [s.retireSub] } }

section
variable {s : State}

theorem State.retireGo_invalid (h : s.retireInvalid) :
    s.retireGo = { s with cnv := { s.cnv with retireResult := 4 } } := if_pos h

theorem State.retireServed_iff : s.retireServed ↔
    (if s.rf A.CNV_RETIRE 19 2 = 0 then
      decide (s.cnv.freeSpares (322 * s.rf A.CNV_RETIRE 17 1 + s.rf A.CNV_RETIRE 8 9) ≠ [])
    else s.cnv.spareFree (322 * s.rf A.CNV_RETIRE 17 1 + s.rf A.CNV_RETIRE 8 9) (s.rf A.CNV_RETIRE 19 2 - 1)) = true := by
  unfold State.retireServed
  by_cases named : s.rf A.CNV_RETIRE 19 2 = 0 <;> simp [named]

variable (valid : ¬ s.retireInvalid)
include valid

theorem State.retireGo_unserved (unserved : ¬ s.retireServed) (unforced : s.rb A.CNV_RETIRE 18 = false) :
    s.retireGo = { s with cnv := { s.cnv with retireResult := 3 } } :=
  (if_neg valid).trans (if_pos ⟨fun served => unserved (State.retireServed_iff.2 served),
    fun forced => Bool.noConfusion (unforced.symm.trans forced)⟩)

theorem State.retireGo_taken (served : s.retireServed ∨ s.rb A.CNV_RETIRE 18 = true) :
    s.retireGo = s.retireTaken.subsNow :=
  (if_neg valid).trans (if_neg fun unserved =>
    served.elim (fun served => unserved.1 (State.retireServed_iff.1 served)) unserved.2)

/-- While the ticks run the substitution waits for its tick. -/
theorem State.retireGo_ticking (served : s.retireServed ∨ s.rb A.CNV_RETIRE 18 = true) (ticking : s.ticking = true) :
    s.retireGo = s.retireTaken := (State.retireGo_taken valid served).trans (if_pos ticking)

theorem State.retireSub_pos : s.retireSub.pos < 130 := by
  have inside : ¬ 129 < s.rf A.CNV_RETIRE 0 8 := fun beyond => valid (.inl beyond)
  exact Nat.lt_succ_of_le (Nat.le_of_not_lt inside)

/-- While they do not run it happens at once. -/
theorem State.retireGo_stopped (served : s.retireServed ∨ s.rb A.CNV_RETIRE 18 = true) (stopped : s.ticking = false) :
    (s.retireGo.cnv.ent (130 * s.retireSub.key + s.retireSub.pos)).failed = true ∧
      (s.retireGo.cnv.retireResult = 2 ∨ s.retireGo.cnv.retireResult = 5) ∧ s.retireGo.rb A.CNV_INT_STATUS 1 = true := by
  have at_once : s.retireGo = s.retireTaken.applySubs s.retireTaken.cnv.subs :=
    (State.retireGo_taken valid served).trans (if_neg (Bool.eq_false_iff.1 stopped))
  have mem : s.retireSub ∈ s.retireTaken.cnv.subs := List.mem_append_right _ (List.mem_singleton.2 rfl)
  rw [at_once]
  exact State.applySubs_answers _ mem (Option.some_ne_none _) (State.retireSub_pos valid)

end

theorem State.retireFrame_retireGo (s : State) : s.RetireFrame s.retireGo := by
  by_cases valid : s.retireInvalid
  · rw [State.retireGo_invalid valid]
    exact ⟨rfl, fun _ _ => rfl⟩
  · by_cases served : s.retireServed ∨ s.rb A.CNV_RETIRE 18 = true
    · rw [State.retireGo_taken valid served]
      have taken : s.RetireFrame s.retireTaken := ⟨rfl, fun _ _ => rfl⟩
      exact taken.trans s.retireTaken.retires_subsNow.toRetireFrame
    · obtain ⟨unserved, unforced⟩ := not_or.1 served
      rw [State.retireGo_unserved valid unserved (Bool.eq_false_iff.2 unforced)]
      exact ⟨rfl, fun _ _ => rfl⟩

/-! ### TDAC_GO (R103, R105) -/

/-- Some field of the injection that the registers ask for is bad (R105). -/
def State.tdacBad (s : State) : Prop :=
  s.rn A.CNV_TDAC_MASK0 + s.rn A.CNV_TDAC_MASK1 * 2 ^ 32 = 0 ∨ 321 < field (s.rn A.CNV_TDAC_CTRL) 13 9 ∨
    field (s.rn A.CNV_TDAC_CTRL) 26 3 = 7

/-- The injection that the registers ask for. -/
def State.tdacAsked (s : State) : Tdac :=
  { ctrl := s.rn A.CNV_TDAC_CTRL, mask := s.rn A.CNV_TDAC_MASK0 + s.rn A.CNV_TDAC_MASK1 * 2 ^ 32 }

/-- `CNV_TDAC_STATUS` and the results as an injection finds them at its GO. -/
def State.tdacFresh (s : State) : State :=
  { s with cnv := { s.cnv with tdacDone := false, tdacResult := 0, tdacReps := 0, tdacRes := [] } }

section
variable {s : State} (who : Who)

theorem State.tdacGo_busy (busy : s.cnv.tdac.isSome = true) : s.tdacGo who = s.ignored clsCNV who A.CNV_CTRL := if_pos busy

variable (free : s.cnv.tdac = none)
include free

theorem State.tdacGo_free (t : State) : (if s.cnv.tdac.isSome = true then s.ignored clsCNV who A.CNV_CTRL else t) = t :=
  if_neg (by rw [free]; exact Bool.false_ne_true)

theorem State.tdacGo_refused (bad : s.tdacBad) : s.tdacGo who = s.tdacFresh.tdacEnd 4 0 :=
  (State.tdacGo_free who free _).trans (if_pos bad)

variable (good : ¬ s.tdacBad)
include good

theorem State.tdacGo_runs (quiet : s.gridQuiet = true) : s.tdacGo who = s.tdacFresh.tdacRun s.tdacAsked s.now :=
  (State.tdacGo_free who free _).trans ((if_neg good).trans (if_pos quiet))

theorem State.tdacGo_pends (reading : s.gridQuiet = false) :
    (s.tdacGo who).cnv = { s.tdacFresh.cnv with tdac := some s.tdacAsked } :=
  congrArg State.cnv ((State.tdacGo_free who free _).trans ((if_neg good).trans (if_neg (Bool.eq_false_iff.1 reading))))

end

theorem State.tdacEnd_rb (s : State) (result reps : Nat) : (s.tdacEnd result reps).rb A.CNV_INT_STATUS 8 = true :=
  State.setInt_rb_same _ _ (by decide)

/-- The injection starts with the gain codes that the sequencer leaves it. -/
theorem State.tdacRun_cnv (s : State) (x : Tdac) (t : Nat) : (s.tdacRun x t).cnv =
    { s.cnv with tdac := some { x with run := some t }, tdacA := (s.tdacGains x.ctrl).1, tdacB := (s.tdacGains x.ctrl).2 } :=
  rfl

theorem State.tdacGains_quiet {s : State} (quiet : s.gridQuiet = true) (ctrl : Nat) :
    s.tdacGains ctrl = (field ctrl 26 3, field ctrl 26 3) := if_pos quiet

theorem State.tdacGains_reading {s : State} (reading : s.gridQuiet = false) (ctrl : Nat) :
    s.tdacGains ctrl = (s.tmg.dacH, s.tmg.dacL) := if_neg (Bool.eq_false_iff.1 reading)

/-- An injection changes nothing of the slices, of their substitution or of the counters, and clears no bit. -/
theorem State.tdacGo_cnv (s : State) (who : Who) : (s.tdacGo who).cnv = { s.cnv with
    tdac := (s.tdacGo who).cnv.tdac, tdacDone := (s.tdacGo who).cnv.tdacDone
    tdacResult := (s.tdacGo who).cnv.tdacResult, tdacReps := (s.tdacGo who).cnv.tdacReps
    tdacA := (s.tdacGo who).cnv.tdacA, tdacB := (s.tdacGo who).cnv.tdacB, tdacRes := (s.tdacGo who).cnv.tdacRes } := by
  unfold State.tdacGo
  dsimp only
  (repeat' split) <;> rfl

theorem State.tdacGo_rb (s : State) (who : Who) {i : Nat} (h : s.rb A.CNV_INT_STATUS i = true) :
    (s.tdacGo who).rb A.CNV_INT_STATUS i = true := by
  unfold State.tdacGo
  dsimp only
  split
  · exact h
  · split
    · exact State.setInt_rb _ _ (by decide) h
    · split <;> exact h

/-! ### The control write -/

/-- A write of `v` to `CNV_CTRL` before its commands act: ROT_EN is stored, and CNT_CLR clears. -/
def State.cnvCleared (s : State) (v : Word) : State :=
  let s0 := s.setRn A.CNV_CTRL (wfield v 0 1)
  if wbit v 3 then s0.cnvCntClr else s0

/-- The same, once RETIRE_GO has acted. -/
def State.cnvRetired (s : State) (v : Word) : State := if wbit v 2 then (s.cnvCleared v).retireGo else s.cnvCleared v

theorem State.cnvCtrlWrite_eq (s : State) (who : Who) (v : Word) :
    s.cnvCtrlWrite who v = if wbit v 1 then (s.cnvRetired v).tdacGo who else s.cnvRetired v := rfl

theorem State.cnvCleared_frame (s : State) (v : Word) : s.cnvCleared v = { s with
    regs := (s.cnvCleared v).regs
    cnv := { s.cnv with steps := (s.cnvCleared v).cnv.steps, voids := (s.cnvCleared v).cnv.voids
                        rejects := (s.cnvCleared v).cnv.rejects, cycles := (s.cnvCleared v).cnv.cycles } } := by
  unfold State.cnvCleared
  split <;> rfl

theorem State.cnvCleared_reg (s : State) (v : Word) {a : Nat} (other : a ≠ A.CNV_CTRL) :
    (s.cnvCleared v).reg a = s.reg a := by
  unfold State.cnvCleared
  split <;> exact State.setReg_reg_other _ _ other

theorem State.retireFrame_cnvRetired (s : State) (v : Word) : (s.cnvCleared v).RetireFrame (s.cnvRetired v) := by
  unfold State.cnvRetired
  split
  · exact State.retireFrame_retireGo _
  · exact .refl _

/-- What the injection reads is as before the write. -/
theorem State.cnvRetired_reads (s : State) (v : Word) : (s.cnvRetired v).now = s.now ∧ (s.cnvRetired v).tmg = s.tmg ∧
    (s.cnvRetired v).cnv.tdac = s.cnv.tdac ∧
      ∀ a, a ≠ A.CNV_CTRL → a ≠ A.CNV_INT_STATUS → (s.cnvRetired v).reg a = s.reg a := by
  have retired := s.retireFrame_cnvRetired v
  have cleared := s.cnvCleared_frame v
  refine ⟨retired.now.trans ?_, retired.tmg.trans ?_, retired.tdac.trans ?_,
    fun a ctrl status => (retired.reg a status).trans (s.cnvCleared_reg v ctrl)⟩
  all_goals rw [cleared]

/-- What the slices, the counters and the reports of retirement show, RETIRE_GO and CNT_CLR alone decide. -/
theorem State.cnvCtrlWrite_retired (s : State) (who : Who) (v : Word) :
    (s.cnvCtrlWrite who v).cnv.slices = (s.cnvRetired v).cnv.slices ∧
    (s.cnvCtrlWrite who v).cnv.subs = (s.cnvRetired v).cnv.subs ∧
    (s.cnvCtrlWrite who v).cnv.retireResult = (s.cnvRetired v).cnv.retireResult ∧
    ((s.cnvCtrlWrite who v).cnv.steps, (s.cnvCtrlWrite who v).cnv.voids, (s.cnvCtrlWrite who v).cnv.rejects,
        (s.cnvCtrlWrite who v).cnv.cycles) =
      ((s.cnvRetired v).cnv.steps, (s.cnvRetired v).cnv.voids, (s.cnvRetired v).cnv.rejects, (s.cnvRetired v).cnv.cycles) ∧
    ∀ i, (s.cnvRetired v).rb A.CNV_INT_STATUS i = true → (s.cnvCtrlWrite who v).rb A.CNV_INT_STATUS i = true := by
  rw [State.cnvCtrlWrite_eq]
  split
  · have cnv := (s.cnvRetired v).tdacGo_cnv who
    refine ⟨?_, ?_, ?_, ?_, fun i => State.tdacGo_rb _ who⟩
    all_goals rw [cnv]
  · exact ⟨rfl, rfl, rfl, rfl, fun _ h => h⟩

theorem State.cnvRetired_go {s : State} {v : Word} (go : wbit v 2 = true) : s.cnvRetired v = (s.cnvCleared v).retireGo :=
  if_pos go

theorem State.cnvCleared_rn (s : State) (v : Word) {a : Nat} (other : a ≠ A.CNV_CTRL) :
    (s.cnvCleared v).rn a = s.rn a := congrArg BitVec.toNat (s.cnvCleared_reg v other)

theorem State.cnvCleared_slices (s : State) (v : Word) : (s.cnvCleared v).cnv.slices = s.cnv.slices := by
  rw [State.cnvCleared_frame]
theorem State.cnvCleared_subs (s : State) (v : Word) : (s.cnvCleared v).cnv.subs = s.cnv.subs := by
  rw [State.cnvCleared_frame]

theorem State.cnvCleared_retireInvalid (s : State) (v : Word) : (s.cnvCleared v).retireInvalid ↔ s.retireInvalid := by
  have rn := s.cnvCleared_rn v (show A.CNV_RETIRE ≠ A.CNV_CTRL by decide)
  simp only [State.retireInvalid, State.rf, rn, Cnv.ent_of_slices (s.cnvCleared_slices v)]

theorem State.cnvCleared_retireServed (s : State) (v : Word) : (s.cnvCleared v).retireServed ↔ s.retireServed := by
  have rn := s.cnvCleared_rn v (show A.CNV_RETIRE ≠ A.CNV_CTRL by decide)
  have free : (s.cnvCleared v).cnv.spareFree = s.cnv.spareFree := by
    funext key i
    simp only [Cnv.spareFree, Cnv.ent_of_slices (s.cnvCleared_slices v), s.cnvCleared_subs v]
  simp only [State.retireServed, State.rf, rn, Cnv.freeSpares, free]

theorem State.cnvCleared_retireSub (s : State) (v : Word) : (s.cnvCleared v).retireSub = s.retireSub := by
  have rn := s.cnvCleared_rn v (show A.CNV_RETIRE ≠ A.CNV_CTRL by decide)
  have edge (t : Nat) : (s.cnvCleared v).seqEdge t = s.seqEdge t := by
    rw [State.cnvCleared_frame]
    rfl
  have now : (s.cnvCleared v).now = s.now := by rw [State.cnvCleared_frame]
  rw [State.retireSub, State.retireSub, rn, edge, now]

/-! ### The commands -/

theorem State.wroteBy_cnv (t s : State) (who : Who) (a : Nat) : (t.wroteBy s who a).cnv = t.cnv := by
  rw [State.wroteBy_frame]
theorem State.wroteBy_rb (t s : State) (who : Who) (a b i : Nat) : (t.wroteBy s who a).rb b i = t.rb b i := by
  rw [State.rb_eq, State.wroteBy_reg, ← State.rb_eq]

/-- The one RW bit of `CNV_CTRL`: ROT_EN (R107). -/
theorem homeMask_CNV_CTRL : homeMask A.CNV_CTRL = (1 : Word).toNat := by decide

/-- A command of `CNV_CTRL`, whose bit `k` is written as 1, acts on the word that stands. -/
theorem State.poke_CNV_CTRL_force (s : State) (who : Who) (w : Word) {k : Nat} (hk : mkWord (2 ^ k) &&& ~~~1 = mkWord (2 ^ k)) :
    s.poke who A.CNV_CTRL (force w k) =
      (s.cnvCtrlWrite who (force (s.standing who A.CNV_CTRL w) k)).wroteBy s who A.CNV_CTRL := by
  rw [← State.standing_force homeMask_CNV_CTRL hk, State.poke_CNV_CTRL]

theorem exec_retireGo {s : State} (run : s.released = true) (who : Who) (w : Word) : exec (.retireGo who w) s =
    .next ((s.cnvCtrlWrite who (force (s.standing who A.CNV_CTRL w) 2)).wroteBy s who A.CNV_CTRL).fin := by
  rw [← State.poke_CNV_CTRL_force s who w (by decide)]
  exact act_run _ run

theorem exec_cnvCntClr {s : State} (run : s.released = true) (who : Who) (w : Word) : exec (.cnvCntClr who w) s =
    .next ((s.cnvCtrlWrite who (force (s.standing who A.CNV_CTRL w) 3)).wroteBy s who A.CNV_CTRL).fin := by
  rw [← State.poke_CNV_CTRL_force s who w (by decide)]
  exact act_run _ run

/-- TDAC_GO acts on what RETIRE_GO and CNT_CLR of the same write leave. -/
theorem exec_tdacGo {s : State} (run : s.released = true) (who : Who) (w : Word) : exec (.tdacGo who w) s =
    .next (((s.cnvRetired (force (s.standing who A.CNV_CTRL w) 1)).tdacGo who).wroteBy s who A.CNV_CTRL).fin := by
  have go : s.cnvCtrlWrite who (force (s.standing who A.CNV_CTRL w) 1) =
      (s.cnvRetired (force (s.standing who A.CNV_CTRL w) 1)).tdacGo who := if_pos (wbit_force_same _ (by decide))
  rw [← go, ← State.poke_CNV_CTRL_force s who w (by decide)]
  exact act_run _ run

theorem State.cnvCleared_ticking (s : State) (v : Word) : (s.cnvCleared v).ticking = s.ticking := by
  rw [State.cnvCleared_frame]
  rfl

theorem slicesAreRetired : Claims.SlicesAreRetired := by
  intro s who w run key pos sp force_
  have retire := exec_retireGo run who w
  have clear := exec_cnvCntClr run who w
  generalize s.standing who A.CNV_CTRL w = v at retire clear
  obtain ⟨slices, subs, result, -, bits⟩ := s.cnvCtrlWrite_retired who (force v 2)
  rw [State.cnvRetired_go (wbit_force_same v (by decide))] at slices subs result bits
  have forces : (s.cnvCleared (force v 2)).rb A.CNV_RETIRE 18 = force_ :=
    congrArg (fun n : Nat => n.testBit 18) (s.cnvCleared_rn (force v 2) (by decide))
  have keptSlices := s.cnvCleared_slices (force v 2)
  have keptSubs := s.cnvCleared_subs (force v 2)
  have invalid := s.cnvCleared_retireInvalid (force v 2)
  have servedIff := s.cnvCleared_retireServed (force v 2)
  have sub := s.cnvCleared_retireSub (force v 2)
  have ticks := s.cnvCleared_ticking (force v 2)
  refine ⟨fun bad => ⟨_, retire, ?_⟩, fun valid unserved no => ⟨_, retire, ?_⟩, fun valid served =>
    ⟨fun ticking => ⟨_, retire, ?_⟩, fun stopped => ⟨_, retire, ?_⟩⟩, ⟨_, clear, ?_⟩⟩
  · rw [State.retireGo_invalid (invalid.2 bad)] at slices subs result
    simp only [State.fin_cnv, State.wroteBy_cnv]
    exact ⟨result, slices.trans keptSlices, subs.trans keptSubs⟩
  · rw [State.retireGo_unserved (invalid.not.2 valid) (servedIff.not.2 unserved) (forces.trans no)] at slices subs result
    simp only [State.fin_cnv, State.wroteBy_cnv]
    exact ⟨result, slices.trans keptSlices, subs.trans keptSubs⟩
  · rw [State.retireGo_ticking (invalid.not.2 valid) (served.imp servedIff.2 forces.trans) (ticks.trans ticking)]
      at slices subs result
    simp only [State.fin_cnv, State.wroteBy_cnv]
    refine ⟨result, slices.trans keptSlices, subs.trans ?_⟩
    simp only [State.retireTaken, keptSubs, sub]
    rfl
  · obtain ⟨failed, answered, reported⟩ := State.retireGo_stopped (invalid.not.2 valid)
      (served.imp servedIff.2 forces.trans) (ticks.trans stopped)
    rw [sub] at failed
    simp only [State.fin_cnv, State.fin_rb, State.wroteBy_cnv, State.wroteBy_rb, result, Cnv.ent_of_slices slices]
    exact ⟨failed, answered, bits 1 reported⟩
  · obtain ⟨-, -, -, counts, -⟩ := s.cnvCtrlWrite_retired who (force v 3)
    have zero := counts.trans (s.retireFrame_cnvRetired (force v 3)).counts
    rw [State.cnvCleared, if_pos (wbit_force_same v (by decide))] at zero
    simp only [Prod.mk.injEq] at zero
    simp only [State.fin_cnv, State.wroteBy_cnv]
    exact zero

/-! ### Results of an injection (R104) -/

theorem State.meanCode_single (s : State) (n : Nat) : s.meanCode [n] = (n, s) := by
  simp [State.meanCode, Nat.mod_one]
  omega

/-- A mean may take a free value, and changes nothing else. -/
theorem State.meanCode_spec (s : State) (l : List Nat) : ∃ m n, s.meanCode l = (m, { s with draws := n }) := by
  unfold State.meanCode
  dsimp only
  split
  · exact ⟨_, _, rfl⟩
  · split <;> exact ⟨_, _, rfl⟩

/-- The result of a column that is converted once. -/
def onceResult (y : TdacConv) : Nat :=
  (decisionCode y.a).1 + flag (decisionCode y.a).2 14 + at_ (decisionCode y.b).1 16 + flag (decisionCode y.b).2 30 + 2 ^ 31

/-- `t` is `s` with other results and after further free values. -/
def State.withResults (s : State) (draws : Nat) (results : List (Nat × Nat)) : State :=
  { s with draws := draws, cnv := { s.cnv with tdacRes := results } }

theorem State.tdacColumn_spec (s : State) (x : Tdac) (convs : List TdacConv) (c : Nat) : ∃ n l,
    s.tdacColumn x convs c = s.withResults n l ∧
      ∀ q, q ≠ c → sget (fun _ => 0) l q = sget (fun _ => 0) s.cnv.tdacRes q := by
  unfold State.tdacColumn
  extract_lets reps get a b
  obtain ⟨ma, n, first⟩ := s.meanCode_spec (a.map (·.1))
  obtain ⟨mb, n', second⟩ := State.meanCode_spec { s with draws := n } (b.map (·.1))
  rw [first]
  dsimp only
  rw [second]
  exact ⟨_, _, rfl, fun q other => sget_sput_other _ _ _ other⟩

theorem State.tdacColumn_once (s : State) {x : Tdac} {convs : List TdacConv} {c : Nat} {y : TdacConv}
    (once : field x.ctrl 22 4 = 0) (converted : convs.find? (fun y => y.col = c ∧ y.rep = 0) = some y) :
    sget (fun _ => 0) (s.tdacColumn x convs c).cnv.tdacRes c = onceResult y := by
  simp only [State.tdacColumn, once, Nat.zero_add, List.range_one, List.map_cons, List.map_nil, List.any_cons, List.any_nil,
    Bool.or_false, converted, State.meanCode_single, sget_sput_same]
  rfl

/-- The columns of `l`, one after the other. -/
def State.tdacColumns (s : State) (x : Tdac) (convs : List TdacConv) (l : List Nat) : State :=
  l.foldl (fun (a : State) c => a.tdacColumn x convs c) s

theorem State.tdacColumns_spec (s : State) (x : Tdac) (convs : List TdacConv) (l : List Nat) : ∃ n r,
    s.tdacColumns x convs l = s.withResults n r ∧
      ∀ q, q ∉ l → sget (fun _ => 0) r q = sget (fun _ => 0) s.cnv.tdacRes q := by
  induction l generalizing s with
  | nil => exact ⟨s.draws, s.cnv.tdacRes, rfl, fun _ _ => rfl⟩
  | cons c l ih =>
    obtain ⟨n, r, column, others⟩ := s.tdacColumn_spec x convs c
    obtain ⟨n', r', columns, others'⟩ := ih (s.tdacColumn x convs c)
    refine ⟨n', r', ?_, fun q outside => ?_⟩
    · rw [State.tdacColumns, List.foldl_cons, ← State.tdacColumns, columns, column]
      rfl
    · rw [List.mem_cons, not_or] at outside
      rw [others' q outside.2, column]
      exact others q outside.1

/-- A column that has been converted once has its result, whatever columns come after it. -/
theorem State.tdacColumns_once (s : State) {x : Tdac} {convs : List TdacConv} {l : List Nat} {c : Nat} {y : TdacConv}
    (once : field x.ctrl 22 4 = 0) (mem : c ∈ l)
    (converted : convs.find? (fun y => y.col = c ∧ y.rep = 0) = some y) :
    sget (fun _ => 0) (s.tdacColumns x convs l).cnv.tdacRes c = onceResult y := by
  induction l generalizing s with
  | nil => exact absurd mem List.not_mem_nil
  | cons d l ih =>
    rw [State.tdacColumns, List.foldl_cons, ← State.tdacColumns]
    by_cases later : c ∈ l
    · exact ih _ later
    · have same : c = d := (List.mem_cons.1 mem).resolve_right later
      obtain ⟨n, r, columns, others⟩ := State.tdacColumns_spec (s.tdacColumn x convs d) x convs l
      rw [columns]
      subst same
      exact (others c later).trans (State.tdacColumn_once s once converted)

/-! ### The injection starts and ends (R103, R104) -/

section
variable {s : State} {x : Tdac} (asked : s.cnv.tdac = some x)
include asked

theorem State.tdacStart_quiet (waits : x.run = none) (quiet : s.gridQuiet = true) : s.tdacStart = s.tdacRun x s.now := by
  simp only [State.tdacStart, asked, waits, quiet, Option.isSome_none, Bool.false_eq_true, if_false, if_true]

theorem State.tdacStart_fits (waits : x.run = none) (reading : s.gridQuiet = false) {t : Nat}
    (fits : s.tdacSlotAt x = some t) : s.tdacStart = (s.goTo t).tdacRun x t := by
  simp only [State.tdacStart, asked, waits, reading, fits, Option.isSome_none, Bool.false_eq_true, if_false]

theorem State.tdacDone_ends {begun : Nat} (running : x.run = some begun) (convs : List TdacConv) : s.tdacDone convs =
    ((s.goTo (begun + s.tdacSpan x + Config.deliverTU)).tdacColumns x convs (bitsOf x.mask 64)).tdacEnd 1
      (field x.ctrl 22 4 + 1) := by
  simp only [State.tdacDone, asked, running]
  rfl

end

theorem State.tdacEnd_now (s : State) (result reps : Nat) : (s.tdacEnd result reps).now = s.now := rfl
theorem State.tdacEnd_cnv (s : State) (result reps : Nat) : (s.tdacEnd result reps).cnv =
    { s.cnv with tdac := none, tdacDone := true, tdacResult := result, tdacReps := reps } := rfl

theorem injectionsRun : Claims.InjectionsRun := by
  intro s who w run ctrl mask bad
  have inject := exec_tdacGo run who w
  generalize s.standing who A.CNV_CTRL w = v at inject
  obtain ⟨now, tmg, tdac, reg⟩ := s.cnvRetired_reads (force v 1)
  have rn {a : Nat} (ctrl : a ≠ A.CNV_CTRL) (status : a ≠ A.CNV_INT_STATUS) : (s.cnvRetired (force v 1)).rn a = s.rn a :=
    congrArg BitVec.toNat (reg a ctrl status)
  have asked : (s.cnvRetired (force v 1)).tdacAsked = { ctrl := ctrl, mask := mask } := by
    simp only [State.tdacAsked, rn (show A.CNV_TDAC_CTRL ≠ A.CNV_CTRL by decide) (by decide),
      rn (show A.CNV_TDAC_MASK0 ≠ A.CNV_CTRL by decide) (by decide),
      rn (show A.CNV_TDAC_MASK1 ≠ A.CNV_CTRL by decide) (by decide)]
    rfl
  have badIff : (s.cnvRetired (force v 1)).tdacBad ↔ bad := by
    simp only [State.tdacBad, rn (show A.CNV_TDAC_CTRL ≠ A.CNV_CTRL by decide) (by decide),
      rn (show A.CNV_TDAC_MASK0 ≠ A.CNV_CTRL by decide) (by decide),
      rn (show A.CNV_TDAC_MASK1 ≠ A.CNV_CTRL by decide) (by decide)]
    rfl
  have grid : (s.cnvRetired (force v 1)).gridQuiet = s.gridQuiet := by simp only [State.gridQuiet, tmg]
  refine ⟨fun busy => ⟨_, inject, ?_⟩, fun free wrong => ⟨_, inject, ?_⟩, fun free good quiet => ⟨_, inject, ?_⟩,
    fun free good reading => ⟨_, inject, ?_⟩, fun x waiting waits => ⟨fun quiet => ⟨_, act_run _ run, ?_⟩,
      fun reading t fits => ⟨_, act_run _ run, ?_⟩⟩, fun x begun convs running runs => ⟨_, act_run _ run, ?_⟩⟩
  · simp only [State.fin_cnv, State.wroteBy_cnv, State.tdacGo_busy who (tdac ▸ busy)]
    exact tdac
  · simp only [State.fin_cnv, State.wroteBy_cnv, State.fin_rb, State.wroteBy_rb,
      State.tdacGo_refused who (tdac.trans free) (badIff.2 wrong)]
    exact ⟨rfl, rfl, rfl, State.tdacEnd_rb _ _ _⟩
  · simp only [State.fin_cnv, State.wroteBy_cnv,
      State.tdacGo_runs who (tdac.trans free) (badIff.not.2 good) (grid.trans quiet), State.tdacRun_cnv, asked, now,
      State.tdacGains_quiet (s := (s.cnvRetired (force v 1)).tdacFresh) (grid.trans quiet), true_and, and_true]
    rfl
  · simp only [State.fin_cnv, State.wroteBy_cnv,
      State.tdacGo_pends who (tdac.trans free) (badIff.not.2 good) (grid.trans reading), asked, true_and]
    rfl
  · simp only [State.fin_cnv, State.fin_now, State.tdacStart_quiet waiting waits quiet, State.tdacRun_cnv,
      State.tdacGains_quiet quiet, true_and]
    rfl
  · simp only [State.fin_cnv, State.fin_now, State.tdacStart_fits waiting waits reading fits, State.tdacRun_cnv,
      State.tdacGains_reading (s := s.goTo t) reading]
    exact ⟨trivial, rfl, rfl, rfl⟩
  · obtain ⟨n, r, columns, -⟩ := State.tdacColumns_spec (s.goTo (begun + s.tdacSpan x + Config.deliverTU)) x convs
      (bitsOf x.mask 64)
    simp only [State.fin_cnv, State.fin_now, State.fin_rb, State.tdacDone_ends running runs, State.tdacEnd_rb]
    refine ⟨rfl, rfl, rfl, rfl, trivial, ?_, fun c y once inside masked converted => ?_⟩
    · rw [State.tdacEnd_now, columns]
      rfl
    · refine State.tdacColumns_once _ once ?_ converted
      exact List.mem_filter.2 ⟨List.mem_range.2 inside, masked⟩

/-- Settles O42: the write of `CNV_CTRL` retires (`State.retireGo_invalid` to `State.retireGo_stopped`; a substitution is
`State.applySub_spec`), and then injects, from registers that retirement leaves (`State.cnvRetired_reads`). -/
theorem slicesAndInjections : Obligations.SlicesAndInjections := by
  unfold Obligations.SlicesAndInjections
  exact ⟨slicesAreRetired, injectionsRun⟩

end Sys2Proof.Machine
end

section
/-!
PROOFS. How far readout, rotation and frames are (R24, R75, R91), taken together: what a record update, a condition and
a fold make of it.
-/

namespace Sys2Proof.Machine

/-- Which frame it is, and whether it is complete (R24). -/
def Frame.mark (f : Frame) : Nat × Bool := (f.num, f.complete)

/-- Proved by a rewrite, so that `simp` can use it in the condition of a rule. -/
@[simp] theorem Frame.mark_eq (f : Frame) : f.mark = (f.num, f.complete) := by rw [Frame.mark]

/-- The instant, the row slot of the readout, whether a rotation step is due, and the frames in flight, each complete or
not. -/
def State.progress (s : State) : Nat × Nat × Bool × List (Nat × Bool) :=
  (s.now, s.tmg.slot, s.cnv.evalDue, s.frames.map Frame.mark)

/-- The rule that a record update leaves the progress. As `State.waits_mk`, it is proved by a rewrite. -/
@[simp ↓] theorem State.progress_mk (pending : List Instr) (now draws : Nat) (regs : List (Nat × Word)) (rwc : Rwc)
    (dram ret sram0 sram1 flash : Memory) (part : Part) (sys : Sys) (clk : Clk) (tmg : Tmg) (plan : PlanBlk)
    (cnv : Cnv) (str : Str) (time : TimeBlk) (frames : List Frame) (lnk : Lnk) (seals : Seal) (vlt : Vlt) (fab : Fab)
    (mon : Mon) (thm : Thm) (cal : Cal) (wdt : Wdt) (evl : Evl) :
    (State.mk pending now draws regs rwc dram ret sram0 sram1 flash part sys clk tmg plan cnv str time frames lnk seals
      vlt fab mon thm cal wdt evl).progress = (now, tmg.slot, cnv.evalDue, frames.map Frame.mark) := by
  rw [State.progress]

@[simp ↓] theorem State.progress_fold (s : State) :
    (s.now, s.tmg.slot, s.cnv.evalDue, s.frames.map Frame.mark) = s.progress := by rw [State.progress]

@[simp ↓] theorem State.progress_ite (c : Prop) [Decidable c] (s t : State) :
    (if c then s else t).progress = branch c s.progress t.progress := apply_ite _ _ _ _

@[simp ↓] theorem State.progress_foldl {β : Type} (f : State → β → State) (l : List β) (s : State)
    (h : ∀ a x, (f a x).progress = a.progress) : (l.foldl f s).progress = s.progress := foldl_keeps State.progress f l s h

/-- Whatever else is done to frames, they keep their numbers and stay complete or not. -/
theorem map_mark {g : Frame → Frame} (h : ∀ f, (g f).mark = f.mark) (l : List Frame) :
    (l.map g).map Frame.mark = l.map Frame.mark :=
  List.map_map.trans (List.map_congr_left fun f _ => h f)

end Sys2Proof.Machine
end

section
/-!
PROOFS. What leaves the progress as it is, function by function: each lemma unfolds its function once and is a rewrite
rule for the functions that call it.
-/

namespace Sys2Proof.Machine

variable (s : State)

/-! ### Ops -/

@[simp ↓] theorem State.setReg_progress (a : Nat) (v : Word) : (s.setReg a v).progress = s.progress := by
  unfold State.setReg; simp
@[simp ↓] theorem State.setRn_progress (a n : Nat) : (s.setRn a n).progress = s.progress := by unfold State.setRn; simp
@[simp ↓] theorem State.orReg_progress (a mask : Nat) : (s.orReg a mask).progress = s.progress := by
  unfold State.orReg; simp
@[simp ↓] theorem State.note_progress (a mask : Nat) : (s.note a mask).progress = s.progress := by
  unfold State.note; simp
@[simp ↓] theorem State.setInt_progress (a i : Nat) : (s.setInt a i).progress = s.progress := by
  unfold State.setInt; simp
@[simp ↓] theorem State.raise_progress (e : Event) : (s.raise e).progress = s.progress := by unfold State.raise; simp
@[simp ↓] theorem State.warn_progress (cls code unit detail : Nat) :
    (s.warn cls code unit detail).progress = s.progress := by unfold State.warn; simp
@[simp ↓] theorem State.faultEv_progress (cls code unit detail : Nat) :
    (s.faultEv cls code unit detail).progress = s.progress := by unfold State.faultEv; simp
@[simp ↓] theorem State.info_progress (cls code unit detail : Nat) :
    (s.info cls code unit detail).progress = s.progress := by unfold State.info; simp
@[simp ↓] theorem State.draw_progress : s.draw.2.progress = s.progress := by unfold State.draw; simp
@[simp ↓] theorem State.alarm_progress (src kind unit : Nat) : (s.alarm src kind unit).progress = s.progress := by
  unfold State.alarm; simp
/-- A command moves the instant on, and nothing else of the progress. -/
theorem State.goTo_progress (t : Nat) : (s.goTo t).progress = (max s.now t, s.progress.2) := by
  rw [State.goTo, State.progress_mk, State.progress]

/-! ### Converter -/

@[simp ↓] theorem State.setEnt_progress (k : Nat) (e : SliceEnt) : (s.setEnt k e).progress = s.progress := by
  unfold State.setEnt; simp
@[simp ↓] theorem State.setGrp_progress (key : Nat) (g : Grp) : (s.setGrp key g).progress = s.progress := by
  unfold State.setGrp; simp
@[simp ↓] theorem State.checkSpares_progress (key before : Nat) : (s.checkSpares key before).progress = s.progress := by
  unfold State.checkSpares; simp
@[simp ↓] theorem State.declareFail_progress (key pos : Nat) (spare : Option Nat) (cause : Nat) :
    (s.declareFail key pos spare cause).progress = s.progress := by unfold State.declareFail; simp
@[simp ↓] theorem State.stepOver_progress (key : Nat) : (s.stepOver key).progress = s.progress := by
  unfold State.stepOver; simp
@[simp ↓] theorem State.countCycles_progress : s.countCycles.progress = s.progress := by
  -- `c` keeps Lean's kernel from running the fold.
  obtain ⟨c, hc⟩ : ∃ c, groupKeys.foldl (fun (a : State) k =>
      a.setGrp k { a.cnv.grp k with cycled := false }) s = c := ⟨_, rfl⟩
  have reset : c.progress = s.progress := hc ▸ foldl_keeps State.progress _ _ _ fun a k => a.setGrp_progress k _
  unfold State.countCycles
  rw [hc]
  simp [reset]
@[simp ↓] theorem State.subsNow_progress : s.subsNow.progress = s.progress := by
  rw [s.retires_subsNow.frame, State.progress_mk, State.progress]
@[simp ↓] theorem State.voidStep_progress (key : Nat) : (s.voidStep key).progress = s.progress := by
  unfold State.voidStep; simp
@[simp ↓] theorem State.mean2_progress (a b : Int) : (s.mean2 a b).2.progress = s.progress := by
  unfold State.mean2; split <;> simp
@[simp ↓] theorem State.takeMeas_progress (k key cnt : Nat) (m : Meas) :
    (s.takeMeas k key cnt m).progress = s.progress := by unfold State.takeMeas; simp
@[simp ↓] theorem State.measured_progress (key pos cnt : Nat) (spare : Option Nat) (m : Meas) :
    (s.measured key pos cnt spare m).progress = s.progress := by unfold State.measured; simp
@[simp ↓] theorem State.evalGroup_progress (cyc n key : Nat) (gm : Option GroupMeas) :
    (s.evalGroup cyc n key gm).progress = s.progress := by
  unfold State.evalGroup; dsimp only; (repeat' split) <;> simp
@[simp ↓] theorem State.cnvReadoutDone_progress : s.cnvReadoutDone.progress = s.progress := by
  unfold State.cnvReadoutDone; simp
@[simp ↓] theorem State.cnvSlot_progress (w : Win) (slot : Nat) (convs : List Conv) :
    (s.cnvSlot w slot convs).progress = s.progress := by unfold State.cnvSlot; simp
@[simp ↓] theorem State.tdacEnd_progress (result reps : Nat) : (s.tdacEnd result reps).progress = s.progress := by
  unfold State.tdacEnd; simp
@[simp ↓] theorem State.tdacTry_progress : s.tdacTry.progress = s.progress := by unfold State.tdacTry; split <;> simp

/-! ### Stripe -/

@[simp ↓] theorem State.setDp_progress (d : Nat) (x : Datapath) : (s.setDp d x).progress = s.progress := by
  unfold State.setDp; simp
@[simp ↓] theorem State.strWarn_progress (d mask : Nat) : (s.strWarn d mask).progress = s.progress := by
  unfold State.strWarn; simp
@[simp ↓] theorem State.damageFrame_progress (n : Nat) : (s.damageFrame n).progress = s.progress := by
  unfold State.damageFrame
  rw [State.progress_mk, map_mark (fun f => by split <;> rfl), State.progress]
@[simp ↓] theorem State.flagLine_progress (n key j b0 : Nat) : (s.flagLine n key j b0).progress = s.progress := by
  unfold State.flagLine
  rw [State.progress_mk, map_mark (fun f => by split <;> rfl), State.progress]
@[simp ↓] theorem State.clampPath_progress (r : Rd) (settling : Bool) (stripe bank path : Nat) :
    (s.clampPath r settling stripe bank path).progress = s.progress := by unfold State.clampPath; simp
@[simp ↓] theorem State.defOrder_progress (r : Rd) (stripe : Nat) : (s.defOrder r stripe).progress = s.progress := by
  unfold State.defOrder; simp
@[simp ↓] theorem State.clampAll_progress (f : Frame) (j : Nat) (settling : Bool) :
    (s.clampAll f j settling).progress = s.progress := by unfold State.clampAll; simp

/-! ### Shape -/

@[simp ↓] theorem State.modFrame_progress (n : Nat) (g : Frame → Frame) (h : ∀ f, (g f).mark = f.mark) :
    (s.modFrame n g).progress = s.progress := by
  unfold State.modFrame
  rw [State.progress_mk, map_mark (fun f => by split <;> [exact h f; rfl]), State.progress]
@[simp ↓] theorem State.overrun_progress (kind : Nat) (units : List Nat) (f : Frame) (sub : Nat) :
    (s.overrun kind units f sub).progress = s.progress := by unfold State.overrun; simp
@[simp ↓] theorem State.cutEmission_progress (n : Nat) (twin : Bool) : (s.cutEmission n twin).progress = s.progress := by
  unfold State.cutEmission
  split
  · rfl
  · dsimp only
    split
    · rfl
    · rw [State.overrun_progress, State.modFrame_progress _ _ _ fun f => by split <;> rfl]
@[simp ↓] theorem State.writerReaches_progress (n buf outRow stripe : Nat) :
    (s.writerReaches n buf outRow stripe).progress = s.progress := by unfold State.writerReaches; simp
@[simp ↓] theorem State.countLine_progress (d : Nat) (x : LinePx) : (s.countLine d x).progress = s.progress := by
  unfold State.countLine; simp
@[simp ↓] theorem State.abandonLine_progress (n key j stripe : Nat) :
    (s.abandonLine n key j stripe).progress = s.progress := by unfold State.abandonLine; simp
@[simp ↓] theorem State.countHeld_progress (d held brk : Nat) : (s.countHeld d held brk).progress = s.progress := by
  unfold State.countHeld; simp
@[simp ↓] theorem State.finishAbandoned_progress (f : Frame) (key j stripe : Nat) :
    (s.finishAbandoned f key j stripe).progress = s.progress := by
  unfold State.finishAbandoned; simp
@[simp ↓] theorem State.procOb_progress (r : Rd) (bank j : Nat) : (s.procOb r bank j).progress = s.progress := by
  unfold State.procOb; simp
@[simp ↓] theorem State.writeOut_progress (n : Nat) (twin : Bool) (bank j : Nat) :
    (s.writeOut n twin bank j).progress = s.progress := by unfold State.writeOut; split <;> simp
@[simp ↓] theorem State.procLine_progress (r : Rd) (sub : SubRef) (bank j stripe : Nat) :
    (s.procLine r sub bank j stripe).progress = s.progress := by
  unfold State.procLine
  split
  · rfl
  · extract_lets _ _ _ _ _ _ _ zero _ s1 px _ _ _ _ s0
    have dark : s1.progress = s.progress := State.modFrame_progress _ _ _ fun g => by rfl
    have reached : s0.progress = s.progress := by unfold s0; simp
    clear_value zero s1 px s0
    split
    · simp [dark]
    · split
      · simp
      · simp [reached]
@[simp ↓] theorem State.procSlot_progress (sub : SubRef) (j : Nat) : (s.procSlot sub j).progress = s.progress := by
  unfold State.procSlot
  split <;> simp
@[simp ↓] theorem State.procUpTo_progress (sub : SubRef) (n : Nat) : (s.procUpTo sub n).progress = s.progress :=
  foldl_keeps State.progress _ _ _ fun a j => State.procSlot_progress a sub j
@[simp ↓] theorem State.proxyBegin_progress (n : Nat) : (s.proxyBegin n).progress = s.progress := by
  unfold State.proxyBegin
  split <;> simp
@[simp ↓] theorem State.proxyEnd_progress (n : Nat) (valid : Bool) : (s.proxyEnd n valid).progress = s.progress := by
  unfold State.proxyEnd
  split <;> simp
@[simp ↓] theorem State.reconWrite_progress (f : Frame) : (s.reconWrite f).progress = s.progress := by
  unfold State.reconWrite
  simp
@[simp ↓] theorem State.latchCentroid_progress (f : Frame) : (s.latchCentroid f).progress = s.progress := by
  unfold State.latchCentroid; simp

/-! ### Fabric -/

@[simp ↓] theorem State.setFport_progress (p : Nat) (x : FabPort) : (s.setFport p x).progress = s.progress := by
  unfold State.setFport; simp
@[simp ↓] theorem State.proxyDrop_progress (a : Nat) : (s.proxyDrop a).progress = s.progress := by
  unfold State.proxyDrop; simp
@[simp ↓] theorem State.offerProxy_progress (f : Frame) : (s.offerProxy f).progress = s.progress := by
  unfold State.offerProxy; split <;> simp

/-! ### Readout -/

@[simp ↓] theorem State.process_progress (f : Frame) (sub : SubRef) (n : Nat) :
    (s.process f sub n).progress = s.progress := by unfold State.process; simp

end Sys2Proof.Machine
end

section
/-!
PROOFS. Row slots and the end of the readout (R75, R79), the end of a rotation step (R88, R91, R94, R95), complete frames
(R24) and the hand-off of statistics (R195, R196): O16.
-/

namespace Sys2Proof.Machine

/-! ### The readout (R75, R79) -/

/-- Row slot `n` comes next. -/
def State.atSlot (s : State) (n : Nat) : State := { s with tmg := { s.tmg with slot := n } }

theorem State.atSlot_progress (s : State) (n : Nat) : (s.atSlot n).progress = (s.progress.1, n, s.progress.2.2) := by
  rw [State.atSlot, State.progress_mk, State.progress]

theorem State.slot_of_progress {s : State} {now slot : Nat} {rest : Bool × List (Nat × Bool)}
    (h : s.progress = (now, slot, rest)) : s.now = now ∧ s.tmg.slot = slot := by
  simp only [State.progress, Prod.mk.injEq] at h
  exact ⟨h.1, h.2.1⟩

section
variable {s : State} {sub : SubRef} {f : Frame} (reading : s.tmg.reading = some sub) (frame : s.frame? sub.frame = some f)
include reading frame

/-- A row slot whose data come before the next tick is converted and processed, and the next one is due. -/
theorem State.rowSlot_progress (convs : List Conv) (more : s.tmg.slot < f.cfg.plan.win.nSlot)
    (inTime : s.slotDelivered f s.tmg.slot ≤ s.seqEdge s.tmg.nextSft) :
    (s.rowSlot convs).progress = (max s.now (s.slotDelivered f s.tmg.slot), s.tmg.slot + 1, s.progress.2.2) := by
  unfold State.rowSlot
  rw [reading]
  dsimp -zeta only
  rw [frame]
  dsimp -zeta only
  extract_lets n k i t s1 s2 tmg s3 s4 s5
  have instant : t = s.slotDelivered f s.tmg.slot := congrArg (s.slotDelivered f) (if_pos more : i = s.tmg.slot)
  have goes : ¬ (k = n ∨ n + 5 < k ∨ s.seqEdge s.tmg.nextSft < t) := by rw [instant]; omega
  have converted : s2.progress = s1.progress := by unfold s2; split <;> simp
  have counted : s3.progress = (s2.progress.1, s.tmg.slot + 1, s2.progress.2.2) := s2.atSlot_progress _
  have clamped : s4.progress = s3.progress := by unfold s4; split <;> simp
  have processed : s5.progress = s4.progress := s4.process_progress f sub _
  rw [if_neg goes, if_neg (by omega), processed, clamped, counted, converted, State.goTo_progress, instant]

theorem State.readoutComplete_progress (last : s.tmg.slot = f.cfg.plan.win.nSlot) : s.readoutComplete.progress =
    (max s.now (s.tmg.rdEnd + Config.deliverTU), s.tmg.slot + 1, s.progress.2.2) := by
  unfold State.readoutComplete
  rw [reading]
  dsimp -zeta only
  rw [frame]
  dsimp -zeta only
  rw [if_neg (not_not_intro last), ← last]
  extract_lets s1 tmg s3
  have counted : s3.progress = (s1.progress.1, s.tmg.slot + 1, s1.progress.2.2) := s1.atSlot_progress _
  rw [State.tdacTry_progress, State.progress_ite, State.cnvReadoutDone_progress, branch_self, counted,
    State.goTo_progress]

end

theorem readoutAdvances : Claims.ReadoutAdvances := by
  intro s sub f run reading frame
  refine ⟨fun convs more inTime => ⟨_, act_run _ run, ?_⟩, fun last => ⟨_, act_run _ run, ?_⟩⟩
  · obtain ⟨now, slot⟩ := State.slot_of_progress (State.rowSlot_progress reading frame convs more inTime)
    simp only [State.fin_tmg, State.fin_now, now, slot]
    exact ⟨trivial, le_max_right _ _⟩
  · obtain ⟨now, slot⟩ := State.slot_of_progress (State.readoutComplete_progress reading frame last)
    simp only [State.fin_tmg, State.fin_now, now, slot]
    exact ⟨trivial, le_max_right _ _⟩

/-! ### The rotation step (R91, R95) -/

/-- The converter block when the evaluation of a step begins: none is due any more. -/
def State.stepTaken (s : State) : State := { s with cnv := { s.cnv with evalDue := false } }

theorem State.stepTaken_progress (s : State) :
    s.stepTaken.progress = (s.now, s.tmg.slot, false, s.frames.map Frame.mark) := by
  rw [State.stepTaken, State.progress_mk]

theorem State.rotationEvaluate_progress {s : State} {c : InForce} (plan : s.stepPlan = some c)
    (due : s.cnv.evalDue = true) (ran : s.stepsRun = true) (meas : List GroupMeas) :
    let at_ := max s.now (s.seqEdge s.tmg.pos + tRdTU c.plan.win c.sched + us 10)
    (s.rotationEvaluate meas).progress =
      (max at_ (s.mgtInstant (s.clk.mgtAt at_ + 1)), s.tmg.slot, false, s.frames.map Frame.mark) := by
  intro at_
  have steps : ¬ (¬ s.cnv.evalDue = true ∨ ¬ s.stepsRun = true) := by simp [due, ran]
  unfold State.rotationEvaluate
  rw [plan]
  dsimp -zeta only
  rw [if_neg steps]
  extract_lets cnv s0
  have instant : s0.progress = (at_, s.tmg.slot, false, s.frames.map Frame.mark) :=
    (s.stepTaken.goTo_progress _).trans (by rw [State.stepTaken_progress]; rfl)
  rw [State.subsNow_progress, State.countCycles_progress, foldl_keeps State.progress _ _ _ fun a k => by
    exact a.evalGroup_progress _ _ _ _, State.goMgt_eq, State.goTo_progress, instant]
  rfl

theorem State.rotationEvaluate_idle {s : State} (idle : s.cnv.evalDue = false ∨ s.stepsRun = false)
    (meas : List GroupMeas) : s.rotationEvaluate meas = s := by
  unfold State.rotationEvaluate
  split
  · rfl
  · exact if_pos (idle.imp Bool.eq_false_iff.1 Bool.eq_false_iff.1)

theorem rotationStepEnds : Claims.RotationStepEnds := by
  intro s c meas run plan
  refine ⟨fun due ran => ⟨_, act_run _ run, ?_⟩, fun idle => ⟨_, act_run _ run, ?_⟩⟩
  · have ended := State.rotationEvaluate_progress plan due ran meas
    simp only [State.progress, Prod.mk.injEq] at ended
    obtain ⟨now, -, evalDue, -⟩ := ended
    simp only [State.fin_cnv, State.fin_now]
    exact ⟨evalDue, now⟩
  · rw [State.rotationEvaluate_idle idle meas]
    exact s.fin_cnv

/-! ### Complete frames (R24) -/

theorem State.frameComplete_progress {s : State} {f : Frame}
    (oldest : s.frames.find? (fun f => !f.complete && max f.cfg.plan.win.nTop f.cfg.plan.win.nBot ≤ f.rows && 0 < f.rows)
      = some f) :
    s.frameComplete.1.progress = (s.modFrame f.num fun g => { g with complete := true }).progress := by
  unfold State.frameComplete
  rw [oldest]
  dsimp -zeta only
  rw [State.proxyEnd_progress, foldl_keeps State.progress _ _ _ fun a d => by exact a.setDp_progress _ _,
    State.reconWrite_progress, State.latchCentroid_progress]

/-- The offer of its proxy to the fabric leaves a frame complete. -/
theorem State.frameDone_progress (s : State) : s.frameDone.progress = s.frameComplete.1.progress := by
  unfold State.frameDone
  dsimp only
  split
  · rfl
  · split
    · exact State.offerProxy_progress _ _
    · rfl

theorem State.modFrame_completes (s : State) {f : Frame} (mem : f ∈ s.frames) :
    (f.num, true) ∈ (s.modFrame f.num fun g => { g with complete := true }).frames.map Frame.mark := by
  refine List.mem_map.2 ⟨{ f with complete := true }, List.mem_map.2 ⟨f, mem, if_pos rfl⟩, rfl⟩

/-! ### Statistics (R195, R196) -/

/-- The statistics set of a frame that is delivered on time. -/
def Frame.statSet (f : Frame) (seq : Nat) : StatSet :=
  { frame := f.num, epoch := f.epoch, seq := seq, sflags := flag f.isDamaged 0 + flag false 1
    zones := (List.range 4320).flatMap (f.zoneRecord false), hists := (List.range 4).flatMap (f.histogram false) }

/-- The statistics part of the datapaths once the set `x` is delivered. -/
def State.statShown (s : State) (x : StatSet) : Str :=
  let wrote : Bool := s.str.held.any fun c => c.1 = s.mgt
  let after := s.rb A.STR_STAT_CTRL 0
  { s.str with
    statSeq := x.seq, newest := some x
    shown := if s.holdNow && after then s.str.shown else some x
    missed := if s.holdNow && !(wrote && after) then satAdd s.str.missed 1 16 else s.str.missed }

/-- A set that HOLD keeps from the window is missed, where STR_STAT_CTRL was not written in this cycle. -/
theorem State.statShown_missed {s : State} (x : StatSet) (holds : s.holdNow = true)
    (earlier : ∀ c, s.str.held = some c → c.1 ≠ s.mgt) : (s.statShown x).missed = satAdd s.str.missed 1 16 := by
  have unwritten : (s.str.held.any fun c => c.1 = s.mgt) = false :=
    Option.any_eq_false _ _ |>.2 fun c mem => decide_eq_false (earlier c mem)
  simp [State.statShown, holds, unwritten]

theorem State.statDelivery_of {s : State} {f : Frame} (oldest : s.frames.find? (!·.statDone) = some f)
    (complete : f.complete = true) : s.statDelivery = s.deliverStat f.num false := by
  unfold State.statDelivery
  rw [oldest]
  exact if_pos complete

theorem State.deliverStat_spec {s : State} {f : Frame} (frame : s.frame? f.num = some f) (waits : f.statDone = false) :
    (s.deliverStat f.num false).str = s.statShown (f.statSet (wrapAdd s.str.statSeq 1 32)) ∧
      (s.deliverStat f.num false).reg A.STR_STAT_FRAME = mkWord f.num := by
  unfold State.deliverStat
  rw [frame]
  dsimp -zeta only
  rw [waits, if_neg Bool.false_ne_true]
  extract_lets seq x hold wrote after str s1 s2 s3 lnk s4 q lnk' s5
  have onTime : s3 = s2 := if_neg Bool.false_ne_true
  have shown : s2.str = s.statShown (f.statSet seq) := rfl
  have named : s2.reg A.STR_STAT_FRAME = mkWord f.num := by
    simp only [s2, State.setInt_eq, State.setRn_eq, State.note_reg]
    rw [State.setReg_reg_other _ _ (by decide), State.setReg_reg_other _ _ (by decide), State.setReg_reg_same]
  have queued : s4.str = s3.str ∧ s4.reg A.STR_STAT_FRAME = s3.reg A.STR_STAT_FRAME := by
    clear_value s3
    unfold s4
    split
    · split
      · exact ⟨rfl, State.setReg_reg_other _ _ (by decide)⟩
      · exact ⟨rfl, rfl⟩
    · exact ⟨rfl, rfl⟩
  have sent : s5.str = s4.str ∧ s5.reg A.STR_STAT_FRAME = s4.reg A.STR_STAT_FRAME := by
    unfold s5
    split <;> exact ⟨rfl, rfl⟩
  rw [onTime] at queued
  exact ⟨sent.1.trans (queued.1.trans shown), sent.2.trans (queued.2.trans named)⟩

theorem framesComplete : Claims.FramesComplete := by
  intro s f run
  refine ⟨fun oldest => ⟨_, act_run _ run, ?_⟩, fun oldest complete frame => ⟨_, act_run _ run, ?_⟩⟩
  · have same := s.frameDone_progress.trans (State.frameComplete_progress oldest)
    simp only [State.progress, Prod.mk.injEq] at same
    obtain ⟨-, -, -, marks⟩ := same
    have marked := s.modFrame_completes (List.mem_of_find?_eq_some oldest)
    rw [← marks] at marked
    obtain ⟨g, mem, mark⟩ := List.mem_map.1 marked
    simp only [Frame.mark, Prod.mk.injEq] at mark
    simp only [State.fin_frames]
    exact ⟨g, mem, mark⟩
  · have waits : f.statDone = false := by simpa using List.find?_some oldest
    obtain ⟨str, reg⟩ := State.deliverStat_spec frame waits
    simp only [State.fin_str, State.rn_eq, State.fin_reg, State.statDelivery_of oldest complete, str, reg]
    refine ⟨rfl, ⟨_, rfl, rfl, rfl, rfl⟩, fun shows => ?_, fun holds kept => ⟨?_, fun earlier => ?_⟩, ?_⟩
    · simp only [State.statShown, shows, Bool.false_and, Bool.false_eq_true, if_false]
      exact ⟨trivial, trivial⟩
    · simp only [State.statShown, holds, kept, Bool.and_self, if_true]
    · exact State.statShown_missed _ holds earlier
    · rfl

/-- Settles O16: `State.progress` tells how far a command takes readout, rotation and frames, since all that is processed
on the way leaves it alone; a delivery of statistics is `State.deliverStat_spec`. -/
theorem readoutAndFrames : Obligations.ReadoutAndFrames := by
  unfold Obligations.ReadoutAndFrames
  exact ⟨readoutAdvances, rotationStepEnds, framesComplete⟩

end Sys2Proof.Machine
end

section
/-!
PROOFS. Fields of a control word whose bits are written as 1 in any case, and the plan block under the record of a
writer: what the commands of the PLAN and TIME blocks share (R290, R138).
-/

namespace Sys2Proof.Machine

/-! ### Fields of a word -/

theorem testBit_wfield (v : Word) (lo n i : Nat) :
    (wfield v lo n).testBit i = (decide (i < n) && wbit v (lo + i)) := by
  rw [wfield, field, Nat.testBit_mod_two_pow, Nat.testBit_shiftRight, wbit]

theorem wfield_congr {v w : Word} {lo n : Nat} (h : ∀ i, i < n → wbit v (lo + i) = wbit w (lo + i)) :
    wfield v lo n = wfield w lo n := by
  refine Nat.eq_of_testBit_eq fun i => ?_
  rw [testBit_wfield, testBit_wfield]
  by_cases hi : i < n
  · rw [h i hi]
  · simp [hi]

/-- A field that bit `k` lies outside of is the same when that bit is written as 1. -/
theorem wfield_force_other (w : Word) {k lo n : Nat} (hk : k < 32) (h : k < lo ∨ lo + n ≤ k) :
    wfield (force w k) lo n = wfield w lo n :=
  wfield_congr fun i hi => wbit_force_other w hk (by omega)

theorem wbit_of_wfield {w : Word} {lo n : Nat} (h : wfield w lo n = 0) {i : Nat} (hi : i < n) :
    wbit w (lo + i) = false := by
  have bit := testBit_wfield w lo n i
  rw [h, Nat.zero_testBit, decide_eq_true hi, Bool.true_and] at bit
  exact bit.symm

/-- A field of four bits in which bit `k` alone is 1. -/
theorem wfield_single {v : Word} {lo k : Nat} (hk : k < 4) (h : ∀ i, i < 4 → wbit v (lo + i) = decide (k = i)) :
    wfield v lo 4 = 2 ^ k := by
  refine Nat.eq_of_testBit_eq fun i => ?_
  rw [testBit_wfield, Nat.testBit_two_pow]
  by_cases hi : i < 4
  · rw [h i hi, decide_eq_true hi, Bool.true_and]
  · have ne : k ≠ i := by omega
    simp [hi, ne]

theorem State.fin_bank (s : State) (i : Nat) : s.fin.plan.bank i = s.plan.bank i := by rw [State.fin_plan]

end Sys2Proof.Machine
end

section
/-!
PROOFS. The end of a plan load and of the checks of its image (R122 to R125, R469): O21.
-/

namespace Sys2Proof.Machine

/-! ### Banks (R123) -/

@[simp] theorem PlanBlk.bank_setBank (p : PlanBlk) (i : Nat) (b : Bank) : (p.setBank i b).bank i = b := by
  unfold PlanBlk.setBank PlanBlk.bank
  split
  · rfl
  · rfl

theorem PlanBlk.loading_state {p : PlanBlk} {i : Nat} (h : p.loading = some i) : (p.bank i).state = .loading := by
  unfold PlanBlk.loading at h
  split at h
  · next a =>
    obtain rfl := Option.some.inj h
    exact a
  · split at h
    · next b =>
      obtain rfl := Option.some.inj h
      exact b
    · cases h

section
variable (s : State) (i cause errofs : Nat) (k : Option Nat)

theorem State.bankFails_bank : (s.bankFails i cause errofs k).plan.bank i =
    { s.plan.bank i with state := .invalid, cause := cause, errofs := errofs }.keyed k :=
  PlanBlk.bank_setBank _ _ _

theorem State.bankFails_rb : (s.bankFails i cause errofs k).rb A.PLAN_INT_STATUS 1 = true :=
  State.setInt_rb_same _ _ (by decide)

theorem State.bankInvalid_bank : (s.bankInvalid i cause errofs).plan.bank i =
    { s.plan.bank i with state := .invalid, cause := cause, errofs := errofs }.keyed none :=
  s.bankFails_bank i cause errofs none

end

/-- FINISH takes a bank with a whole image to CHECKING and any other to INVALID (R125). -/
theorem State.loadFinish_bank (s : State) (i : Nat) :
    if 12 ≤ (s.plan.bank i).count ∧ (s.plan.bank i).count = imgU (s.plan.bank i).data 8 4 then
      (s.loadFinish i).plan.bank i = { s.plan.bank i with state := .checking }
    else ((s.loadFinish i).plan.bank i).state = .invalid ∧ ((s.loadFinish i).plan.bank i).cause = 1 ∧
      ((s.loadFinish i).plan.bank i).errofs = 8 := by
  by_cases whole : 12 ≤ (s.plan.bank i).count ∧ (s.plan.bank i).count = imgU (s.plan.bank i).data 8 4
  · rw [if_pos whole, State.loadFinish, if_neg (by omega)]
    exact PlanBlk.bank_setBank _ _ _
  · rw [if_neg whole, State.loadFinish, if_pos (by omega), State.bankInvalid_bank]
    exact ⟨rfl, rfl, rfl⟩

/-! ### The control register of the load (R125) -/

theorem homeMask_PLAN_LOAD_CTRL : homeMask A.PLAN_LOAD_CTRL = (1 : Word).toNat := by decide

theorem act_poke_PLAN_LOAD_CTRL {s : State} (run : s.released = true) (who : Who) (w : Word) {k : Nat}
    (hk : mkWord (2 ^ k) &&& ~~~1 = mkWord (2 ^ k)) : act s (s.poke who A.PLAN_LOAD_CTRL (force w k)) =
      .next ((s.loadCtrlWrite who (force (s.standing who A.PLAN_LOAD_CTRL w) k)).wroteBy s who A.PLAN_LOAD_CTRL).fin := by
  rw [act_run _ run, State.poke_PLAN_LOAD_CTRL, State.standing_force homeMask_PLAN_LOAD_CTRL hk]

section
variable {s : State} (who : Who) {v : Word} {i : Nat} (loading : s.plan.loading = some i)
include loading

theorem State.loadCtrlWrite_finish (cmd : wfield v 1 4 = 2) (port : (s.plan.bank i).kind = .port) :
    s.loadCtrlWrite who v = (s.setRn A.PLAN_LOAD_CTRL (wfield v 0 1)).loadFinish i := by
  have one : popcount 2 4 = 1 := by decide
  simp only [State.loadCtrlWrite, cmd, one, State.setRn_eq, State.setReg_plan, loading, port]
  rfl

theorem State.loadCtrlWrite_abort (cmd : wfield v 1 4 = 4) : s.loadCtrlWrite who v =
    (s.setRn A.PLAN_LOAD_CTRL (wfield v 0 1)).setBank i
      { cause := (s.plan.bank i).cause, errofs := (s.plan.bank i).errofs } := by
  have one : popcount 4 4 = 1 := by decide
  simp only [State.loadCtrlWrite, cmd, one, State.setRn_eq, State.setReg_plan, loading]
  rfl

end

/-- The command bits 1 to 4 of a word in which bit `k + 1` is written as 1 and the others are 0. -/
theorem State.loadCmd (s : State) (who : Who) (w : Word) {k : Nat} (hk : k < 4)
    (alone : ∀ i, i < 4 → i ≠ k → wbit w (1 + i) = false) :
    wfield (force (s.standing who A.PLAN_LOAD_CTRL w) (1 + k)) 1 4 = 2 ^ k := by
  refine wfield_single hk fun i hi => ?_
  by_cases own : k = i
  · rw [← own, wbit_force_same _ (by omega), decide_eq_true rfl]
  · have high : (1 : Word).toNat.testBit (1 + i) = false := by
      rw [Nat.add_comm]
      exact Nat.testBit_lt_two_pow (Nat.one_lt_two_pow (Nat.succ_ne_zero i))
    rw [wbit_force_other _ (by omega) (by omega), State.wbit_standing homeMask_PLAN_LOAD_CTRL high,
      alone i hi (Ne.symm own), decide_eq_false own]

/-! ### Copies from boot flash (R125) -/

section
variable {s : State} {i o : Nat} (loading : s.plan.loading = some i)
include loading

theorem State.flashHeaderRead_bad (kind : (s.plan.bank i).kind = .flashHeader o) {err : Bool}
    (bad : ¬ (err = false ∧ flashHeaderBad (rdBytes s.flash o 256) = false)) :
    ((s.flashHeaderRead err).plan.bank i).state = .invalid ∧ ((s.flashHeaderRead err).plan.bank i).cause = 1 := by
  simp only [State.flashHeaderRead, loading, kind]
  split
  · rw [State.bankInvalid_bank]
    exact ⟨rfl, rfl⟩
  · next read =>
    split
    · rw [State.bankInvalid_bank]
      exact ⟨rfl, rfl⟩
    · next good => exact absurd ⟨Bool.eq_false_iff.2 read, Bool.eq_false_iff.2 good⟩ bad

theorem State.flashHeaderRead_good (kind : (s.plan.bank i).kind = .flashHeader o)
    (good : flashHeaderBad (rdBytes s.flash o 256) = false) :
    (s.flashHeaderRead false).plan.bank i =
        { s.plan.bank i with kind := .flashCopy o, data := rdBytes s.flash o 256, count := 256 } ∧
      (s.flashHeaderRead false).plan.loadCount = 256 := by
  simp only [State.flashHeaderRead, loading, kind, good, Bool.false_eq_true, if_false]
  refine ⟨PlanBlk.bank_setBank _ _ _, ?_⟩
  rw [State.setBank_plan, PlanBlk.setBank]
  split <;> rfl

/-- The bank with what a finished copy has brought, before FINISH judges it. -/
def State.copied (s : State) (i o : Nat) : State :=
  let n := imgU (s.plan.bank i).data 8 4
  let s1 := s.setBank i { s.plan.bank i with data := rdBytes s.flash o n, count := n }
  { s1 with plan := { s1.plan with loadCount := n } }

omit loading in
theorem State.copied_bank (s : State) (i o : Nat) : (s.copied i o).plan.bank i =
    { s.plan.bank i with
      data := rdBytes s.flash o (imgU (s.plan.bank i).data 8 4), count := imgU (s.plan.bank i).data 8 4 } :=
  PlanBlk.bank_setBank _ _ _

theorem State.flashCopyDone_eq (kind : (s.plan.bank i).kind = .flashCopy o) (err : Bool) :
    s.flashCopyDone err = if err then s.bankInvalid i 1 0 else (s.copied i o).loadFinish i := by
  unfold State.flashCopyDone
  rw [loading]
  dsimp only
  split
  · next o' kind' =>
    obtain rfl := LoadKind.flashCopy.inj (kind.symm.trans kind')
    rfl
  · next other => exact absurd kind (other o)

end

theorem State.loadFinish_loadCount (s : State) (i : Nat) : (s.loadFinish i).plan.loadCount = s.plan.loadCount := by
  have set (b : Bank) : (s.plan.setBank i b).loadCount = s.plan.loadCount := by
    unfold PlanBlk.setBank
    split <;> rfl
  unfold State.loadFinish
  dsimp only
  split
  · exact set _
  · exact set _

theorem State.wroteBy_bank (t s : State) (who : Who) (a i : Nat) : (t.wroteBy s who a).plan.bank i = t.plan.bank i := by
  rw [State.wroteBy_plan]

theorem planLoadsEnd : Claims.PlanLoadsEnd := by
  intro s who w i run loading
  refine ⟨fun b1 b34 port => ⟨_, act_poke_PLAN_LOAD_CTRL run who w (by decide), ?_⟩,
    fun b12 b4 => ⟨_, act_poke_PLAN_LOAD_CTRL run who w (by decide), ?_⟩,
    fun o err kind => ⟨_, act_run _ run, ?_⟩, fun o err kind => ⟨_, act_run _ run, ?_⟩⟩
  · have cmd : wfield (force (s.standing who A.PLAN_LOAD_CTRL w) 2) 1 4 = 2 := by
      refine s.loadCmd who w (k := 1) (by decide) fun i hi other => ?_
      match i, hi with
      | 0, _ => exact wbit_of_wfield b1 (i := 0) (by decide)
      | 1, _ => exact absurd rfl other
      | 2, _ => exact wbit_of_wfield b34 (i := 0) (by decide)
      | 3, _ => exact wbit_of_wfield b34 (i := 1) (by decide)
    simp only [State.fin_bank, State.wroteBy_bank, State.loadCtrlWrite_finish who loading cmd port]
    exact (s.setRn A.PLAN_LOAD_CTRL _).loadFinish_bank i
  · have cmd : wfield (force (s.standing who A.PLAN_LOAD_CTRL w) 3) 1 4 = 4 := by
      refine s.loadCmd who w (k := 2) (by decide) fun i hi other => ?_
      match i, hi with
      | 0, _ => exact wbit_of_wfield b12 (i := 0) (by decide)
      | 1, _ => exact wbit_of_wfield b12 (i := 1) (by decide)
      | 2, _ => exact absurd rfl other
      | 3, _ => exact wbit_of_wfield b4 (i := 0) (by decide)
    simp only [State.fin_bank, State.wroteBy_bank, State.loadCtrlWrite_abort who loading cmd, State.setBank_plan,
      PlanBlk.bank_setBank, and_self]
  · simp only [State.fin_plan]
    by_cases good : err = false ∧ flashHeaderBad (rdBytes s.flash o 256) = false
    · obtain ⟨rfl, header⟩ := good
      obtain ⟨bank, count⟩ := State.flashHeaderRead_good loading kind header
      rw [if_pos ⟨rfl, header⟩, bank, count]
      exact ⟨PlanBlk.loading_state loading, rfl, rfl, rfl⟩
    · rw [if_neg good]
      exact State.flashHeaderRead_bad loading kind good
  · simp only [State.fin_plan, State.flashCopyDone_eq loading kind]
    cases err with
    | true =>
      rw [if_neg (fun h => Bool.noConfusion h.1), if_pos rfl, State.bankInvalid_bank]
      exact ⟨rfl, rfl⟩
    | false =>
      have judged := (s.copied i o).loadFinish_bank i
      have count : (s.copied i o).plan.loadCount = imgU (s.plan.bank i).data 8 4 := rfl
      simp only [State.copied_bank] at judged
      simp only [Bool.false_eq_true, if_false, true_and]
      by_cases whole : 12 ≤ imgU (s.plan.bank i).data 8 4 ∧
          imgU (rdBytes s.flash o (imgU (s.plan.bank i).data 8 4)) 8 4 = imgU (s.plan.bank i).data 8 4
      · rw [if_pos ⟨whole.1, whole.2.symm⟩] at judged
        rw [if_pos whole, judged, State.loadFinish_loadCount, count]
        exact ⟨rfl, rfl, rfl⟩
      · rw [if_neg fun h => whole ⟨h.1, h.2.symm⟩] at judged
        obtain ⟨invalid, cause, -⟩ := judged
        rw [if_neg whole]
        exact ⟨invalid, cause⟩

/-! ### The checks (R122, R124, R469) -/

/-- What is waiting for the checks, an attestation report, is no part of the plan block and its registers. -/
theorem State.attChecked_frame (s : State) : s.attChecked = { s with vlt := s.attChecked.vlt } := by
  unfold State.attChecked
  split <;> rfl

theorem State.attChecked_bank (s : State) (i : Nat) : s.attChecked.plan.bank i = s.plan.bank i := by
  rw [State.attChecked_frame]

theorem State.attChecked_rb (s : State) (a i : Nat) : s.attChecked.rb a i = s.rb a i := by
  rw [State.attChecked_frame]
  rfl

/-- The bank that is being checked; bank A goes first. -/
def PlanBlk.inCheck (p : PlanBlk) (i : Nat) : Prop :=
  (i = 0 ∧ p.bankA.state = .checking) ∨ (i = 1 ∧ p.bankA.state ≠ .checking ∧ p.bankB.state = .checking)

/-- A bank after its checks, by their verdict. -/
def State.judged (s : State) (i : Nat) (verdict : Bad) (key : Option Nat) : State :=
  match verdict with
  | some (c, o) => s.bankFails i c o key
  | none => (s.setBank i ({ s.plan.bank i with
      state := .ready, errofs := 0, plan := readPlan (s.plan.bank i).data }.keyed key)).setInt A.PLAN_INT_STATUS 0

theorem State.checkDone_eq {s : State} {i : Nat} (h : s.plan.inCheck i) (slot : List Byte → Option Nat) (must : Bool) :
    s.checkDone slot must =
      s.judged i (checkImage (s.plan.bank i).data (s.plan.bank i).count s.part slot must)
        (verifiedSlot (s.plan.bank i).data slot) := by
  have found : (if s.plan.bankA.state = .checking then some 0
      else if s.plan.bankB.state = .checking then some 1 else none) = some i := by
    rcases h with ⟨rfl, a⟩ | ⟨rfl, a, b⟩
    · rw [if_pos a]
    · rw [if_neg a, if_pos b]
  unfold State.checkDone
  rw [found]
  dsimp only
  unfold State.judged
  generalize checkImage _ _ _ _ _ = verdict
  cases verdict <;> rfl

theorem planChecksEnd : Claims.PlanChecksEnd := by
  intro s i run check b verdict key
  have done (P : State → Prop) (h : P (s.judged i verdict key).attChecked.fin) : Runs .planCheckDone s P := by
    refine ⟨_, act_run _ run, ?_⟩
    rw [State.planChecked, State.checkDone_eq check]
    exact h
  refine ⟨fun c o bad => done _ ?_, fun good => done _ ?_⟩
  · rw [bad, State.judged, State.fin_rb, State.attChecked_rb]
    simp only [State.fin_bank, State.attChecked_bank, State.bankFails_bank]
    exact ⟨rfl, rfl, rfl, rfl, rfl, State.bankFails_rb _ _ _ _ _⟩
  · rw [good, State.judged, State.fin_rb, State.attChecked_rb]
    simp only [State.fin_bank, State.attChecked_bank, State.setInt_eq, State.note_plan, State.setReg_plan,
      State.setBank_plan, PlanBlk.bank_setBank]
    exact ⟨rfl, rfl, rfl, rfl, rfl, State.setInt_rb_same _ _ (by decide)⟩

/-- Settles O21: FINISH judges the bytes that have come (`State.loadFinish_bank`), and the end of the checks leaves the
bank as their verdict has it (`State.checkDone_eq`). -/
theorem planLoadsAreChecked : Obligations.PlanLoadsAreChecked := by
  unfold Obligations.PlanLoadsAreChecked
  exact ⟨planLoadsEnd, planChecksEnd⟩

end Sys2Proof.Machine
end

section
/-!
PROOFS. What a rig commit can change while its messages are sent and answered (R135 to R137), and how a pending commit
ends (R128, R130, R138).
-/

namespace Sys2Proof.Machine

/-! ### Interrupt bits -/

theorem State.setInt_rb_other (s : State) (a : Nat) {i j : Nat} (hi : i < 32) (h : j ≠ i) :
    (s.setInt a i).rb a j = s.rb a j := by
  have below : (s.rn a ||| 2 ^ i) < 2 ^ 32 :=
    Nat.or_lt_two_pow (s.reg a).isLt (Nat.pow_lt_pow_right (by decide) hi)
  rw [State.setInt_eq, State.rb_eq, State.note_reg, State.setReg_reg_same, mkWord, BitVec.toNat_ofNat,
    Nat.mod_eq_of_lt below, Nat.testBit_or, Nat.testBit_two_pow_of_ne (Ne.symm h), Bool.or_false]
  rfl

theorem State.setInt_reg_other (s : State) {a b : Nat} (i : Nat) (h : b ≠ a) : (s.setInt a i).reg b = s.reg b :=
  State.setReg_reg_other s _ h

theorem State.dropInt_rb_other (s : State) (a : Nat) {i j : Nat} (hi : i < 32) (h : j ≠ i) :
    (s.dropInt a i).rb a j = s.rb a j := by
  have bit : 2 ^ i = (mkWord (2 ^ i)).toNat := (Nat.mod_eq_of_lt (Nat.pow_lt_pow_right (by decide) hi)).symm
  have kept : (mkWord (2 ^ i)).toNat.testBit j = false := by rw [← bit, Nat.testBit_two_pow_of_ne (Ne.symm h)]
  rw [State.dropInt, State.setRn_eq, State.rb_eq, State.setReg_reg_same, State.rn_eq, bit, mkWord_sub_and,
    testBit_and_not, kept, Bool.not_false, Bool.and_true]
  rfl

/-! ### The frame of a rig commit -/

/-- `t` is `s` but for the rig commit that this device has started, the answers that it owes as a target, the fabric,
and bit `RIG_DONE` of `PLAN_INT_STATUS`; and it has kept its address. -/
structure State.RigFrame (s t : State) : Prop where
  frame : t = { s with
    regs := t.regs, rwc := t.rwc, fab := t.fab
    plan := { s.plan with rig := t.plan.rig, rigLapse := t.plan.rigLapse, rigOut := t.plan.rigOut } }
  reg : ∀ a, a ≠ A.PLAN_INT_STATUS → t.reg a = s.reg a
  rb : ∀ i, i ≠ 4 → t.rb A.PLAN_INT_STATUS i = s.rb A.PLAN_INT_STATUS i
  addr : t.fab.addr = s.fab.addr

theorem State.RigFrame.refl (s : State) : s.RigFrame s := ⟨rfl, fun _ _ => rfl, fun _ _ => rfl, rfl⟩

theorem State.RigFrame.trans {s t u : State} (first : s.RigFrame t) (second : t.RigFrame u) : s.RigFrame u := by
  obtain ⟨frame, reg, rb, addr⟩ := first
  obtain ⟨frame', reg', rb', addr'⟩ := second
  refine ⟨?_, fun a h => (reg' a h).trans (reg a h), fun i h => (rb' i h).trans (rb i h), addr'.trans addr⟩
  rw [frame] at frame'
  exact frame'

section
variable {s t : State} (h : s.RigFrame t)
include h

theorem State.RigFrame.plan : t.plan =
    { s.plan with rig := t.plan.rig, rigLapse := t.plan.rigLapse, rigOut := t.plan.rigOut } := congrArg State.plan h.frame
theorem State.RigFrame.time : t.time = s.time := by rw [h.frame]
theorem State.RigFrame.now : t.now = s.now := by rw [h.frame]

end

theorem State.rigFrame_foldl {β : Type} {f : State → β → State} (h : ∀ (a : State) (x : β), a.RigFrame (f a x))
    (l : List β) (s : State) :
    s.RigFrame (l.foldl f s) := by
  induction l generalizing s with
  | nil => exact .refl s
  | cons x l ih => exact (h s x).trans (ih (f s x))

section
variable (s : State)

theorem State.rigFrame_rig (r : Rig) : s.RigFrame { s with plan := { s.plan with rig := r } } :=
  ⟨rfl, fun _ _ => rfl, fun _ _ => rfl, rfl⟩

theorem State.rigFrame_setInt : s.RigFrame (s.setInt A.PLAN_INT_STATUS 4) :=
  ⟨rfl, fun _ h => s.setInt_reg_other _ h, fun _ h => s.setInt_rb_other _ (by decide) h, rfl⟩

theorem State.rigFrame_dropInt : s.RigFrame (s.dropInt A.PLAN_INT_STATUS 4) :=
  ⟨rfl, fun _ h => s.setReg_reg_other _ h, fun _ h => s.dropInt_rb_other _ (by decide) h, rfl⟩

/-! ### The originator (R137) -/

theorem State.rigFrame_rigCheck : s.RigFrame s.rigCheck := by
  unfold State.rigCheck
  dsimp only
  split
  · exact .refl s
  · split
    · exact (s.rigFrame_rig _).trans (State.rigFrame_setInt _)
    · split
      · exact s.rigFrame_rig _
      · exact .refl s

theorem State.rigFrame_rigLate (ack : Bool) : s.RigFrame (s.rigLate ack) := by
  unfold State.rigLate
  dsimp only
  split
  · exact .refl s
  · exact (s.rigFrame_rig _).trans (State.rigFrame_rigCheck _)

theorem State.rigFrame_rigNote (ack : Bool) : s.RigFrame (s.rigNote ack) :=
  ⟨rfl, fun _ _ => rfl, fun _ _ => rfl, rfl⟩

theorem State.rigFrame_rigAnswered {f : State → State} (h : ∀ a : State, a.RigFrame (f a)) :
    s.RigFrame (s.rigAnswered f) := by
  unfold State.rigAnswered
  split
  · next x _ =>
    split
    · have taken (a : State) : a.RigFrame (((f a).rigNote x.ack).rigLate x.ack) :=
        ((h a).trans (State.rigFrame_rigNote _ _)).trans (State.rigFrame_rigLate _ _)
      dsimp only
      split
      · exact (s.rigFrame_rig _).trans (taken _)
      · exact ((s.rigFrame_rig _).trans (State.rigFrame_dropInt _)).trans (taken _)
    · exact h s
  · exact h s

theorem State.rigFrame_rigAckTake (a result : Nat) : s.RigFrame (s.rigAckTake a result) := by
  unfold State.rigAckTake
  dsimp only
  split
  · exact .refl s
  · split <;> exact (s.rigFrame_rig _).trans (State.rigFrame_rigCheck _)

theorem State.rigFrame_rigDoneTake (a result : Nat) : s.RigFrame (s.rigDoneTake a result) := by
  unfold State.rigDoneTake
  dsimp only
  split
  · exact .refl s
  · split <;> exact (s.rigFrame_rig _).trans (State.rigFrame_rigCheck _)

theorem State.rigFrame_rigAck (a result : Nat) : s.RigFrame (s.rigAck a result) :=
  s.rigFrame_rigAnswered fun x => x.rigFrame_rigAckTake a result

theorem State.rigFrame_rigDone (a result : Nat) : s.RigFrame (s.rigDone a result) :=
  s.rigFrame_rigAnswered fun x => x.rigFrame_rigDoneTake a result

/-! ### Messages to other devices (R235, R239) -/

/-- A control message leaves through the queues of the fabric, and the device keeps its address. -/
theorem State.enqueue_frame (p : Nat) (t : FabTx) : s.enqueue p t = { s with fab := (s.enqueue p t).fab } := by
  unfold State.enqueue
  dsimp only
  (repeat' split) <;> rfl

theorem State.setFport_addr (p : Nat) (x : FabPort) : (s.setFport p x).fab.addr = s.fab.addr := by
  simp only [State.setFport]
  (repeat' split) <;> rfl

theorem State.enqueue_addr (p : Nat) (t : FabTx) : (s.enqueue p t).fab.addr = s.fab.addr := by
  unfold State.enqueue
  dsimp only
  split
  · rfl
  · (repeat' split) <;> exact State.setFport_addr _ _ _

theorem State.rigFrame_fab {f : Fab} (h : f.addr = s.fab.addr) : s.RigFrame { s with fab := f } :=
  ⟨rfl, fun _ _ => rfl, fun _ _ => rfl, h⟩

theorem State.rigFrame_enqueue (p : Nat) (t : FabTx) : s.RigFrame (s.enqueue p t) := by
  rw [State.enqueue_frame]
  exact s.rigFrame_fab (s.enqueue_addr p t)

theorem State.rigFrame_sendCtl (dst msg : Nat) (payload : List Byte) : s.RigFrame (s.sendCtl dst msg payload) := by
  unfold State.sendCtl
  split
  · exact .refl s
  · refine (s.rigFrame_fab rfl : s.RigFrame s.nextMid.2).trans ?_
    unfold State.routeTx
    dsimp only
    split
    · exact State.rigFrame_fab _ rfl
    · exact State.rigFrame_enqueue _ _ _

/-! ### The target's answers (R136) -/

theorem State.rigFrame_rigSend (x : RigAnswer) : s.RigFrame (s.rigSend x) := by
  unfold State.rigSend
  dsimp only
  split
  · split
    · exact s.rigFrame_rigDone _ _
    · exact s.rigFrame_sendCtl _ _ _
  · split
    · exact s.rigFrame_rigAck _ _
    · exact s.rigFrame_sendCtl _ _ _

theorem State.rigFrame_rigFlush : s.RigFrame s.rigFlush := by
  have none_ : s.RigFrame { s with plan := { s.plan with rigOut := [] } } := ⟨rfl, fun _ _ => rfl, fun _ _ => rfl, rfl⟩
  exact none_.trans (State.rigFrame_foldl State.rigFrame_rigSend _ _)

variable {s}

theorem State.rigFlush_none (h : s.plan.rigOut = []) : s.rigFlush = s := by
  have same : { s.plan with rigOut := [] } = s.plan := by rw [← h]
  unfold State.rigFlush
  rw [same, h]
  rfl

end

/-! ### The end of a pending commit (R128, R130, R138) -/

section
variable (s : State) (result cause : Nat)

theorem State.commitResult_plan :
    (s.commitResult result cause).plan = { s.plan with result := result, cause := cause } := by
  unfold State.commitResult
  dsimp only
  split <;> rfl

/-- A commit refused, past, failed or cut off raises the interrupt. -/
theorem State.commitResult_rb (bad : result = 2 ∨ result = 3 ∨ result = 4 ∨ result = 6) :
    (s.commitResult result cause).rb A.PLAN_INT_STATUS 3 = true := by
  unfold State.commitResult
  rw [if_pos bad]
  exact State.setInt_rb_same _ _ (by decide)

variable {s} {c : Commit} (pending : s.plan.commit = some c)
include pending

theorem State.endCommit_plan : (s.endCommit result cause).plan =
    { s.plan with
      commit := none, result := result, cause := cause, rigOut := (s.endCommit result cause).plan.rigOut } := by
  unfold State.endCommit
  rw [pending]
  dsimp only
  split
  · rw [State.commitResult_plan]
  · dsimp only
    rw [State.commitResult_plan]

theorem State.endCommit_rb (bad : result = 2 ∨ result = 3 ∨ result = 4 ∨ result = 6) :
    (s.endCommit result cause).rb A.PLAN_INT_STATUS 3 = true := by
  unfold State.endCommit
  rw [pending]
  dsimp only
  split
  · exact State.commitResult_rb _ _ _ bad
  · exact State.commitResult_rb _ _ _ bad

theorem State.commitCancel_ok (ok : s.cancelOk c (s.seqEdge s.now) = true) : s.commitCancel = s.endCommit 5 0 := by
  unfold State.commitCancel
  rw [pending]
  exact if_pos ok

theorem State.commitCancel_late (late : s.cancelOk c (s.seqEdge s.now) = false) :
    s.commitCancel = { s with plan := { s.plan with cancelLate := true } } := by
  unfold State.commitCancel
  rw [pending]
  exact if_neg (Bool.eq_false_iff.1 late)

end

theorem State.commitCancel_idle {s : State} (idle : s.plan.commit = none) : s.commitCancel = s := by
  unfold State.commitCancel
  rw [idle]

end Sys2Proof.Machine
end

section
/-!
PROOFS. Requests to commit and their cancelling (R126, R127, R130): O22.
-/

namespace Sys2Proof.Machine

section
variable (s : State) (bank when_ tb frame sec ns w : Nat) (origin : Option Nat)

theorem State.commitPast_iff :
    (if when_ = 1 then s.targetPast frame w
      else if when_ = 2 then decide (tbOf sec ns 0 < s.tbAt tb w + 64000 * nsUnit) else false) = true ↔
      s.commitPast when_ tb frame sec ns w := by
  unfold State.commitPast
  split
  · next one => simp [one]
  · next one =>
    split
    · next two => simp [two]
    · next two => simp [one, two]

/-- The commit that a request leaves pending. -/
def asked (bank when_ tb frame sec ns w : Nat) (origin : Option Nat) : Commit :=
  { bank := bank, when_ := commitWhen when_ tb frame sec ns, w := w, origin := origin }

/-- A request is refused with the first cause that holds, or past, or pending (R126, R127). -/
theorem State.commitRequest_cases :
    (∃ c, s.commitCause bank when_ tb ns = some c ∧
      s.commitRequest bank when_ tb frame sec ns w origin = s.commitResult 2 c) ∨
    (s.commitCause bank when_ tb ns = none ∧
      ((s.commitPast when_ tb frame sec ns w ∧
        s.commitRequest bank when_ tb frame sec ns w origin = s.commitResult 3 0) ∨
      (¬ s.commitPast when_ tb frame sec ns w ∧
        s.commitRequest bank when_ tb frame sec ns w origin =
          { s with plan := { s.plan with commit := some (asked bank when_ tb frame sec ns w origin) } }))) := by
  unfold State.commitRequest State.commitCause
  simp only [not_or, Bool.not_eq_true, ← State.commitPast_iff]
  split
  · exact .inl ⟨_, rfl, rfl⟩
  split
  · exact .inl ⟨_, rfl, rfl⟩
  split
  · exact .inl ⟨_, rfl, rfl⟩
  split
  · exact .inl ⟨_, rfl, rfl⟩
  split
  · exact .inl ⟨_, rfl, rfl⟩
  split
  · exact .inl ⟨_, rfl, rfl⟩
  refine .inr ⟨rfl, ?_⟩
  generalize (if when_ = 1 then s.targetPast frame w
    else if when_ = 2 then decide (tbOf sec ns 0 < s.tbAt tb w + 64000 * nsUnit) else false) = past
  cases past
  · exact .inr ⟨rfl, rfl⟩
  · exact .inl ⟨rfl, rfl⟩

/-- A request that nothing refuses finds no other commit pending. -/
theorem State.commit_of_commitCause {s : State} {bank when_ tb ns : Nat} (h : s.commitCause bank when_ tb ns = none) :
    s.plan.commit = none := by
  unfold State.commitCause at h
  split at h
  · cases h
  split at h
  · cases h
  split at h
  · cases h
  next free => exact Option.not_isSome_iff_eq_none.1 free

end

/-! ### The control register of commits -/

/-- The RW bits of `PLAN_COMMIT_CTRL`: BANK, WHEN and TB (R138). -/
theorem homeMask_PLAN_COMMIT_CTRL : homeMask A.PLAN_COMMIT_CTRL = (0x67 : Word).toNat := by decide

theorem act_poke_PLAN_COMMIT_CTRL {s : State} (run : s.released = true) (who : Who) (w : Word) {k : Nat}
    (hk : mkWord (2 ^ k) &&& ~~~0x67 = mkWord (2 ^ k)) : act s (s.poke who A.PLAN_COMMIT_CTRL (force w k)) =
      .next (((s.commitCtrlWrite who (force (s.standing who A.PLAN_COMMIT_CTRL w) k)).rigFlush).wroteBy s who
        A.PLAN_COMMIT_CTRL).fin := by
  rw [act_run _ run, State.poke_PLAN_COMMIT_CTRL, State.standing_force homeMask_PLAN_COMMIT_CTRL hk]

/-- A write with GO, before the request is judged: the word is stored, and the writer is on record. -/
def State.committing (s : State) (who : Who) (v : Word) : State :=
  let s0 := s.setRn A.PLAN_COMMIT_CTRL (v.toNat &&& 0x67)
  { s0 with plan := { s0.plan with writer := who.code, cancelLate := false } }

section
variable (s : State) (who : Who) {v : Word}

theorem State.commitCtrlWrite_go (noCancel : wbit v 4 = false) :
    let t := s.committing who (force v 3)
    s.commitCtrlWrite who (force v 3) =
      t.commitRequest (wfield v 0 1) (wfield v 1 2) (wfield v 5 2) (s.rn A.PLAN_COMMIT_FRAME)
        (s.rn A.PLAN_COMMIT_SEC_HI % 65536 * 2 ^ 32 + s.rn A.PLAN_COMMIT_SEC_LO) (s.rf A.PLAN_COMMIT_NS 0 30)
        (s.seqEdge s.now) none := by
  intro t
  have noCancel' : wbit (force v 3) 4 = false := (wbit_force_other v (by decide) (by decide)).trans noCancel
  have other {a : Nat} (h : a ≠ A.PLAN_COMMIT_CTRL) : t.reg a = s.reg a := State.setReg_reg_other s _ h
  have frame : t.rn A.PLAN_COMMIT_FRAME = s.rn A.PLAN_COMMIT_FRAME := congrArg BitVec.toNat (other (by decide))
  have hi : t.rn A.PLAN_COMMIT_SEC_HI = s.rn A.PLAN_COMMIT_SEC_HI := congrArg BitVec.toNat (other (by decide))
  have lo : t.rn A.PLAN_COMMIT_SEC_LO = s.rn A.PLAN_COMMIT_SEC_LO := congrArg BitVec.toNat (other (by decide))
  have ns : t.rf A.PLAN_COMMIT_NS 0 30 = s.rf A.PLAN_COMMIT_NS 0 30 := by
    rw [State.rf_eq, other (by decide), ← State.rf_eq]
  rw [State.commitCtrlWrite, noCancel', wbit_force_same v (by decide), wfield_force_other v (by decide) (by decide),
    wfield_force_other v (by decide) (by decide), wfield_force_other v (by decide) (by decide),
    ← frame, ← hi, ← lo, ← ns]
  rfl

theorem State.commitCtrlWrite_cancel (noGo : wbit v 3 = false) :
    s.commitCtrlWrite who (force v 4) = (s.setRn A.PLAN_COMMIT_CTRL ((force v 4).toNat &&& 0x67)).commitCancel := by
  have noGo' : wbit (force v 4) 3 = false := (wbit_force_other v (by decide) (by decide)).trans noGo
  rw [State.commitCtrlWrite, noGo', wbit_force_same v (by decide)]
  rfl

end

/-- Settles O22: a request has one of the ends of `State.commitRequest_cases`, a cancel one of those of
`State.commitCancel_ok` to `State.commitCancel_idle`; the answers that a rig commit then owes change neither
(`State.rigFrame_rigFlush`). -/
theorem commitsAreTaken : Obligations.CommitsAreTaken := by
  unfold Obligations.CommitsAreTaken
  intro s who w run
  refine ⟨fun noCancel => ⟨_, act_poke_PLAN_COMMIT_CTRL run who w (by decide), ?_⟩, fun noGo owesNone => ?_⟩
  · have bit4 : wbit (s.standing who A.PLAN_COMMIT_CTRL w) 4 = false :=
      (State.wbit_standing homeMask_PLAN_COMMIT_CTRL (by decide) s who w).trans noCancel
    generalize s.standing who A.PLAN_COMMIT_CTRL w = v at bit4
    rw [State.commitCtrlWrite_go s who bit4]
    generalize s.rn A.PLAN_COMMIT_FRAME = frame
    generalize s.rn A.PLAN_COMMIT_SEC_HI % 65536 * 2 ^ 32 + s.rn A.PLAN_COMMIT_SEC_LO = sec
    generalize s.rf A.PLAN_COMMIT_NS 0 30 = ns
    generalize go : s.committing who (force v 3) = t
    have plan : t.plan = { s.plan with writer := who.code, cancelLate := false } := by rw [← go]; rfl
    have cause (bank when_ tb : Nat) : t.commitCause bank when_ tb ns = s.commitCause bank when_ tb ns := by
      rw [← go]; rfl
    have past (when_ tb at_ : Nat) : t.commitPast when_ tb frame sec ns at_ ↔ s.commitPast when_ tb frame sec ns at_ := by
      rw [← go]; rfl
    have flushed := State.rigFrame_rigFlush (t.commitRequest (wfield v 0 1) (wfield v 1 2) (wfield v 5 2) frame sec ns
      (s.seqEdge s.now) none)
    simp only [State.fin_plan, State.wroteBy_plan, State.fin_rb, State.wroteBy_rb, flushed.rb 3 (by decide)]
    rw [flushed.plan]
    rcases t.commitRequest_cases (wfield v 0 1) (wfield v 1 2) (wfield v 5 2) frame sec ns (s.seqEdge s.now) none with
      ⟨c, refused, eq⟩ | ⟨allowed, ⟨isPast, eq⟩ | ⟨ahead, eq⟩⟩
    · rw [cause] at refused
      rw [eq, State.commitResult_plan, plan, State.commitResult_rb _ _ _ (.inl rfl), refused]
      refine ⟨rfl, rfl, rfl, rfl, rfl, fun c' same => ?_, nofun, nofun⟩
      obtain rfl := Option.some.inj same
      exact ⟨rfl, rfl, rfl, rfl⟩
    · rw [cause] at allowed
      rw [past] at isPast
      rw [eq, State.commitResult_plan, plan, State.commitResult_rb _ _ _ (.inr (.inl rfl)), allowed]
      exact ⟨rfl, rfl, rfl, rfl, rfl, nofun, fun _ _ => ⟨rfl, State.commit_of_commitCause allowed, rfl⟩,
        fun _ ahead => absurd isPast ahead⟩
    · rw [cause] at allowed
      rw [past] at ahead
      rw [eq, plan, allowed]
      exact ⟨rfl, rfl, rfl, rfl, rfl, nofun, fun _ isPast => absurd isPast ahead,
        fun _ _ => ⟨rfl, _, rfl, rfl, rfl, rfl, rfl⟩⟩
  · have bit3 : wbit (s.standing who A.PLAN_COMMIT_CTRL w) 3 = false :=
      (State.wbit_standing homeMask_PLAN_COMMIT_CTRL (by decide) s who w).trans noGo
    have runs := act_poke_PLAN_COMMIT_CTRL run who w (k := 4) (by decide)
    rw [State.commitCtrlWrite_cancel s who bit3] at runs
    generalize stored : s.setRn A.PLAN_COMMIT_CTRL _ = t at runs
    have plan : t.plan = s.plan := by rw [← stored]; rfl
    have same (c : Commit) : t.cancelOk c (t.seqEdge t.now) = s.cancelOk c (s.seqEdge s.now) := by rw [← stored]; rfl
    refine ⟨fun c pending ok => ⟨_, runs, ?_⟩, fun c pending late => ⟨_, runs, ?_⟩,
      fun idle => ⟨_, runs, ?_⟩⟩
    · rw [← plan] at pending
      simp only [State.fin_plan, State.wroteBy_plan]
      rw [(State.rigFrame_rigFlush _).plan, State.commitCancel_ok pending ((same c).trans ok),
        State.endCommit_plan _ _ pending]
      exact ⟨rfl, rfl, rfl⟩
    · rw [← plan] at pending
      simp only [State.fin_plan, State.wroteBy_plan]
      rw [State.commitCancel_late pending ((same c).trans late), State.rigFlush_none (by rw [plan]; exact owesNone), plan]
    · rw [← plan] at idle
      simp only [State.fin_plan, State.wroteBy_plan]
      rw [State.commitCancel_idle idle, State.rigFlush_none (by rw [plan]; exact owesNone), plan]

end Sys2Proof.Machine
end

section
/-!
PROOFS. Time bases are run, set, stepped and steered (R128, R253, R254): O29.
-/

namespace Sys2Proof.Machine

/-! ### One time base -/

theorem State.setTb_tb_same (s : State) (k : Nat) (t : TimeBase) : (s.setTb k t).tb k = t := sget_sput_same _ _ _ _

theorem State.setTb_tb_other (s : State) {j k : Nat} (t : TimeBase) (h : j ≠ k) : (s.setTb k t).tb j = s.tb j :=
  sget_sput_other _ _ _ h

theorem State.tb_of_time {s t : State} (h : t.time = s.time) (k : Nat) : t.tb k = s.tb k :=
  congrArg (fun x : TimeBlk => sget tbReset x.tbs k) h

/-- At the cycle where its line starts a time base has the value it was given. -/
theorem TimeBase.at_start (t : TimeBase) : t.at t.at_ % tbMod = t.val % tbMod := by
  unfold TimeBase.at
  split
  · rfl
  · rw [if_pos (le_refl _), Nat.sub_self, Nat.zero_mul, Nat.add_zero, Nat.mod_mod]

/-! ### Pulse generators follow (R267), and a commit may end (R128) -/

theorem State.placeTpo_frame (s : State) (i : Nat) (how : Jump) : ∃ tpos regs rwc, s.placeTpo i how =
    { s with time := { s.time with tpos := tpos }, regs := regs, rwc := rwc } := by
  unfold State.placeTpo
  extract_lets
  split
  · exact ⟨_, _, _, rfl⟩
  · split
    · exact ⟨_, _, _, rfl⟩
    · split <;> exact ⟨_, _, _, rfl⟩

/-- Placing the generators again leaves what neither they nor the registers say. -/
theorem State.replaceTpos_keeps {γ : Type} (π : State → γ) (place : ∀ (a : State) tpos regs rwc,
    π { a with time := { a.time with tpos := tpos }, regs := regs, rwc := rwc } = π a)
    (s : State) (k : Nat) (how : Jump) : π (s.replaceTpos k how) = π s :=
  foldl_keeps π _ _ s fun a i => by
    split
    · obtain ⟨tpos, regs, rwc, eq⟩ := a.placeTpo_frame i how
      rw [eq, place]
    · rfl

theorem State.replaceTpos_tb (s : State) (k : Nat) (how : Jump) (j : Nat) : (s.replaceTpos k how).tb j = s.tb j :=
  State.replaceTpos_keeps (·.tb j) (fun _ _ _ _ => rfl) s k how

theorem State.replaceTpos_plan (s : State) (k : Nat) (how : Jump) : (s.replaceTpos k how).plan = s.plan :=
  State.replaceTpos_keeps (·.plan) (fun _ _ _ _ => rfl) s k how

theorem State.replaceTpos_now (s : State) (k : Nat) (how : Jump) : (s.replaceTpos k how).now = s.now :=
  State.replaceTpos_keeps (·.now) (fun _ _ _ _ => rfl) s k how

theorem State.tbStopped_frame (s : State) (k : Nat) : s.tbStopped k =
    { s with plan := (s.tbStopped k).plan, regs := (s.tbStopped k).regs, rwc := (s.tbStopped k).rwc } := by
  unfold State.tbStopped
  split
  · split
    · split
      · exact State.endCommit_frame _ _ _
      · rfl
    · rfl
  · rfl

theorem State.tbStopped_waiting {s : State} {c : Commit} {k sec ns : Nat} (pending : s.plan.commit = some c)
    (waits : c.when_ = .time k sec ns) : s.tbStopped k = s.endCommit 6 0 := by
  unfold State.tbStopped
  rw [pending]
  dsimp only
  rw [waits]
  exact if_pos rfl

/-! ### A write of `TIME_TBk_CTRL` -/

section
variable (s : State) (k : Nat) (v : Word)

/-- RUN is taken: the time base runs on, starts or stops with the value that it has. -/
def State.tbRan : State :=
  (s.setRn (tbReg k 0) (v.toNat &&& (if k ≤ 1 then 9 else 1))).setTb k
    { s.tb k with run := wbit v 0, val := s.tbNow k, at_ := s.mgt, before := (s.tb k).eff }

/-- Then the set, then the step. -/
def State.tbSteered : State :=
  let s1 := s.tbRan k v
  let s2 := if wbit v 1 then s1.tbSet k else s1
  if wbit v 2 then s2.tbStep k else s2

theorem State.tbRan_tb : (s.tbRan k v).tb k =
    { s.tb k with run := wbit v 0, val := s.tbNow k, at_ := s.mgt, before := (s.tb k).eff } :=
  State.setTb_tb_same _ _ _

theorem State.tbJump_tb (x : Nat) : (s.tbJump k x).tb k =
    { s.tb k with val := x % tbMod, at_ := s.mgt, before := (s.tb k).eff } := State.setTb_tb_same _ _ _

theorem State.tbSteered_run : ((s.tbSteered k v).tb k).run = wbit v 0 := by
  have ran : ((s.tbRan k v).tb k).run = wbit v 0 := congrArg TimeBase.run (s.tbRan_tb k v)
  have jumped (a : State) (x : Nat) : ((a.tbJump k x).tb k).run = (a.tb k).run :=
    (congrArg TimeBase.run (a.tbJump_tb k x)).trans rfl
  unfold State.tbSteered State.tbSet State.tbStep
  dsimp only
  split
  · split
    · rw [jumped, jumped, ran]
    · rw [jumped, ran]
  · split
    · rw [jumped, ran]
    · exact ran

/-- The time base has the value of the steering; a stop may have ended the commit that waits for it. -/
theorem State.tbCtrlWrite_cases : ∃ t : State,
    (∀ j, t.tb j = (s.tbSteered k v).tb j) ∧ t.plan = s.plan ∧ t.now = s.now ∧
    s.tbCtrlWrite k v = if (s.tb k).run ∧ ¬ wbit v 0 then t.tbStopped k else t := by
  have plan : (s.tbSteered k v).plan = s.plan := by
    unfold State.tbSteered State.tbSet State.tbStep; dsimp only; (repeat' split) <;> rfl
  have now : (s.tbSteered k v).now = s.now := by
    unfold State.tbSteered State.tbSet State.tbStep; dsimp only; (repeat' split) <;> rfl
  by_cases same : wbit v 0 = (s.tb k).run ∧ ¬ wbit v 1 ∧ ¬ wbit v 2
  · refine ⟨s.tbSteered k v, fun _ => rfl, plan, now, ?_⟩
    unfold State.tbCtrlWrite
    dsimp only
    rw [if_pos same]
    rfl
  · refine ⟨(s.tbSteered k v).replaceTpos k
        (if (wbit v 0 ∧ ¬ (s.tb k).run) ∨ s.tbNow k < (s.tbSteered k v).tbNow k then .forward else .back),
      fun j => State.replaceTpos_tb _ _ _ j, (State.replaceTpos_plan _ _ _).trans plan,
      (State.replaceTpos_now _ _ _).trans now, ?_⟩
    unfold State.tbCtrlWrite
    dsimp only
    rw [if_neg same]
    rfl

theorem State.tbCtrlWrite_tb (j : Nat) : (s.tbCtrlWrite k v).tb j = (s.tbSteered k v).tb j := by
  obtain ⟨t, tb, -, -, eq⟩ := s.tbCtrlWrite_cases k v
  rw [eq, ← tb]
  split
  · rw [State.tbStopped_frame]; rfl
  · rfl

theorem State.tbCtrlWrite_now : (s.tbCtrlWrite k v).now = s.now := by
  obtain ⟨t, -, -, now, eq⟩ := s.tbCtrlWrite_cases k v
  rw [eq, ← now]
  split
  · rw [State.tbStopped_frame]
  · rfl

end

/-! ### The value after the write -/

section
variable {s : State} {k : Nat} {v : Word}

/-- RUN alone keeps the value. -/
theorem State.tbSteered_kept (noSet : wbit v 1 = false) (noStep : wbit v 2 = false) :
    ((s.tbSteered k v).tb k).at s.mgt % tbMod = s.tbNow k % tbMod := by
  unfold State.tbSteered
  rw [noSet, noStep]
  exact (congrArg (fun b : TimeBase => b.at s.mgt % tbMod) (s.tbRan_tb k v)).trans (TimeBase.at_start _)

theorem State.tbJump_at (s : State) (k x : Nat) : ((s.tbJump k x).tb k).at s.mgt % tbMod = x % tbMod := by
  rw [State.tbJump_tb]
  exact (TimeBase.at_start _).trans (Nat.mod_mod _ _)

/-- SET_GO without STEP_GO gives the value of the SET registers. -/
theorem State.tbSteered_set (set_ : wbit v 1 = true) (noStep : wbit v 2 = false) :
    ((s.tbSteered k v).tb k).at s.mgt % tbMod = tbOf (field (s.rn (tbReg k 0x28)) 0 16 * 2 ^ 32 + s.rn (tbReg k 0x2C))
      (field (s.rn (tbReg k 0x30)) 0 30) 0 % tbMod := by
  have other (off : Nat) (h : off ≠ 0) : (s.tbRan k v).rn (tbReg k off) = s.rn (tbReg k off) :=
    congrArg BitVec.toNat (State.setReg_reg_other s _ (by simp only [tbReg]; omega))
  unfold State.tbSteered State.tbSet
  rw [set_, noStep, ← other 0x28 (by decide), ← other 0x2C (by decide), ← other 0x30 (by decide)]
  exact State.tbJump_at (s.tbRan k v) k _

/-- STEP_GO without SET_GO adds the signed step to the value. -/
theorem State.tbSteered_step (noSet : wbit v 1 = false) (step : wbit v 2 = true) :
    ((((s.tbSteered k v).tb k).at s.mgt : Nat) : Int) % (tbMod : Int) = ((s.tbNow k : Int) +
      sext (s.rn (tbReg k 0x20)) 32 * (secUnit : Int) + sext (s.rn (tbReg k 0x24)) 32 * (nsUnit : Int)) %
        (tbMod : Int) := by
  have other (off : Nat) (h : off ≠ 0) : (s.tbRan k v).rn (tbReg k off) = s.rn (tbReg k off) :=
    congrArg BitVec.toNat (State.setReg_reg_other s _ (by simp only [tbReg]; omega))
  have kept : (s.tbRan k v).tbNow k % tbMod = s.tbNow k % tbMod :=
    (congrArg (fun b : TimeBase => b.at s.mgt % tbMod) (s.tbRan_tb k v)).trans (TimeBase.at_start _)
  have positive : (tbMod : Int) ≠ 0 := by decide
  have steered : s.tbSteered k v = (s.tbRan k v).tbJump k ((((s.tbRan k v).tbNow k : Int) +
      (sext (s.rn (tbReg k 0x20)) 32 * (secUnit : Int) + sext (s.rn (tbReg k 0x24)) 32 * (nsUnit : Int))) %
        (tbMod : Int)).toNat := by
    rw [← other 0x20 (by decide), ← other 0x24 (by decide), State.tbSteered, noSet, step]
    rfl
  rw [steered, add_assoc]
  generalize sext (s.rn (tbReg k 0x20)) 32 * (secUnit : Int) + sext (s.rn (tbReg k 0x24)) 32 * (nsUnit : Int) = d
  calc _ = (((((s.tbRan k v).tbNow k : Int) + d) % (tbMod : Int)).toNat : Int) % (tbMod : Int) :=
        congrArg Nat.cast (State.tbJump_at (s.tbRan k v) k _)
    _ = ((s.tbRan k v).tbNow k + d) % (tbMod : Int) := by
        rw [Int.toNat_of_nonneg (Int.emod_nonneg _ positive), Int.emod_emod]
    _ = ((s.tbNow k : Int) + d) % (tbMod : Int) := by
        rw [← Int.emod_add_emod, ← Int.natCast_emod, kept, Int.natCast_emod, Int.emod_add_emod]

end

/-! ### A write of `TIME_TBk_INC_LO` -/

section
variable (s : State) (k : Nat) (v : Word)

theorem State.tbLine_tb (n inc : Nat) : (s.tbLine k n inc).tb k =
    { s.tb k with val := (s.tb k).at n, at_ := n, before := (s.tb k).eff, inc := inc, eff := s.clk.effInc inc } :=
  State.setTb_tb_same _ _ _

/-- The increment of one time base leaves every other time base. -/
theorem State.tbIncUse_tb_other {j : Nat} (h : k ≠ j) : (s.tbIncUse j).tb k = s.tb k := by
  have restarted (inc : Nat) : (if inc = (s.tb j).inc then s else s.tbLine j s.mgt inc).tb k = s.tb k := by
    split
    · rfl
    · exact State.setTb_tb_other _ _ h
  exact restarted _

/-- An increment within the bounds is programmed, and the value goes on from the present one. -/
theorem State.tbIncWrite_taken (ok : incOk (s.rn (tbReg k 0x18) * nsUnit + v.toNat) = true) :
    ((s.tbIncWrite k v).tb k).prog = s.rn (tbReg k 0x18) * nsUnit + v.toNat ∧
    ((s.tbIncWrite k v).tb k).at s.mgt % tbMod = s.tbNow k % tbMod := by
  unfold State.tbIncWrite
  rw [if_neg (not_not.2 ok)]
  generalize s.rn (tbReg k 0x18) * nsUnit + v.toNat = inc
  have programmed (a : State) : (a.setTb k { s.tb k with prog := inc }).tb k = { s.tb k with prog := inc } :=
    State.setTb_tb_same _ _ _
  dsimp only
  split
  · have other : k ≠ 1 - k := by omega
    rw [State.replaceTpos_tb, State.tbIncUse_tb_other _ _ other, State.tbLine_tb, programmed]
    exact ⟨rfl, TimeBase.at_start _⟩
  · rw [programmed]
    exact ⟨rfl, rfl⟩

/-- One outside them is refused, and the registers show the increment in force. -/
theorem State.tbIncWrite_refused (bad : incOk (s.rn (tbReg k 0x18) * nsUnit + v.toNat) = false) :
    ∃ e, s.tbIncWrite k v = (((s.setRn (tbReg k 0x18) ((s.tb k).prog / nsUnit)).setRn (tbReg k 0x1C)
      ((s.tb k).prog % nsUnit)).setInt A.TIME_INT_STATUS 10).raise e := by
  unfold State.tbIncWrite
  rw [if_pos (Bool.not_eq_true _ ▸ bad)]
  exact ⟨_, rfl⟩

end

/-! ### The two registers -/

/-- The RW bits of `TIME_TBk_CTRL`: RUN, and FOLLOW in time bases 0 and 1 (R253, R264). -/
theorem homeMask_TIME_TB_CTRL (k : Fin 4) : homeMask (tbReg k 0) = (if k.val ≤ 1 then 9 else 1 : Word).toNat := by
  revert k; decide

theorem act_poke_TIME_TB_CTRL {s : State} (run : s.released = true) (who : Who) (k : Fin 4) (w : Word) :
    act s (s.poke who (tbReg k 0) w) =
      .next (((s.tbCtrlWrite k (s.standing who (tbReg k 0) w)).rigFlush).wroteBy s who (tbReg k 0)).fin := by
  rw [act_run _ run, State.poke_TIME_TB_CTRL]

/-- What the end of the command leaves of a state: its time bases and its instant. -/
theorem State.flushed_tb (t s : State) (who : Who) (a j : Nat) : ((t.rigFlush.wroteBy s who a).fin).tb j = t.tb j :=
  State.tb_of_time (by rw [State.fin_time, State.wroteBy_frame]; exact (State.rigFrame_rigFlush t).time) j

theorem State.flushed_now (t s : State) (who : Who) (a : Nat) : (t.rigFlush.wroteBy s who a).fin.now = t.now := by
  rw [State.fin_now, State.wroteBy_frame]
  exact (State.rigFrame_rigFlush t).now

theorem State.flushed_reg (t s : State) (who : Who) {a b : Nat} (h : b ≠ A.PLAN_INT_STATUS) :
    (t.rigFlush.wroteBy s who a).fin.reg b = t.reg b := by
  rw [State.fin_reg, State.wroteBy_reg]
  exact (State.rigFrame_rigFlush t).reg b h

/-- The increment registers are apart from the interrupt registers that a write of theirs can set. -/
theorem incRegs_apart : ∀ k : Fin 4, ∀ a ∈ [A.TIME_INT_STATUS, A.PLAN_INT_STATUS],
    tbReg k 0x18 ≠ a ∧ tbReg k 0x1C ≠ a := by decide

/-- The registers after a refused increment: those of the increment in force, and INC_REFUSED. -/
theorem State.tbIncWrite_shows {s : State} {k : Fin 4} {v : Word}
    (bad : incOk (s.rn (tbReg k 0x18) * nsUnit + v.toNat) = false) :
    (∀ j, (s.tbIncWrite k v).tb j = s.tb j) ∧
    (s.tbIncWrite k v).rn (tbReg k 0x18) = (s.tb k).prog / nsUnit % 2 ^ 32 ∧
    (s.tbIncWrite k v).rn (tbReg k 0x1C) = (s.tb k).prog % nsUnit ∧
    (s.tbIncWrite k v).rb A.TIME_INT_STATUS 10 = true := by
  obtain ⟨e, eq⟩ := State.tbIncWrite_refused s k v bad
  obtain ⟨hi, lo⟩ := incRegs_apart k A.TIME_INT_STATUS (by decide)
  have unit : nsUnit = 2 ^ 32 := rfl
  have hiLo : tbReg k 0x18 ≠ tbReg k 0x1C := by simp [tbReg]
  rw [eq]
  refine ⟨State.tb_of_time rfl, ?_, ?_, ?_⟩
  · rw [State.rn_eq, State.raise_reg, State.setInt_reg_other _ _ hi, State.setRn_eq, State.setReg_reg_other _ _ hiLo,
      State.setRn_eq, State.setReg_reg_same, mkWord, BitVec.toNat_ofNat]
  · rw [State.rn_eq, State.raise_reg, State.setInt_reg_other _ _ lo, State.setRn_eq, State.setReg_reg_same, mkWord,
      BitVec.toNat_ofNat, unit, Nat.mod_mod]
  · rw [State.rb_eq, State.raise_reg, ← State.rb_eq]
    exact State.setInt_rb_same _ _ (by decide)

theorem timeBasesAreSteered : Claims.TimeBasesAreWritten := by
  intro s who k w run v
  have bits (i : Nat) (h : (if k.val ≤ 1 then 9 else 1 : Word).toNat.testBit i = false) : wbit v i = wbit w i :=
    State.wbit_standing (homeMask_TIME_TB_CTRL k) h s who w
  have set_ : wbit v 1 = wbit w 1 := bits 1 (by split <;> decide)
  have step : wbit v 2 = wbit w 2 := bits 2 (by split <;> decide)
  have forced (i : Nat) (h : mkWord (2 ^ i) &&& ~~~(if k.val ≤ 1 then 9 else 1 : Word) = mkWord (2 ^ i)) :=
    act_poke_TIME_TB_CTRL run who k (force w i) |>.trans (by rw [State.standing_force (homeMask_TIME_TB_CTRL k) h])
  refine ⟨⟨_, act_poke_TIME_TB_CTRL run who k w, fun noSet noStep => ?_⟩,
    ⟨_, forced 1 (by split <;> decide), ?_, fun noStep => ?_⟩,
    ⟨_, forced 2 (by split <;> decide), ?_, fun noSet => ?_⟩, fun ok => ?_, fun bad => ?_⟩
  · rw [State.flushed_tb, State.flushed_now, State.tbCtrlWrite_tb, State.tbCtrlWrite_now]
    exact ⟨State.tbSteered_run _ _ _, State.tbSteered_kept (set_.trans noSet) (step.trans noStep), rfl⟩
  · rw [State.flushed_tb, State.tbCtrlWrite_tb, State.tbSteered_run, wbit_force_other v (by decide) (by decide)]
  · rw [State.flushed_tb, State.tbCtrlWrite_tb]
    exact State.tbSteered_set (wbit_force_same v (by decide))
      ((wbit_force_other v (by decide) (by decide)).trans (step.trans noStep))
  · rw [State.flushed_tb, State.tbCtrlWrite_tb, State.tbSteered_run, wbit_force_other v (by decide) (by decide)]
  · rw [State.flushed_tb, State.tbCtrlWrite_tb]
    exact State.tbSteered_step ((wbit_force_other v (by decide) (by decide)).trans (set_.trans noSet))
      (wbit_force_same v (by decide))
  · refine ⟨_, (act_run _ run).trans (by rw [State.poke_TIME_TB_INC_LO]), ?_⟩
    dsimp only
    rw [State.flushed_tb]
    exact State.tbIncWrite_taken s k _ ok
  · refine ⟨_, (act_run _ run).trans (by rw [State.poke_TIME_TB_INC_LO]), ?_⟩
    obtain ⟨tb, hi, lo, refused⟩ := State.tbIncWrite_shows bad
    obtain ⟨hi', lo'⟩ := incRegs_apart k A.PLAN_INT_STATUS (by decide)
    rw [State.flushed_tb, State.rn_eq, State.rn_eq, State.rb_eq, State.flushed_reg _ _ _ hi', State.flushed_reg _ _ _ lo',
      State.flushed_reg _ _ _ (by decide)]
    exact ⟨tb k, hi, lo, refused⟩

theorem stoppedTimeBaseEndsCommit : Claims.StoppedTimeBaseEndsCommit := by
  intro s who k w c sec ns run pending waits runs stop
  refine ⟨_, act_poke_TIME_TB_CTRL run who k w, ?_⟩
  obtain ⟨t, -, plan, -, eq⟩ := s.tbCtrlWrite_cases k (s.standing who (tbReg k 0) w)
  rw [if_pos ⟨runs, Bool.eq_false_iff.1 stop⟩, State.tbStopped_waiting (plan ▸ pending) waits] at eq
  rw [State.fin_plan, State.wroteBy_plan, State.fin_rb, State.wroteBy_rb, (State.rigFrame_rigFlush _).rb 3 (by decide),
    (State.rigFrame_rigFlush _).plan, eq, State.endCommit_plan _ _ (plan ▸ pending),
    State.endCommit_rb _ _ (plan ▸ pending) (.inr (.inr (.inr rfl)))]
  exact ⟨rfl, rfl, rfl⟩

/-- Settles O29: a write of the control register gives the time base the value of `State.tbSteered`, one of the increment
is taken or refused as `State.tbIncWrite_taken` and `State.tbIncWrite_shows` say, and a stop ends the commit that waits. -/
theorem timeBasesAreWritten : Obligations.TimeBasesAreWritten := ⟨timeBasesAreSteered, stoppedTimeBaseEndsCommit⟩

end Sys2Proof.Machine
end

section
/-!
PROOFS. Region locks, overrides, the identity key and attestation (R121, R225, R415, R423, R428, R429): O60.
-/

namespace Sys2Proof.Machine

/-! ### The writer's turn and the order of R290 leave the vault and the seals -/

section
variable (s : State) (who : Who) (a : Nat)

theorem State.turn_vlt : (s.turn who a).vlt = s.vlt := by rw [State.turn_frame]
theorem State.turn_seals : (s.turn who a).seals = s.seals := by rw [State.turn_frame]
theorem State.turn_sys : (s.turn who a).sys = s.sys := by rw [State.turn_frame]
theorem State.turn_rb (b i : Nat) : (s.turn who a).rb b i = s.rb b i := by rw [State.turn_frame]; rfl
theorem State.markWriter_vlt : (s.markWriter who a).vlt = s.vlt := by rw [State.markWriter_frame]

end

/-! ### Locks and shadow overrides (R415, R423) -/

/-- R423: a shadow row may be overridden. -/
def State.mayOverride (s : State) : Prop :=
  (s.vlt.vendor = .blank ∨ s.vlt.vendor = .open_) ∧ s.rb A.VLT_OVR_CTRL 0 = true ∧
    s.sys.mode = .standby ∧ s.sys.permit = true

/-- The state after an override of one half of a row. -/
def State.overriddenHalf (s : State) (k : Nat) (w : Word) : State :=
  let x := setField (s.vlt.row (k / 2)) (if k % 2 = 1 then 32 else 0) 32 w.toNat
  { s with vlt := { s.vlt with shadow := sput (fun _ => 0) s.vlt.shadow (k / 2) x, overridden := true } }

section
variable {s : State} {k : Nat} (who : Who) (w : Word)

/-- Word `k` of the shadow is half `k % 2` of row `k / 2`. -/
theorem shadowWord (k : Nat) : (A.VLT_SHADOW + 4 * k - A.VLT_SHADOW) / 8 = k / 2 ∧
    ((A.VLT_SHADOW + 4 * k) % 8 = 4 ↔ k % 2 = 1) := by
  have base : A.VLT_SHADOW % 8 = 0 := by decide
  omega

theorem State.shadowWrite_taken (below : k < 120) (may : s.mayOverride) :
    s.shadowWrite who (A.VLT_SHADOW + 4 * k) w = s.overriddenHalf k w := by
  obtain ⟨open_, enabled, standby, permit⟩ := may
  obtain ⟨row, half⟩ := shadowWord k
  have below' : k / 2 < 60 := by omega
  simp only [State.shadowWrite, State.overriddenHalf, row, half]
  rw [if_pos ⟨below', decide_eq_true open_, enabled, standby, permit⟩]

theorem State.shadowWrite_ignored (refused : ¬ (k < 120 ∧ s.mayOverride)) :
    s.shadowWrite who (A.VLT_SHADOW + 4 * k) w = s.ignored clsVLT who (A.VLT_SHADOW + 4 * k) := by
  obtain ⟨row, half⟩ := shadowWord k
  simp only [State.shadowWrite, row]
  rw [if_neg]
  rintro ⟨below, open_, enabled, standby, permit⟩
  exact refused ⟨by omega, of_decide_eq_true open_, enabled, standby, permit⟩

end

theorem locksAndOverrides : Claims.LocksAndOverrides := by
  intro s who w k run below may
  have word (t : State) : exec (.shadowOverrideWrite who k w) t =
      act t (t.poke who (A.VLT_SHADOW + 4 * k) w) :=
    congrArg (fun n => act t (t.poke who (A.VLT_SHADOW + 4 * n) w)) (Nat.mod_eq_of_lt below)
  have poke := State.poke_VLT_SHADOW s who ⟨k, below⟩ w
  have asked : may ↔ k < 120 ∧ (s.turn who (A.VLT_SHADOW + 4 * k)).mayOverride := by
    rw [State.mayOverride, State.turn_vlt, State.turn_sys, State.turn_rb]
  refine ⟨(act_run _ run).trans (by rw [State.poke_VLT_LOCK_SET, if_pos rfl]),
    fun notHost => ⟨_, (act_run _ run).trans (by rw [State.poke_VLT_LOCK_SET, if_neg notHost]), ?_⟩,
    fun h => ⟨_, (word s).trans ((act_run _ run).trans (by rw [poke])), ?_⟩,
    fun h => (word s).trans ((act_run _ run).trans ?_)⟩
  · dsimp only
    rw [State.fin_vlt, State.markWriter_vlt, State.vaultLockSet, State.turn_vlt]
  · obtain ⟨low, may⟩ := asked.1 h
    dsimp only
    rw [State.fin_vlt, State.markWriter_vlt, State.shadowWrite_taken who w low may, State.overriddenHalf, State.turn_vlt]
    exact ⟨sget_sput_same _ _ _ _, rfl, rfl, fun r other => sget_sput_other _ _ _ other⟩
  · rw [poke]
    dsimp only
    rw [State.shadowWrite_ignored who w (mt asked.2 h)]

/-! ### The identity key (R428) -/

section
variable (s : State) (who : Who) (w : Word)

theorem Vlt.unwrapped_of_idkFault {v : Vlt} {b : List Byte} (h : v.idkFault b = 0) :
    v.unwrapped b = some ((v.unwrapped b).getD {}) := by
  cases unwrapped : v.unwrapped b with
  | some key => rfl
  | none =>
    unfold Vlt.idkFault at h
    extract_lets word modulus digest at h
    split at h
    · cases h
    split at h
    · cases h
    rw [unwrapped] at h
    cases h

/-- A write of `SEC_CTRL` loads the key, where firmware asks for it, and then takes a report. -/
def State.idkAsked : State :=
  if ¬ wbit w 0 then s else if who = .host then s.denied clsSEC who A.SEC_CTRL else s.idkLoad

theorem State.secCtrlWrite_eq : s.secCtrlWrite who w =
    if wbit w 1 then (s.idkAsked who w).attGo who else s.idkAsked who w := rfl

theorem State.attGo_idk : (s.attGo who).vlt.idkBusy = s.vlt.idkBusy ∧ (s.attGo who).vlt.idkAvail = s.vlt.idkAvail := by
  unfold State.attGo
  split <;> exact ⟨rfl, rfl⟩

theorem State.idkLoad_vlt : s.idkLoad.vlt = { s.vlt with
    idkBusy := if s.vlt.idkAvail = true ∨ s.vlt.idkCause ≠ 0 then s.vlt.idkBusy else true } := by
  unfold State.idkLoad
  split <;> rfl

end

/-- Firmware's IDK_LOAD starts the unwrap once. -/
theorem State.secCtrlWrite_idk (s : State) {who : Who} (w : Word) (notHost : who ≠ .host) :
    (s.secCtrlWrite who (force w 0)).vlt.idkBusy =
      (if s.vlt.idkAvail = true ∨ s.vlt.idkCause ≠ 0 then s.vlt.idkBusy else true) ∧
    (s.secCtrlWrite who (force w 0)).vlt.idkAvail = s.vlt.idkAvail := by
  have asked : s.idkAsked who (force w 0) = s.idkLoad := by
    rw [State.idkAsked, wbit_force_same w (by decide), if_neg (not_not.2 rfl), if_neg notHost]
  obtain ⟨busy, avail⟩ := State.attGo_idk s.idkLoad who
  rw [State.secCtrlWrite_eq, asked]
  split
  · rw [busy, avail, State.idkLoad_vlt]
    exact ⟨rfl, rfl⟩
  · rw [State.idkLoad_vlt]
    exact ⟨rfl, rfl⟩

theorem State.secCtrlWrite_host (s : State) {w : Word} (noAtt : wbit w 1 = false) :
    s.secCtrlWrite .host (force w 0) = s.denied clsSEC .host A.SEC_CTRL := by
  rw [State.secCtrlWrite_eq, wbit_force_other w (by decide) (by decide), noAtt, State.idkAsked,
    wbit_force_same w (by decide), if_neg (not_not.2 rfl), if_pos rfl]
  rfl

theorem identityKeyIsLoaded : Claims.IdentityKeyIsLoaded := by
  intro s who w run blob c
  refine ⟨fun notHost => ⟨_, (act_run _ run).trans (by rw [State.poke_SEC_CTRL]), ?_⟩,
    fun noAtt => (act_run _ run).trans (by rw [State.poke_SEC_CTRL, State.secCtrlWrite_host _ noAtt]),
    fun busy => ⟨_, act_run _ run, ?_⟩, fun bad => if_pos bad⟩
  · have loaded := State.secCtrlWrite_idk (s.turn who A.SEC_CTRL) w notHost
    rw [State.turn_vlt] at loaded
    dsimp only
    rw [State.fin_vlt, State.markWriter_vlt]
    exact loaded
  · dsimp only
    rw [State.fin_vlt, State.fin_seals, State.fin_rb, State.fin_rb, State.idkDone, if_neg (not_not.2 busy)]
    by_cases good : c = 0
    · rw [if_pos good, if_pos good]
      exact ⟨rfl, rfl, Vlt.unwrapped_of_idkFault good, rfl, State.setInt_rb_same _ _ (by decide)⟩
    · rw [if_neg good, if_neg good]
      exact ⟨rfl, rfl, rfl, State.setInt_rb_same _ _ (by decide)⟩

/-! ### Attestation (R429) -/

section
variable (s : State) (who : Who) (w : Word)

/-- What a denied write notes is not in the report. -/
theorem State.denied_report (cls a : Nat) : (s.denied cls who a).report = s.report := by
  have nonce : (List.range 8).flatMap (fun i => leBytes ((s.denied cls who a).rn (A.SEC_ATT_NONCE + 4 * i)) 4) =
      (List.range 8).flatMap (fun i => leBytes (s.rn (A.SEC_ATT_NONCE + 4 * i)) 4) :=
    List.flatMap_congr fun i _ => by
      have other : A.SEC_ATT_NONCE + 4 * i ≠ A.SYS_INT_STATUS := by
        have : A.SYS_INT_STATUS < A.SEC_ATT_NONCE := by decide
        omega
      rw [State.rn_eq, State.denied, State.ignored_eq, State.raise_reg, State.portError, State.setInt_reg_other _ _ other]
      rfl
  unfold State.report
  rw [nonce]
  rfl

/-- Nor is the state of the identity key. -/
theorem State.idkAsked_keeps : (s.idkAsked who w).report = s.report ∧ (s.idkAsked who w).vlt.att = s.vlt.att ∧
    (s.idkAsked who w).seals = s.seals ∧ (s.idkAsked who w).verifying = s.verifying := by
  unfold State.idkAsked
  split
  · exact ⟨rfl, rfl, rfl, rfl⟩
  split
  · exact ⟨State.denied_report _ _ _ _, rfl, rfl, rfl⟩
  · unfold State.idkLoad
    split <;> exact ⟨rfl, rfl, rfl, rfl⟩

/-- ATT_GO takes the report of now when none is pending. -/
theorem State.secCtrlWrite_att : (s.secCtrlWrite who (force w 1)).vlt.att =
    if s.vlt.att.isSome then s.vlt.att
    else some { bytes := s.report, behind := s.seals.queue.map (fun x => (x.id, x.segment)), check := s.verifying } := by
  obtain ⟨report, att, seals, verifying⟩ := s.idkAsked_keeps who (force w 1)
  rw [State.secCtrlWrite_eq, wbit_force_same w (by decide), if_pos rfl, State.attGo, att]
  split
  · exact att
  · rw [← report, ← seals, ← verifying]

end

theorem State.attWrite_attSig (s : State) (r : Report) (result : Nat) (sig : List Byte) :
    (s.attWrite r result sig).vlt.attSig = sig := rfl

/-! The report is served when nothing queued before it is left. -/

section
variable {s : State} {r : Report} (taken : s.vlt.att = some r)
include taken

theorem State.attDone_held (bad : Bool) (waits : s.attBehind r = true ∨ r.check = true) : s.attDone bad = s := by
  unfold State.attDone
  rw [taken]
  exact if_pos waits

variable (free : s.attBehind r = false) (checked : r.check = false)
include free checked

theorem State.attDone_unsigned (bad : Bool) (noKey : s.vlt.idkAvail = false) :
    s.attDone bad = s.attWrite r 2 (List.replicate 384 0) := by
  unfold State.attDone
  rw [taken]
  dsimp only
  rw [free, checked, noKey]
  rfl

theorem State.attDone_fault (key : s.vlt.idkAvail = true) :
    s.attDone true = (s.attWrite r 3 (List.replicate 384 0)).faultEv clsSEC 0x8F 0 0 := by
  unfold State.attDone
  rw [taken]
  dsimp only
  rw [free, checked, key]
  rfl

theorem State.attDone_signed (key : s.vlt.idkAvail = true) :
    s.attDone false = s.draw.2.attWrite r 1 (s.vlt.idk.sign r.bytes s.draw.1) := by
  unfold State.attDone
  rw [taken]
  dsimp only
  rw [free, checked, key]
  rfl

/-- However it ends, the report is written. -/
theorem State.attDone_writes (bad : Bool) : ∃ (t : State) (result : Nat) (sig : List Byte),
    t.vlt = s.vlt ∧ (s.attDone bad).vlt = (t.attWrite r result sig).vlt ∧
    ∀ a i, (s.attDone bad).rb a i = (t.attWrite r result sig).rb a i := by
  cases key : s.vlt.idkAvail
  · exact ⟨s, _, _, rfl, by rw [State.attDone_unsigned taken free checked bad key],
      fun _ _ => by rw [State.attDone_unsigned taken free checked bad key]⟩
  · cases bad
    · exact ⟨s.draw.2, _, _, rfl, by rw [State.attDone_signed taken free checked key],
        fun _ _ => by rw [State.attDone_signed taken free checked key]⟩
    · exact ⟨s, _, _, rfl, by rw [State.attDone_fault taken free checked key]; rfl,
        fun _ _ => by rw [State.attDone_fault taken free checked key]; rfl⟩

end

/-- The RW bits of `SEC_SEAL_CTRL` (R225). -/
theorem homeMask_SEC_SEAL_CTRL : homeMask A.SEC_SEAL_CTRL = (0x1FF01 : Word).toNat := by decide

/-- CLOSE_GO ends the segments of the open chains. -/
theorem State.sealCtrlWrite_close (s : State) {v : Word} (close : wbit v 1 = true) :
    (s.sealCtrlWrite v).seals.main =
      (if s.seals.main.open_ then { s.seals.main with endSeg := true } else s.seals.main) ∧
    (s.sealCtrlWrite v).seals.twin =
      (if s.seals.twin.open_ then { s.seals.twin with endSeg := true } else s.seals.twin) := by
  unfold State.sealCtrlWrite
  dsimp only
  rw [if_pos close]
  exact ⟨rfl, rfl⟩

theorem attestationReports : Claims.AttestationReports := by
  intro s who w run
  have asked := State.secCtrlWrite_att (s.turn who A.SEC_CTRL) who w
  rw [State.turn_vlt, State.turn_seals] at asked
  refine ⟨fun none_ => ⟨_, (act_run _ run).trans (by rw [State.poke_SEC_CTRL]), ?_⟩,
    fun some_ => ⟨_, (act_run _ run).trans (by rw [State.poke_SEC_CTRL]), ?_⟩,
    fun r bad taken => ⟨fun waits => ⟨_, act_run _ run, ?_⟩, fun free checked => ⟨⟨_, act_run _ run, ?_⟩,
      fun noKey => ⟨_, act_run _ run, ?_⟩, fun key bad_ => ⟨_, act_run _ run, ?_⟩,
      fun key good => ⟨_, act_run _ run, ?_⟩⟩⟩,
    ⟨_, (act_run _ run).trans (by rw [State.poke_SEC_SEAL_CTRL]), ?_⟩⟩ <;> dsimp only
  · rw [State.fin_vlt, State.markWriter_vlt, asked, none_]
    refine ⟨_, rfl, rfl, rfl, ?_⟩
    rw [State.turn_frame]
    rfl
  · rw [State.fin_vlt, State.markWriter_vlt, asked, if_pos (Option.isSome_iff_ne_none.2 some_)]
  · rw [State.attDone_held taken bad waits, State.fin_vlt]
  · obtain ⟨t, result, sig, vlt, written, rb⟩ := State.attDone_writes taken free checked bad
    rw [State.fin_vlt, State.fin_rb, rb, written, ← vlt]
    exact ⟨rfl, rfl, rfl, rfl, State.setInt_rb_same _ _ (by decide)⟩
  · rw [State.fin_vlt, State.attDone_unsigned taken free checked bad noKey]
    exact ⟨rfl, rfl⟩
  · rw [State.fin_vlt, bad_, State.attDone_fault taken free checked key]
    exact ⟨rfl, rfl⟩
  · rw [State.fin_vlt, good, State.attDone_signed taken free checked key]
    exact ⟨rfl, _, State.attWrite_attSig _ _ _ _⟩
  · rw [State.fin_seals, State.wroteBy_frame]
    exact State.sealCtrlWrite_close s (by
      rw [State.standing_force homeMask_SEC_SEAL_CTRL (by decide), wbit_force_same _ (by decide)])

/-- Settles O60: locks and overrides by `State.shadowWrite_taken` and `State.shadowWrite_ignored`, the key by
`State.secCtrlWrite_idk`, reports by `State.secCtrlWrite_att` and the ends of `State.attDone`. -/
theorem locksKeyAndAttestation : Obligations.LocksKeyAndAttestation :=
  ⟨locksAndOverrides, identityKeyIsLoaded, attestationReports⟩

end Sys2Proof.Machine
end

section
/-!
PROOFS. A control message that a device hears, and the messages of rig commits at the originator and at the target
(R136, R137, R235, R237).
-/

namespace Sys2Proof.Machine

/-! ### A control message reaches its handler -/

/-- The receipt of a frame has changed the fabric, and counters of its registers, and nothing else. -/
def State.Heard (s t : State) : Prop := t = { s with fab := t.fab, regs := t.regs, rwc := t.rwc }

theorem State.Heard.trans {s t u : State} (first : s.Heard t) (second : t.Heard u) : s.Heard u := by
  unfold State.Heard at first second ⊢
  rw [first] at second
  exact second

theorem fb_one_lt (b : List Byte) (o : Nat) : fb b o 1 < 256 := by
  unfold fb ofBE
  match b.drop o with
  | [] => decide
  | x :: _ => exact x.isLt

theorem testBit_maskLess (a b i : Nat) : (maskLess a b).testBit i = (a.testBit i && !b.testBit i) := by
  induction i generalizing a b with
  | zero =>
    have both := @Nat.and_mod_two_eq_one a b
    have below : a &&& b ≤ a := Nat.and_le_left
    unfold maskLess
    simp only [Nat.testBit_zero]
    grind
  | succ i ih =>
    have both := @Nat.and_mod_two_eq_one a b
    have below : a &&& b ≤ a := Nat.and_le_left
    have half : maskLess a b / 2 = maskLess (a / 2) (b / 2) := by
      unfold maskLess
      rw [← Nat.and_div_two]
      omega
    rw [Nat.testBit_succ, Nat.testBit_succ, Nat.testBit_succ, half, ih]

theorem inTransit_of_rig {b : List Byte} (h : 0x10 ≤ fb b 6 2) : inTransit b = false := by
  unfold inTransit
  split
  · omega
  · omega
  · omega
  · rfl

section
variable {s : State} {p : Nat} {b : List Byte}

theorem State.heard_setFport (x : FabPort) : s.Heard (s.setFport p x) := rfl

theorem State.setFport_mids (x : FabPort) : (s.setFport p x).fab.mids = s.fab.mids := by
  simp only [State.setFport]
  (repeat' split) <;> rfl

theorem State.setFport_tree (x : FabPort) : (s.setFport p x).fab.tree = s.fab.tree := by
  simp only [State.setFport]
  (repeat' split) <;> rfl

theorem State.enqueue_mids (t : FabTx) : (s.enqueue p t).fab.mids = s.fab.mids := by
  unfold State.enqueue
  dsimp only
  split
  · rfl
  · (repeat' split) <;> exact State.setFport_mids _

theorem State.treeTx_mids (t : FabTx) : (s.treeTx p t).fab.mids = s.fab.mids :=
  foldl_keeps (·.fab.mids) _ _ s fun a q => by
    split
    · rfl
    · exact State.enqueue_mids t

theorem State.heard_treeTx (t : FabTx) : s.Heard (s.treeTx p t) := by
  unfold State.treeTx
  generalize bitsOf s.fab.tree 3 = l
  induction l generalizing s with
  | nil => rfl
  | cons q l ih =>
    refine State.Heard.trans ?_ ih
    dsimp only
    split
    · rfl
    · rw [State.enqueue_frame]; rfl

/-- A control broadcast goes on; what the device has accepted before stays. -/
theorem State.forwardBcast_heard (control : fb b 2 1 = 1) :
    s.Heard (s.forwardBcast p b) ∧ (s.forwardBcast p b).fab.mids = s.fab.mids := by
  unfold State.forwardBcast
  split
  · exact ⟨rfl, rfl⟩
  · rw [control]
    exact ⟨State.heard_treeTx _, State.treeTx_mids _⟩

/-- A rig message that is new from its source is handled. -/
theorem State.deliver_rig (control : fb b 2 1 = 1) (rig : 0x10 ≤ fb b 6 2)
    (new : 64 ≤ fb b 1 1 ∨ s.midSeen (fb b 1 1) (fb b 12 2) = false) :
    ∃ t, s.Heard t ∧ s.deliver p b = t.control p b := by
  unfold State.deliver
  dsimp only
  rw [if_pos control, inTransit_of_rig rig]
  by_cases far : 64 ≤ fb b 1 1
  · exact ⟨s, rfl, if_pos (.inr far)⟩
  · refine ⟨s.midKeep (fb b 1 1) (fb b 12 2), rfl, ?_⟩
    rw [if_neg (by simpa using far), new.resolve_left far]
    rfl

/-- A device handles what is LOCAL, for its own address, or a broadcast from a tree port (R235). -/
theorem State.handle_rig (control : fb b 2 1 = 1) (rig : 0x10 ≤ fb b 6 2) (forUs : s.forUs p b) :
    ∃ t, s.Heard t ∧ s.handle p b = t.control p b := by
  obtain ⟨new, dst⟩ := forUs
  have new := new control
  have low := fb_one_lt b 0
  have local_ : (fb b 0 1).testBit 7 = decide (128 ≤ fb b 0 1) := by
    rw [Nat.testBit_eq_decide_div_mod_eq, decide_eq_decide]
    omega
  have bcast (short : fb b 0 1 < 128) : (fb b 0 1).testBit 6 = decide (64 ≤ fb b 0 1) := by
    rw [Nat.testBit_eq_decide_div_mod_eq, decide_eq_decide]
    omega
  unfold State.handle
  dsimp only
  rw [local_]
  by_cases isLocal : 128 ≤ fb b 0 1
  · rw [if_pos (decide_eq_true isLocal)]
    exact State.deliver_rig control rig new
  · obtain ⟨a, addr, dst⟩ := dst.resolve_left isLocal
    rw [if_neg (by simpa using isLocal), addr, bcast (by omega)]
    dsimp only
    rcases dst with ⟨own, small⟩ | ⟨big, -, tree⟩
    · rw [if_neg (by simp; omega), if_pos (by omega)]
      exact State.deliver_rig control rig new
    · rw [if_pos (decide_eq_true big), if_pos tree]
      obtain ⟨forwarded, mids⟩ := State.forwardBcast_heard (s := s) (p := p) control
      have new' : 64 ≤ fb b 1 1 ∨ (s.forwardBcast p b).midSeen (fb b 1 1) (fb b 12 2) = false := by
        rw [State.midSeen, mids]
        exact new
      obtain ⟨t, heard, eq⟩ := State.deliver_rig control rig new'
      exact ⟨t, forwarded.trans heard, eq⟩

/-- A rig message that is heard comes to `State.control` in a state that differs by the fabric alone. -/
theorem State.receive_rig {msg : Nat} (hears : s.hears p b 1 msg) (rig : 0x10 ≤ msg) (low : msg < 0x100) :
    ∃ fab regs rwc, s.receiveIf p b 1 (some msg) = { s with fab := fab, regs := regs, rwc := rwc }.control p b := by
  obtain ⟨⟨up, len, crc, length, control, isMsg, carries, fresh⟩, forUs⟩ := hears
  obtain ⟨unseen, room⟩ := fresh (.inl rfl)
  have whole : (lenOk b && crcOk b && decide (fb b 4 2 = b.length)) = true := by rw [len, crc, decide_eq_true length]; rfl
  have notMc1 : ¬ (fb b 2 1 = 1 ∧ s.forMc1 b = true ∧ s.sys.core1 = .restarting) := by
    rintro ⟨-, mc1, -⟩
    rw [State.forMc1, isMsg, decide_eq_false (by omega : ¬ 0x100 ≤ msg), Bool.and_false, Bool.false_and] at mc1
    cases mc1
  have fits : (decide (fb b 2 1 = 1) && decide (fb b 6 2 = msg)) = true := by rw [control, isMsg]; simp
  generalize seen : { (s.fport p).see 1 (fb b 8 4) with lastAck := some (true, 1, fb b 8 4) } = x
  obtain ⟨t, heard, eq⟩ := State.handle_rig (s := s.setFport p x) (p := p) control (isMsg ▸ rig) (by
    rw [State.forUs, State.midSeen, State.setFport_mids, State.setFport_addr, State.setFport_tree]
    exact forUs)
  have heard := (State.heard_setFport (s := s) (p := p) x).trans heard
  refine ⟨t.fab, t.regs, t.rwc, ?_⟩
  unfold State.Heard at heard
  rw [← heard]
  rw [← eq, ← seen]
  unfold State.receiveIf
  dsimp only
  rw [if_pos fits]
  unfold State.fabReceive
  dsimp only
  rw [if_neg (not_not.2 up), if_neg (not_not.2 whole), if_neg notMc1, if_pos (.inl control), control, unseen, room]
  unfold State.stored
  dsimp only
  rw [control]
  exact if_neg (not_not.2 carries)

end

section
variable (s : State) {p : Nat} {b : List Byte}

theorem State.control_rigCommit (msg : fb b 6 2 = 0x10) : s.control p b = s.rigCommitMsg b := by
  unfold State.control; rw [msg]; rfl

theorem State.control_rigAck (msg : fb b 6 2 = 0x11) : s.control p b = s.rigAck (fb b 1 1 % 64) (fb b 16 1) := by
  unfold State.control; rw [msg]; rfl

theorem State.control_rigDone (msg : fb b 6 2 = 0x12) : s.control p b = s.rigDone (fb b 1 1 % 64) (fb b 16 1) := by
  unfold State.control; rw [msg]; rfl

theorem State.control_rigCancel (msg : fb b 6 2 = 0x13) : s.control p b = s.rigCancelAt (fb b 1 1 % 64) := by
  unfold State.control; rw [msg]; rfl

end

/-! ### The masks of the originator (R137) -/

/-- `q` is `r` but for its course: whether it runs and waits, and the state it reports. -/
def Rig.SameMasks (r q : Rig) : Prop := q = { r with run := q.run, wait := q.wait, state := q.state }

section
variable (s : State)

theorem State.rigCheck_masks : s.plan.rig.SameMasks s.rigCheck.plan.rig := by
  unfold State.rigCheck
  dsimp only
  split
  · rfl
  · split
    · rfl
    · split <;> rfl

/-- A rig commit that ends has timed out, or is complete (R137). -/
theorem State.rigCheck_state (run : s.plan.rig.run = true) (ended : s.rigCheck.plan.rig.run = false) :
    s.rigCheck.plan.rig.state = if s.plan.rig.timedOut then .timeout else .complete := by
  unfold State.rigCheck at ended ⊢
  dsimp only at ended ⊢
  rw [if_neg (not_not.2 run)] at ended ⊢
  split
  · rfl
  · next more =>
    rw [if_neg more] at ended
    split at ended
    · exact absurd (run.symm.trans ended) (by decide)
    · exact absurd (run.symm.trans ended) (by decide)

/-- The rig commit after an acknowledgement, or a refusal, of target `a`. -/
def Rig.acked (r : Rig) (a result : Nat) : Rig :=
  if result = 1 then { r with ack := r.ack ||| 2 ^ a } else { r with nak := r.nak ||| 2 ^ a }

/-- The rig commit after a completion, or a failure, of target `a`. -/
def Rig.finished (r : Rig) (a result : Nat) : Rig :=
  if result = 1 then { r with done := r.done ||| 2 ^ a } else { r with fail := r.fail ||| 2 ^ a }

variable {s} {a : Nat} (result : Nat) (run : s.plan.rig.run = true) (target : s.plan.rig.targets.testBit a = true)
include run target

theorem Rig.bitOf_target : s.plan.rig.bitOf a = 2 ^ a := if_pos ⟨run, target⟩

theorem State.rigAckTake_masks (first : (s.plan.rig.ack ||| s.plan.rig.nak ||| s.plan.rig.fail).testBit a = false) :
    (s.plan.rig.acked a result).SameMasks (s.rigAckTake a result).plan.rig := by
  have new : ¬ (2 ^ a = 0 ∨ (s.plan.rig.ack ||| s.plan.rig.nak ||| s.plan.rig.fail).testBit a = true) := by
    rw [first]; simp
  unfold State.rigAckTake Rig.acked
  dsimp only
  rw [Rig.bitOf_target run target, if_neg new]
  split <;> exact State.rigCheck_masks _

theorem State.rigDoneTake_masks (acked : s.plan.rig.ack.testBit a = true)
    (first : (s.plan.rig.done ||| s.plan.rig.fail).testBit a = false) :
    (s.plan.rig.finished a result).SameMasks (s.rigDoneTake a result).plan.rig := by
  have new : ¬ (2 ^ a = 0 ∨ ¬ s.plan.rig.ack.testBit a = true ∨
      (s.plan.rig.done ||| s.plan.rig.fail).testBit a = true) := by
    rw [first, acked]; simp
  unfold State.rigDoneTake Rig.finished
  dsimp only
  rw [Rig.bitOf_target run target, if_neg new]
  split <;> exact State.rigCheck_masks _

end

/-- A timeout fails the missing targets and settles no other mask. -/
theorem State.rigLate_masks (s : State) (ack : Bool) : ∃ timedOut,
    { s.plan.rig with fail := s.plan.rig.fail ||| s.plan.rig.missing ack, timedOut := timedOut }.SameMasks
      (s.rigLate ack).plan.rig := by
  unfold State.rigLate
  dsimp only
  split
  · next none_ =>
    refine ⟨s.plan.rig.timedOut, ?_⟩
    rw [none_, Nat.or_zero]
    rfl
  · exact ⟨true, State.rigCheck_masks _⟩

/-- A timeout with targets missing is recorded. -/
theorem State.rigLate_some {s : State} {ack : Bool} (some_ : s.plan.rig.missing ack ≠ 0) : s.rigLate ack =
    { s with plan := { s.plan with rig := { s.plan.rig with
      fail := s.plan.rig.fail ||| s.plan.rig.missing ack, timedOut := true } } }.rigCheck := if_neg some_

/-! ### Answers (R9, R137) -/

theorem State.rigAnswered_now {s : State} (f : State → State)
    (now : ∀ x, s.plan.rigLapse = some x → x.at_ ≠ s.mgt) : s.rigAnswered f = f s := by
  unfold State.rigAnswered
  split
  · next x lapsed => exact if_neg (now x lapsed)
  · rfl

/-- The state in which an answer in the cycle of a timeout counts: the rig commit from before the timeout. -/
theorem State.rigAnswered_lapse {s : State} (f : State → State) {x : RigLapse} (lapsed : s.plan.rigLapse = some x)
    (cycle : x.at_ = s.mgt) : ∃ t : State, t.plan.rig = x.rig ∧
      s.rigAnswered f = ((f t).rigNote x.ack).rigLate x.ack := by
  unfold State.rigAnswered
  rw [lapsed]
  dsimp only
  rw [if_pos cycle]
  exact ⟨_, by split <;> rfl, rfl⟩

/-- What an acknowledgement leaves: the mask that took its bit, and the failures. -/
theorem Rig.acked_result {r q : Rig} {a result : Nat} (same : (r.acked a result).SameMasks q) :
    (if result = 1 then q.ack = r.ack ||| 2 ^ a else q.nak = r.nak ||| 2 ^ a) ∧ q.fail = r.fail ∧
    (q.ack ||| q.nak ||| q.fail).testBit a = true := by
  rw [Rig.SameMasks, Rig.acked] at same
  split at same
  · next good => rw [if_pos good, same]; simp
  · next bad => rw [if_neg bad, same]; simp

theorem Rig.finished_result {r q : Rig} {a result : Nat} (same : (r.finished a result).SameMasks q) :
    if result = 1 then q.done = r.done ||| 2 ^ a else q.fail = r.fail ||| 2 ^ a := by
  rw [Rig.SameMasks, Rig.finished] at same
  split at same
  · next good => rw [if_pos good, same]
  · next bad => rw [if_neg bad, same]

/-- A target that has answered is not failed by a timeout. -/
theorem Rig.missing_answered {r : Rig} {a : Nat} (answered : (r.ack ||| r.nak ||| r.fail).testBit a = true) :
    (r.missing true).testBit a = false := by
  rw [Rig.missing, if_pos rfl, testBit_maskLess, answered, Bool.not_true, Bool.and_false]

section
variable {s : State} {a result : Nat}

theorem State.rigAck_now (now : ∀ x, s.plan.rigLapse = some x → x.at_ ≠ s.mgt) (run : s.plan.rig.run = true)
    (target : s.plan.rig.targets.testBit a = true)
    (first : (s.plan.rig.ack ||| s.plan.rig.nak ||| s.plan.rig.fail).testBit a = false) :
    if result = 1 then (s.rigAck a result).plan.rig.ack = s.plan.rig.ack ||| 2 ^ a
    else (s.rigAck a result).plan.rig.nak = s.plan.rig.nak ||| 2 ^ a := by
  rw [State.rigAck, State.rigAnswered_now _ now]
  obtain ⟨taken, -, -⟩ := Rig.acked_result (State.rigAckTake_masks result run target first)
  exact taken

theorem State.rigDone_now (now : ∀ x, s.plan.rigLapse = some x → x.at_ ≠ s.mgt) (run : s.plan.rig.run = true)
    (target : s.plan.rig.targets.testBit a = true) (acked : s.plan.rig.ack.testBit a = true)
    (first : (s.plan.rig.done ||| s.plan.rig.fail).testBit a = false) :
    if result = 1 then (s.rigDone a result).plan.rig.done = s.plan.rig.done ||| 2 ^ a
    else (s.rigDone a result).plan.rig.fail = s.plan.rig.fail ||| 2 ^ a := by
  rw [State.rigDone, State.rigAnswered_now _ now]
  exact Rig.finished_result (State.rigDoneTake_masks result run target acked first)

/-- An acknowledgement in the cycle of the timeout counts, and its target is not failed (R9). -/
theorem State.rigAck_lapse {x : RigLapse} (lapsed : s.plan.rigLapse = some x) (cycle : x.at_ = s.mgt) (ack : x.ack = true)
    (run : x.rig.run = true) (target : x.rig.targets.testBit a = true)
    (first : (x.rig.ack ||| x.rig.nak ||| x.rig.fail).testBit a = false) :
    (s.rigAck a result).plan.rig.fail.testBit a = false ∧
    if result = 1 then (s.rigAck a result).plan.rig.ack = x.rig.ack ||| 2 ^ a
    else (s.rigAck a result).plan.rig.nak = x.rig.nak ||| 2 ^ a := by
  obtain ⟨t, rig, answered⟩ := State.rigAnswered_lapse (State.rigAckTake a result) lapsed cycle
  rw [← rig] at run target first ⊢
  obtain ⟨taken, fail, settled⟩ := Rig.acked_result (State.rigAckTake_masks result run target first)
  obtain ⟨timedOut, late⟩ := State.rigLate_masks ((State.rigAckTake a result t).rigNote x.ack) x.ack
  have failed : t.plan.rig.fail.testBit a = false := by
    simp only [Nat.testBit_or, Bool.or_eq_false_iff] at first
    obtain ⟨-, notFailed⟩ := first
    exact notFailed
  rw [State.rigAck, answered, late, ack]
  refine ⟨?_, taken⟩
  calc _ = ((State.rigAckTake a result t).plan.rig.fail |||
        (State.rigAckTake a result t).plan.rig.missing true).testBit a := rfl
    _ = false := by rw [Nat.testBit_or, fail, failed, Rig.missing_answered settled]; rfl

end

/-! ### The target (R136) -/

section
variable (s : State) (origin bank tb sec ns id : Nat)

/-- The target judges the commit: one of another plan is refused with cause 18. -/
def State.rigJudged : State :=
  let s0 := { s with plan := { s.plan with writer := 3, cancelLate := false } }
  if (s.plan.bank bank).idWord ≠ id then s0.commitResult 2 18
  else s0.commitRequest bank 2 tb 0 sec ns (s.seqEdge s.now) (some origin)

/-- The commit, the ledger and the banks of `q` are those of `p`. -/
def PlanBlk.SameCommit (p q : PlanBlk) : Prop := q = { p with rig := q.rig, rigLapse := q.rigLapse, rigOut := q.rigOut }

/-- The answer to the originator leaves the judgement. -/
theorem State.rigTarget_plan :
    (s.rigJudged origin bank tb sec ns id).plan.SameCommit (s.rigTarget origin bank tb sec ns id).plan := by
  have reply (t : State) (result cause : Nat) : t.plan.SameCommit (t.rigReply origin result cause).plan :=
    (State.rigFrame_rigSend _ _).plan
  unfold State.rigTarget
  extract_lets plan s0 s1 taken
  split
  · exact reply s1 _ _
  · exact reply (s1.warn clsPLAN 3 bank s1.plan.cause) _ _

theorem State.rigJudged_other (other : (s.plan.bank bank).idWord ≠ id) :
    (s.rigJudged origin bank tb sec ns id).plan =
      { s.plan with writer := 3, cancelLate := false, result := 2, cause := 18 } := by
  rw [State.rigJudged, if_pos other, State.commitResult_plan]

theorem State.rigTarget_other (other : (s.plan.bank bank).idWord ≠ id) :
    (s.rigTarget origin bank tb sec ns id).plan.writer = 3 ∧ (s.rigTarget origin bank tb sec ns id).plan.result = 2 ∧
    (s.rigTarget origin bank tb sec ns id).plan.cause = 18 ∧
    (s.rigTarget origin bank tb sec ns id).plan.commit = s.plan.commit := by
  have plan := s.rigTarget_plan origin bank tb sec ns id
  rw [s.rigJudged_other origin bank tb sec ns id other] at plan
  rw [plan]
  exact ⟨rfl, rfl, rfl, rfl⟩

variable {s bank tb sec ns id}

theorem State.rigJudged_pending (same : (s.plan.bank bank).idWord = id) (allowed : s.commitCause bank 2 tb ns = none)
    (ahead : s.tbAt tb (s.seqEdge s.now) + 64000 * nsUnit ≤ tbOf sec ns 0) :
    (s.rigJudged origin bank tb sec ns id).plan = { s.plan with
      writer := 3, cancelLate := false
      commit := some (asked bank 2 tb 0 sec ns (s.seqEdge s.now) (some origin)) } := by
  rw [State.rigJudged, if_neg (not_not.2 same)]
  generalize judged : { s with plan := { s.plan with writer := 3, cancelLate := false } } = t
  have cause : t.commitCause bank 2 tb ns = none := by rw [← judged]; exact allowed
  have notPast : ¬ t.commitPast 2 tb 0 sec ns (s.seqEdge s.now) := by
    rw [← judged]
    rintro (⟨h, -⟩ | ⟨-, early⟩)
    · exact absurd h (by decide)
    · exact absurd early (Nat.not_lt.2 ahead)
  rcases t.commitRequest_cases bank 2 tb 0 sec ns (s.seqEdge s.now) (some origin) with
    ⟨c, refused, -⟩ | ⟨-, ⟨past, -⟩ | ⟨-, eq⟩⟩
  · exact absurd (cause.symm.trans refused) nofun
  · exact absurd past notPast
  · rw [eq, ← judged]

theorem State.rigTarget_pending (same : (s.plan.bank bank).idWord = id) (allowed : s.commitCause bank 2 tb ns = none)
    (ahead : s.tbAt tb (s.seqEdge s.now) + 64000 * nsUnit ≤ tbOf sec ns 0) :
    (s.rigTarget origin bank tb sec ns id).plan.writer = 3 ∧
    ∃ c, (s.rigTarget origin bank tb sec ns id).plan.commit = some c ∧ c.bank = bank ∧ c.origin = some origin ∧
      c.when_ = .time tb sec ns := by
  have plan := s.rigTarget_plan origin bank tb sec ns id
  rw [State.rigJudged_pending origin same allowed ahead] at plan
  rw [plan]
  exact ⟨rfl, _, rfl, rfl, rfl, rfl⟩

end

/-- A cancel from the originator withdraws its commit. -/
theorem State.rigCancelAt_plan {s : State} {c : Commit} {origin : Nat} (pending : s.plan.commit = some c)
    (its : c.origin = some origin) (ok : s.cancelOk c (s.seqEdge s.now) = true) :
    (s.rigCancelAt origin).plan.commit = none ∧ (s.rigCancelAt origin).plan.result = 5 := by
  unfold State.rigCancelAt
  rw [pending]
  dsimp only
  rw [if_pos its, (State.rigFrame_rigFlush _).plan, State.commitCancel_ok pending ok, State.endCommit_plan _ _ pending]
  exact ⟨rfl, rfl⟩

theorem rigMessagesAct : Claims.RigMessagesAct := by
  intro s p b run src r
  have isMsg {msg : Nat} (hears : s.hears p b 1 msg) : fb b 6 2 = msg := by
    obtain ⟨⟨-, -, -, -, -, h, -⟩, -⟩ := hears
    exact h
  refine ⟨fun hears other => ?_, fun hears same allowed ahead => ?_, fun now hears runs target first => ?_,
    fun x lapsed cycle ack runs hears target first => ?_, fun now hears runs target acked first => ?_,
    fun c hears pending its ok => ?_⟩ <;>
  obtain ⟨fab, regs, rwc, eq⟩ := State.receive_rig hears (by decide) (by decide) <;>
  refine ⟨_, (act_run _ run).trans (by rw [eq]), ?_⟩ <;>
  dsimp only
  · rw [State.fin_plan, State.control_rigCommit _ (isMsg hears)]
    exact State.rigTarget_other _ _ _ _ _ _ _ other
  · rw [State.fin_plan, State.control_rigCommit _ (isMsg hears)]
    exact State.rigTarget_pending _ same allowed ahead
  · rw [State.fin_plan, State.control_rigAck _ (isMsg hears)]
    exact State.rigAck_now now runs target first
  · rw [State.fin_plan, State.control_rigAck _ (isMsg hears)]
    exact State.rigAck_lapse lapsed cycle ack runs target first
  · rw [State.fin_plan, State.control_rigDone _ (isMsg hears)]
    exact State.rigDone_now now runs target acked first
  · rw [State.fin_plan, State.control_rigCancel _ (isMsg hears)]
    exact State.rigCancelAt_plan pending its ok

end Sys2Proof.Machine
end

section
/-!
PROOFS. Rig commits run, answer and time out (R135 to R137): O23.
-/

namespace Sys2Proof.Machine

/-! ### The timeout -/

/-- The rig commit fails its missing targets, records the timeout, and ends as timed out if it ends. -/
theorem State.rigLate_timesOut {s : State} {ack : Bool} (run : s.plan.rig.run = true)
    (some_ : s.plan.rig.missing ack ≠ 0) :
    (s.rigLate ack).plan.rig.fail = s.plan.rig.fail ||| s.plan.rig.missing ack ∧
    (s.rigLate ack).plan.rig.timedOut = true ∧
    ((s.rigLate ack).plan.rig.run = false → (s.rigLate ack).plan.rig.state = .timeout) := by
  rw [State.rigLate_some some_]
  generalize failed : { s with plan := { s.plan with rig := { s.plan.rig with
    fail := s.plan.rig.fail ||| s.plan.rig.missing ack, timedOut := true } } } = t
  have rig : t.plan.rig = { s.plan.rig with fail := s.plan.rig.fail ||| s.plan.rig.missing ack, timedOut := true } := by
    rw [← failed]
  have masks := t.rigCheck_masks
  rw [Rig.SameMasks, rig] at masks
  refine ⟨by rw [masks], by rw [masks], fun ended => ?_⟩
  rw [State.rigCheck_state t (by rw [rig]; exact run) ended, rig]
  rfl

theorem rigCommitsTimeOut : Claims.RigCommitsTimeOut := by
  intro s run running r noAck noDone
  refine ⟨fun some_ => ⟨_, act_run _ run, ?_⟩, fun none_ some_ tbRun => ⟨_, act_run _ run, ?_⟩⟩ <;>
    rw [State.rigTimeout, if_neg (not_not.2 running)] <;> dsimp only <;> rw [State.fin_plan]
  · rw [if_pos (show s.plan.rig.missing true ≠ 0 from some_)]
    exact State.rigLate_timesOut (ack := true) running some_
  · rw [if_neg (not_not.2 (show s.plan.rig.missing true = 0 from none_)),
      if_pos (show s.plan.rig.missing false ≠ 0 ∧ (s.tb s.plan.rig.tb).run = true from ⟨some_, tbRun⟩)]
    exact State.rigLate_timesOut (ack := false) running some_

/-! ### A message to another device -/

section
variable (s : State)

theorem State.sendCtl_frame (dst msg : Nat) (payload : List Byte) :
    s.sendCtl dst msg payload = { s with fab := (s.sendCtl dst msg payload).fab } := by
  unfold State.sendCtl
  split
  · rfl
  · unfold State.routeTx
    dsimp only
    split
    · rfl
    · rw [State.enqueue_frame]; rfl

theorem State.fport_setFport {p : Nat} (x : FabPort) (exists_ : p < 3) : (s.setFport p x).fport p = x := by
  have cases_ : p = 0 ∨ p = 1 ∨ p = 2 := by omega
  rcases cases_ with rfl | rfl | rfl <;> rfl

variable {s}

theorem State.portUp_exists {p : Nat} (up : s.portUp p = true) : p < 3 := by
  rw [State.portUp, Bool.and_eq_true, decide_eq_true_eq] at up
  obtain ⟨exists_, -⟩ := up
  exact exists_

theorem State.enqueue_control {p : Nat} {t : FabTx} (up : s.portUp p = true) (control : t.cls = 1) :
    ((s.enqueue p t).fport p).ctlQ = (s.fport p).ctlQ ++ [t] := by
  have notTime : ¬ t.cls = 0 := by omega
  unfold State.enqueue
  dsimp only
  rw [if_neg (not_not.2 up), if_neg notTime, if_pos control, State.fport_setFport _ _ (State.portUp_exists up)]

/-- A control message to a device with a route joins the queue of its port (R235, R236). -/
theorem State.sendCtl_queued {dst own msg : Nat} {payload : List Byte} (addr : s.fab.addr = some own)
    (reach : (s.fab.route dst).reach = true) (up : s.portUp (s.fab.route dst).active = true) :
    ((s.sendCtl dst msg payload).fport (s.fab.route dst).active).ctlQ =
      (s.fport (s.fab.route dst).active).ctlQ ++
        [{ cls := 1, body := mkFrame dst own 1 msg s.fab.mid s.fab.gen payload }] := by
  have routed : ¬ (¬ (s.fab.route dst).reach = true ∨ (s.fab.route dst).active = 3) := by
    have exists_ := State.portUp_exists up
    rintro (h | h)
    · exact h reach
    · omega
  unfold State.sendCtl
  rw [addr]
  unfold State.routeTx
  dsimp only
  have queued := State.enqueue_control (s := s.nextMid.2) (p := (s.fab.route dst).active)
    (t := { cls := 1, body := mkFrame dst own 1 msg s.fab.mid s.fab.gen payload }) up rfl
  refine (congrArg (fun t : State => (t.fport (s.fab.route dst).active).ctlQ) (if_neg routed)).trans queued

/-- Messages to targets that are other devices only go out. -/
theorem State.sendAll_others {f : State → Nat → State} {msg : Nat} {payload : List Byte} {l : List Nat}
    (others : ∀ t ∈ l, s.fab.addr ≠ some t) :
    l.foldl (fun (a : State) t => if a.fab.addr = some t then f a t else a.sendCtl t msg payload) s =
      l.foldl (fun (a : State) t => a.sendCtl t msg payload) s := by
  induction l generalizing s with
  | nil => rfl
  | cons t l ih =>
    have addr := (s.rigFrame_sendCtl t msg payload).addr
    rw [List.foldl_cons, List.foldl_cons, if_neg (others t List.mem_cons_self)]
    exact ih fun u mem => by rw [addr]; exact others u (List.mem_cons_of_mem _ mem)

theorem State.sendAll_plan (l : List Nat) (msg : Nat) (payload : List Byte) :
    (l.foldl (fun (a : State) t => a.sendCtl t msg payload) s).plan = s.plan :=
  foldl_keeps (·.plan) _ _ s fun a t => by rw [State.sendCtl_frame]

end

theorem testBit_of_mem_bitsOf {n k i : Nat} (h : i ∈ bitsOf n k) : n.testBit i = true := (List.mem_filter.1 h).2

theorem bitsOf_two_pow {a k : Nat} (h : a < k) : bitsOf (2 ^ a) k = [a] := by
  unfold bitsOf
  have once : (List.range k).count a = 1 := List.count_eq_one_of_mem List.nodup_range (List.mem_range.2 h)
  simp only [Nat.testBit_two_pow, eq_comm (a := a)]
  rw [List.filter_eq, once]
  rfl

theorem maskLess_zero (a : Nat) : maskLess a 0 = a := by rw [maskLess, Nat.and_zero, Nat.sub_zero]

theorem bitsOf_zero (k : Nat) : bitsOf 0 k = [] := by simp [bitsOf]

/-! ### GO (R135) -/

section
variable (s : State)

/-- The instant that GO names. -/
def State.rigSec : Nat := s.rn A.PLAN_COMMIT_SEC_HI % 65536 * 2 ^ 32 + s.rn A.PLAN_COMMIT_SEC_LO
def State.rigNs : Nat := s.rf A.PLAN_COMMIT_NS 0 30
def State.rigTb : Nat := s.rf A.PLAN_RIG_CTRL 1 2
def State.rigTargets : Nat := s.rn A.PLAN_RIG_TARGET0 + s.rn A.PLAN_RIG_TARGET1 * 2 ^ 32

/-- The body of RIG_COMMIT (R239; log entry 18). -/
def State.rigPayload : List Byte :=
  beBytes (s.rf A.PLAN_RIG_CTRL 3 1) 1 ++ beBytes s.rigTb 1 ++ beBytes s.rigSec 6 ++ beBytes s.rigNs 4 ++
    beBytes (s.rn A.PLAN_RIG_ID) 4

/-- The rig commit that GO starts. -/
def State.rigStarted : Rig :=
  { state := .waitAck, targets := s.rigTargets, run := true, wait := true, goAt := s.mgt
    tb := s.rigTb, sec := s.rigSec, ns := s.rigNs }

/-- No target of a rig commit that starts has answered. -/
theorem State.rigStarted_unanswered :
    maskLess s.rigStarted.targets (s.rigStarted.nak ||| s.rigStarted.done ||| s.rigStarted.fail) = s.rigTargets ∧
    maskLess s.rigStarted.targets (s.rigStarted.ack ||| s.rigStarted.nak ||| s.rigStarted.fail) = s.rigTargets :=
  ⟨by simp [State.rigStarted, maskLess_zero], by simp [State.rigStarted, maskLess_zero]⟩

/-- The instant is too near or malformed, or a rig commit runs. -/
def State.RigRefused : Prop :=
  tbOf s.rigSec s.rigNs 0 < s.tbNow s.rigTb + 1000000 * nsUnit ∨ 999999999 < s.rigNs ∨ s.plan.rig.run = true

variable {s}

theorem State.rigGo_refused (bad : s.RigRefused) :
    s.rigGo = { s with plan := { s.plan with rig := { s.plan.rig with state := .refused } } } := by
  unfold State.rigGo
  dsimp only
  refine if_pos (bad.imp_left fun late => decide_eq_true late)

/-- The messages of a start go to other devices, and then the originator judges what it has. -/
theorem State.rigGo_others (good : ¬ s.RigRefused)
    (others : ∀ a, s.fab.addr = some a → s.rigTargets.testBit a = false) : s.rigGo = ((bitsOf s.rigTargets 64).foldl (fun (a : State) t => a.sendCtl t 0x10 s.rigPayload)
      { s with plan := { s.plan with rig := s.rigStarted, rigLapse := none } }).rigCheck := by
  have notOwn : ∀ t ∈ bitsOf s.rigTargets 64, s.fab.addr ≠ some t := fun t mem own =>
    absurd ((testBit_of_mem_bitsOf mem).symm.trans (others t own)) (by decide)
  rw [← State.sendAll_others (s := { s with plan := { s.plan with rig := s.rigStarted, rigLapse := none } }) notOwn]
  unfold State.rigGo
  dsimp only
  rw [if_neg fun bad => good (bad.imp_left of_decide_eq_true)]
  rfl

/-- With no targets the rig commit is complete at once. -/
theorem State.rigCheck_noTargets {t : State} (rig : t.plan.rig = s.rigStarted) (none_ : s.rigTargets = 0) :
    t.rigCheck.plan.rig.state = .complete ∧ t.rigCheck.plan.rig.run = false ∧
    t.rigCheck.rb A.PLAN_INT_STATUS 4 = true := by
  have run : t.plan.rig.run = true := by rw [rig]; rfl
  have all : maskLess t.plan.rig.targets (t.plan.rig.nak ||| t.plan.rig.done ||| t.plan.rig.fail) = 0 := by
    rw [rig, s.rigStarted_unanswered.1, none_]
  unfold State.rigCheck
  dsimp only
  rw [if_neg (not_not.2 run), if_pos all]
  refine ⟨?_, rfl, State.setInt_rb_same _ _ (by decide)⟩
  rw [rig]
  rfl

/-- With targets it waits for them. -/
theorem State.rigCheck_targets {t : State} (rig : t.plan.rig = s.rigStarted) (some_ : s.rigTargets ≠ 0) :
    t.rigCheck = t := by
  have run : t.plan.rig.run = true := by rw [rig]; rfl
  have open_ : maskLess t.plan.rig.targets (t.plan.rig.nak ||| t.plan.rig.done ||| t.plan.rig.fail) ≠ 0 := by
    rw [rig, s.rigStarted_unanswered.1]
    exact some_
  have unanswered : maskLess t.plan.rig.targets (t.plan.rig.ack ||| t.plan.rig.nak ||| t.plan.rig.fail) ≠ 0 := by
    rw [rig, s.rigStarted_unanswered.2]
    exact some_
  unfold State.rigCheck
  dsimp only
  rw [if_neg (not_not.2 run), if_neg open_, if_neg fun h => unanswered h.2]

theorem State.rigGo_noTargets (good : ¬ s.RigRefused) (none_ : s.rigTargets = 0) :
    s.rigGo.plan.rig.state = .complete ∧ s.rigGo.plan.rig.run = false ∧ s.rigGo.rb A.PLAN_INT_STATUS 4 = true := by
  rw [State.rigGo_others good fun a _ => by rw [none_, Nat.zero_testBit]]
  exact State.rigCheck_noTargets (by rw [State.sendAll_plan]) none_

theorem State.rigGo_awaits (good : ¬ s.RigRefused) (some_ : s.rigTargets ≠ 0)
    (others : ∀ a, s.fab.addr = some a → s.rigTargets.testBit a = false) : s.rigGo.plan.rig = s.rigStarted := by
  rw [State.rigGo_others good others, State.rigCheck_targets (by rw [State.sendAll_plan]) some_, State.sendAll_plan]

/-- The one target, another device with a route, is told. -/
theorem State.rigGo_queued {a own : Nat} (good : ¬ s.RigRefused) (one : s.rigTargets = 2 ^ a) (below : a < 64)
    (addr : s.fab.addr = some own) (other : own ≠ a) (reach : (s.fab.route a).reach = true)
    (up : s.portUp (s.fab.route a).active = true) :
    (s.rigGo.fport (s.fab.route a).active).ctlQ = (s.fport (s.fab.route a).active).ctlQ ++
      [{ cls := 1, body := mkFrame a own 1 0x10 s.fab.mid s.fab.gen s.rigPayload }] := by
  have others : ∀ x, s.fab.addr = some x → s.rigTargets.testBit x = false := fun x addr' => by
    obtain rfl := Option.some.inj (addr.symm.trans addr')
    rw [one, Nat.testBit_two_pow_of_ne (Ne.symm other)]
  have some_ : s.rigTargets ≠ 0 := one ▸ (Nat.two_pow_pos a).ne'
  rw [State.rigGo_others good others, State.rigCheck_targets (by rw [State.sendAll_plan]) some_, one, bitsOf_two_pow below]
  exact State.sendCtl_queued addr reach up

end

/-! ### CANCEL (R137) -/

section
variable {s : State}

theorem State.rigCancel_idle (idle : s.plan.rig.run = false) : s.rigCancel = s := by
  unfold State.rigCancel
  exact if_pos (Bool.eq_false_iff.1 idle)

/-- A cancel with one device to tell tells it. -/
theorem State.rigCancel_one {a : Nat} (run : s.plan.rig.run = true)
    (one : maskLess s.plan.rig.ack (s.plan.rig.done ||| s.plan.rig.fail) = 2 ^ a) (below : a < 64) :
    s.rigCancel = if s.fab.addr = some a then s.rigCancelAt a else s.sendCtl a 0x13 [] := by
  unfold State.rigCancel
  dsimp only
  rw [if_neg (not_not.2 run), one, bitsOf_two_pow below]
  rfl

/-- Another device with a route is told. -/
theorem State.rigCancel_queued {a own : Nat} (run : s.plan.rig.run = true)
    (one : maskLess s.plan.rig.ack (s.plan.rig.done ||| s.plan.rig.fail) = 2 ^ a) (below : a < 64)
    (addr : s.fab.addr = some own) (other : own ≠ a) (reach : (s.fab.route a).reach = true)
    (up : s.portUp (s.fab.route a).active = true) : s.rigCancel.plan = s.plan ∧
    (s.rigCancel.fport (s.fab.route a).active).ctlQ = (s.fport (s.fab.route a).active).ctlQ ++
      [{ cls := 1, body := mkFrame a own 1 0x13 s.fab.mid s.fab.gen [] }] := by
  rw [State.rigCancel_one run one below, if_neg fun its => other (Option.some.inj (addr.symm.trans its))]
  exact ⟨by rw [State.sendCtl_frame], State.sendCtl_queued addr reach up⟩

/-- The device itself applies the cancel. -/
theorem State.rigCancel_own {a : Nat} {c : Commit} (run : s.plan.rig.run = true)
    (one : maskLess s.plan.rig.ack (s.plan.rig.done ||| s.plan.rig.fail) = 2 ^ a) (below : a < 64)
    (addr : s.fab.addr = some a) (pending : s.plan.commit = some c) (its : c.origin = some a)
    (ok : s.cancelOk c (s.seqEdge s.now) = true) : s.rigCancel.plan.commit = none ∧ s.rigCancel.plan.result = 5 := by
  rw [State.rigCancel_one run one below, if_pos addr]
  exact State.rigCancelAt_plan pending its ok

end

/-! ### The control register of rig commits -/

/-- The RW bits of `PLAN_RIG_CTRL`: TB and BANK (R138). -/
theorem homeMask_PLAN_RIG_CTRL : homeMask A.PLAN_RIG_CTRL = (0xE : Word).toNat := by decide

theorem act_poke_PLAN_RIG_CTRL {s : State} (run : s.released = true) (who : Who) (w : Word) {k : Nat}
    (hk : mkWord (2 ^ k) &&& ~~~0xE = mkWord (2 ^ k)) : act s (s.poke who A.PLAN_RIG_CTRL (force w k)) =
      .next ((s.rigCtrlWrite (force (s.standing who A.PLAN_RIG_CTRL w) k)).wroteBy s who A.PLAN_RIG_CTRL).fin := by
  rw [act_run _ run, State.poke_PLAN_RIG_CTRL, State.standing_force homeMask_PLAN_RIG_CTRL hk]

/-- The word is stored. -/
def State.rigStored (s : State) (v : Word) : State := s.setRn A.PLAN_RIG_CTRL (v.toNat &&& 0xE)

section
variable (s : State) {v : Word}

theorem State.rigCtrlWrite_go (noCancel : wbit v 4 = false) :
    s.rigCtrlWrite (force v 0) = (s.rigStored (force v 0)).rigGo := by
  have noCancel' : wbit (force v 0) 4 = false := (wbit_force_other v (by decide) (by decide)).trans noCancel
  simp only [State.rigCtrlWrite, State.rigStored, noCancel', wbit_force_same v (by decide : 0 < 32), if_true,
    Bool.false_eq_true, if_false]

theorem State.rigCtrlWrite_cancel (noGo : wbit v 0 = false) :
    s.rigCtrlWrite (force v 4) = (s.rigStored (force v 4)).rigCancel := by
  have noGo' : wbit (force v 4) 0 = false := (wbit_force_other v (by decide) (by decide)).trans noGo
  simp only [State.rigCtrlWrite, State.rigStored, noGo', wbit_force_same v (by decide : 4 < 32), if_true,
    Bool.false_eq_true, if_false]

theorem State.rigStored_reg {a : Nat} (h : a ≠ A.PLAN_RIG_CTRL) : (s.rigStored v).reg a = s.reg a :=
  State.setReg_reg_other s _ h

/-- The stored fields are those of the word. -/
theorem State.rigStored_rf {lo n : Nat} (within : ∀ i, i < n → (0xE : Word).toNat.testBit (lo + i) = true) :
    (s.rigStored v).rf A.PLAN_RIG_CTRL lo n = wfield v lo n := by
  have stored : (s.rigStored v).reg A.PLAN_RIG_CTRL = mkWord (v.toNat &&& (0xE : Word).toNat) :=
    State.setReg_reg_same _ _ _
  rw [State.rf_eq, stored]
  refine wfield_congr fun i hi => ?_
  rw [wbit, mkWord_and_toNat, Nat.testBit_and, within i hi, Bool.and_true, wbit]

section
variable (v : Word)

theorem State.rigStored_rn {a : Nat} (h : a ≠ A.PLAN_RIG_CTRL) : (s.rigStored v).rn a = s.rn a :=
  congrArg BitVec.toNat (s.rigStored_reg h)

theorem State.rigStored_sec : (s.rigStored v).rigSec = s.rigSec := by
  rw [State.rigSec, s.rigStored_rn v (by decide), s.rigStored_rn v (by decide), State.rigSec]

theorem State.rigStored_ns : (s.rigStored v).rigNs = s.rigNs :=
  congrArg (fun n => field n 0 30) (s.rigStored_rn v (by decide))

theorem State.rigStored_tb : (s.rigStored v).rigTb = wfield v 1 2 := s.rigStored_rf (by decide)

theorem State.rigStored_targets : (s.rigStored v).rigTargets = s.rigTargets := by
  rw [State.rigTargets, s.rigStored_rn v (by decide), s.rigStored_rn v (by decide), State.rigTargets]

theorem State.rigStored_refused : (s.rigStored v).RigRefused ↔
    tbOf s.rigSec s.rigNs 0 < s.tbNow (wfield v 1 2) + 1000000 * nsUnit ∨ 999999999 < s.rigNs ∨ s.plan.rig.run = true := by
  rw [State.RigRefused, s.rigStored_sec, s.rigStored_ns, s.rigStored_tb]
  rfl

theorem State.rigStored_started : (s.rigStored v).rigStarted =
    { state := .waitAck, targets := s.rigTargets, run := true, wait := true, goAt := s.mgt
      tb := wfield v 1 2, sec := s.rigSec, ns := s.rigNs } := by
  rw [State.rigStarted, s.rigStored_sec, s.rigStored_ns, s.rigStored_tb, s.rigStored_targets]
  rfl

theorem State.rigStored_payload : (s.rigStored v).rigPayload = beBytes (wfield v 3 1) 1 ++ beBytes (wfield v 1 2) 1 ++
    beBytes s.rigSec 6 ++ beBytes s.rigNs 4 ++ beBytes (s.rn A.PLAN_RIG_ID) 4 := by
  rw [State.rigPayload, s.rigStored_sec, s.rigStored_ns, s.rigStored_tb, s.rigStored_rf (by decide),
    s.rigStored_rn v (by decide)]

end

end

theorem State.wroteBy_fab (t s : State) (who : Who) (a : Nat) : (t.wroteBy s who a).fab = t.fab := by
  rw [State.wroteBy_frame]

/-- What the order of R290 and the end of the cycle leave of a state: its ports. -/
theorem State.written_fport (t s : State) (who : Who) (a p : Nat) : (t.wroteBy s who a).fin.fport p = t.fport p := by
  rw [State.fport, State.fport, State.fin_fab, State.wroteBy_fab]

theorem rigCommitsRun : Claims.RigCommitsRun := by
  intro s who w run
  have go := act_poke_PLAN_RIG_CTRL run who w (k := 0) (by decide)
  have cancel := act_poke_PLAN_RIG_CTRL run who w (k := 4) (by decide)
  have bit (i : Nat) (h : (0xE : Word).toNat.testBit i = false) :
      wbit (s.standing who A.PLAN_RIG_CTRL w) i = wbit w i :=
    State.wbit_standing homeMask_PLAN_RIG_CTRL h s who w
  have noGo (h : wbit w 0 = false) := (bit 0 (by decide)).trans h
  have noCancel (h : wbit w 4 = false) := (bit 4 (by decide)).trans h
  generalize s.standing who A.PLAN_RIG_CTRL w = v at go cancel noGo noCancel ⊢
  have tb : wfield (force v 0) 1 2 = wfield v 1 2 := wfield_force_other v (by decide) (by decide)
  have bank : wfield (force v 0) 3 1 = wfield v 3 1 := wfield_force_other v (by decide) (by decide)
  refine ⟨fun h => ?_, fun h idle => ⟨_, cancel, ?_⟩, fun h a own runs one below addr other reach up => ⟨_, cancel, ?_⟩,
    fun h a c addr below runs one pending its ok => ⟨_, cancel, ?_⟩⟩
  · rw [s.rigCtrlWrite_go (noCancel h)] at go
    have refused := s.rigStored_refused (force v 0)
    rw [tb] at refused
    refine ⟨fun bad => ⟨_, go, ?_⟩, fun ahead wellFormed idle => ?_⟩
    · dsimp only
      rw [State.fin_plan, State.wroteBy_plan, State.rigGo_refused (refused.2 bad)]
      rfl
    have good : ¬ (s.rigStored (force v 0)).RigRefused := by
      rw [refused]
      rintro (late | malformed | runs)
      · exact absurd late (Nat.not_lt.2 ahead)
      · exact absurd malformed (Nat.not_lt.2 wellFormed)
      · exact absurd (runs.symm.trans idle) (by decide)
    have targets := s.rigStored_targets (force v 0)
    refine ⟨fun none_ => ⟨_, go, ?_⟩, fun some_ others => ⟨_, go, ?_⟩,
      fun a own one below addr other reach up => ⟨_, go, ?_⟩⟩ <;> dsimp only
    · rw [State.fin_plan, State.wroteBy_plan, State.fin_rb, State.wroteBy_rb]
      exact State.rigGo_noTargets good (targets.trans none_)
    · rw [State.fin_plan, State.wroteBy_plan, State.rigGo_awaits good (by rw [targets]; exact some_)
        (by rw [targets]; exact others), s.rigStored_started, tb]
      rfl
    · rw [State.written_fport]
      have queued := State.rigGo_queued (s := s.rigStored (force v 0)) good (targets.trans one) below addr other reach up
      rw [s.rigStored_payload, tb, bank] at queued
      exact queued
  all_goals
    dsimp only
    rw [State.fin_plan, State.wroteBy_plan, s.rigCtrlWrite_cancel (noGo h)]
  · rw [State.fin_fab, State.wroteBy_fab, State.rigCancel_idle (s := s.rigStored _) idle]
    exact ⟨rfl, rfl⟩
  · rw [State.written_fport]
    exact State.rigCancel_queued (s := s.rigStored _) runs one below addr other reach up
  · exact State.rigCancel_own (s := s.rigStored _) runs one below addr pending its ok

/-- Settles O23: `rigCommitsRun` follows GO and CANCEL of the originator, `rigCommitsTimeOut` its timeouts, and
`rigMessagesAct` the messages at the target and back. -/
theorem rigCommits : Obligations.RigCommits := ⟨rigCommitsRun, rigCommitsTimeOut, rigMessagesAct⟩

end Sys2Proof.Machine
end

section
/-!
PROOFS. What takeovers, restores and faults of datapaths change, and what they leave (R162 to R166).
-/

namespace Sys2Proof.Machine

/-! ### Datapaths -/

@[simp] theorem State.setDp_dp_same (s : State) (d : Nat) (x : Datapath) : (s.setDp d x).dp d = x :=
  sget_sput_same _ _ _ _

theorem State.setDp_dp_other (s : State) {d k : Nat} (x : Datapath) (h : k ≠ d) : (s.setDp d x).dp k = s.dp k :=
  sget_sput_other _ _ _ h

theorem State.dp_of_dps {s t : State} (h : t.str.dps = s.str.dps) (k : Nat) : t.dp k = s.dp k := by
  simp only [State.dp, h]

theorem State.serving_of_map {s t : State} (h : t.str.map = s.str.map) (i : Nat) : t.serving i = s.serving i := by
  simp only [State.serving, h]

/-- What a new value of one datapath leaves of it, it leaves of every datapath. -/
theorem State.setDp_keeps {γ : Type} (π : Datapath → γ) (s : State) {d : Nat} {x : Datapath}
    (same : π x = π (s.dp d)) (k : Nat) : π ((s.setDp d x).dp k) = π (s.dp k) := by
  by_cases h : k = d
  · rw [h, State.setDp_dp_same, same]
  · rw [State.setDp_dp_other s x h]

theorem State.mem_idleSpares {s : State} {d : Nat} :
    d ∈ s.idleSpares ↔ (d = 80 ∨ d = 81) ∧ (s.dp d).state = .idle := by
  simp [State.idleSpares]

theorem State.idleSpares_congr {s t : State} (h : ∀ k, (t.dp k).state = (s.dp k).state) :
    t.idleSpares = s.idleSpares := by
  simp only [State.idleSpares, h]

/-! ### The frame of takeovers and restores -/

/-- What takeovers and restores leave of `s` in `t`: the frames in flight, the self-test that runs, the bits of
`STR_INT_STATUS` that are set, and the fault bits and the last self-test result of every datapath. -/
structure State.PathFrame (s t : State) : Prop where
  frames : t.frames = s.frames
  test : t.str.test = s.str.test
  bits : ∀ i, s.rb A.STR_INT_STATUS i = true → t.rb A.STR_INT_STATUS i = true
  fault : ∀ k, (t.dp k).fault = (s.dp k).fault
  testPass : ∀ k, (t.dp k).testPass = (s.dp k).testPass

theorem State.PathFrame.refl (s : State) : s.PathFrame s := ⟨rfl, rfl, fun _ h => h, fun _ => rfl, fun _ => rfl⟩

theorem State.PathFrame.trans {s t u : State} (first : s.PathFrame t) (second : t.PathFrame u) : s.PathFrame u :=
  ⟨second.frames.trans first.frames, second.test.trans first.test, fun i h => second.bits i (first.bits i h),
    fun k => (second.fault k).trans (first.fault k), fun k => (second.testPass k).trans (first.testPass k)⟩

theorem State.pathFrame_foldl {β : Type} {f : State → β → State} (h : ∀ (a : State) x, a.PathFrame (f a x))
    (l : List β) (s : State) : s.PathFrame (l.foldl f s) := by
  induction l generalizing s with
  | nil => exact .refl s
  | cons x l ih => exact (h s x).trans (ih (f s x))

section
variable (s : State)

theorem State.pathFrame_setInt {i : Nat} (hi : i < 32) : s.PathFrame (s.setInt A.STR_INT_STATUS i) :=
  ⟨rfl, rfl, fun _ h => s.setInt_rb _ hi h, fun _ => rfl, fun _ => rfl⟩

theorem State.pathFrame_faultEv (cls code unit detail : Nat) : s.PathFrame (s.faultEv cls code unit detail) :=
  ⟨rfl, rfl, fun _ h => h, fun _ => rfl, fun _ => rfl⟩

theorem State.pathFrame_setDp (d : Nat) (x : Datapath) (fault : x.fault = (s.dp d).fault)
    (pass : x.testPass = (s.dp d).testPass) : s.PathFrame (s.setDp d x) :=
  ⟨rfl, rfl, fun _ h => h, s.setDp_keeps _ fault, s.setDp_keeps _ pass⟩

theorem State.pathFrame_freshBlack (p : Nat → Bool) : s.PathFrame (s.freshBlack p) :=
  ⟨rfl, rfl, fun _ h => h, fun _ => rfl, fun _ => rfl⟩

theorem State.pathFrame_takes (l : List Take) : s.PathFrame { s with str := { s.str with takes := l } } :=
  ⟨rfl, rfl, fun _ h => h, fun _ => rfl, fun _ => rfl⟩

theorem State.pathFrame_switches (l : List Switch) : s.PathFrame { s with str := { s.str with switches := l } } :=
  ⟨rfl, rfl, fun _ h => h, fun _ => rfl, fun _ => rfl⟩

theorem State.pathFrame_map (l : List (Nat × Nat)) : s.PathFrame { s with str := { s.str with map := l } } :=
  ⟨rfl, rfl, fun _ h => h, fun _ => rfl, fun _ => rfl⟩

theorem State.pathFrame_result (r : Nat) : s.PathFrame { s with str := { s.str with cmdResult := r } } :=
  ⟨rfl, rfl, fun _ h => h, fun _ => rfl, fun _ => rfl⟩

theorem State.pathFrame_strCmdEnd (r : Nat) : s.PathFrame (s.strCmdEnd r) :=
  (s.pathFrame_result r).trans (State.pathFrame_setInt (i := 4) _ (by decide))

theorem State.pathFrame_stripeFail (d : Nat) : s.PathFrame (s.stripeFail d) := by
  unfold State.stripeFail
  dsimp only
  split
  · exact .refl s
  · exact ((s.pathFrame_setDp d { s.dp d with failing := true } rfl rfl).trans
      (State.pathFrame_setInt (i := 3) _ (by decide))).trans (State.pathFrame_faultEv _ _ _ _ _)

/-! ### Carrying out a take (R163 to R165) -/

/-- The end of a take is the end of its command, if a command asked for it. -/
def State.takeEnd (t : Take) (r : Nat) : State := if t.fault then s else s.strCmdEnd r

theorem State.pathFrame_takeEnd (t : Take) (r : Nat) : s.PathFrame (s.takeEnd t r) := by
  unfold State.takeEnd
  split
  · exact .refl s
  · exact s.pathFrame_strCmdEnd r

/-- A datapath that takes over a stripe. -/
def Datapath.takes (x : Datapath) (state : DpState) (stripe : Nat) : Datapath :=
  { x with state := state, stripe := stripe, failing := false }

/-- Datapath `d` takes over the stripe of `t`; the switch ends with the readout of the datapath that serves it. -/
def State.takenBy (t : Take) (d : Nat) (state : DpState) : State :=
  let s1 := s.setDp d ((s.dp d).takes state t.stripe)
  let w : Switch := { stripe := t.stripe, old := s.serving t.stripe, new_ := d, restore := t.restore }
  ({ s1 with str := { s1.str with switches := s1.str.switches ++ [w] } }).setInt A.STR_INT_STATUS 1

theorem State.pathFrame_takenBy (t : Take) (d : Nat) (state : DpState) : s.PathFrame (s.takenBy t d state) :=
  ((s.pathFrame_setDp d ((s.dp d).takes state t.stripe) rfl rfl).trans (State.pathFrame_switches _ _)).trans
    (State.pathFrame_setInt (i := 1) _ (by decide))

/-- What a take comes to: a restore by the home datapath, a takeover by the lowest idle spare. -/
theorem State.applyTake_eq (t : Take) : s.applyTake t =
    if t.restore then
      if s.serving t.stripe = t.stripe then s.takeEnd t 4
      else if (s.dp t.stripe).state ≠ .standby then s.takeEnd t 5
      else (s.takenBy t t.stripe .home).takeEnd t 2
    else
      match s.idleSpares with
      | [] => if t.fault then s.stripeFail (s.serving t.stripe) else s.takeEnd t 3
      | d :: rest => State.takeEnd (if rest = [] then (s.takenBy t d .serving).setInt A.STR_INT_STATUS 2
          else s.takenBy t d .serving) t 2 := by
  unfold State.applyTake State.takenBy
  cases t.restore <;> rfl

theorem State.pathFrame_applyTake (t : Take) : s.PathFrame (s.applyTake t) := by
  rw [State.applyTake_eq]
  split
  · split
    · exact s.pathFrame_takeEnd t 4
    · split
      · exact s.pathFrame_takeEnd t 5
      · exact (s.pathFrame_takenBy t _ _).trans (State.pathFrame_takeEnd _ t 2)
  · split
    · split
      · exact s.pathFrame_stripeFail _
      · exact s.pathFrame_takeEnd t 3
    · refine State.PathFrame.trans ?_ (State.pathFrame_takeEnd _ t 2)
      split
      · exact (s.pathFrame_takenBy t _ _).trans (State.pathFrame_setInt (i := 2) _ (by decide))
      · exact s.pathFrame_takenBy t _ _

/-! ### The end of a switch (R164, R165) -/

/-- The datapath that has served the stripe of `w` leaves it to the new one. -/
def State.switched (w : Switch) : State :=
  let b := (s.setDp w.old ((s.dp w.old).takes (if w.restore then .idle else .failed) 127)).freshBlack (· = w.stripe)
  { b with str := { b.str with map := sput (fun k => k) b.str.map w.stripe w.new_ } }

theorem State.pathFrame_switched (w : Switch) : s.PathFrame (s.switched w) :=
  ((s.pathFrame_setDp w.old ((s.dp w.old).takes (if w.restore then .idle else .failed) 127) rfl rfl).trans
    (State.pathFrame_freshBlack _ _)).trans (State.pathFrame_map _ _)

/-- Every switch ends; then, where it is due, every black state starts afresh. -/
theorem State.endSwitches_eq : s.endSwitches =
    let s1 := s.str.switches.foldl State.switched s
    let s2 := if s1.str.fresh then s1.freshBlack fun _ => true else s1
    { s2 with str := { s2.str with switches := [], fresh := false } } := rfl

theorem State.endSwitches_str : s.endSwitches.str = { (s.str.switches.foldl State.switched s).str with
    black := s.endSwitches.str.black, switches := [], fresh := false } := by
  rw [State.endSwitches_eq]
  dsimp only
  split <;> rfl

theorem State.pathFrame_endSwitches : s.PathFrame s.endSwitches := by
  refine (State.pathFrame_foldl (f := State.switched) (fun a w => a.pathFrame_switched w) s.str.switches s).trans ?_
  rw [State.endSwitches_eq]
  dsimp only
  split <;> exact ⟨rfl, rfl, fun _ h => h, fun _ => rfl, fun _ => rfl⟩

theorem State.pathFrame_takesNow : s.PathFrame s.takesNow := by
  unfold State.takesNow
  split
  · exact .refl s
  · exact ((s.pathFrame_takes []).trans (State.pathFrame_foldl (fun a x => a.pathFrame_applyTake x) _ _)).trans
      (State.pathFrame_endSwitches _)

theorem State.pathFrame_schedule (t : Take) : s.PathFrame (s.schedule t) := by
  unfold State.schedule
  extract_lets had s1
  have ended : s.PathFrame s1 := by
    unfold s1
    split
    · exact s.pathFrame_strCmdEnd 5
    · exact .refl s
  exact (ended.trans (State.pathFrame_takes _ _)).trans (State.pathFrame_takesNow _)

theorem State.pathFrame_dropRestore (stripe : Nat) : s.PathFrame (s.dropRestore stripe) := by
  unfold State.dropRestore
  extract_lets mine
  split
  · exact (s.pathFrame_takes _).trans (State.pathFrame_strCmdEnd _ 5)
  · exact .refl s

end

end Sys2Proof.Machine
end

section
/-!
PROOFS. What a takeover makes of its datapaths, and when a scheduled one runs (R163 to R166).
-/

namespace Sys2Proof.Machine

section
variable (s : State)

/-! ### Takeovers -/

theorem State.takeEnd_str (t : Take) (r : Nat) :
    (s.takeEnd t r).str = { s.str with cmdResult := if t.fault then s.str.cmdResult else r } := by
  unfold State.takeEnd
  split <;> rfl

@[simp] theorem State.takeEnd_dp (t : Take) (r k : Nat) : (s.takeEnd t r).dp k = s.dp k :=
  State.dp_of_dps (by rw [State.takeEnd_str]) k

theorem State.takenBy_dp (t : Take) (d : Nat) (state : DpState) (k : Nat) :
    (s.takenBy t d state).dp k = (s.setDp d ((s.dp d).takes state t.stripe)).dp k := State.dp_of_dps rfl k

theorem State.takenBy_dp_same (t : Take) (d : Nat) (state : DpState) :
    (s.takenBy t d state).dp d = (s.dp d).takes state t.stripe := by rw [State.takenBy_dp, State.setDp_dp_same]

theorem State.takenBy_dp_other (t : Take) {d k : Nat} (state : DpState) (h : k ≠ d) :
    (s.takenBy t d state).dp k = s.dp k := by rw [State.takenBy_dp, State.setDp_dp_other s _ h]

/-- A datapath that takes over a stripe has not failed, so a failed one stays FAILED. -/
theorem State.takenBy_failed {t : Take} {d k : Nat} (state : DpState) (works : (s.dp d).state ≠ .failed)
    (failed : (s.dp k).state = .failed) : ((s.takenBy t d state).dp k).state = .failed := by
  have other : k ≠ d := by
    rintro rfl
    exact works failed
  rwa [State.takenBy_dp_other _ _ _ other]

/-- A faulty datapath on which its stripe stays (R166). -/
def Datapath.fails (x : Datapath) : Datapath := { x with failing := true }

theorem State.stripeFail_dp (d k : Nat) : (s.stripeFail d).dp k = (s.setDp d (s.dp d).fails).dp k := by
  unfold State.stripeFail
  dsimp only
  split
  · next failing =>
    have same : (s.dp d).fails = s.dp d := by rw [Datapath.fails, ← failing]
    exact (s.setDp_keeps id same k).symm
  · exact State.dp_of_dps (by simp only [State.faultEv_eq, State.raise_str, State.setInt_eq, State.note_str,
      State.setReg_str, Datapath.fails]) k

theorem State.stripeFail_state (d k : Nat) : ((s.stripeFail d).dp k).state = (s.dp k).state := by
  rw [State.stripeFail_dp, s.setDp_keeps (x := (s.dp d).fails) Datapath.state rfl]

variable {s}

theorem State.idle_of_idleSpares {d : Nat} {rest : List Nat} (spares : s.idleSpares = d :: rest) :
    (s.dp d).state = .idle :=
  (State.mem_idleSpares.1 (spares ▸ List.mem_cons_self)).2

theorem State.applyTake_failed {k : Nat} (failed : (s.dp k).state = .failed) (t : Take) :
    ((s.applyTake t).dp k).state = .failed := by
  rw [State.applyTake_eq]
  split
  · split
    · rwa [State.takeEnd_dp]
    · split
      · rwa [State.takeEnd_dp]
      · next standby =>
        rw [State.takeEnd_dp]
        exact s.takenBy_failed _ (by rw [not_not.1 standby]; decide) failed
  · split
    · split
      · rwa [State.stripeFail_state]
      · rwa [State.takeEnd_dp]
    · next d rest spares =>
      have kept := s.takenBy_failed (t := t) .serving (by rw [State.idle_of_idleSpares spares]; decide) failed
      rw [State.takeEnd_dp]
      split <;> exact kept

theorem State.stripeFail_switches (s : State) (d : Nat) : (s.stripeFail d).str.switches = s.str.switches :=
  congrArg (fun w => w.2.2) (s.stripeFail_waits d)

/-- A takeover adds no switch but that of a takeover. -/
theorem State.applyTake_takeovers {t : Take} (takeover : t.restore = false)
    (all : ∀ w ∈ s.str.switches, w.restore = false) :
    ∀ w ∈ (s.applyTake t).str.switches, w.restore = false := by
  rw [State.applyTake_eq, takeover, if_neg Bool.false_ne_true]
  split
  · split
    · rwa [State.stripeFail_switches]
    · rwa [State.takeEnd_str]
  · next d rest _ =>
    have added : ∀ w ∈ (s.takenBy t d .serving).str.switches, w.restore = false := by
      intro w mem
      rcases List.mem_append.1 mem with old | new
      · exact all w old
      · rw [List.mem_singleton.1 new]
        exact takeover
    rw [State.takeEnd_str]
    split <;> exact added

/-- With a spare idle, the lowest one takes over. -/
theorem State.applyTake_takeover {t : Take} {d : Nat} {rest : List Nat} (takeover : t.restore = false)
    (spares : s.idleSpares = d :: rest) : (s.applyTake t).str = { (s.takenBy t d .serving).str with
      cmdResult := if t.fault then s.str.cmdResult else 2 } ∧ (s.applyTake t).rb A.STR_INT_STATUS 1 = true := by
  have set_ : (s.takenBy t d .serving).rb A.STR_INT_STATUS 1 = true := State.setInt_rb_same _ _ (by decide)
  rw [State.applyTake_eq, takeover, if_neg Bool.false_ne_true, spares]
  dsimp only
  rw [State.takeEnd_str]
  refine ⟨by split <;> rfl, State.PathFrame.bits (State.pathFrame_takeEnd _ _ _) 1 ?_⟩
  split
  · exact State.setInt_rb _ _ (by decide) set_
  · exact set_

/-! ### The end of the switches -/

theorem State.freshBlack_dps (s : State) (p : Nat → Bool) : (s.freshBlack p).str.dps = s.str.dps := rfl

theorem State.switched_dp (s : State) (w : Switch) (k : Nat) : (s.switched w).dp k =
    (s.setDp w.old ((s.dp w.old).takes (if w.restore then .idle else .failed) 127)).dp k := by
  have dps := (s.setDp w.old ((s.dp w.old).takes (if w.restore then .idle else .failed) 127)).freshBlack_dps
    (· = w.stripe)
  exact State.dp_of_dps dps k

theorem State.switched_dp_old (s : State) (w : Switch) :
    (s.switched w).dp w.old = (s.dp w.old).takes (if w.restore then .idle else .failed) 127 := by
  rw [State.switched_dp, State.setDp_dp_same]

theorem State.switched_dp_other (s : State) {w : Switch} {k : Nat} (h : k ≠ w.old) :
    (s.switched w).dp k = s.dp k := by
  rw [State.switched_dp, State.setDp_dp_other s _ h]

theorem State.switched_serving (s : State) (w : Switch) : (s.switched w).serving w.stripe = w.new_ :=
  sget_sput_same _ _ _ _

theorem State.endSwitches_dp (s : State) (k : Nat) :
    s.endSwitches.dp k = (s.str.switches.foldl State.switched s).dp k :=
  State.dp_of_dps (by rw [State.endSwitches_str]) k

theorem State.endSwitches_serving (s : State) (i : Nat) :
    s.endSwitches.serving i = (s.str.switches.foldl State.switched s).serving i :=
  State.serving_of_map (by rw [State.endSwitches_str]) i

/-- A takeover leaves the datapath that it relieves FAILED. -/
theorem State.endSwitches_failed {k : Nat} (takeovers : ∀ w ∈ s.str.switches, w.restore = false)
    (failed : (s.dp k).state = .failed) : (s.endSwitches.dp k).state = .failed := by
  rw [State.endSwitches_dp]
  refine List.foldlRecOn s.str.switches State.switched (motive := fun a => (a.dp k).state = .failed) failed
    fun a still w mem => ?_
  by_cases h : k = w.old
  · rw [h, State.switched_dp_old, takeovers w mem]
    rfl
  · rwa [State.switched_dp_other a h]

/-! ### Takes that are scheduled -/

theorem State.takesNow_ticking (ticking : s.ticking = true) : s.takesNow = s := if_pos ticking

theorem State.takesNow_one {x : Take} (stopped : s.ticking = false) (one : s.str.takes = [x]) :
    s.takesNow = (State.applyTake { s with str := { s.str with takes := [] } } x).endSwitches := by
  unfold State.takesNow
  rw [stopped, if_neg Bool.false_ne_true, one]
  rfl

/-- The takes once `t` has taken the place of those of its stripe. -/
def State.takesWith (s : State) (t : Take) : State :=
  { s with str := { s.str with takes := s.str.takes.filter (fun (x : Take) => x.stripe ≠ t.stripe) ++ [t] } }

theorem State.schedule_eq {t : Take} (h : t.fault = true → ∀ x ∈ s.str.takes, x.stripe ≠ t.stripe) :
    s.schedule t = (s.takesWith t).takesNow := by
  have none_ : ¬ (s.str.takes.any (fun x => x.stripe = t.stripe ∧ x.fault = false) ∧ t.fault) := by
    rintro ⟨had, fault⟩
    obtain ⟨x, mem, same⟩ := List.any_eq_true.1 had
    exact h fault x mem (of_decide_eq_true same).1
  unfold State.schedule
  dsimp only
  rw [if_neg none_]
  rfl

theorem State.schedule_ticking {t : Take} (h : t.fault = true → ∀ x ∈ s.str.takes, x.stripe ≠ t.stripe)
    (ticking : s.ticking = true) : s.schedule t = s.takesWith t := by
  rw [State.schedule_eq h]
  exact State.takesNow_ticking ticking

/-- While no tick runs, a take is carried out at once. -/
theorem State.schedule_stopped (t : Take) (stopped : s.ticking = false) (quiet : s.takesQuiet) :
    s.schedule t = (State.applyTake s t).endSwitches := by
  obtain ⟨none_, -⟩ := quiet stopped
  have one : (s.takesWith t).str.takes = [t] := by simp [State.takesWith, none_]
  have same : { s with str := { s.str with takes := [] } } = s := by rw [← none_]
  rw [State.schedule_eq (by simp [none_]), State.takesNow_one (s := s.takesWith t) stopped one]
  exact congrArg (fun a => (State.applyTake a t).endSwitches) same

/-- A takeover leaves a failed datapath FAILED, now or at its tick. -/
theorem State.schedule_failed (quiet : s.takesQuiet) {t : Take} (takeover : t.restore = false) {k : Nat}
    (failed : (s.dp k).state = .failed) : ((s.schedule t).dp k).state = .failed := by
  cases run : s.ticking with
  | true =>
    unfold State.schedule
    dsimp only
    rw [State.takesNow_ticking (by split <;> exact run)]
    split <;> exact failed
  | false =>
    obtain ⟨-, none_⟩ := quiet run
    rw [State.schedule_stopped t run quiet]
    exact State.endSwitches_failed (State.applyTake_takeovers takeover (by simp [none_]))
      (State.applyTake_failed failed t)

end
end Sys2Proof.Machine
end

section
/-!
PROOFS. What a fault of a datapath comes to (R162, R163, R166).
-/

namespace Sys2Proof.Machine

section
variable (s : State)

/-! ### The fault is told -/

theorem State.alarm_frame (src kind unit : Nat) : s.alarm src kind unit = { s with
    sys := (s.alarm src kind unit).sys, regs := (s.alarm src kind unit).regs, rwc := (s.alarm src kind unit).rwc } := by
  unfold State.alarm
  dsimp only
  split <;> rfl

theorem State.alarm_now (src kind unit : Nat) : (s.alarm src kind unit).now = s.now := by rw [State.alarm_frame]
theorem State.alarm_tmg (src kind unit : Nat) : (s.alarm src kind unit).tmg = s.tmg := by rw [State.alarm_frame]
theorem State.alarm_str (src kind unit : Nat) : (s.alarm src kind unit).str = s.str := by rw [State.alarm_frame]
theorem State.alarm_frames (src kind unit : Nat) : (s.alarm src kind unit).frames = s.frames := by
  rw [State.alarm_frame]

theorem State.alarm_reg (src kind unit : Nat) {a : Nat} (h : a ≠ A.SYS_INT_STATUS) :
    (s.alarm src kind unit).reg a = s.reg a := by
  unfold State.alarm
  dsimp only
  split
  · rfl
  · exact State.setInt_reg_other _ _ h

/-- The lines of a datapath that are in process in the readout `r` are flagged (R162). -/
def State.linesFlagged (r : SubRef) (keys : List Nat) : State :=
  keys.foldl (fun (a : State) k => a.flagLine r.frame k r.j 0x40) s

theorem State.linesFlagged_frame (r : SubRef) (keys : List Nat) :
    s.linesFlagged r keys = { s with frames := (s.linesFlagged r keys).frames } := by
  unfold State.linesFlagged
  induction keys generalizing s with
  | nil => rfl
  | cons k keys ih => exact ih (s.flagLine r.frame k r.j 0x40)

theorem State.linesDamaged (r : SubRef) (keys : List Nat) (n : Nat) :
    ∃ l, (s.linesFlagged r keys).damageFrame n = { s with frames := l } := by
  rw [State.linesFlagged_frame]
  exact ⟨_, rfl⟩

theorem State.linesFlagged_progress (r : SubRef) (keys : List Nat) : (s.linesFlagged r keys).progress = s.progress :=
  s.progress_foldl _ _ fun a k => a.flagLine_progress r.frame k r.j 0x40

/-- A frame in flight is damaged under its number. -/
theorem State.damageFrame_damaged {s : State} {n : Nat} (h : ∃ g ∈ s.frames, g.num = n) :
    ∃ g ∈ (s.damageFrame n).frames, g.num = n ∧ g.damaged = true := by
  obtain ⟨g, mem, num⟩ := h
  exact ⟨{ g with damaged := true }, List.mem_map.2 ⟨g, mem, if_pos num⟩, num, rfl⟩

/-- What leaves the progress leaves a frame in flight. -/
theorem State.frame_of_progress {s t : State} (same : t.progress = s.progress) {n : Nat}
    (h : ∃ g ∈ s.frames, g.num = n) : ∃ g ∈ t.frames, g.num = n := by
  obtain ⟨g, mem, num⟩ := h
  have marks : t.frames.map Frame.mark = s.frames.map Frame.mark := congrArg (fun p => p.2.2.2) same
  obtain ⟨g', mem', mark⟩ := List.mem_map.1 (marks ▸ List.mem_map_of_mem mem)
  simp only [Frame.mark_eq, Prod.mk.injEq] at mark
  exact ⟨g', mem', mark.1.trans num⟩

/-- Datapath `d` works on the frame of the readout in progress, with number `n`: it serves its stripe, and active slots
wait to be processed (R141, R162). -/
def State.worksOn (d n : Nat) : Prop :=
  (s.dp d).stripe < 80 ∧ s.serving (s.dp d).stripe = d ∧ ∃ r f, s.tmg.reading = some r ∧ r.frame = n ∧
    s.frames.find? (fun g => g.num = r.frame) = some f ∧
    s.str.done < min (s.tmg.slot - 32) (f.cfg.plan.win.nSlot - 32)

/-- Fault `kind` is recorded in a datapath. -/
def Datapath.withFault (x : Datapath) (kind : Nat) : Datapath := { x with fault := x.fault ||| 2 ^ kind }

/-- `t` is `s` once datapath `d` has recorded the fault, the frame on which it works is damaged, and the fault is
reported. -/
structure State.FaultTold (d kind : Nat) (t : State) : Prop where
  now : t.now = s.now
  tmg : t.tmg = s.tmg
  str : t.str = (s.setDp d ((s.dp d).withFault kind)).str
  ctrl : t.reg A.STR_CTRL = s.reg A.STR_CTRL
  bit : t.rb A.STR_INT_STATUS 0 = true
  damaged : ∀ n, s.worksOn d n → ∃ g ∈ t.frames, g.num = n ∧ g.damaged = true

/-- What follows for a datapath that serves a stripe or is to serve it (R163, R166). -/
def State.faultAnswered (stripe d : Nat) : State :=
  if s.rb A.STR_CTRL 3 ∧ s.idleSpares ≠ [] then
    if s.str.takes.any (fun t => t.stripe = stripe ∧ t.fault) then s
    else s.schedule { stripe := stripe, restore := false, fault := true, at_ := s.now }
  else (s.dropRestore stripe).stripeFail d

/-- A fault is told; then, where the datapath serves a stripe or is to serve it, it is answered. -/
theorem State.dpFault_cases (d kind : Nat) : ∃ t, s.FaultTold d kind t ∧ s.dpFault d kind =
    if (s.dp d).stripe < 80 ∧ s.serves (s.dp d).stripe = d then t.faultAnswered (s.dp d).stripe d else t := by
  unfold State.dpFault
  extract_lets x s1 works s2 s3
  obtain ⟨l, lines⟩ : ∃ l, s2 = { s1 with frames := l } := by
    unfold s2
    split
    · next r f _ _ =>
      extract_lets w here rows keys
      split
      · exact s1.linesDamaged r keys r.frame
      · exact ⟨_, rfl⟩
    · exact ⟨_, rfl⟩
  refine ⟨s3, ⟨?_, ?_, ?_, ?_, ?_, ?_⟩, ?_⟩
  · simp only [s3, State.alarm_now, State.faultEv_eq, State.raise_now, State.setInt_eq, State.note_now,
      State.setReg_now, lines, s1]
    rfl
  · simp only [s3, State.alarm_tmg, State.faultEv_eq, State.raise_tmg, State.setInt_eq, State.note_tmg,
      State.setReg_tmg, lines, s1]
    rfl
  · simp only [s3, State.alarm_str, State.faultEv_eq, State.raise_str, State.setInt_eq, State.note_str,
      State.setReg_str, lines, s1]
    rfl
  · rw [State.alarm_reg _ _ _ _ (by decide), State.faultEv_eq, State.raise_reg,
      State.setInt_reg_other _ _ (by decide), lines]
    rfl
  · rw [State.rb_eq, State.alarm_reg _ _ _ _ (by decide), ← State.rb_eq]
    exact s2.setInt_rb_same A.STR_INT_STATUS (i := 0) (by decide)
  · simp only [s3, State.alarm_frames, State.faultEv_eq, State.raise_frames, State.setInt_eq, State.note_frames,
      State.setReg_frames]
    rintro n ⟨below, own, r, f, reading, rfl, found, more⟩
    have frame : s.tmg.reading.bind (fun r => s.frames.find? (·.num = r.frame)) = some f := by
      rw [reading]
      exact found
    have exists_ : ∃ g ∈ s1.frames, g.num = r.frame :=
      ⟨f, List.mem_of_find?_eq_some found, by simpa using List.find?_some found⟩
    unfold s2
    rw [frame, reading]
    dsimp only
    rw [if_pos ⟨decide_eq_true ⟨below, own⟩, more⟩]
    exact State.damageFrame_damaged (State.frame_of_progress (s1.linesFlagged_progress r _) exists_)
  · by_cases serves : x.stripe < 80 ∧ s.serves x.stripe = d
    · rw [if_neg (not_not.2 serves), if_pos serves]
      rfl
    · rw [if_pos serves, if_neg serves]

/-! ### The fault is answered -/

theorem State.pathFrame_faultAnswered (stripe d : Nat) : s.PathFrame (s.faultAnswered stripe d) := by
  unfold State.faultAnswered
  split
  · split
    · exact .refl s
    · exact s.pathFrame_schedule _
  · exact (s.pathFrame_dropRestore stripe).trans (State.pathFrame_stripeFail _ d)

/-- Whatever answers a fault, it leaves what was told. -/
theorem State.dpFault_pathFrame (d kind : Nat) : ∃ t, s.FaultTold d kind t ∧ t.PathFrame (s.dpFault d kind) := by
  obtain ⟨t, told, eq⟩ := s.dpFault_cases d kind
  refine ⟨t, told, ?_⟩
  rw [eq]
  split
  · exact t.pathFrame_faultAnswered _ d
  · exact .refl t

section
variable {s} {d kind : Nat} {t : State} (told : s.FaultTold d kind t)
include told

theorem State.FaultTold.dp (k : Nat) : t.dp k = (s.setDp d ((s.dp d).withFault kind)).dp k :=
  State.dp_of_dps (congrArg Str.dps told.str) k

theorem State.FaultTold.keeps {γ : Type} (π : Datapath → γ) (same : π ((s.dp d).withFault kind) = π (s.dp d))
    (k : Nat) : π (t.dp k) = π (s.dp k) := by rw [told.dp, s.setDp_keeps π same]

theorem State.FaultTold.idleSpares : t.idleSpares = s.idleSpares :=
  State.idleSpares_congr (told.keeps Datapath.state rfl)

theorem State.FaultTold.ticking : t.ticking = s.ticking := by rw [State.ticking, told.tmg, State.ticking]

theorem State.FaultTold.takes : t.str.takes = s.str.takes := by
  rw [told.str]
  rfl

theorem State.FaultTold.quiet (quiet : s.takesQuiet) : t.takesQuiet := by
  rw [State.takesQuiet, told.ticking, told.str]
  exact quiet

end

theorem State.dropRestore_dp (stripe k : Nat) : (s.dropRestore stripe).dp k = s.dp k := by
  unfold State.dropRestore
  dsimp only
  split <;> rfl

variable {s}

/-- The answer to a fault leaves a failed datapath FAILED. -/
theorem State.faultAnswered_failed (quiet : s.takesQuiet) {k : Nat} (failed : (s.dp k).state = .failed)
    (stripe d : Nat) : ((s.faultAnswered stripe d).dp k).state = .failed := by
  unfold State.faultAnswered
  split
  · split
    · exact failed
    · exact State.schedule_failed quiet rfl failed
  · rwa [State.stripeFail_state, State.dropRestore_dp]

theorem State.dpFault_failed (quiet : s.takesQuiet) {k : Nat} (failed : (s.dp k).state = .failed) (d kind : Nat) :
    ((s.dpFault d kind).dp k).state = .failed := by
  obtain ⟨t, told, eq⟩ := s.dpFault_cases d kind
  have kept : (t.dp k).state = .failed := (told.keeps Datapath.state rfl k).trans failed
  rw [eq]
  split
  · exact State.faultAnswered_failed (told.quiet quiet) kept _ d
  · exact kept

variable (s)

theorem State.dpFault_fault (d kind : Nat) : ((s.dpFault d kind).dp d).fault.testBit kind = true := by
  obtain ⟨t, told, path⟩ := s.dpFault_pathFrame d kind
  rw [path.fault, told.dp, State.setDp_dp_same, Datapath.withFault, Nat.testBit_or, Nat.testBit_two_pow_self,
    Bool.or_true]

theorem State.dpFault_testPass (d kind k : Nat) : ((s.dpFault d kind).dp k).testPass = (s.dp k).testPass := by
  obtain ⟨t, told, path⟩ := s.dpFault_pathFrame d kind
  rw [path.testPass, told.keeps Datapath.testPass rfl]

theorem State.dpFault_test (d kind : Nat) : (s.dpFault d kind).str.test = s.str.test := by
  obtain ⟨t, told, path⟩ := s.dpFault_pathFrame d kind
  rw [path.test, told.str]
  rfl

theorem State.dpFault_rb (d kind : Nat) : (s.dpFault d kind).rb A.STR_INT_STATUS 0 = true := by
  obtain ⟨t, told, path⟩ := s.dpFault_pathFrame d kind
  exact path.bits 0 told.bit

end

end Sys2Proof.Machine
end

section
/-!
PROOFS. Faults of datapaths, the hold of the statistics and the frozen centroid (R162, R163, R196, R197, R434, R436):
O45.
-/

namespace Sys2Proof.Machine

/-! ### A serving datapath fails (R162, R163) -/

theorem State.fin_dp (s : State) (k : Nat) : s.fin.dp k = s.dp k := State.dp_of_dps (by rw [State.fin_str]) k

section
variable {s : State} {d kind : Nat} (serves : (s.dp d).stripe < 80 ∧ s.serves (s.dp d).stripe = d)
include serves

/-- Where automatic takeover is allowed and a spare idle, a takeover pends at the next tick. -/
theorem State.dpFault_pends (auto : s.rb A.STR_CTRL 3 = true) (spares : s.idleSpares ≠ [])
    (ticking : s.ticking = true) (free : ∀ y ∈ s.str.takes, y.stripe ≠ (s.dp d).stripe) :
    (s.dpFault d kind).str.takes =
      s.str.takes ++ [{ stripe := (s.dp d).stripe, restore := false, fault := true, at_ := s.now }] := by
  obtain ⟨t, told, eq⟩ := s.dpFault_cases d kind
  have allowed : t.rb A.STR_CTRL 3 = true := by rw [State.rb_eq, told.ctrl, ← State.rb_eq, auto]
  have free' : ∀ y ∈ t.str.takes, y.stripe ≠ (s.dp d).stripe := by rwa [told.takes]
  have none_ : ¬ t.str.takes.any (fun y => y.stripe = (s.dp d).stripe ∧ y.fault) := by
    simp only [List.any_eq_true, decide_eq_true_eq]
    rintro ⟨y, mem, same, -⟩
    exact free' y mem same
  rw [eq, if_pos serves, State.faultAnswered, if_pos ⟨allowed, told.idleSpares ▸ spares⟩, if_neg none_,
    State.schedule_ticking (fun _ => free') (told.ticking.trans ticking), State.takesWith, told.now]
  dsimp only
  rw [List.filter_eq_self.2 fun y mem => decide_eq_true (free' y mem), told.takes]

/-- Else the stripe stays on it, and loses a restore that pends. -/
theorem State.dpFault_stays (alone : s.rb A.STR_CTRL 3 = false ∨ s.idleSpares = []) :
    ∃ t, s.FaultTold d kind t ∧ s.dpFault d kind = (t.dropRestore (s.dp d).stripe).stripeFail d := by
  obtain ⟨t, told, eq⟩ := s.dpFault_cases d kind
  have not_ : ¬ (t.rb A.STR_CTRL 3 = true ∧ t.idleSpares ≠ []) := by
    rintro ⟨auto, spares⟩
    rw [State.rb_eq, told.ctrl, ← State.rb_eq] at auto
    rw [told.idleSpares] at spares
    exact alone.elim (fun off => Bool.noConfusion (off.symm.trans auto)) spares
  exact ⟨t, told, by rw [eq, if_pos serves, State.faultAnswered, if_neg not_]⟩

end

section
variable (s : State) (stripe d : Nat)

theorem State.stripeFail_failing : ((s.stripeFail d).dp d).failing = true := by
  rw [State.stripeFail_dp, State.setDp_dp_same, Datapath.fails]

theorem State.stripeFail_cmdResult : (s.stripeFail d).str.cmdResult = s.str.cmdResult := by
  unfold State.stripeFail
  dsimp only
  split <;> rfl

theorem State.stripeFail_rb {s : State} {d : Nat} (first : (s.dp d).failing = false) :
    (s.stripeFail d).rb A.STR_INT_STATUS 3 = true := by
  unfold State.stripeFail
  dsimp only
  rw [first, if_neg Bool.false_ne_true]
  exact State.setInt_rb_same _ A.STR_INT_STATUS (by decide)

theorem State.dropRestore_takes : (s.dropRestore stripe).str.takes =
    s.str.takes.filter (fun y => !(y.stripe = stripe && y.restore)) := by
  unfold State.dropRestore
  extract_lets mine
  split
  · rfl
  · next none_ =>
    refine (List.filter_eq_self.2 fun y mem => ?_).symm
    rw [Bool.not_eq_true']
    exact Bool.eq_false_iff.2 fun its => none_ (List.any_eq_true.2 ⟨y, mem, its⟩)

theorem State.dropRestore_refused {s : State} {stripe : Nat}
    (pends : ∃ y ∈ s.str.takes, y.stripe = stripe ∧ y.restore = true) :
    (s.dropRestore stripe).str.cmdResult = 5 := by
  obtain ⟨y, mem, its, restore⟩ := pends
  unfold State.dropRestore
  dsimp only
  rw [if_pos (List.any_eq_true.2 ⟨y, mem, by simp [its, restore]⟩)]
  rfl

end

theorem exec_datapathFault {s : State} (run : s.released = true) (dp : Fin 82) (kind : Nat) :
    exec (.datapathFault dp kind) s = .next (s.dpFault dp kind).fin := act_run _ run

theorem datapathFaultsAreHandled : Claims.DatapathFaultsAreHandled := by
  unfold Claims.DatapathFaultsAreHandled
  intro s dp kind run x serves works
  have fault := exec_datapathFault run dp kind
  refine ⟨⟨_, fault, ?_⟩, fun serves auto spares ticking free => ⟨_, fault, ?_⟩,
    fun serves alone => ⟨_, fault, ?_⟩, fun r f works reading found more => ⟨_, fault, ?_⟩⟩ <;> dsimp only
  · rw [State.fin_dp, State.fin_rb]
    exact ⟨s.dpFault_fault dp kind, s.dpFault_rb dp kind⟩
  · rw [State.fin_str, State.dpFault_pends serves auto spares ticking free]
  · obtain ⟨t, told, eq⟩ := State.dpFault_stays (kind := kind) serves alone
    rw [State.fin_dp, State.fin_str, State.fin_rb, eq, State.stripeFail_takes, State.stripeFail_cmdResult,
      State.dropRestore_takes, told.takes]
    refine ⟨State.stripeFail_failing _ _, rfl, fun pends => State.dropRestore_refused (by rwa [told.takes]),
      fun first => State.stripeFail_rb ?_⟩
    rw [State.dropRestore_dp, told.keeps Datapath.failing rfl]
    exact first
  · obtain ⟨t, told, path⟩ := s.dpFault_pathFrame dp kind
    rw [State.fin_frames, path.frames]
    exact told.damaged r.frame ⟨works.1, works.2, r, f, reading, rfl, found, more⟩

/-! ### The held statistics (R196) -/

theorem State.wroteBy_str (t s : State) (who : Who) (a : Nat) : (t.wroteBy s who a).str = t.str := by
  rw [State.wroteBy_frame]

/-- HOLD stands as it is written. -/
theorem State.statCtrlWrite_rb (s : State) (v : Word) : (s.statCtrlWrite v).rb A.STR_STAT_CTRL 0 = wbit v 0 := by
  have stored (t : State) : (t.setRn A.STR_STAT_CTRL (wfield v 0 1)).rb A.STR_STAT_CTRL 0 = wbit v 0 := by
    rw [State.setRn_eq, State.rb_eq, State.setReg_reg_same, mkWord, BitVec.toNat_ofNat, Nat.testBit_mod_two_pow,
      testBit_wfield]
    rfl
  unfold State.statCtrlWrite
  extract_lets s0 s1
  split <;> exact stored _

theorem State.statCtrlWrite_hold (s : State) {v : Word} (hold : wbit v 0 = true) :
    (s.statCtrlWrite v).str.shown = s.str.shown ∧ (s.statCtrlWrite v).str.missed = 0 := by
  rw [State.statCtrlWrite, if_pos hold]
  exact ⟨rfl, rfl⟩

theorem State.statCtrlWrite_show (s : State) {v : Word} (open_ : wbit v 0 = false) :
    (s.statCtrlWrite v).str.shown = s.str.newest ∧ (s.statCtrlWrite v).str.missed = s.str.missed := by
  rw [State.statCtrlWrite, open_, if_neg Bool.false_ne_true]
  exact ⟨rfl, rfl⟩

theorem exec_statHoldWrite {s : State} (run : s.released = true) (who : Who) (w : Word) :
    exec (.statHoldWrite who w) s =
      .next ((s.statCtrlWrite (s.standing who A.STR_STAT_CTRL w)).wroteBy s who A.STR_STAT_CTRL).fin := by
  rw [← State.poke_STR_STAT_CTRL]
  exact act_run _ run

/-! ### The frozen centroid (R197, R436) -/

theorem Str.frozen_setFrozen (x : Str) (who : Who) (c : Option CentReg) : (x.setFrozen who c).frozen who = c := by
  cases who <;> rfl

/-- A read of `STR_CENT_FRAME` addresses bytes of the newest number, and freezes the registers for its reader. -/
theorem State.readPart_centFrame (s : State) (r : Reader) (base : Nat) :
    s.readPart r.who base (A.STR_CENT_FRAME + r.off.val) r.size =
      (partOf r s.str.cent.frame, { s with str := s.str.setFrozen r.who (some s.str.cent) }) := by
  have below := r.off.isLt
  have word : (A.STR_CENT_FRAME + r.off.val) / 4 * 4 = A.STR_CENT_FRAME := by simp only [A.STR_CENT_FRAME]; omega
  have bytes : (A.STR_CENT_FRAME + r.off.val) % 4 = r.off.val := by simp only [A.STR_CENT_FRAME]; omega
  have read : s.readWord r.who base (A.STR_CENT_FRAME + r.off.val) = s.centRead r.who A.STR_CENT_FRAME := by
    rw [State.readWord, word]
    rfl
  simp only [State.readPart, read, bytes, partOf]
  rfl

theorem State.fetch_str (s : State) (r : Reader) (a : Nat) :
    (s.fetch r a).str = (s.readPart r.who (s.aperture r.who 0) (a + r.off.val) r.size).2.str := rfl

theorem statisticsAreHeld : Claims.StatisticsAreHeld := by
  unfold Claims.StatisticsAreHeld
  intro s who w run v
  have write := exec_statHoldWrite run who w
  refine ⟨fun hold => ⟨_, write, ?_⟩, fun open_ => ⟨_, write, ?_⟩,
    fun r => ⟨_, act_run _ run, ?_⟩⟩ <;> dsimp only
  · rw [State.fin_rb, State.wroteBy_rb, State.fin_str, State.wroteBy_str, State.statCtrlWrite_rb]
    exact ⟨hold, s.statCtrlWrite_hold hold⟩
  · rw [State.fin_rb, State.wroteBy_rb, State.fin_str, State.wroteBy_str, State.statCtrlWrite_rb]
    exact ⟨open_, s.statCtrlWrite_show open_⟩
  · rw [State.fin_readBack, State.fetch_readBack, State.fin_str, State.fetch_str, State.readPart_centFrame]
    exact ⟨rfl, Str.frozen_setFrozen _ _ _⟩

/-- Settles O45: a fault is told (`State.FaultTold`), then answered by a takeover (`State.dpFault_pends`) or by leaving
its stripe (`State.dpFault_stays`), neither of which takes back what was told (`State.PathFrame`). -/
theorem datapathFaultsAndStatistics : Obligations.DatapathFaultsAndStatistics :=
  ⟨datapathFaultsAreHandled, statisticsAreHeld⟩

end Sys2Proof.Machine
end

section
/-!
PROOFS. Takeovers, restores and self-tests of datapaths (R163, R167, R168): O44.
-/

namespace Sys2Proof.Machine

/-! ### Writes of `STR_CTRL` (R168) -/

/-- The one RW bit of `STR_CTRL`: AUTO (R163). -/
theorem homeMask_STR_CTRL : homeMask A.STR_CTRL = (8 : Word).toNat := by decide

/-- A host write is ignored, and leaves no record of a writer. -/
theorem State.poke_STR_CTRL_host (s : State) (w : Word) :
    s.poke .host A.STR_CTRL w = s.ignored clsSTR .host A.STR_CTRL := by
  rw [State.poke_STR_CTRL, if_pos rfl, State.wroteBy, if_pos ⟨by decide, .inr ⟨rfl, rfl⟩⟩]

theorem act_poke_STR_CTRL_host {s : State} (run : s.released = true) (w : Word) :
    act s (s.poke .host A.STR_CTRL w) = .next (s.ignored clsSTR .host A.STR_CTRL).fin := by
  rw [act_run _ run, State.poke_STR_CTRL_host]

/-- The RW bits of a write of `STR_CTRL` are stored. -/
def State.strStored (s : State) (v : Word) : State := s.setRn A.STR_CTRL (v.toNat &&& 8)

theorem State.strStored_rf (s : State) (v : Word) (lo n : Nat) :
    (s.strStored v).rf A.STR_CMD lo n = s.rf A.STR_CMD lo n :=
  congrArg (fun x : Word => field x.toNat lo n) (s.setReg_reg_other _ (by decide))

section
variable {s : State} {v : Word}

theorem State.strCtrlWrite_takeover (noRestore : wbit v 1 = false) (noTest : wbit v 2 = false) (go : wbit v 0 = true) :
    s.strCtrlWrite v = (s.strStored v).takeCmd (s.rf A.STR_CMD 0 7) false := by
  rw [← s.strStored_rf v]
  simp only [State.strCtrlWrite, noRestore, noTest, go, Bool.false_eq_true, if_true, if_false]
  rfl

theorem State.strCtrlWrite_restore (noTakeover : wbit v 0 = false) (noTest : wbit v 2 = false) (go : wbit v 1 = true) :
    s.strCtrlWrite v = (s.strStored v).takeCmd (s.rf A.STR_CMD 0 7) true := by
  rw [← s.strStored_rf v]
  simp only [State.strCtrlWrite, noTakeover, noTest, go, Bool.false_eq_true, if_true, if_false]
  rfl

theorem State.strCtrlWrite_test (noTakeover : wbit v 0 = false) (noRestore : wbit v 1 = false) (go : wbit v 2 = true) :
    s.strCtrlWrite v = (s.strStored v).testGo (s.rf A.STR_CMD 8 7) := by
  rw [← s.strStored_rf v]
  simp only [State.strCtrlWrite, noTakeover, noRestore, go, Bool.false_eq_true, if_true, if_false]
  rfl

end

/-- The other commands of the word stand as they are written. -/
theorem wbit_STR_CTRL {k i : Nat} (hk : k < 32) (other : i ≠ k) (command : (8 : Word).toNat.testBit i = false)
    (s : State) (who : Who) {w : Word} (clear : wbit w i = false) :
    wbit (force (s.standing who A.STR_CTRL w) k) i = false := by
  rw [wbit_force_other _ hk other, State.wbit_standing homeMask_STR_CTRL command, clear]

section
variable {s : State} (run : s.released = true) {who : Who} (core : who ≠ .host) {w : Word}
include run core

/-- A core's command writes bit `k` of `STR_CTRL` as 1. -/
theorem act_poke_STR_CTRL {k : Nat} (hk : mkWord (2 ^ k) &&& ~~~8 = mkWord (2 ^ k)) :
    act s (s.poke who A.STR_CTRL (force w k)) =
      .next ((s.strCtrlWrite (force (s.standing who A.STR_CTRL w) k)).wroteBy s who A.STR_CTRL).fin := by
  rw [act_run _ run, State.poke_STR_CTRL, if_neg core, State.standing_force homeMask_STR_CTRL hk]

theorem exec_takeoverGo (noRestore : wbit w 1 = false) (noTest : wbit w 2 = false) : ∃ v, exec (.takeoverGo who w) s =
    .next (((s.strStored v).takeCmd (s.rf A.STR_CMD 0 7) false).wroteBy s who A.STR_CTRL).fin := by
  refine ⟨force (s.standing who A.STR_CTRL w) 0, (act_poke_STR_CTRL run core (by decide)).trans ?_⟩
  rw [State.strCtrlWrite_takeover (wbit_STR_CTRL (by decide) (by decide) (by decide) s who noRestore)
    (wbit_STR_CTRL (by decide) (by decide) (by decide) s who noTest) (wbit_force_same _ (by decide))]

theorem exec_restoreGo (noTakeover : wbit w 0 = false) (noTest : wbit w 2 = false) : ∃ v, exec (.restoreGo who w) s =
    .next (((s.strStored v).takeCmd (s.rf A.STR_CMD 0 7) true).wroteBy s who A.STR_CTRL).fin := by
  refine ⟨force (s.standing who A.STR_CTRL w) 1, (act_poke_STR_CTRL run core (by decide)).trans ?_⟩
  rw [State.strCtrlWrite_restore (wbit_STR_CTRL (by decide) (by decide) (by decide) s who noTakeover)
    (wbit_STR_CTRL (by decide) (by decide) (by decide) s who noTest) (wbit_force_same _ (by decide))]

theorem exec_testGo (noTakeover : wbit w 0 = false) (noRestore : wbit w 1 = false) : ∃ v, exec (.testGo who w) s =
    .next (((s.strStored v).testGo (s.rf A.STR_CMD 8 7)).wroteBy s who A.STR_CTRL).fin := by
  refine ⟨force (s.standing who A.STR_CTRL w) 2, (act_poke_STR_CTRL run core (by decide)).trans ?_⟩
  rw [State.strCtrlWrite_test (wbit_STR_CTRL (by decide) (by decide) (by decide) s who noTakeover)
    (wbit_STR_CTRL (by decide) (by decide) (by decide) s who noRestore) (wbit_force_same _ (by decide))]

end

/-! ### Commands judged and taken (R163, R170) -/

section
variable {s : State} {stripe : Nat} {restore : Bool}

theorem State.takeCmd_invalid (bad : 79 < stripe ∨ (restore = true ∧ s.serving stripe = stripe)) :
    s.takeCmd stripe restore = s.strCmdEnd 4 := by
  unfold State.takeCmd
  split
  · rfl
  · next below => rw [if_pos (bad.resolve_left below)]

variable (below : stripe ≤ 79)
include below

theorem State.takeCmd_noStandby (away : s.serving stripe ≠ stripe) (busy : (s.dp stripe).state ≠ .standby) :
    s.takeCmd stripe true = s.strCmdEnd 5 := by
  rw [State.takeCmd, if_neg (Nat.not_lt.2 below), if_neg (fun h => away h.2), if_pos ⟨rfl, busy⟩]

theorem State.takeCmd_noSpare (none_ : s.idleSpares = []) : s.takeCmd stripe false = s.strCmdEnd 3 := by
  rw [State.takeCmd, if_neg (Nat.not_lt.2 below), if_neg (fun h => Bool.false_ne_true h.1),
    if_neg (fun h => Bool.false_ne_true h.1), if_pos ⟨Bool.false_ne_true, none_⟩]

/-- The take that a command asks for, and the command PENDING. -/
def State.commanded (s : State) : State := { s with str := { s.str with cmdResult := 1 } }

def State.askedTake (s : State) (stripe : Nat) (restore : Bool) : Take :=
  { stripe := stripe, restore := restore, fault := false, at_ := s.seqEdge s.now }

variable (free : ∀ x ∈ s.str.takes, x.stripe = stripe → x.fault = false)
include free

omit below in
theorem State.no_faultTake : ¬ s.str.takes.any (fun x => x.stripe = stripe ∧ x.fault) := by
  simp only [List.any_eq_true, decide_eq_true_eq]
  rintro ⟨x, mem, its, fault⟩
  exact Bool.noConfusion ((free x mem its).symm.trans fault)

theorem State.takeCmd_takesOver (spares : s.idleSpares ≠ []) :
    s.takeCmd stripe false = s.commanded.schedule (s.askedTake stripe false) := by
  rw [State.takeCmd, if_neg (Nat.not_lt.2 below), if_neg (fun h => Bool.false_ne_true h.1),
    if_neg (fun h => Bool.false_ne_true h.1), if_neg (fun h => spares h.2), if_neg (State.no_faultTake free)]
  rfl

theorem State.takeCmd_restores (away : s.serving stripe ≠ stripe) (standby : (s.dp stripe).state = .standby) :
    s.takeCmd stripe true = s.commanded.schedule (s.askedTake stripe true) := by
  rw [State.takeCmd, if_neg (Nat.not_lt.2 below), if_neg (fun h => away h.2), if_neg (fun h => h.2 standby),
    if_neg (fun h => h.1 rfl), if_neg (State.no_faultTake free)]
  rfl

end

/-- While ticks run, the take that a command asks for pends, in place of another of its stripe. -/
theorem State.commanded_pends {s : State} (ticking : s.ticking = true) (stripe : Nat) (restore : Bool) :
    s.commanded.schedule (s.askedTake stripe restore) = s.commanded.takesWith (s.askedTake stripe restore) :=
  State.schedule_ticking (s := s.commanded) (fun fault => Bool.noConfusion fault) ticking

/-! ### A takeover while no ticks run -/

section
variable {s : State}

/-- One switch ends. -/
theorem State.endSwitches_one {w : Switch} (one : s.str.switches = [w]) (k : Nat) :
    s.endSwitches.dp k = (s.switched w).dp k ∧ s.endSwitches.serving k = (s.switched w).serving k := by
  rw [State.endSwitches_dp, State.endSwitches_serving, one]
  exact ⟨rfl, rfl⟩

theorem State.endSwitches_cmdResult (s : State) : s.endSwitches.str.cmdResult = s.str.cmdResult := by
  rw [State.endSwitches_str]
  exact foldl_keeps (fun a => a.str.cmdResult) _ _ _ fun _ _ => rfl

/-- The lowest idle spare serves the stripe at once, and the datapath that it relieves is FAILED. -/
theorem State.schedule_takesOver (stopped : s.ticking = false) (quiet : s.takesQuiet) {d stripe : Nat} {rest : List Nat}
    (spares : s.idleSpares = d :: rest) (busy : s.serving stripe ∉ s.idleSpares) :
    let t := s.schedule (s.askedTake stripe false)
    (t.dp d).state = .serving ∧ (t.dp d).stripe = stripe ∧ t.serving stripe = d ∧ t.str.takes = [] ∧
      t.str.cmdResult = 2 ∧ t.rb A.STR_INT_STATUS 1 = true ∧ (t.dp (s.serving stripe)).state = .failed := by
  obtain ⟨noTakes, noSwitches⟩ := quiet stopped
  obtain ⟨str, bit⟩ := State.applyTake_takeover (t := s.askedTake stripe false) rfl spares
  have one : (s.applyTake (s.askedTake stripe false)).str.switches =
      [{ stripe := stripe, old := s.serving stripe, new_ := d, restore := false }] := by
    rw [str]
    exact congrArg (· ++ [_]) noSwitches
  have dp (k : Nat) : (s.applyTake (s.askedTake stripe false)).dp k =
      (s.takenBy (s.askedTake stripe false) d .serving).dp k :=
    State.dp_of_dps (by rw [str]) k
  have other : d ≠ s.serving stripe := by
    rintro rfl
    exact busy (spares ▸ List.mem_cons_self)
  have ended := State.endSwitches_one one
  have new_ : (s.applyTake (s.askedTake stripe false)).endSwitches.dp d = (s.dp d).takes .serving stripe := by
    rw [(ended d).1, State.switched_dp_other _ other, dp, State.takenBy_dp_same]
    rfl
  rw [State.schedule_stopped _ stopped quiet]
  refine ⟨by rw [new_, Datapath.takes], by rw [new_, Datapath.takes], ?_, ?_, ?_, ?_, ?_⟩
  · rw [(ended stripe).2]
    exact State.switched_serving _ _
  · refine (congrArg (fun w => w.2.1) (State.endSwitches_waits _)).trans ?_
    exact (State.applyTake_takes _ _).trans noTakes
  · rw [State.endSwitches_cmdResult, str]
    rfl
  · exact (State.pathFrame_endSwitches _).bits 1 bit
  · rw [(ended _).1]
    exact congrArg Datapath.state (State.switched_dp_old _ _)

end

/-! ### Self-tests (R167) -/

section
variable {s : State} {d : Nat}

theorem State.testGo_invalid (bad : 81 < d) : s.testGo d = s.strCmdEnd 4 := if_pos bad

variable (below : d ≤ 81)
include below

theorem State.testGo_refused (busy : s.str.test ≠ none ∨ (s.dp d).state = .testing ∨
    (((s.dp d).state = .home ∨ (s.dp d).state = .serving) ∧ s.tmg.seq ≠ .stopped)) :
    s.testGo d = s.strCmdEnd 5 := by
  rw [← Option.isSome_iff_ne_none, ← or_assoc] at busy
  rw [State.testGo, if_neg (Nat.not_lt.2 below)]
  split
  · rfl
  · next free => rw [if_pos (busy.resolve_left free)]

/-- The test starts, and the datapath keeps the state to which it is to return. -/
def State.testStarted (s : State) (d : Nat) : State :=
  let s1 := s.setDp d { s.dp d with state := .testing, back := (s.dp d).state }
  { s1 with str := { s1.str with test := some (d, s.now), cmdResult := 1 } }

theorem State.testGo_starts (free : s.str.test = none) (idle : (s.dp d).state ≠ .testing)
    (rests : ((s.dp d).state ≠ .home ∧ (s.dp d).state ≠ .serving) ∨ s.tmg.seq = .stopped) :
    s.testGo d = s.testStarted d := by
  have noTest : ¬ (s.str.test.isSome = true ∨ (s.dp d).state = .testing) := by
    rintro (some_ | testing)
    · exact Option.isSome_iff_ne_none.1 some_ free
    · exact idle testing
  have noWork : ¬ (((s.dp d).state = .home ∨ (s.dp d).state = .serving) ∧ s.tmg.seq ≠ .stopped) := by
    rintro ⟨works, running⟩
    exact works.elim (rests.resolve_right running).1 (rests.resolve_right running).2
  rw [State.testGo, if_neg (Nat.not_lt.2 below), if_neg noTest, if_neg noWork]
  rfl

end

theorem State.testStarted_dp (s : State) (d : Nat) :
    (s.testStarted d).dp d = { s.dp d with state := .testing, back := (s.dp d).state } := by
  rw [← s.setDp_dp_same d { s.dp d with state := .testing, back := (s.dp d).state }]
  exact State.dp_of_dps rfl d

section
variable (s : State) (d : Nat) (back : DpState)

/-- A datapath once its test has passed or not. -/
def Datapath.tested (x : Datapath) (state : DpState) (pass : Bool) : Datapath :=
  { x with state := state, testPass := pass }

/-- A datapath that passes is what it was before the test; one that had FAILED is a spare, or stands by for its stripe
(R164). -/
theorem State.testResult_pass : s.testResult d back true =
    s.setDp d ((s.dp d).tested (if back = .failed then (if d < 80 then .standby else .idle) else back) true) := rfl

/-- One that does not pass is faulty. -/
theorem State.testResult_fail : s.testResult d back false =
    (s.setDp d ((s.dp d).tested .failed false)).dpFault d 3 := rfl

theorem State.testResult_passed : ((s.testResult d back true).dp d).testPass = true ∧
    ((s.testResult d back true).dp d).state =
      if back = .failed then (if d < 80 then .standby else .idle) else back := by
  rw [State.testResult_pass, State.setDp_dp_same, Datapath.tested]
  exact ⟨rfl, rfl⟩

theorem State.testResult_failed {s : State} (quiet : s.takesQuiet) (d : Nat) (back : DpState) :
    ((s.testResult d back false).dp d).testPass = false ∧ ((s.testResult d back false).dp d).state = .failed ∧
      ((s.testResult d back false).dp d).fault.testBit 3 = true := by
  have tested : (s.setDp d ((s.dp d).tested .failed false)).dp d = (s.dp d).tested .failed false := s.setDp_dp_same d _
  have failed : ((s.setDp d ((s.dp d).tested .failed false)).dp d).state = .failed := by rw [tested, Datapath.tested]
  have quiet' : (s.setDp d ((s.dp d).tested .failed false)).takesQuiet := quiet
  rw [State.testResult_fail]
  refine ⟨?_, State.dpFault_failed quiet' failed d 3, State.dpFault_fault _ d 3⟩
  rw [State.dpFault_testPass, tested, Datapath.tested]

theorem State.testResult_test (pass : Bool) : (s.testResult d back pass).str.test = s.str.test := by
  cases pass with
  | true => rfl
  | false =>
    rw [State.testResult_fail, State.dpFault_test]
    rfl

end

/-- The commanded self-test that began at `begun` is over. -/
def State.testOver (s : State) (begun : Nat) : State :=
  let s0 := s.goTo (begun + us 2000)
  { s0 with str := { s0.str with test := none } }

theorem State.selftestDone_eq {s : State} {d begun : Nat} (test : s.str.test = some (d, begun)) (pass : Bool) :
    s.selftestDone pass = ((s.testOver begun).testResult d (s.dp d).back pass).strCmdEnd 2 := by
  unfold State.selftestDone
  rw [test]
  rfl

/-- The self-test that spare `d` runs by itself, or next runs, is over. -/
def State.spareTestOver (s : State) (d : Nat) : State :=
  let k := (s.now - s.spareLast d) / ms 4000
  let start := s.spareLast d + (if s.spareTesting d then k else k + 1) * ms 4000
  let s0 := s.goTo (start + us 2000)
  { s0 with str := if d = 80 then { s0.str with spare80 := start } else { s0.str with spare81 := start } }

theorem State.spareSelftest_eq {s : State} {d : Nat} (spare : d = 80 ∨ d = 81) (idle : (s.dp d).state = .idle)
    (pass : Bool) :
    s.spareSelftest d pass = ((s.spareTestOver d).testResult d .idle pass).setInt A.STR_INT_STATUS 4 := by
  rw [State.spareSelftest, if_neg (by simp [spare, idle])]
  rfl

theorem State.spareTestOver_quiet {s : State} (quiet : s.takesQuiet) (d : Nat) : (s.spareTestOver d).takesQuiet := by
  have takes : (s.spareTestOver d).str.takes = s.str.takes := by
    unfold State.spareTestOver
    dsimp only
    split <;> rfl
  have switches : (s.spareTestOver d).str.switches = s.str.switches := by
    unfold State.spareTestOver
    dsimp only
    split <;> rfl
  rw [State.takesQuiet, takes, switches]
  exact quiet

/-! ### The claims -/

/-- What a command of `STR_CTRL` leaves of the STR block, its writer's record and the ledger do not touch. -/
theorem State.written_str (t s : State) (who : Who) (a : Nat) : (t.wroteBy s who a).fin.str = t.str := by
  rw [State.fin_str, State.wroteBy_str]

theorem State.written_dp (t s : State) (who : Who) (a k : Nat) : (t.wroteBy s who a).fin.dp k = t.dp k :=
  State.dp_of_dps (congrArg Str.dps (t.written_str s who a)) k

theorem takesAreCommanded : Claims.TakesAreCommanded := by
  unfold Claims.TakesAreCommanded
  intro s who w run stripe pending
  refine ⟨fun c mem => ?_, fun core noRestore noTest => ?_, fun core noTakeover noTest => ?_⟩
  · simp only [List.mem_cons, List.not_mem_nil, or_false] at mem
    rcases mem with rfl | rfl | rfl <;> exact act_poke_STR_CTRL_host run _
  · obtain ⟨v, takeover⟩ := exec_takeoverGo run core noRestore noTest
    refine ⟨fun bad => ⟨_, takeover, ?_⟩, fun below none_ => ⟨_, takeover, ?_⟩, fun below some_ free =>
      ⟨fun ticking => ⟨_, takeover, ?_⟩, fun stopped quiet busy => ⟨_, takeover, ?_⟩⟩⟩ <;> dsimp only
    · rw [State.written_str, State.takeCmd_invalid (s := s.strStored v) (.inl bad)]
      exact ⟨rfl, rfl⟩
    · rw [State.written_str, State.takeCmd_noSpare (s := s.strStored v) below none_]
      exact ⟨rfl, rfl⟩
    · rw [State.written_str, State.takeCmd_takesOver (s := s.strStored v) below free some_,
        State.commanded_pends (s := s.strStored v) ticking]
      exact ⟨rfl, rfl⟩
    · obtain ⟨d, rest, spares⟩ := List.exists_cons_of_ne_nil some_
      refine ⟨d, by rw [spares]; rfl, ?_⟩
      rw [State.written_dp, State.written_dp, State.serving_of_map (congrArg Str.map (State.written_str _ _ _ _)),
        State.written_str, State.fin_rb, State.wroteBy_rb,
        State.takeCmd_takesOver (s := s.strStored v) below free some_]
      exact State.schedule_takesOver (s := (s.strStored v).commanded) stopped quiet spares busy
  · obtain ⟨v, restore⟩ := exec_restoreGo run core noTakeover noTest
    refine ⟨fun bad => ⟨_, restore, ?_⟩, fun below away busy => ⟨_, restore, ?_⟩,
      fun below away standby ticking free => ⟨_, restore, ?_⟩⟩ <;> dsimp only
    · rw [State.written_str, State.takeCmd_invalid (s := s.strStored v) (bad.imp_right fun home => ⟨rfl, home⟩)]
      exact ⟨rfl, rfl⟩
    · rw [State.written_str, State.takeCmd_noStandby (s := s.strStored v) below away busy]
      exact ⟨rfl, rfl⟩
    · rw [State.written_str, State.takeCmd_restores (s := s.strStored v) below free away standby,
        State.commanded_pends (s := s.strStored v) ticking]
      exact ⟨rfl, rfl⟩

theorem datapathsTestThemselves : Claims.DatapathsTestThemselves := by
  unfold Claims.DatapathsTestThemselves
  intro s who w run d
  refine ⟨fun core noTakeover noRestore => ?_, fun k begun test => ?_, fun k spare idle => ?_⟩
  · obtain ⟨v, go⟩ := exec_testGo run core noTakeover noRestore
    refine ⟨fun bad => ⟨_, go, ?_⟩, fun below busy => ⟨_, go, ?_⟩,
      fun below free ready rests => ⟨_, go, ?_⟩⟩ <;> dsimp only
    · rw [State.written_str, State.testGo_invalid bad]
      exact ⟨rfl, rfl⟩
    · rw [State.written_str, State.testGo_refused (s := s.strStored v) below busy]
      exact ⟨rfl, rfl, rfl⟩
    · rw [State.written_dp, State.written_str, State.testGo_starts (s := s.strStored v) below free ready rests,
        State.testStarted_dp]
      exact ⟨rfl, rfl, rfl, rfl⟩
  · have done (pass : Bool) : exec (.selftestDone pass) s = .next (s.selftestDone pass).fin := act_run _ run
    have ends := State.selftestDone_eq test
    have dp (r j : Nat) (t : State) : (t.strCmdEnd r).fin.dp j = t.dp j :=
      State.dp_of_dps (by rw [State.fin_str]; rfl) j
    have noTest (pass : Bool) : ((s.testOver begun).testResult k (s.dp k).back pass).str.test = none :=
      State.testResult_test _ _ _ _
    refine ⟨⟨_, done true, ?_⟩, fun quiet => ⟨_, done false, ?_⟩⟩
    · obtain ⟨passed, state⟩ := (s.testOver begun).testResult_passed k (s.dp k).back
      rw [ends, dp, State.fin_str, State.fin_now]
      exact ⟨noTest true, rfl, passed, state, rfl⟩
    · obtain ⟨failed, state, fault⟩ := State.testResult_failed (s := s.testOver begun) quiet k (s.dp k).back
      rw [ends, dp, State.fin_str]
      exact ⟨noTest false, rfl, failed, state, fault⟩
  · intro last n
    have done (pass : Bool) : exec (.spareSelftest k pass) s = .next (s.spareSelftest k pass).fin := act_run _ run
    have ends := State.spareSelftest_eq spare idle
    have dp (t : State) (j : Nat) : (t.setInt A.STR_INT_STATUS 4).fin.dp j = t.dp j :=
      State.dp_of_dps (by rw [State.fin_str]; rfl) j
    refine ⟨⟨_, done true, ?_⟩, fun quiet => ⟨_, done false, ?_⟩⟩
    · obtain ⟨passed, state⟩ := (s.spareTestOver k).testResult_passed k .idle
      rw [ends, dp, State.fin_rb, State.fin_now]
      exact ⟨state, passed, State.setInt_rb_same _ _ (by decide), rfl⟩
    · obtain ⟨failed, state, fault⟩ := State.testResult_failed (State.spareTestOver_quiet quiet k) k .idle
      rw [ends, dp]
      refine ⟨state, failed, fault, fun idle => ?_⟩
      have still := (State.mem_idleSpares.1 idle).2
      rw [dp, state] at still
      exact DpState.noConfusion still

/-- Settles O44: commands by the branches of `State.takeCmd` and `State.testGo`, a takeover that need not wait by
`State.schedule_takesOver`, and the end of a test by `State.testResult_passed` and `State.testResult_failed`. -/
theorem takeoversAndSelfTests : Obligations.TakeoversAndSelfTests := ⟨takesAreCommanded, datapathsTestThemselves⟩

end Sys2Proof.Machine
end

section
/-!
PROOFS. The lanes of the Frond link: what an update of one lane leaves of the others and of the link, how long
a packet is in blocks, and folds over lanes (R198 to R207).
-/

namespace Sys2Proof.Machine

/-! ### One lane -/

@[simp] theorem State.setLane_lane_same (s : State) (p : Nat) (l : Lane) : (s.setLane p l).lane p = l :=
  sget_sput_same _ _ _ _

theorem State.setLane_lane_other (s : State) {p q : Nat} (l : Lane) (h : q ≠ p) : (s.setLane p l).lane q = s.lane q :=
  sget_sput_other _ _ _ h

theorem State.lane_of_lanes {s t : State} (h : t.lnk.lanes = s.lnk.lanes) (p : Nat) : t.lane p = s.lane p := by
  simp only [State.lane, h]

theorem State.fin_lane (s : State) (p : Nat) : s.fin.lane p = s.lane p := State.lane_of_lanes (by rw [State.fin_lnk]) p

theorem State.markWriter_lnk (s : State) (who : Who) (a : Nat) : (s.markWriter who a).lnk = s.lnk := by
  rw [State.markWriter_frame]

theorem State.markWriter_lane (s : State) (who : Who) (a p : Nat) : (s.markWriter who a).lane p = s.lane p :=
  State.lane_of_lanes (by rw [State.markWriter_lnk]) p

theorem State.markWriter_rb (s : State) (who : Who) (a b i : Nat) : (s.markWriter who a).rb b i = s.rb b i := by
  rw [State.markWriter_frame]
  rfl

theorem State.turn_lnk (s : State) (who : Who) (a : Nat) : (s.turn who a).lnk = s.lnk := by rw [State.turn_frame]

theorem State.turn_lane (s : State) (who : Who) (a p : Nat) : (s.turn who a).lane p = s.lane p :=
  State.lane_of_lanes (by rw [State.turn_lnk]) p

/-- What a new value of one lane leaves of it, it leaves of every lane. -/
theorem State.setLane_keeps {γ : Type} (π : Lane → γ) (s : State) {p : Nat} {l : Lane} (same : π l = π (s.lane p))
    (q : Nat) : π ((s.setLane p l).lane q) = π (s.lane q) := by
  by_cases h : q = p
  · rw [h, State.setLane_lane_same, same]
  · rw [State.setLane_lane_other s l h]

theorem dataBlocks_length (n : Nat) (b : List Byte) : (dataBlocks n b).length = n := by
  induction n generalizing b with
  | zero => rfl
  | succ n ih => rw [dataBlocks, List.length_cons, ih]

/-- A packet lasts as long as its blocks. -/
theorem packetBlocks_length (type : Nat) (body : List Byte) :
    (packetBlocks type body).length = 1 + body.length / 8 := by
  rw [packetBlocks, List.length_cons, dataBlocks_length, Nat.add_comm]

/-! ### Updates of one lane after the other -/

/-- `t` is `s` but for the lanes. -/
def State.lanesOnly (s t : State) : Prop := t = { s with lnk := { s.lnk with lanes := t.lnk.lanes } }

theorem State.lanesOnly.trans {s t u : State} (first : s.lanesOnly t) (second : t.lanesOnly u) : s.lanesOnly u := by
  unfold State.lanesOnly at *
  rw [first] at second
  exact second

theorem State.lanesOnly.lnk {s t : State} (h : s.lanesOnly t) : t.lnk = { s.lnk with lanes := t.lnk.lanes } :=
  congrArg State.lnk h

/-- `t` is `s` but for lane `p`. -/
def State.laneOnly (s : State) (p : Nat) (t : State) : Prop := t = s ∨ ∃ l, t = s.setLane p l

theorem State.laneOnly.lanesOnly {s t : State} {p : Nat} (h : s.laneOnly p t) : s.lanesOnly t := by
  obtain rfl | ⟨l, rfl⟩ := h <;> rfl

theorem State.laneOnly.other {s t : State} {p q : Nat} (h : s.laneOnly p t) (ne : q ≠ p) : t.lane q = s.lane q := by
  obtain rfl | ⟨l, rfl⟩ := h
  · rfl
  · exact s.setLane_lane_other l ne

section
variable {f : State → Nat → State} (one : ∀ (a : State) p, a.laneOnly p (f a p))
include one

theorem State.lanesOnly_foldl (l : List Nat) (s : State) : s.lanesOnly (l.foldl f s) := by
  induction l generalizing s with
  | nil => rfl
  | cons p l ih => exact (one s p).lanesOnly.trans (ih _)

theorem State.lane_foldl_other {l : List Nat} {q : Nat} (out : q ∉ l) (s : State) : (l.foldl f s).lane q = s.lane q :=
  foldl_keeps_mem (fun a => a.lane q) f l s fun a p mem => (one a p).other fun same => out (same ▸ mem)

/-- What a fold over lanes makes of a lane of its list: in its turn it stands in relation `R` to what it was. -/
theorem State.lane_foldl {R : Nat → Lane → Lane → Prop} {s : State}
    (step : ∀ a p, s.lanesOnly a → R p (a.lane p) ((f a p).lane p)) {l : List Nat} (nodup : l.Nodup) {q : Nat}
    (mem : q ∈ l) : R q (s.lane q) ((l.foldl f s).lane q) := by
  obtain ⟨before, after, rfl, notBefore⟩ := List.eq_append_cons_of_mem mem
  have notAfter : q ∉ after := (List.nodup_cons.1 (List.nodup_append.1 nodup).2.1).1
  have reached := step (before.foldl f s) q (State.lanesOnly_foldl one before s)
  rw [State.lane_foldl_other one notBefore] at reached
  rwa [List.foldl_append, List.foldl_cons, State.lane_foldl_other one notAfter]

end

theorem mem_bitsOf {n k i : Nat} : i ∈ bitsOf n k ↔ i < k ∧ n.testBit i = true := by simp [bitsOf]

theorem bitsOf_nodup (n k : Nat) : (bitsOf n k).Nodup := List.nodup_range.filter _

theorem allLanes_nodup : allLanes.Nodup := List.nodup_range

theorem mem_allLanes {p : Nat} : p ∈ allLanes ↔ p < 60 := List.mem_range

/-- The mask of lanes that the word `w` of its low or its high register makes (R202, R204). -/
def laneMask (hi : Bool) (w : Word) : Nat := if hi then wfield w 0 28 * 2 ^ 32 else w.toNat

theorem laneNamed_iff {hi : Bool} {w : Word} {p : Nat} (below : p < 60) :
    laneNamed hi w p = true ↔ p ∈ bitsOf (laneMask hi w) 60 := by
  rw [mem_bitsOf, laneNamed, laneMask]
  cases hi with
  | false =>
    have high : 32 ≤ p → w.toNat.testBit p = false := fun h => Nat.testBit_lt_two_pow
      (Nat.lt_of_lt_of_le w.isLt (Nat.pow_le_pow_right (by decide) h))
    simp only [Bool.false_eq_true, if_false, Bool.and_eq_true, decide_eq_true_eq, ← BitVec.testBit_toNat]
    refine ⟨fun ⟨_, bit⟩ => ⟨below, bit⟩, fun ⟨_, bit⟩ => ⟨Nat.lt_of_not_le fun h => ?_, bit⟩⟩
    exact absurd (bit.symm.trans (high h)) (by decide)
  | true =>
    simp only [if_true, Bool.and_eq_true, decide_eq_true_eq, ← BitVec.testBit_toNat, Nat.testBit_mul_two_pow,
      testBit_wfield, wbit, Nat.zero_add]
    have within : p - 32 < 28 := by omega
    simp [below, within]

end Sys2Proof.Machine
end

section
/-!
PROOFS. Every packet takes its lane, the next SEQ of its set and its time, and no other lane (R207, R210 to R216, R219,
R227): O17.
-/

namespace Sys2Proof.Machine

/-! ### A packet starts (R207) -/

/-- What tells that a packet has been sent: device time, the lanes, and the next SEQ of each lane set. -/
def State.sending (s : State) : Nat × List (Nat × Lane) × Nat × Nat × Nat :=
  (s.now, s.lnk.lanes, s.lnk.seqMain, s.lnk.seqTwin, s.lnk.seqDump)

theorem State.sentOn_congr {s s' t t' : State} {p set type at_ : Nat} (sent : s.sentOn t p set type at_)
    (from_ : s'.sending = s.sending) (to_ : t'.sending = t.sending) : s'.sentOn t' p set type at_ := by
  simp only [State.sending, Prod.mk.injEq] at from_ to_
  obtain ⟨now, lanes, main, twin, dump⟩ := from_
  obtain ⟨now', lanes', main', twin', dump'⟩ := to_
  obtain ⟨flight, seq, instant, others⟩ := sent
  simp only [State.sentOn, State.lane_of_lanes lanes, State.lane_of_lanes lanes', Lnk.seqOf, now, main, twin, dump,
    now', main', twin', dump']
  exact ⟨flight, seq, instant, others⟩

theorem State.sentOn_of_goTo {s u : State} {p set type t : Nat} (sent : (s.goTo t).sentOn u p set type t) :
    s.sentOn u p set type t := by
  obtain ⟨flight, seq, instant, others⟩ := sent
  exact ⟨flight, seq, instant.trans (by rw [State.goTo_now, Nat.max_assoc, Nat.max_self]), others⟩

/-- A packet occupies its lane for its length, takes the SEQ of its set, and leaves the other lanes. -/
theorem State.startPacket_sentOn (s : State) (p t set type stream frame : Nat) (fields : List Byte) :
    s.sentOn (s.startPacket p t set type stream frame fields) p set type t := by
  unfold State.startPacket
  extract_lets s0 seq b _ s1 n
  have lane : ∃ x, (s1.lane p).flight = some x ∧ x.type = type ∧ x.set = set ∧
      x.endAt = t + packetTU x.body.length ∧ (s1.lane p).freeAt = x.endAt := by
    refine ⟨_, congrArg Lane.flight (State.setLane_lane_same s0 p _), rfl, rfl, rfl, ?_⟩
    rw [State.setLane_lane_same]
    exact congrArg (fun n => t + blocksTU n) (packetBlocks_length type b)
  have sent (l : Lnk) (lanes : l.lanes = s1.lnk.lanes) (next_ : l.seqOf set = n) :
      s.sentOn { s1 with lnk := l } p set type t := by
    have same (q : Nat) : ({ s1 with lnk := l } : State).lane q = s1.lane q := State.lane_of_lanes lanes q
    refine ⟨?_, next_, rfl, fun q other => (same q).trans (State.setLane_lane_other s0 _ other)⟩
    rw [same]
    exact lane
  split
  · next main => exact sent _ rfl (if_pos main)
  · next notMain =>
    split
    · next twin => exact sent _ rfl ((if_neg notMain).trans (if_pos twin))
    · next notTwin => exact sent _ rfl ((if_neg notMain).trans (if_neg notTwin))

/-- Of the rest of the state the start of a packet changes device time and the counters of `SEQ`. -/
theorem State.startPacket_frame (s : State) (p t set type stream frame : Nat) (fields : List Byte) :
    let u := s.startPacket p t set type stream frame fields
    u = { s with now := u.now, lnk := { s.lnk with
      lanes := u.lnk.lanes, seqMain := u.lnk.seqMain, seqTwin := u.lnk.seqTwin, seqDump := u.lnk.seqDump
      lastMain := u.lnk.lastMain, lastTwin := u.lnk.lastTwin } } := by
  unfold State.startPacket
  dsimp only
  split
  · rfl
  · split <;> rfl

/-! ### What the chains and the emission of a frame leave (R219 to R225, R278) -/

/-- Device time, the link, and the frames in flight by number. -/
def State.emission (s : State) : Nat × Lnk × List Nat := (s.now, s.lnk, s.frames.map Frame.num)

theorem State.sending_of_emission {s t : State} (h : t.emission = s.emission) : t.sending = s.sending := by
  simp only [State.emission, Prod.mk.injEq] at h
  obtain ⟨now, lnk, -⟩ := h
  rw [State.sending, State.sending, now, lnk]

theorem State.lnk_of_emission {s t : State} (h : t.emission = s.emission) : t.lnk = s.lnk :=
  congrArg (fun e => e.2.1) h

theorem State.frame?_of_emission {s t : State} {f : Frame} (h : t.emission = s.emission) (mem : f ∈ s.frames) :
    ∃ g, t.frame? f.num = some g := by
  have nums : f.num ∈ t.frames.map Frame.num := by
    rw [show t.frames.map Frame.num = s.frames.map Frame.num from congrArg (fun e => e.2.2) h]
    exact List.mem_map_of_mem mem
  obtain ⟨g, inFlight, same⟩ := List.mem_map.1 nums
  exact Option.isSome_iff_exists.1 (List.find?_isSome.2 ⟨g, inFlight, decide_eq_true same⟩)

section
variable (s : State) (f : Frame) (n : Nat) (twin : Bool) (c : Chain)

theorem State.modEmit_emission (g : Emit → Emit) : (s.modEmit n twin g).emission = s.emission := by
  have nums : (s.modEmit n twin g).frames.map Frame.num = s.frames.map Frame.num := by
    refine List.map_map.trans (List.map_congr_left fun x _ => ?_)
    simp only [Function.comp_apply]
    split
    · cases twin <;> rfl
    · rfl
  exact congrArg (fun l => (s.now, s.lnk, l)) nums

theorem State.bypassMark_emission : (s.bypassMark n twin).emission = s.emission := by
  unfold State.bypassMark
  split
  · rfl
  · exact s.modEmit_emission _ _ _

theorem State.placeFrame_emission : (s.placeFrame f twin).emission = s.emission := by
  unfold State.placeFrame
  split
  · rfl
  · exact State.modEmit_emission _ _ _ _

theorem State.linkFrame_emission : (s.linkFrame f twin).1.emission = s.emission := by
  unfold State.linkFrame
  split <;> rfl

theorem State.closeChain_emission : (s.closeChain c).emission = s.emission := by
  unfold State.closeChain
  split
  · rfl
  · extract_lets _ s1 c1
    have ended : s1.emission = s.emission := by unfold s1; split <;> rfl
    exact ended

theorem State.afterTrailer_emission : (s.afterTrailer f twin).emission = s.emission := by
  unfold State.afterTrailer
  split
  · rfl
  · split
    · exact s.closeChain_emission _
    · split <;> rfl

end

/-- What follows the start of a packet in its command leaves the packet as it is. -/
theorem State.sentOn_of_started {s u : State} {p t set type stream frame : Nat} {fields : List Byte}
    (h : u.emission = (s.startPacket p t set type stream frame fields).emission) : s.sentOn u p set type t :=
  State.sentOn_congr (s.startPacket_sentOn p t set type stream frame fields) rfl (State.sending_of_emission h)

/-! ### The stream that sends next (R219) -/

theorem State.mem_of_seqStart {s : State} {twin : Bool} {f : Frame} {it : SeqItem} {p t : Nat}
    (h : s.seqStart twin = some (f, it, p, t)) : f ∈ s.frames := by
  unfold State.seqStart at h
  split at h
  · next g item turn =>
    have mem : g ∈ s.frames := by
      obtain ⟨x, emitting, same⟩ := Option.map_eq_some_iff.1 turn
      obtain ⟨rfl, -⟩ := Prod.mk.inj same
      exact List.mem_of_find?_eq_some emitting
    split at h
    · cases h
    split at h
    · split at h
      · obtain ⟨rfl, -⟩ := Prod.mk.inj (Option.some.inj h)
        exact mem
      · cases h
    · cases h
  · cases h

/-- The stream that sends next has the frame in flight. -/
theorem State.mem_of_whichStream {s : State} {kind : SeqItem → Bool} {twin : Bool} {f : Frame} {it : SeqItem}
    {p t : Nat} (h : s.whichStream kind = some (twin, f, it, p, t)) : f ∈ s.frames := by
  have started (tw : Bool) (y : Bool × Frame × SeqItem × Nat × Nat)
      (h : (match s.seqStart tw with
        | some (f, it, q, t) => if kind it then some (tw, f, it, q, t) else none
        | none => none) = some y) : y.2.1 ∈ s.frames := by
    split at h
    · next start =>
      split at h
      · rw [← Option.some.inj h]
        exact State.mem_of_seqStart start
      · cases h
    · cases h
  unfold State.whichStream at h
  dsimp only at h
  split at h
  · next a b main twin =>
    split at h
    · rw [Option.some.inj h] at twin
      exact started true _ twin
    · rw [Option.some.inj h] at main
      exact started false _ main
  · next a main _ =>
    rw [Option.some.inj h] at main
    exact started false _ main
  · exact started true _ h

/-! ### The packets of a frame (R210, R212, R213) -/

section
variable {s : State} {twin : Bool} {f : Frame} {it : SeqItem} {i p t : Nat}

theorem State.headerSend_sentOn (next_ : s.whichStream (fun it => it = .header) = some (twin, f, it, p, t)) :
    s.sentOn s.headerSend p (b2n twin) 1 t := by
  unfold State.headerSend
  rw [next_]
  dsimp only
  have placed : (((s.goTo t).placeFrame f twin).bypassMark f.num twin).emission = (s.goTo t).emission :=
    (State.bypassMark_emission _ _ _).trans (State.placeFrame_emission _ _ _)
  have inFlight : f ∈ s.frames := State.mem_of_whichStream next_
  obtain ⟨g, found⟩ := State.frame?_of_emission (s := s.goTo t) placed inFlight
  rw [found]
  exact State.sentOn_of_goTo (State.sentOn_congr (State.startPacket_sentOn _ _ _ _ _ _ _ _)
    (State.sending_of_emission placed).symm (State.sending_of_emission (State.modEmit_emission _ _ _ _)))

theorem State.lineSend_sentOn
    (next_ : s.whichStream (fun it => match it with | .line _ => true | _ => false) = some (twin, f, .line i, p, t)) :
    s.sentOn s.lineSend p (b2n twin) 2 t := by
  unfold State.lineSend
  split
  · next tw g j q u turn =>
    obtain ⟨rfl, rfl, rfl, rfl, rfl⟩ : tw = twin ∧ g = f ∧ j = i ∧ q = p ∧ u = t := by
      simpa using turn.symm.trans next_
    exact State.sentOn_of_started ((State.modEmit_emission _ _ _ _).trans (State.bypassMark_emission _ _ _))
  · next none_ => exact absurd next_ (none_ _ _ _ _ _)

theorem State.reconSend_sentOn
    (next_ : s.whichStream (fun it => match it with | .recon _ => true | _ => false) = some (twin, f, .recon i, p, t)) :
    s.sentOn s.reconSend p 0 2 t := by
  unfold State.reconSend
  split
  · next tw g j q u turn =>
    obtain ⟨rfl, rfl, rfl, rfl, rfl⟩ : tw = twin ∧ g = f ∧ j = i ∧ q = p ∧ u = t := by
      simpa using turn.symm.trans next_
    exact State.sentOn_of_started ((State.modEmit_emission _ _ _ _).trans (State.bypassMark_emission _ _ _))
  · next none_ => exact absurd next_ (none_ _ _ _ _ _)

/-- The trailer is linked into its chain before it starts, and may end the segment or the chain after it. -/
theorem State.sendTrailer_spec (mem : f ∈ s.frames) :
    s.sentOn (s.sendTrailer f.num twin p t) p (b2n twin) 3 t ∧
      (s.sendTrailer f.num twin p t).lnk.framesSent = wrapAdd s.lnk.framesSent 1 32 := by
  unfold State.sendTrailer
  extract_lets s1
  have marked : s1.emission = s.emission := s.bypassMark_emission _ _
  obtain ⟨g, found⟩ := State.frame?_of_emission marked mem
  split
  · next none_ => exact absurd (none_.symm.trans found) (by simp)
  · next g _ =>
    split
    next s1' d h link =>
    extract_lets dmg s2 s3 _ s4 s5
    have linked : s1'.emission = s.emission := by
      rw [← show (s1.linkFrame g twin).1 = s1' by rw [link], State.linkFrame_emission, marked]
    have ended : (s5.afterTrailer g twin).emission = s4.emission := by
      rw [State.afterTrailer_emission]
      unfold s5
      split <;> rfl
    have sent : s.sentOn s2 p (b2n twin) 3 t :=
      State.sentOn_congr (s1'.startPacket_sentOn _ _ _ _ _ _ _) (State.sending_of_emission linked).symm rfl
    have counted : s2.lnk.framesSent = s1'.lnk.framesSent := by unfold s2; rw [State.startPacket_frame]
    refine ⟨State.sentOn_congr sent rfl ((State.sending_of_emission ended).trans rfl), ?_⟩
    rw [State.lnk_of_emission ended, ← State.lnk_of_emission linked, ← counted]
    rfl

theorem State.trailerSend_spec (next_ : s.whichStream (fun it => it = .trailer) = some (twin, f, it, p, t)) :
    s.sentOn s.trailerSend p (b2n twin) 3 t ∧ s.trailerSend.lnk.framesSent = wrapAdd s.lnk.framesSent 1 32 := by
  unfold State.trailerSend
  rw [next_]
  exact State.sendTrailer_spec (State.mem_of_whichStream next_)

end

/-! ### The packets of a lane set (R215, R216, R227) -/

section
variable {s : State} {p t : Nat} (inTime : s.beforeTick t = true)
include inTime

theorem State.statSend_spec {q : StatQueue} (queued : s.lnk.stat = some q) (left : q.next < 220)
    (mode : s.sys.mode = .capture) (idle : s.mainIdle = true) (lane : s.pickLane (s.lanesOf q.lanes 0) = some (p, t)) :
    s.sentOn s.statSend p 0 5 t ∧
      s.statSend.lnk.stat = if q.next = 219 then none else some { q with next := q.next + 1 } := by
  have free : ¬ (220 ≤ q.next ∨ ¬ s.mainIdle = true ∨ s.sys.mode ≠ .capture) := by
    rintro (done | busy | other)
    · exact absurd left (Nat.not_lt.2 done)
    · exact busy idle
    · exact other mode
  unfold State.statSend
  simp only [queued, if_neg free, lane, if_pos inTime]
  refine ⟨State.sentOn_congr (s.startPacket_sentOn _ _ _ _ _ _ _) rfl rfl, ?_⟩
  simp only [Nat.succ.injEq]

theorem State.sealSend_spec {k : SealPkt} (due : s.sealDue 0 = some k)
    (lane : s.pickLane (s.sealLanes k) = some (p, t)) :
    s.sentOn s.sealSend p k.stream 4 t ∧ s.sealSend.seals.due = s.seals.due.erase k := by
  unfold State.sealSend
  simp only [List.filterMap_cons, due, List.findSome?_cons, lane, if_pos inTime]
  refine ⟨State.sentOn_congr (s.startPacket_sentOn _ _ _ _ _ _ _) rfl rfl, ?_⟩
  rw [State.startPacket_frame]

theorem State.dumpSend_spec (on : s.lnk.dumpOn = true) (left : s.lnk.dumpSent < s.lnk.dumpLen / 4096)
    (lane : if s.lnk.dumpOwn then s.pickLane s.ownDumpLanes = some (p, t)
      else s.mainIdle = true ∧ s.lnk.stat = none ∧ s.sys.mode = .capture ∧ s.pickLane (s.setLanes 0) = some (p, t)) :
    s.sentOn s.dumpSend p (if s.lnk.dumpOwn then 2 else 0) 6 t ∧ s.dumpSend.lnk.dumpSent = s.lnk.dumpSent + 1 := by
  have running : ¬ (s.lnk.dumpOn = false ∨ s.lnk.dumpLen / 4096 ≤ s.lnk.dumpSent) := by
    rw [on]
    rintro (off | done)
    · cases off
    · exact absurd left (Nat.not_lt.2 done)
  have free : decide (s.lnk.dumpOwn = true ∨ s.mainIdle = true ∧ s.lnk.stat = none ∧ s.sys.mode = .capture) = true := by
    split at lane
    · next own => exact decide_eq_true (.inl own)
    · obtain ⟨idle, none_, mode, -⟩ := lane
      exact decide_eq_true (.inr ⟨idle, none_, mode⟩)
  have picked : s.pickLane (if s.lnk.dumpOwn then s.ownDumpLanes else s.setLanes 0) = some (p, t) := by
    split at lane
    · next own => rw [if_pos own, lane]
    · next notOwn =>
      obtain ⟨-, -, -, lane⟩ := lane
      rw [if_neg notOwn, lane]
  unfold State.dumpSend
  dsimp only
  rw [if_neg running, if_neg (not_not.2 free), picked]
  dsimp only
  rw [if_pos inTime]
  refine ⟨State.sentOn_congr (s.startPacket_sentOn _ _ _ _ _ _ _) rfl rfl, ?_⟩
  rw [State.startPacket_frame]

end

/-! ### The commands -/

theorem State.sentOn_fin {s u : State} {p set type t : Nat} (sent : s.sentOn u p set type t) :
    s.sentOn u.fin p set type t :=
  State.sentOn_congr sent rfl (by rw [State.sending, State.sending, State.fin_now, State.fin_lnk])

/-- Settles O17: each packet command comes to `State.startPacket`, which `State.startPacket_sentOn` describes; what the
command does to frames and chains before and after it leaves link and time (`State.emission`). -/
theorem packetsTakeALane : Obligations.PacketsTakeALane := by
  intro s run
  refine ⟨fun tw f it p t next_ => ⟨_, act_run _ run, State.sentOn_fin (State.headerSend_sentOn next_)⟩,
    fun tw f i p t next_ => ⟨_, act_run _ run, State.sentOn_fin (State.lineSend_sentOn next_)⟩,
    fun tw f i p t next_ => ⟨_, act_run _ run, State.sentOn_fin (State.reconSend_sentOn next_)⟩,
    fun tw f it p t next_ => ⟨_, act_run _ run, ?_⟩,
    fun q p t queued left mode idle lane inTime => ⟨_, act_run _ run, ?_⟩,
    fun k p t due lane inTime => ⟨_, act_run _ run, ?_⟩, fun p t on left lane inTime => ⟨_, act_run _ run, ?_⟩⟩
  · obtain ⟨sent, counted⟩ := State.trailerSend_spec next_
    exact ⟨State.sentOn_fin sent, by rw [State.fin_lnk, counted]⟩
  · obtain ⟨sent, next_⟩ := State.statSend_spec inTime queued left mode idle lane
    exact ⟨State.sentOn_fin sent, by rw [State.fin_lnk, next_]⟩
  · obtain ⟨sent, rest⟩ := State.sealSend_spec inTime due lane
    exact ⟨State.sentOn_fin sent, by rw [State.fin_seals, rest]⟩
  · obtain ⟨sent, counted⟩ := State.dumpSend_spec inTime on left lane
    exact ⟨State.sentOn_fin sent, by rw [State.fin_lnk, counted]⟩

end Sys2Proof.Machine
end
section
/-!
PROOFS. Link dumps (R216) and a write of `LNK_CTRL` in its parts (R202, R216, R229; log entry 9).
-/

namespace Sys2Proof.Machine

/-- What link dumps leave of a lane: its state, its cause and its mapping. -/
def Lane.standing (l : Lane) : LaneState × Nat × Option Nat := (l.state, l.cause, l.logical)

/-- The counters that CNT_CLR clears (R229). -/
def Lnk.counts (l : Lnk) : Nat × Nat × Nat × Nat := (l.framesSent, l.framesDamaged, l.lostPkts, l.statDropped)

/-! ### What link dumps leave of the link -/

/-- From `s` to `t` every lane keeps its standing, and the counters stay. -/
structure State.DumpFrame (s t : State) : Prop where
  standing : ∀ q, (t.lane q).standing = (s.lane q).standing
  counts : t.lnk.counts = s.lnk.counts

theorem State.DumpFrame.refl (s : State) : s.DumpFrame s := ⟨fun _ => rfl, rfl⟩

theorem State.DumpFrame.trans {s t u : State} (first : s.DumpFrame t) (second : t.DumpFrame u) : s.DumpFrame u :=
  ⟨fun q => (second.standing q).trans (first.standing q), second.counts.trans first.counts⟩

theorem State.DumpFrame.of_lanes {s t : State} (lanes : t.lnk.lanes = s.lnk.lanes)
    (counts : t.lnk.counts = s.lnk.counts) : s.DumpFrame t :=
  ⟨fun q => congrArg Lane.standing (State.lane_of_lanes lanes q), counts⟩

theorem State.dumpFrame_setLane (s : State) {p : Nat} {l : Lane} (same : l.standing = (s.lane p).standing) :
    s.DumpFrame (s.setLane p l) := ⟨s.setLane_keeps Lane.standing same, rfl⟩

theorem State.dumpFrame_foldl {f : State → Nat → State} (h : ∀ (a : State) p, a.DumpFrame (f a p)) (l : List Nat)
    (s : State) : s.DumpFrame (l.foldl f s) := by
  induction l generalizing s with
  | nil => exact .refl s
  | cons p l ih => exact (h s p).trans (ih _)

theorem State.dumpFrame_dropDumpSet (s : State) : s.DumpFrame s.dropDumpSet := by
  unfold State.dropDumpSet
  refine State.dumpFrame_foldl (fun a p => ?_) _ _
  dsimp only
  split
  · exact a.dumpFrame_setLane rfl
  · exact .refl a

/-- The lanes of a mask go to the dump set. -/
def State.takeDumpSet (s : State) (ps : List Nat) : State :=
  ps.foldl (fun (a : State) p => a.setLane p ((a.lane p).assign (a.lane p).logical 2)) s

theorem State.lanesOnly_takeDumpSet (s : State) (ps : List Nat) : s.lanesOnly (s.takeDumpSet ps) :=
  State.lanesOnly_foldl (fun _ _ => .inr ⟨_, rfl⟩) _ _

theorem State.dumpFrame_takeDumpSet (s : State) (ps : List Nat) : s.DumpFrame (s.takeDumpSet ps) := by
  refine State.dumpFrame_foldl (fun a p => ?_) _ _
  exact a.dumpFrame_setLane rfl

/-! ### The end of a dump -/

theorem State.linkDumpEnd_lnk (s : State) (r : LinkDumpResult) :
    (s.linkDumpEnd r).lnk = { s.lnk with dumpRes := r, dumpOn := false, dumpOwn := false } := rfl

theorem State.linkDumpEnd_rb (s : State) (r : LinkDumpResult) : (s.linkDumpEnd r).rb A.LNK_INT_STATUS 5 = true :=
  State.setInt_rb_same _ _ (by decide)

theorem State.dumpFrame_linkDumpEnd (s : State) (r : LinkDumpResult) : s.DumpFrame (s.linkDumpEnd r) :=
  .of_lanes (by rw [State.linkDumpEnd_lnk]) rfl

theorem State.linkDumpAbort_eq {s : State} (on : s.lnk.dumpOn = true) :
    s.linkDumpAbort = (if s.lnk.dumpOwn then s.dropDumpSet else s).linkDumpEnd .aborted := if_pos on

theorem State.linkDumpAbort_off {s : State} (off : s.lnk.dumpOn = false) : s.linkDumpAbort = s :=
  if_neg fun on => absurd (on.symm.trans off) (by decide)

theorem State.dumpFrame_linkDumpAbort (s : State) : s.DumpFrame s.linkDumpAbort := by
  cases on : s.lnk.dumpOn with
  | true =>
    rw [State.linkDumpAbort_eq on]
    refine State.DumpFrame.trans ?_ (State.dumpFrame_linkDumpEnd _ _)
    split
    · exact s.dumpFrame_dropDumpSet
    · exact .refl s
  | false =>
    rw [State.linkDumpAbort_off on]
    exact .refl s

/-! ### The start of a dump -/

/-- The dump that `LNK_DUMP_OFFSET` and `LNK_DUMP_LEN` name, begun. -/
def State.dumpBegun (s : State) : State :=
  { s with lnk := { s.lnk with
    dumpOn := true, dumpRes := .busy, dumpOff := s.rf A.LNK_DUMP_OFFSET 0 26, dumpLen := s.rf A.LNK_DUMP_LEN 0 27
    dumpSent := 0, dumpOwn := s.sys.mode = .standby, seqDump := 0 } }

/-- The lanes that the mask of a dump names. -/
def State.dumpMask (s : State) : List Nat :=
  bitsOf (s.rn A.LNK_DUMP_LANES0 + s.rf A.LNK_DUMP_LANES1 0 28 * 2 ^ 32) 60

theorem State.linkDumpGo_busy {s : State} (on : s.lnk.dumpOn = true) : s.linkDumpGo =
    ({ s with lnk := { s.lnk with dumpRes := .refused } }).setInt A.LNK_INT_STATUS 5 := if_pos on

theorem State.linkDumpGo_busy_lnk {s : State} (on : s.lnk.dumpOn = true) :
    s.linkDumpGo.lnk = { s.lnk with dumpRes := .refused } := by
  rw [State.linkDumpGo_busy on, State.setInt_eq, State.note_lnk, State.setReg_lnk]

/-- R216 as the model judges it. -/
theorem State.dumpAsked_iff (s : State) : s.dumpAsked ↔
    let off := s.rf A.LNK_DUMP_OFFSET 0 26
    let len := s.rf A.LNK_DUMP_LEN 0 27
    (off % 4096 = 0 ∧ len % 4096 = 0 ∧ 4096 ≤ len ∧ off + len ≤ 67108864) ∧
      (s.sys.mode = .capture ∨
        s.sys.mode = .standby ∧ s.dumpMask ≠ [] ∧ ∀ p ∈ s.dumpMask, (s.lane p).state = .ready) := by
  have named : s.dumpMask ≠ [] ↔ ∃ p, p ∈ s.dumpMask :=
    ⟨List.exists_mem_of_ne_nil _, fun ⟨_, mem⟩ => List.ne_nil_of_mem mem⟩
  dsimp only
  rw [named]
  simp only [State.dumpAsked, State.dumpMask, mem_bitsOf, and_imp, and_assoc]

/-- A dump starts where R216 lets it, on lanes of its own in STANDBY, and is refused elsewhere. -/
theorem State.linkDumpGo_off {s : State} (off : s.lnk.dumpOn = false) :
    (s.dumpAsked → s.linkDumpGo =
      if s.sys.mode = .standby then s.dumpBegun.takeDumpSet s.dumpMask else s.dumpBegun) ∧
    (¬ s.dumpAsked → s.linkDumpGo = ({ s with lnk := { s.lnk with dumpSent := 0 } }).linkDumpEnd .refused) := by
  unfold State.linkDumpGo
  extract_lets from_ len mask ps okRange okLanes own run _ s1
  have asked : run = true ↔ s.dumpAsked := by
    rw [State.dumpAsked_iff]
    simp only [run, okRange, okLanes, own, Bool.and_eq_true, Bool.or_eq_true, decide_eq_true_eq,
      List.all_eq_true, and_assoc]
    rfl
  rw [if_neg (by rw [off]; decide)]
  refine ⟨fun ask => ?_, fun refused => if_neg (mt asked.1 refused)⟩
  rw [if_pos (asked.2 ask)]
  by_cases standby : s.sys.mode = .standby
  · rw [if_pos (decide_eq_true standby), if_pos standby]
    rfl
  · rw [if_neg (mt of_decide_eq_true standby), if_neg standby]
    rfl

theorem State.dumpFrame_linkDumpGo (s : State) : s.DumpFrame s.linkDumpGo := by
  cases on : s.lnk.dumpOn with
  | true => exact .of_lanes (by rw [State.linkDumpGo_busy_lnk on]) (by rw [State.linkDumpGo_busy_lnk on]; rfl)
  | false =>
    have begins : s.DumpFrame s.dumpBegun := .of_lanes rfl rfl
    have forgets : s.DumpFrame { s with lnk := { s.lnk with dumpSent := 0 } } := .of_lanes rfl rfl
    obtain ⟨begun, refused⟩ := State.linkDumpGo_off on
    by_cases asked : s.dumpAsked
    · rw [begun asked]
      split
      · exact begins.trans (s.dumpBegun.dumpFrame_takeDumpSet _)
      · exact begins
    · rw [refused asked]
      exact forgets.trans (State.dumpFrame_linkDumpEnd _ _)

/-! ### Training (R202) -/

/-- The state of a lane after TRAIN_GO, where its PLL is locked or not and a LINK_EQ run holds it or not. -/
def Lane.trained (l : Lane) (locked held : Bool) : LaneState :=
  if locked = true ∧ (l.state = .failed → l.fault = 0) ∧ held = false then .train else l.state

theorem State.trainLane_laneOnly (s : State) (p : Nat) : s.laneOnly p (s.trainLane p) := by
  unfold State.trainLane
  dsimp only
  split
  · exact .inl rfl
  · split
    · exact .inl rfl
    · exact .inr ⟨_, rfl⟩

theorem State.trainLane_standing (s : State) (p : Nat) : ((s.trainLane p).lane p).standing =
    ((s.lane p).trained (s.locked (2 + p / 4)) (s.eqHolds p), (s.lane p).cause, (s.lane p).logical) := by
  unfold State.trainLane Lane.trained
  dsimp only
  split
  · next unlocked =>
    rw [if_neg fun trains => unlocked trains.1]
    rfl
  · next locked =>
    split
    · next keeps =>
      rw [if_neg]
      · rfl
      · rintro ⟨-, faultless, free⟩
        obtain ⟨failed, fault⟩ | held := keeps
        · exact fault (faultless failed)
        · exact absurd (held.symm.trans free) (by decide)
    · next free =>
      rw [State.setLane_lane_same, if_pos]
      · rfl
      · obtain ⟨sound, free⟩ := not_or.1 free
        exact ⟨not_not.1 locked, fun failed => not_not.1 fun fault => sound ⟨failed, fault⟩,
          eq_false_of_ne_true free⟩

theorem State.trainGo_eq {s : State} (mode : s.sys.mode = .standby ∨ s.sys.mode = .calibrate) (who : Who) :
    s.trainGo who = allLanes.foldl (fun (a : State) p => a.trainLane p) s := if_pos mode

theorem State.trainGo_standing {s : State} (mode : s.sys.mode = .standby ∨ s.sys.mode = .calibrate) (who : Who)
    {p : Nat} (below : p < 60) : ((s.trainGo who).lane p).standing =
      ((s.lane p).trained (s.locked (2 + p / 4)) (s.eqHolds p), (s.lane p).cause, (s.lane p).logical) := by
  rw [State.trainGo_eq mode]
  refine State.lane_foldl State.trainLane_laneOnly
    (R := fun p l m => m.standing = (l.trained (s.locked (2 + p / 4)) (s.eqHolds p), l.cause, l.logical))
    (fun a p only => ?_) allLanes_nodup (mem_allLanes.2 below)
  have clocks : a.locked (2 + p / 4) = s.locked (2 + p / 4) := by rw [only]; rfl
  have held : a.eqHolds p = s.eqHolds p := by rw [only]; rfl
  rw [State.trainLane_standing, clocks, held]

/-- A training changes nothing but lanes; where it is ignored it leaves them as they are. -/
theorem State.trainGo_lnk (s : State) (who : Who) :
    (s.trainGo who).lnk = { s.lnk with lanes := (s.trainGo who).lnk.lanes } := by
  unfold State.trainGo
  split
  · exact (State.lanesOnly_foldl (f := fun a p => a.trainLane p) State.trainLane_laneOnly allLanes s).lnk
  · rw [State.ignored_eq, State.raise_lnk]

/-! ### A write of `LNK_CTRL` (log entry 9) -/

section
variable (s : State) {v : Word} (who : Who)

/-- The state after CNT_CLR, where the write asks for it. -/
def State.cntCleared (v : Word) : State := if wbit v 3 then s.lnkCntClr else s

theorem State.cntCleared_frame (v : Word) : s.cntCleared v = { s with lnk := { s.lnk with
    framesSent := (s.cntCleared v).lnk.framesSent, framesDamaged := (s.cntCleared v).lnk.framesDamaged
    lostPkts := (s.cntCleared v).lnk.lostPkts, statDropped := (s.cntCleared v).lnk.statDropped } } := by
  unfold State.cntCleared
  split <;> rfl

/-- Beside CNT_CLR and TRAIN_GO a write acts on link dumps alone. -/
theorem State.lnkCtrlWrite_dumpFrame :
    State.DumpFrame (if wbit v 0 then (s.cntCleared v).trainGo who else s.cntCleared v) (s.lnkCtrlWrite who v) := by
  unfold State.lnkCtrlWrite
  extract_lets s1 s2 s3
  have aborted : s2.DumpFrame s3 := by
    unfold s3
    split
    · exact s2.dumpFrame_linkDumpAbort
    · exact .refl s2
  refine aborted.trans ?_
  split
  · exact s3.dumpFrame_linkDumpGo
  · exact .refl s3

theorem State.lnkCtrlWrite_train (train : wbit v 0 = true) (q : Nat) :
    ((s.lnkCtrlWrite who v).lane q).standing = (((s.cntCleared v).trainGo who).lane q).standing := by
  have frame := s.lnkCtrlWrite_dumpFrame (v := v) who
  rw [if_pos train] at frame
  exact frame.standing q

theorem State.lnkCtrlWrite_go (go : wbit v 1 = true) (noTrain : wbit v 0 = false)
    (noAbort : s.lnk.dumpOn = false ∨ wbit v 2 = false) : s.lnkCtrlWrite who v = (s.cntCleared v).linkDumpGo := by
  unfold State.lnkCtrlWrite
  extract_lets s1 s2 s3
  have kept : s2 = s1 := if_neg (by rw [noTrain]; decide)
  have on : s1.lnk.dumpOn = s.lnk.dumpOn := congrArg (fun t => t.lnk.dumpOn) (s.cntCleared_frame v)
  have running : s3 = s2 := by
    obtain off | noAbort := noAbort
    · unfold s3
      rw [kept, State.linkDumpAbort_off (on.trans off), ite_self]
    · exact if_neg (by rw [noAbort]; decide)
  rw [if_pos go, running, kept]
  rfl

theorem State.lnkCtrlWrite_abort (abort : wbit v 2 = true) (noGo : wbit v 1 = false) : ∃ t : State,
    s.lnkCtrlWrite who v = t.linkDumpAbort ∧ t.lnk.dumpOn = s.lnk.dumpOn := by
  unfold State.lnkCtrlWrite
  extract_lets s1 s2 s3
  refine ⟨s2, (if_neg (by rw [noGo]; decide)).trans (if_pos abort), ?_⟩
  have on : s1.lnk.dumpOn = s.lnk.dumpOn := congrArg (fun t => t.lnk.dumpOn) (s.cntCleared_frame v)
  unfold s2
  split
  · rw [State.trainGo_lnk, on]
  · exact on

theorem State.lnkCtrlWrite_clear (clear : wbit v 3 = true) : (s.lnkCtrlWrite who v).lnk.counts = (0, 0, 0, 0) := by
  have cleared : (s.cntCleared v).lnk.counts = (0, 0, 0, 0) := by
    rw [State.cntCleared, if_pos clear]
    rfl
  rw [(s.lnkCtrlWrite_dumpFrame who).counts, ← cleared]
  split
  · rw [State.trainGo_lnk]
    rfl
  · rfl

end

end Sys2Proof.Machine
end

section
/-!
PROOFS. Lanes train, lock and fail, and equaliser settings are taken or refused (R202 to R205, R397, R457): O18.
-/

namespace Sys2Proof.Machine

/-! ### Training and lock (R202) -/

/-- The state of a lane after the receiver has declared lock on it, where a LINK_EQ run holds it or not. -/
def Lane.accepted (l : Lane) (held : Bool) : LaneState :=
  if l.state = .train ∧ held = false then (if l.logical.isSome then .ready else .spare) else l.state

/-- The receiver declares lock on lane `p`. -/
def State.laneOk (s : State) (p : Nat) : State :=
  if (s.lane p).state = .train ∧ ¬ s.eqHolds p = true then
    s.setLane p { (s.lane p).resume p s.now with
      state := if (s.lane p).logical.isSome then .ready else .spare, markDue := true }
  else s

theorem State.lanesOk_eq (s : State) (mask : Nat) : s.lanesOk mask = (bitsOf mask 60).foldl State.laneOk s := rfl

theorem State.laneOk_laneOnly (s : State) (p : Nat) : s.laneOnly p (s.laneOk p) := by
  unfold State.laneOk
  split
  · exact .inr ⟨_, rfl⟩
  · exact .inl rfl

theorem State.laneOk_standing (s : State) (p : Nat) : ((s.laneOk p).lane p).standing =
    ((s.lane p).accepted (s.eqHolds p), (s.lane p).cause, (s.lane p).logical) := by
  rw [State.laneOk, Lane.accepted]
  by_cases locks : (s.lane p).state = .train ∧ ¬ s.eqHolds p = true
  · have free : (s.lane p).state = .train ∧ s.eqHolds p = false := ⟨locks.1, eq_false_of_ne_true locks.2⟩
    rw [if_pos locks, State.setLane_lane_same, if_pos free]
    rfl
  · rw [if_neg locks, if_neg fun ⟨train, free⟩ => locks ⟨train, by rw [free]; decide⟩]
    rfl

theorem State.lanesOk_standing (s : State) {mask p : Nat} (named : p ∈ bitsOf mask 60) :
    ((s.lanesOk mask).lane p).standing =
      ((s.lane p).accepted (s.eqHolds p), (s.lane p).cause, (s.lane p).logical) := by
  rw [State.lanesOk_eq]
  refine State.lane_foldl State.laneOk_laneOnly
    (R := fun p l m => m.standing = (l.accepted (s.eqHolds p), l.cause, l.logical))
    (fun a p only => ?_) (bitsOf_nodup _ _) named
  have held : a.eqHolds p = s.eqHolds p := by rw [only]; rfl
  rw [State.laneOk_standing, held]

theorem State.lanesOk_unnamed (s : State) {mask p : Nat} (unnamed : p ∉ bitsOf mask 60) :
    (s.lanesOk mask).lane p = s.lane p := State.lane_foldl_other State.laneOk_laneOnly unnamed s

theorem State.poke_laneOk (s : State) (who : Who) (hi : Bool) (w : Word) :
    let a := if hi then A.LNK_LANE_OK1 else A.LNK_LANE_OK0
    s.poke who a w = ((s.turn who a).lanesOk (laneMask hi w)).markWriter who a := by
  cases hi with
  | false => exact s.poke_LNK_LANE_OK0 who w
  | true => exact s.poke_LNK_LANE_OK1 who w

theorem Lane.standing_eq {l : Lane} {x : LaneState × Nat × Option Nat} (h : l.standing = x) :
    l.state = x.1 ∧ l.cause = x.2.1 ∧ l.logical = x.2.2 := by
  rw [← h]
  exact ⟨rfl, rfl, rfl⟩

theorem lanesTrainAndLock : Claims.LanesTrainAndLock := by
  intro s who w run
  refine ⟨fun mode => ⟨_, (act_run _ run).trans (by rw [State.poke_LNK_CTRL]), fun p below => ?_⟩,
    fun hi => ⟨_, (act_run _ run).trans (by rw [State.poke_laneOk]), fun p below => ?_⟩⟩
  · rw [State.fin_lane, State.markWriter_lane]
    have wrote := (s.turn who A.LNK_CTRL).lnkCtrlWrite_train who (wbit_force_same w (by decide)) p
    have cleared := State.cntCleared_frame (s.turn who A.LNK_CTRL) (force w 0)
    generalize (s.turn who A.LNK_CTRL).cntCleared (force w 0) = x at wrote cleared
    rw [State.turn_frame] at cleared
    have modeX : x.sys.mode = .standby ∨ x.sys.mode = .calibrate := by rw [cleared]; exact mode
    have lane : x.lane p = s.lane p := by rw [cleared]; rfl
    have clocks : x.locked (2 + p / 4) = s.locked (2 + p / 4) := by rw [cleared]; rfl
    have held : x.eqHolds p = s.eqHolds p := by rw [cleared]; rfl
    rw [State.trainGo_standing modeX who below, lane, clocks, held] at wrote
    exact Lane.standing_eq wrote
  · rw [State.fin_lane, State.markWriter_lane]
    generalize (if hi then A.LNK_LANE_OK1 else A.LNK_LANE_OK0) = a
    have lane : (s.turn who a).lane p = s.lane p := s.turn_lane who a p
    have held : (s.turn who a).eqHolds p = s.eqHolds p := by rw [State.turn_frame]; rfl
    by_cases named : laneNamed hi w p = true
    · have locked := (s.turn who a).lanesOk_standing ((laneNamed_iff below).1 named)
      rw [lane, held] at locked
      simp only [named, true_and]
      exact Lane.standing_eq locked
    · rw [State.lanesOk_unnamed _ (mt (laneNamed_iff below).2 named), lane, if_neg fun h => named h.1]
      exact ⟨rfl, rfl, rfl⟩

/-! ### Failures (R204, R205) -/

/-- From `s` to `t` no driver fault appears or goes, no failed lane works again or changes its cause, and no bit of
`LNK_INT_STATUS` is cleared. -/
structure State.FailuresStand (s t : State) : Prop where
  fault : ∀ q, (t.lane q).fault = (s.lane q).fault
  failed : ∀ q, (s.lane q).state = .failed → (t.lane q).state = .failed ∧ (t.lane q).cause = (s.lane q).cause
  bits : ∀ i, s.rb A.LNK_INT_STATUS i = true → t.rb A.LNK_INT_STATUS i = true

theorem State.FailuresStand.of_same {s t : State} (lanes : t.lnk.lanes = s.lnk.lanes)
    (bits : ∀ i, s.rb A.LNK_INT_STATUS i = true → t.rb A.LNK_INT_STATUS i = true) : s.FailuresStand t :=
  ⟨fun q => by rw [State.lane_of_lanes lanes],
    fun q failed => by rw [State.lane_of_lanes lanes]; exact ⟨failed, rfl⟩, bits⟩

theorem State.FailuresStand.refl (s : State) : s.FailuresStand s := .of_same rfl fun _ h => h

theorem State.FailuresStand.trans {s t u : State} (first : s.FailuresStand t) (second : t.FailuresStand u) :
    s.FailuresStand u := by
  refine ⟨fun q => (second.fault q).trans (first.fault q), fun q h => ?_, fun i h => second.bits i (first.bits i h)⟩
  obtain ⟨failed, cause⟩ := first.failed q h
  obtain ⟨failed', cause'⟩ := second.failed q failed
  exact ⟨failed', cause'.trans cause⟩

theorem State.failuresStand_foldl {β : Type} {f : State → β → State} (h : ∀ (a : State) x, a.FailuresStand (f a x))
    (l : List β) (s : State) : s.FailuresStand (l.foldl f s) := by
  induction l generalizing s with
  | nil => exact .refl s
  | cons x l ih => exact (h s x).trans (ih (f s x))

section
variable (s : State)

theorem State.failuresStand_setInt {i : Nat} (hi : i < 32) : s.FailuresStand (s.setInt A.LNK_INT_STATUS i) :=
  .of_same (by rw [State.setInt_eq, State.note_lnk, State.setReg_lnk]) fun _ h => s.setInt_rb _ hi h

theorem State.failuresStand_raise (e : Event) : s.FailuresStand (s.raise e) :=
  .of_same (by rw [State.raise_lnk]) fun _ h => h

theorem State.alarm_lnk (src kind unit : Nat) : (s.alarm src kind unit).lnk = s.lnk := by rw [State.alarm_frame]

theorem State.alarm_linkStatus (src kind unit i : Nat) :
    (s.alarm src kind unit).rb A.LNK_INT_STATUS i = s.rb A.LNK_INT_STATUS i := by
  rw [State.rb_eq, State.alarm_reg _ _ _ _ (by decide), ← State.rb_eq]

theorem State.failuresStand_alarm (src kind unit : Nat) : s.FailuresStand (s.alarm src kind unit) :=
  .of_same (by rw [State.alarm_lnk]) fun i h => (s.alarm_linkStatus src kind unit i).trans h

theorem State.failuresStand_setLane {p : Nat} {l : Lane} (fault : l.fault = (s.lane p).fault)
    (failed : (s.lane p).state = .failed → l.state = .failed ∧ l.cause = (s.lane p).cause) :
    s.FailuresStand (s.setLane p l) := by
  refine ⟨s.setLane_keeps Lane.fault fault, fun q h => ?_, fun _ h => h⟩
  by_cases same : q = p
  · rw [same, State.setLane_lane_same]
    exact failed (same ▸ h)
  · rw [State.setLane_lane_other s l same]
    exact ⟨h, rfl⟩

/-- The loss of a packet in flight leaves lanes and registers but for what was in flight (R204, R214). -/
theorem State.loseFlight_kept (p : Nat) : (∀ q, ∃ x, (s.loseFlight p).lane q = { s.lane q with flight := x }) ∧
    (s.loseFlight p).regs = s.regs := by
  have lost (q : Nat) : ∃ x, (s.setLane p { s.lane p with flight := none }).lane q = { s.lane q with flight := x } := by
    by_cases same : q = p
    · rw [same, State.setLane_lane_same]
      exact ⟨_, rfl⟩
    · rw [State.setLane_lane_other _ _ same]
      exact ⟨_, rfl⟩
  unfold State.loseFlight
  dsimp only
  split
  · exact ⟨fun q => ⟨_, rfl⟩, rfl⟩
  · split
    · exact ⟨fun q => ⟨_, rfl⟩, rfl⟩
    · split <;> exact ⟨lost, rfl⟩

/-- The report of a failed lane: LANE_FAIL, the event and the alarm (R204). -/
def State.failTold (p cause : Nat) : State :=
  ((s.setInt A.LNK_INT_STATUS 0).faultEv clsLNK 0x00 p cause).alarm clsLNK 0 p

theorem State.failuresStand_failTold (p cause : Nat) : s.FailuresStand (s.failTold p cause) :=
  ((s.failuresStand_setInt (by decide)).trans (State.failuresStand_raise _ _)).trans
    (State.failuresStand_alarm _ _ _ _)

theorem State.failTold_lane (p cause q : Nat) : (s.failTold p cause).lane q = s.lane q := by
  refine State.lane_of_lanes ?_ q
  rw [State.failTold, State.alarm_lnk, State.faultEv_eq, State.raise_lnk, State.setInt_eq, State.note_lnk,
    State.setReg_lnk]

theorem State.failTold_rb (p cause : Nat) : (s.failTold p cause).rb A.LNK_INT_STATUS 0 = true := by
  rw [State.failTold, State.alarm_linkStatus, State.faultEv_eq, State.rb_eq, State.raise_reg, ← State.rb_eq]
  exact State.setInt_rb_same _ _ (by decide)

end

/-- A lane that is neither OFF nor FAILED fails with its cause, and the rest of the failures stands (R204). -/
theorem State.failLane_spec (s : State) (p cause : Nat) : s.FailuresStand (s.failLane p cause) ∧
    (∀ q, q ≠ p → ((s.failLane p cause).lane q).state = (s.lane q).state) ∧
    ((s.lane p).state ≠ .off → (s.lane p).state ≠ .failed →
      ((s.failLane p cause).lane p).state = .failed ∧ ((s.failLane p cause).lane p).cause = cause ∧
        (s.failLane p cause).rb A.LNK_INT_STATUS 0 = true) := by
  unfold State.failLane
  extract_lets l s1 l1 s2 _ s3
  split
  · next dead => exact ⟨.refl s, fun _ _ => rfl, fun on live => absurd dead (not_or.2 ⟨on, live⟩)⟩
  next alive =>
  obtain ⟨on, live⟩ := not_or.1 alive
  obtain ⟨kept, regs⟩ := s.loseFlight_kept p
  have lost : s.FailuresStand s1 := by
    refine ⟨fun q => ?_, fun q failed => ?_, fun i h => ?_⟩
    · obtain ⟨x, eq⟩ := kept q
      rw [eq]
    · obtain ⟨x, eq⟩ := kept q
      rw [eq]
      exact ⟨failed, rfl⟩
    · rw [State.rb_eq, State.reg_of_regs regs, ← State.rb_eq]
      exact h
  have state1 (q : Nat) : (s1.lane q).state = (s.lane q).state := by
    obtain ⟨x, eq⟩ := kept q
    rw [eq]
  have alive1 : (s1.lane p).state ≠ .failed := by rwa [state1]
  have fails : s1.FailuresStand s2 := s1.failuresStand_setLane rfl fun failed => absurd failed alive1
  have queued : s3.lnk.lanes = s2.lnk.lanes ∧ s3.regs = s2.regs := by
    unfold s3
    split <;> exact ⟨rfl, rfl⟩
  obtain ⟨lanes, regs3⟩ := queued
  have waits : s2.FailuresStand s3 := .of_same lanes fun i h => by
    rw [State.rb_eq, State.reg_of_regs regs3, ← State.rb_eq]
    exact h
  have lane (q : Nat) : (s3.failTold p cause).lane q = s2.lane q :=
    (s3.failTold_lane p cause q).trans (State.lane_of_lanes lanes q)
  refine ⟨((lost.trans fails).trans waits).trans (s3.failuresStand_failTold p cause), fun q other => ?_, fun _ _ => ?_⟩
  · exact (congrArg Lane.state (lane q)).trans (by rw [State.setLane_lane_other _ _ other, state1])
  · have own : (s3.failTold p cause).lane p = { l1 with state := .failed, cause := cause } :=
      (lane p).trans (s1.setLane_lane_same p _)
    exact ⟨congrArg Lane.state own, congrArg Lane.cause own, s3.failTold_rb p cause⟩

theorem State.failuresStand_remapLane (s : State) (p : Nat) : s.FailuresStand (s.remapLane p) := by
  unfold State.remapLane
  extract_lets l sp cand _ short
  generalize found : cand = c
  split
  · next q =>
    extract_lets lq _ s1 s2
    have spare : (s.lane q).state = .spare := by simpa using List.find?_some found
    have taken : s.FailuresStand s1 := s.failuresStand_setLane rfl fun failed => by cases spare.symm.trans failed
    have freed : s1.FailuresStand s2 := by
      refine s1.failuresStand_setLane (taken.fault p).symm fun failed => ?_
      by_cases same : p = q
      · rw [same, State.setLane_lane_same] at failed
        cases failed
      · rw [State.setLane_lane_other s _ same] at failed ⊢
        exact ⟨failed, rfl⟩
    exact ((taken.trans freed).trans (s2.failuresStand_setInt (by decide))).trans (State.failuresStand_raise _ _)
  · have unmapped : s.FailuresStand short := s.failuresStand_setLane rfl fun failed => ⟨failed, rfl⟩
    exact (unmapped.trans (short.failuresStand_setInt (by decide))).trans (State.failuresStand_raise _ _)

theorem State.failuresStand_remapsNow (s : State) : s.FailuresStand s.remapsNow := by
  unfold State.remapsNow
  split
  · extract_lets due _ s1
    exact (State.FailuresStand.of_same (s := s) (t := s1) rfl fun _ h => h).trans
      (State.failuresStand_foldl (f := fun a (r : RemapDue) => a.remapLane r.lane)
        (fun a r => a.failuresStand_remapLane r.lane) _ _)
  · exact .refl s

/-- Each lane that a request names fails, unless it is OFF or has failed before (R204). -/
theorem State.lanesFailReq_spec (s : State) {mask p : Nat} (named : p ∈ bitsOf mask 60) (on : (s.lane p).state ≠ .off)
    (live : (s.lane p).state ≠ .failed) : ((s.lanesFailReq mask).lane p).state = .failed ∧
      ((s.lanesFailReq mask).lane p).cause = 4 ∧ (s.lanesFailReq mask).rb A.LNK_INT_STATUS 0 = true := by
  have fails (a : State) (q : Nat) : a.FailuresStand (a.failLane q 4) := by
    obtain ⟨stands, -⟩ := a.failLane_spec q 4
    exact stands
  obtain ⟨before, after, eq, notBefore⟩ := List.eq_append_cons_of_mem named
  unfold State.lanesFailReq
  rw [eq, List.foldl_append, List.foldl_cons]
  have reached : ((before.foldl (fun a q => a.failLane q 4) s).lane p).state = (s.lane p).state := by
    refine foldl_keeps_mem (fun a => (a.lane p).state) _ _ _ fun a q mem => ?_
    obtain ⟨-, others, -⟩ := a.failLane_spec q 4
    exact others p fun same => notBefore (same ▸ mem)
  generalize before.foldl (fun a q => a.failLane q 4) s = a at reached ⊢
  obtain ⟨-, -, failing⟩ := a.failLane_spec p 4
  obtain ⟨failed, cause, bit⟩ := failing (reached ▸ on) (reached ▸ live)
  have stands := (State.failuresStand_foldl fails after (a.failLane p 4)).trans (State.failuresStand_remapsNow _)
  obtain ⟨failed', cause'⟩ := stands.failed p failed
  exact ⟨failed', cause'.trans cause, stands.bits 0 bit⟩

theorem State.poke_laneFail (s : State) (who : Who) (hi : Bool) (w : Word) :
    let a := if hi then A.LNK_FAIL_REQ1 else A.LNK_FAIL_REQ0
    s.poke who a w = ((s.turn who a).lanesFailReq (laneMask hi w)).markWriter who a := by
  cases hi with
  | false => exact s.poke_LNK_FAIL_REQ0 who w
  | true => exact s.poke_LNK_FAIL_REQ1 who w

/-- A driver fault shows on its lane, and fails it unless it is OFF or has failed before (R204). -/
theorem State.driverFault_spec (s : State) (p : Nat) {kind : Nat} (shows : kind = 2 ∨ kind = 3) :
    ((s.driverFault p kind).lane p).fault = kind ∧
      ((s.lane p).state ≠ .off → (s.lane p).state ≠ .failed → ((s.driverFault p kind).lane p).state = .failed ∧
        ((s.driverFault p kind).lane p).cause = kind ∧ (s.driverFault p kind).rb A.LNK_INT_STATUS 0 = true) := by
  unfold State.driverFault
  extract_lets k _ s1
  have code : k = kind := by obtain rfl | rfl := shows <;> rfl
  have some_ : ¬ k = 0 := by rw [code]; obtain rfl | rfl := shows <;> decide
  have lane : s1.lane p = { s.lane p with fault := k } := s.setLane_lane_same p _
  rw [if_neg some_, ← code]
  obtain ⟨stand, -, failing⟩ := s1.failLane_spec p k
  have stands := (s1.failLane p k).failuresStand_remapsNow
  refine ⟨((stand.trans stands).fault p).trans (by rw [lane]), fun on live => ?_⟩
  rw [lane] at failing
  obtain ⟨failed, cause, bit⟩ := failing on live
  obtain ⟨failed', cause'⟩ := stands.failed p failed
  exact ⟨failed', cause'.trans cause, stands.bits 0 bit⟩

theorem lanesFail : Claims.LanesFail := by
  intro s run
  refine ⟨fun who hi w => ⟨_, (act_run _ run).trans (by rw [State.poke_laneFail]), fun p below named on live => ?_⟩,
    fun p kind shows => ⟨_, act_run _ run, ?_⟩, fun p => ⟨_, act_run _ run, ?_⟩⟩
  · rw [State.fin_lane, State.fin_rb, State.markWriter_lane, State.markWriter_rb]
    rw [← s.turn_lane who (if hi then A.LNK_FAIL_REQ1 else A.LNK_FAIL_REQ0)] at on live
    exact State.lanesFailReq_spec _ ((laneNamed_iff below).1 named) on live
  · dsimp only
    rw [State.fin_lane, State.fin_rb]
    exact s.driverFault_spec p shows
  · dsimp only
    rw [State.fin_lane]
    have gone : s.driverFault p 0 = s.setLane p { s.lane p with fault := 0 } := rfl
    rw [gone, State.setLane_lane_same]
    exact ⟨rfl, rfl⟩

/-! ### Equaliser settings (R203, R457) -/

/-- A word that `who` stores changes the registers alone. -/
theorem State.sameBut_of_stored (s : State) (who : Who) (a : Nat) (v : Word) :
    let t := ((s.setReg a v).wroteBy s who a).fin
    t.sameBut { s with regs := t.regs } := by
  intro t
  have stored := State.wroteBy_frame (s.setReg a v) s who a
  have frame : t = { s with regs := t.regs, rwc := t.rwc, evl := t.evl } := by
    unfold t
    generalize (s.setReg a v).wroteBy s who a = y at stored ⊢
    calc y.fin = { y with rwc := y.fin.rwc, evl := y.fin.evl } := State.fin_frame y
      _ = { s with regs := y.regs, rwc := y.fin.rwc, evl := y.fin.evl } := by rw [stored]; rfl
      _ = { s with regs := y.fin.regs, rwc := y.fin.rwc, evl := y.fin.evl } := by rw [State.fin_regs]
  unfold State.sameBut
  generalize t = y at frame
  rw [frame]

theorem equaliserWrites : Claims.EqualiserWrites := by
  intro s who p w run v
  have apart : ∀ p : Fin 60, A.LNK_EQ + 4 * p.val ≠ A.LNK_INT_STATUS := by decide
  refine ⟨fun idle taps => ⟨_, (act_run _ run).trans (by rw [State.poke_LNK_EQ]), ?_⟩,
    fun refused => ⟨_, (act_run _ run).trans (by rw [State.poke_LNK_EQ]), ?_⟩⟩
  · have taken : s.eqWrite p v = s.setRn (A.LNK_EQ + 4 * p) (v.toNat &&& 0xFFF) := if_neg <| by
      rintro (⟨active, capturing⟩ | tooMany)
      · exact idle.elim (· active) fun stands => absurd (capturing.symm.trans stands) (by decide)
      · exact absurd tooMany (Nat.not_lt.2 taps)
    dsimp only
    have value : mkWord (v.toNat &&& 0xFFF) = v &&& 0xFFF := BitVec.ofNat_and.trans (by rw [BitVec.ofNat_toNat]; rfl)
    rw [State.fin_reg, State.wroteBy_reg, taken, State.setRn_eq, State.setReg_reg_same, value]
    exact ⟨rfl, State.sameBut_of_stored s who _ _⟩
  · have turned : s.eqWrite p v = (s.setInt A.LNK_INT_STATUS 6).warn clsLNK 0x06 p 0 := if_pos refused
    dsimp only
    rw [State.fin_reg, State.fin_rb, State.rb_eq, State.wroteBy_reg, State.wroteBy_reg, turned, State.warn_eq,
      State.raise_reg, State.raise_reg, State.setInt_reg_other _ _ (apart p), ← State.rb_eq]
    exact ⟨rfl, State.setInt_rb_same _ _ (by decide)⟩

/-- Settles O18: folds over lanes by `State.lane_foldl`; what has failed stays failed by `State.FailuresStand`. -/
theorem lanesTrainAndFail : Obligations.LanesTrainAndFail := ⟨lanesTrainAndLock, lanesFail, equaliserWrites⟩

end Sys2Proof.Machine
end
section
/-!
PROOFS. Link dumps, lane markers and seal statements (R201, R216, R226 to R230): O19.
-/

namespace Sys2Proof.Machine

/-! ### Link dumps (R216, R229) -/

/-- A dump that R216 lets start is on, with the range that its registers name, and nothing of it has been sent. -/
theorem State.linkDumpGo_starts {s : State} (off : s.lnk.dumpOn = false) (asked : s.dumpAsked) :
    s.linkDumpGo.lnk = { s.dumpBegun.lnk with lanes := s.linkDumpGo.lnk.lanes } := by
  obtain ⟨begun, -⟩ := State.linkDumpGo_off off
  rw [begun asked]
  split
  · exact (s.dumpBegun.lanesOnly_takeDumpSet s.dumpMask).lnk
  · rfl

/-- What a write of `LNK_CTRL` finds after the writer's turn and CNT_CLR: the counters of R229 and the instant aside,
the state before it. -/
theorem State.cntCleared_turn (s : State) (who : Who) (a : Nat) (v : Word) :
    let x := (s.turn who a).cntCleared v
    x = { s with now := x.now, lnk := { s.lnk with
      framesSent := x.lnk.framesSent, framesDamaged := x.lnk.framesDamaged
      lostPkts := x.lnk.lostPkts, statDropped := x.lnk.statDropped } } := by
  have cleared := (s.turn who a).cntCleared_frame v
  generalize (s.turn who a).cntCleared v = x at cleared ⊢
  rw [State.turn_frame] at cleared
  dsimp only
  rw [cleared]

theorem linkDumps : Claims.LinkDumps := by
  intro s who w run
  have written (k : Nat) : act s (s.poke who A.LNK_CTRL (force w k)) =
      .next (((s.turn who A.LNK_CTRL).lnkCtrlWrite who (force w k)).markWriter who A.LNK_CTRL).fin :=
    (act_run _ run).trans (by rw [State.poke_LNK_CTRL])
  have on : (s.turn who A.LNK_CTRL).lnk.dumpOn = s.lnk.dumpOn := by rw [State.turn_lnk]
  have go {v : Word} : wbit (force v 1) 1 = true := wbit_force_same v (by decide)
  have noTrain (noTrain : wbit w 0 = false) : wbit (force w 1) 0 = false :=
    (wbit_force_other w (by decide) (by decide)).trans noTrain
  refine ⟨fun off train => ⟨_, written 1, ?_⟩, fun busy train abort => ⟨_, written 1, ?_⟩,
    fun busy noGo => ⟨_, written 2, ?_⟩, fun busy sent => ⟨_, act_run _ run, ?_⟩, ⟨_, written 3, ?_⟩⟩
  · dsimp only
    rw [State.fin_lnk, State.fin_rb, State.markWriter_lnk, State.markWriter_rb,
      State.lnkCtrlWrite_go _ who go (noTrain train) (.inl (on.trans off))]
    have found := s.cntCleared_turn who A.LNK_CTRL (force w 1)
    generalize (s.turn who A.LNK_CTRL).cntCleared (force w 1) = x at found ⊢
    have offX : x.lnk.dumpOn = false := by rw [found]; exact off
    have askedX : x.dumpAsked ↔ s.dumpAsked := by rw [found]; rfl
    have begunX : x.dumpBegun.lnk = { s.dumpBegun.lnk with
      framesSent := x.lnk.framesSent, framesDamaged := x.lnk.framesDamaged
      lostPkts := x.lnk.lostPkts, statDropped := x.lnk.statDropped } := by rw [found]; rfl
    by_cases asked : s.dumpAsked
    · rw [State.linkDumpGo_starts offX (askedX.2 asked), begunX]
      exact ⟨fun _ => ⟨rfl, rfl, rfl, rfl, decide_eq_true_iff⟩, fun refused => absurd asked refused, rfl⟩
    · rw [(State.linkDumpGo_off offX).2 (mt askedX.1 asked)]
      exact ⟨fun starts => absurd starts asked, fun _ => ⟨rfl, rfl, State.linkDumpEnd_rb _ _⟩, rfl⟩
  · dsimp only
    rw [State.fin_lnk, State.fin_rb, State.markWriter_lnk, State.markWriter_rb, State.lnkCtrlWrite_go _ who go
      (noTrain train) (.inr ((wbit_force_other w (by decide) (by decide)).trans abort))]
    have found := s.cntCleared_turn who A.LNK_CTRL (force w 1)
    generalize (s.turn who A.LNK_CTRL).cntCleared (force w 1) = x at found ⊢
    have busyX : x.lnk.dumpOn = true := by rw [found]; exact busy
    have sentX : x.lnk.dumpSent = s.lnk.dumpSent := by rw [found]
    have ownX : x.lnk.dumpOwn = s.lnk.dumpOwn := by rw [found]
    rw [State.linkDumpGo_busy_lnk busyX]
    refine ⟨busyX, rfl, sentX, ownX, ?_⟩
    rw [State.linkDumpGo_busy busyX]
    exact State.setInt_rb_same _ _ (by decide)
  · dsimp only
    obtain ⟨x, aborted, onX⟩ := (s.turn who A.LNK_CTRL).lnkCtrlWrite_abort who
      (wbit_force_same w (by decide)) ((wbit_force_other w (by decide) (by decide)).trans noGo)
    rw [State.fin_lnk, State.fin_rb, State.markWriter_lnk, State.markWriter_rb, aborted,
      State.linkDumpAbort_eq (onX.trans (on.trans busy)), State.linkDumpEnd_lnk]
    exact ⟨rfl, rfl, rfl, State.linkDumpEnd_rb _ _⟩
  · dsimp only
    rw [State.fin_lnk, State.fin_rb, State.linkDumpDone, if_pos ⟨busy, sent⟩]
    exact ⟨rfl, rfl, rfl, State.linkDumpEnd_rb _ _⟩
  · dsimp only
    rw [State.fin_lnk, State.markWriter_lnk]
    have cleared := (s.turn who A.LNK_CTRL).lnkCtrlWrite_clear who (wbit_force_same w (by decide))
    simpa only [Lnk.counts, Prod.mk.injEq] using cleared

/-! ### Lane markers (R200, R201) -/

theorem State.markerSend_eq {s : State} {p t : Nat} (due : s.nextMarker = some (p, t))
    (inTime : s.beforeTick t = true) :
    s.markerSend = (s.goTo t).sendMark p t := by
  unfold State.markerSend
  rw [due]
  exact if_pos inTime

/-- A LANE block is driven on its lane and counted there. -/
theorem State.sendMark_lane (s : State) (p t : Nat) :
    ((s.sendMark p t).lane p).markAt = t ∧ ((s.sendMark p t).lane p).markDue = false ∧
    ((s.sendMark p t).lane p).marks = wrapAdd (s.lane p).marks 1 32 ∧
    ((s.sendMark p t).lane p).freeAt = t + blocksTU 1 ∧ ((s.sendMark p t).lane p).state = (s.lane p).state := by
  rw [State.sendMark, State.setLane_lane_same]
  exact ⟨rfl, rfl, rfl, rfl, rfl⟩

/-! ### Seal statements (R226 to R228, R230) -/

/-- STATUS of a seal packet: 0 signed, 1 the key is not available, 2 the crypto engine has failed (R227, R228). -/
def Statement.status (x : Statement) (bad : Bool) : Nat := if x.avail = false then 1 else if bad then 2 else 0

/-- The signature of a statement, of zeros where it is not signed (R228). -/
def State.signature (s : State) (x : Statement) (bad : Bool) : List Byte :=
  if x.avail = false ∨ bad = true then List.replicate 384 0
  else s.vlt.idk.sign (s.statementBytes x) (s.vlt.sealSalt (s.statementBytes x))

/-- The seal packet of a statement (R227). -/
def State.sealPkt (s : State) (x : Statement) (bad : Bool) : SealPkt :=
  { stream := x.stream, subtype := 1, status := x.status bad, frame := x.last, lanes := x.lanes
    payload := s.statementBytes x ++ s.signature x bad }

/-- The statement leaves the queue, and its packet is due unless it is for the registers only (R226, R227). -/
def State.statementTaken (s : State) (x : Statement) (rest : List Statement) (bad : Bool) : State :=
  { s with seals := { s.seals with
    queue := rest
    due := if x.regsOnly = false ∧ (s.sys.mode = .capture ∨ s.carried x.lanes ≠ [])
      then s.seals.due ++ [s.sealPkt x bad] else s.seals.due } }

theorem Statement.status_eq (x : Statement) (bad : Bool) :
    (if ¬ x.avail = true then 1 else if bad = true then 2 else 0) = x.status bad := by
  cases avail : x.avail <;> simp [Statement.status, avail]

theorem State.signature_eq (s : State) (x : Statement) (bad : Bool) :
    (if x.status bad = 0 then s.vlt.idk.sign (s.statementBytes x) (s.vlt.sealSalt (s.statementBytes x))
      else List.replicate 384 0) = s.signature x bad := by
  rw [State.signature, Statement.status]
  cases x.avail <;> cases bad <;> rfl

theorem State.signDone_eq {s : State} {x : Statement} {rest : List Statement} (front : s.seals.queue = x :: rest)
    (bad : Bool) : s.signDone bad = if x.status bad = 0
      then (s.statementTaken x rest bad).sealShow (s.statementBytes x) (s.signature x bad)
      else (s.statementTaken x rest bad).sealUnsigned x.stream (if x.status bad = 1 then 4 else 3) := by
  have sends : (!x.regsOnly && (decide (s.sys.mode = .capture) || !(s.carried x.lanes).isEmpty)) = true ↔
      x.regsOnly = false ∧ (s.sys.mode = .capture ∨ s.carried x.lanes ≠ []) := by simp
  unfold State.signDone
  rw [front]
  dsimp only
  rw [Statement.status_eq, State.signature_eq, State.statementTaken, State.sealPkt]
  simp only [sends]

/-- What the end of a statement leaves to the seal packets and the queue is the same whether it is signed or not. -/
theorem State.signDone_seals {s : State} {x : Statement} {rest : List Statement} (front : s.seals.queue = x :: rest)
    (bad : Bool) : (s.signDone bad).seals.queue = rest ∧
      (s.signDone bad).seals.due = (s.statementTaken x rest bad).seals.due := by
  rw [State.signDone_eq front]
  split <;> exact ⟨rfl, rfl⟩

/-- A signed statement is shown in the registers (R230). -/
theorem State.sealShow_spec (s : State) (stmt sig : List Byte) :
    (s.sealShow stmt sig).seals.sigSeq = wrapAdd s.seals.sigSeq 1 32 ∧
      (s.sealShow stmt sig).rb A.SEC_SEAL_INT_STATUS 0 = true := ⟨rfl, State.setInt_rb_same _ _ (by decide)⟩

/-- An unsigned one is counted and reported (R228, R230). -/
theorem State.sealUnsigned_spec (s : State) (stream : Nat) {i : Nat} (hi : i < 32) :
    (s.sealUnsigned stream i).seals.unsigned_ = wrapAdd s.seals.unsigned_ 1 32 ∧
      (s.sealUnsigned stream i).rb A.SEC_SEAL_INT_STATUS i = true := by
  refine ⟨rfl, ?_⟩
  rw [State.sealUnsigned, State.warn_eq, State.rb_eq, State.raise_reg]
  exact State.setInt_rb_same _ _ hi

theorem markersAndStatements : Claims.MarkersAndStatements := by
  intro s run
  refine ⟨fun p t due inTime => ⟨_, act_run _ run, ?_⟩, fun x rest bad front => ⟨_, act_run _ run, ?_⟩⟩
  · dsimp only
    rw [State.markerSend_eq due inTime, State.fin_lane, State.fin_now]
    obtain ⟨at_, due_, marks, free, state⟩ := (s.goTo t).sendMark_lane p t
    refine ⟨at_, due_, marks, free, state, rfl, fun q other => ?_⟩
    rw [State.fin_lane]
    exact State.setLane_lane_other _ _ other
  · dsimp only
    rw [State.fin_seals, State.fin_rb, State.fin_rb, State.fin_rb]
    obtain ⟨queue, due⟩ := State.signDone_seals front bad
    have ends := State.signDone_eq front bad
    refine ⟨queue, ⟨s.sealPkt x bad, rfl, rfl, rfl, rfl, rfl, due⟩, fun avail good => ?_, fun unavailable => ?_,
      fun avail fault => ?_⟩
    · have signed : x.status bad = 0 := by rw [Statement.status, avail, good]; rfl
      rw [ends, if_pos signed]
      exact State.sealShow_spec _ _ _
    · have status : x.status bad = 1 := by rw [Statement.status, unavailable]; rfl
      rw [ends, status]
      exact State.sealUnsigned_spec _ _ (by decide)
    · have status : x.status bad = 2 := by rw [Statement.status, avail, fault]; rfl
      rw [ends, status]
      exact State.sealUnsigned_spec _ _ (by decide)

/-- Settles O19: a write of `LNK_CTRL` in its parts (`State.lnkCtrlWrite_go` and its companions), and the seal packet of
a statement (`State.sealPkt`). -/
theorem linkDumpsAndSeals : Obligations.LinkDumpsAndSeals := ⟨linkDumps, markersAndStatements⟩

end Sys2Proof.Machine
end

section
/-!
PROOFS. The ports of the fabric and their queues (R231, R235, R236): what an update of one port leaves of the others, and
what frames that are sent leave of the device.
-/

namespace Sys2Proof.Machine

/-! ### One port -/

theorem State.fport_of_fab {s t : State} (h : t.fab = s.fab) (p : Nat) : t.fport p = s.fport p := by
  rw [State.fport, State.fport, h]

theorem State.fin_fport (s : State) (p : Nat) : s.fin.fport p = s.fport p := State.fport_of_fab s.fin_fab p

/-- A port reads as it was last written, or the write was of another port. -/
theorem State.fport_setFport_cases (s : State) (p q : Nat) (x : FabPort) :
    ((s.setFport p x).fport q = x ∧ s.fport q = s.fport p) ∨ (s.setFport p x).fport q = s.fport q := by
  unfold State.fport State.setFport
  dsimp only
  split
  · split
    · exact .inl ⟨rfl, rfl⟩
    · split <;> exact .inr rfl
  · split
    · split
      · exact .inr rfl
      · split
        · exact .inl ⟨rfl, rfl⟩
        · exact .inr rfl
    · split
      · exact .inr rfl
      · split
        · exact .inr rfl
        · exact .inl ⟨rfl, rfl⟩

theorem State.fport_setFport_same (s : State) (p : Nat) (x : FabPort) : (s.setFport p x).fport p = x := by
  unfold State.fport State.setFport
  split <;> [rfl; (split <;> rfl)]

theorem State.fport_setFport_other (s : State) {p q : Nat} (x : FabPort) (hp : p < 3) (hq : q < 3) (h : q ≠ p) :
    (s.setFport p x).fport q = s.fport q := by
  unfold State.fport State.setFport
  dsimp only
  split
  · split
    · omega
    · split <;> rfl
  · split
    · split
      · rfl
      · split
        · omega
        · rfl
    · split
      · rfl
      · split
        · rfl
        · omega

/-- An update of a port changes the three ports alone. -/
theorem State.setFport_fab (s : State) (p : Nat) (x : FabPort) : (s.setFport p x).fab = { s.fab with
    port0 := (s.setFport p x).fab.port0, port1 := (s.setFport p x).fab.port1, port2 := (s.setFport p x).fab.port2 } := by
  simp only [State.setFport]
  split <;> [rfl; (split <;> rfl)]

theorem State.setFport_frame (s : State) (p : Nat) (x : FabPort) :
    s.setFport p x = { s with fab := (s.setFport p x).fab } := rfl

/-- The ports in UP stay those they are where a port keeps its state. -/
theorem State.portUp_of_state {s t : State} {p : Nat} (h : (t.fport p).state = (s.fport p).state) :
    t.portUp p = s.portUp p := by rw [State.portUp, State.portUp, h]

/-! ### Frames that are sent (R235, R236) -/

/-- Frames have joined queues of ports that are UP, and nothing else has happened than the counting of those that have no
route, and of message identifiers. -/
structure State.Sends (s t : State) : Prop where
  frame : t = { s with fab := { s.fab with
    port0 := t.fab.port0, port1 := t.fab.port1, port2 := t.fab.port2, mid := t.fab.mid, noRoute := t.fab.noRoute } }
  port : ∀ q, t.fport q = { s.fport q with
    timeQ := (t.fport q).timeQ, ctlQ := (t.fport q).ctlQ, bulkQ := (t.fport q).bulkQ }

theorem State.Sends.refl (s : State) : s.Sends s := ⟨rfl, fun _ => rfl⟩

theorem State.Sends.trans {s t u : State} (first : s.Sends t) (second : t.Sends u) : s.Sends u := by
  obtain ⟨frame, port⟩ := first
  obtain ⟨frame', port'⟩ := second
  refine ⟨?_, fun q => ?_⟩
  · rw [frame] at frame'
    exact frame'
  · have joined := port' q
    rw [port q] at joined
    exact joined

theorem State.Sends.foldl {β : Type} {f : State → β → State} (h : ∀ (a : State) (x : β), a.Sends (f a x)) (l : List β)
    (s : State) : s.Sends (l.foldl f s) := by
  induction l generalizing s with
  | nil => exact .refl s
  | cons x l ih => exact (h s x).trans (ih (f s x))

section
variable {s t : State} (h : s.Sends t)
include h

theorem State.Sends.rb (a i : Nat) : t.rb a i = s.rb a i := by rw [h.frame]; rfl
theorem State.Sends.time : t.time = s.time := by rw [h.frame]
theorem State.Sends.disc : t.fab.disc = s.fab.disc := by rw [h.frame]

end

section
variable (s : State)

/-- A port whose queues alone change. -/
theorem State.sends_setFport (p : Nat) {x : FabPort} (h : x = { s.fport p with
    timeQ := x.timeQ, ctlQ := x.ctlQ, bulkQ := x.bulkQ }) : s.Sends (s.setFport p x) := by
  refine ⟨?_, fun q => ?_⟩
  · conv_lhs => rw [State.setFport_frame, State.setFport_fab]
    rw [State.setFport_fab]
  · rcases s.fport_setFport_cases p q x with ⟨here, same⟩ | other
    · rw [here, same]
      exact h
    · rw [other]

theorem State.sends_enqueue (p : Nat) (t : FabTx) : s.Sends (s.enqueue p t) := by
  unfold State.enqueue
  dsimp only
  split
  · exact .refl s
  · split
    · exact s.sends_setFport p rfl
    · split <;> exact s.sends_setFport p rfl

theorem State.sends_noRoute : s.Sends s.noRoute := ⟨rfl, fun _ => rfl⟩

theorem State.sends_nextMid : s.Sends s.nextMid.2 := ⟨rfl, fun _ => rfl⟩

theorem State.sends_routeTx (dst : Nat) (t : FabTx) : s.Sends (s.routeTx dst t) := by
  unfold State.routeTx
  dsimp only
  split
  · exact s.sends_noRoute
  · exact s.sends_enqueue _ t

theorem State.sends_treeTx (except : Nat) (t : FabTx) : s.Sends (s.treeTx except t) :=
  State.Sends.foldl (fun a p => by
    split
    · exact .refl a
    · exact a.sends_enqueue p t) _ s

theorem State.sends_sendCtl (dst msg : Nat) (payload : List Byte) : s.Sends (s.sendCtl dst msg payload) := by
  unfold State.sendCtl
  split
  · exact .refl s
  · exact s.sends_nextMid.trans (State.sends_routeTx _ _ _)

theorem State.sends_sendBcast (msg : Nat) (payload : List Byte) : s.Sends (s.sendBcast msg payload) := by
  unfold State.sendBcast
  split
  · exact .refl s
  · exact s.sends_nextMid.trans (State.sends_treeTx _ _ _)

theorem State.sends_sendLocal (p msg : Nat) (payload : List Byte) : s.Sends (s.sendLocal p msg payload) :=
  s.sends_nextMid.trans (State.sends_enqueue _ _ _)

theorem State.sends_resendLocal (p : Nat) (b : List Byte) : s.Sends (s.resendLocal p b) := s.sends_enqueue p _

end

/-! ### Where a frame goes -/

section
variable {s : State} {p : Nat}

theorem State.enqueue_time {t : FabTx} (up : s.portUp p = true) (time : t.cls = 0) :
    ((s.enqueue p t).fport p).timeQ = (s.fport p).timeQ ++ [t] := by
  unfold State.enqueue
  dsimp only
  rw [if_neg (not_not.2 up), if_pos time, State.fport_setFport_same]

theorem State.enqueue_bulk {t : FabTx} (up : s.portUp p = true) (bulk : t.cls = 3) :
    ((s.enqueue p t).fport p).bulkQ = (s.fport p).bulkQ ++ [t] := by
  unfold State.enqueue
  dsimp only
  rw [if_neg (not_not.2 up), if_neg (by omega), if_neg (by omega), State.fport_setFport_same]

/-- A frame to a destination whose port is UP joins a queue of that port. -/
theorem State.routeTx_reach {dst : Nat} (t : FabTx) (reach : (s.fab.route dst).reach = true)
    (up : s.portUp (s.fab.route dst).active = true) : s.routeTx dst t = s.enqueue (s.fab.route dst).active t := by
  have exists_ := State.portUp_exists up
  unfold State.routeTx
  dsimp only
  rw [if_neg]
  rintro (h | h)
  · exact h reach
  · omega

end

end Sys2Proof.Machine
end

section
/-!
PROOFS. What discovery, tables and messages to the root leave of the device (R240 to R247): the ports but their queues,
the role, and all registers but interrupt bits that are set.
-/

namespace Sys2Proof.Machine

/-- The root is told or tables are sent: ports stay but for their queues, the device its role, and interrupt bits are set
and never cleared. -/
structure State.Told (s t : State) : Prop where
  frame : t = { s with fab := t.fab, time := t.time, regs := t.regs, rwc := t.rwc, evl := t.evl }
  reg : ∀ a, a ≠ A.FAB_INT_STATUS → a ≠ A.TIME_INT_STATUS → t.reg a = s.reg a
  rb : ∀ a i, s.rb a i = true → t.rb a i = true
  port : ∀ q, t.fport q = { s.fport q with
    timeQ := (t.fport q).timeQ, ctlQ := (t.fport q).ctlQ, bulkQ := (t.fport q).bulkQ }
  role : t.fab.role = s.fab.role
  rank : t.fab.rank = s.fab.rank
  started : t.fab.started = s.fab.started

theorem State.Told.refl (s : State) : s.Told s :=
  ⟨rfl, fun _ _ _ => rfl, fun _ _ h => h, fun _ => rfl, rfl, rfl, rfl⟩

theorem State.Told.trans {s t u : State} (first : s.Told t) (second : t.Told u) : s.Told u := by
  obtain ⟨frame, reg, rb, port, role, rank, started⟩ := first
  obtain ⟨frame', reg', rb', port', role', rank', started'⟩ := second
  refine ⟨?_, fun a h h' => (reg' a h h').trans (reg a h h'), fun a i h => rb' a i (rb a i h), fun q => ?_,
    role'.trans role, rank'.trans rank, started'.trans started⟩
  · rw [frame] at frame'
    exact frame'
  · have joined := port' q
    rw [port q] at joined
    exact joined

theorem State.Told.foldl {β : Type} {f : State → β → State} (h : ∀ (a : State) (x : β), a.Told (f a x)) (l : List β)
    (s : State) : s.Told (l.foldl f s) := by
  induction l generalizing s with
  | nil => exact .refl s
  | cons x l ih => exact (h s x).trans (ih (f s x))

theorem State.Sends.told {s t : State} (h : s.Sends t) : s.Told t := by
  refine ⟨?_, fun a _ _ => ?_, fun a i set_ => (h.rb a i).trans set_, h.port, ?_, ?_, ?_⟩
  · conv_lhs => rw [h.frame]
    conv_rhs => rw [h.frame]
  all_goals rw [h.frame]
  rfl

theorem State.setInt_rb_mono (s : State) (a : Nat) {i : Nat} (hi : i < 32) (b j : Nat) (h : s.rb b j = true) :
    (s.setInt a i).rb b j = true := by
  by_cases same : b = a
  · subst same
    exact s.setInt_rb b hi h
  · rw [State.rb_eq, State.setInt_reg_other _ _ same]
    exact h

section
variable (s : State)

theorem State.told_setInt {a i : Nat} (ha : a = A.FAB_INT_STATUS ∨ a = A.TIME_INT_STATUS) (hi : i < 32) :
    s.Told (s.setInt a i) :=
  ⟨rfl, fun b fab time => s.setInt_reg_other i (by rintro rfl; exact ha.elim fab time),
    s.setInt_rb_mono a hi, fun _ => rfl, rfl, rfl, rfl⟩

/-- A part of the fabric block changes that is neither a port nor the role. -/
theorem State.told_fab {f : Fab} (port0 : f.port0 = s.fab.port0) (port1 : f.port1 = s.fab.port1)
    (port2 : f.port2 = s.fab.port2) (role : f.role = s.fab.role) (rank : f.rank = s.fab.rank)
    (started : f.started = s.fab.started) : s.Told { s with fab := f } := by
  refine ⟨rfl, fun _ _ _ => rfl, fun _ _ h => h, fun q => ?_, role, rank, started⟩
  have same : State.fport { s with fab := f } q = s.fport q := by
    unfold State.fport
    dsimp only
    rw [port0, port1, port2]
  rw [same]

theorem State.told_disc (d : Disc) : s.Told { s with fab := { s.fab with disc := d } } := s.told_fab rfl rfl rfl rfl rfl rfl

theorem State.told_applyTables (addr gen root tree parent : Nat) (routes : List (Nat × Route)) :
    s.Told (s.applyTables addr gen root tree parent routes) := by
  unfold State.applyTables
  refine State.Told.trans ?_ (State.told_setInt _ (.inl rfl) (by decide))
  exact s.told_fab rfl rfl rfl rfl rfl rfl

theorem State.told_assignSend : s.Told s.assignSend := by
  unfold State.assignSend
  dsimp only
  split
  · split
    · exact .refl s
    · split
      · exact s.told_disc _
      · exact (s.told_disc _).trans (State.sends_sendLocal _ _ _ _).told
  · split
    · exact (s.told_disc _).trans (State.told_setInt _ (.inl rfl) (by decide))
    · split
      · exact (s.told_disc _).trans (State.told_setInt _ (.inl rfl) (by decide))
      · exact s.told_disc _

theorem State.told_newTables : s.Told s.newTables := by
  unfold State.newTables
  dsimp only
  split
  · exact .refl s
  · refine State.Told.trans ?_ (State.told_assignSend _)
    exact (s.told_applyTables _ _ _ _ _ _).trans (State.told_fab _ rfl rfl rfl rfl rfl rfl)

theorem State.told_discFinish : s.Told s.discFinish := by
  unfold State.discFinish
  extract_lets d nodes above d1 s1
  refine State.Told.trans ?_ (State.told_newTables _)
  split
  · exact (s.told_disc d1).trans (State.told_setInt _ (.inl rfl) (by decide))
  · exact s.told_disc d1

theorem State.told_probeSend (x : Probe) : s.Told (s.probeSend x) := by
  unfold State.probeSend
  dsimp only
  split
  · exact s.told_disc _
  · exact (s.told_disc _).trans (State.sends_sendLocal _ _ _ _).told

theorem State.told_discNext : s.Told s.discNext := by
  unfold State.discNext
  dsimp only
  split
  · exact .refl s
  · split
    · exact (s.told_disc _).trans (State.told_discFinish _)
    · exact (s.told_disc _).trans (State.told_probeSend _ _)

theorem State.told_rootLink (n p : Nat) (up : Bool) : s.Told (s.rootLink n p up) := by
  unfold State.rootLink
  dsimp only
  split
  · exact .refl s
  · split
    · exact (s.told_disc _).trans (State.told_discNext _)
    · split
      · exact s.told_disc _
      · exact (s.told_disc _).trans (State.told_newTables _)

theorem State.told_tellRoot (p : Nat) (up : Bool) : s.Told (s.tellRoot p up) := by
  unfold State.tellRoot
  split
  · exact s.told_rootLink _ p up
  · split
    · exact (s.sends_sendCtl _ _ _).told
    · exact .refl s

theorem State.told_raise (e : Event) : s.Told (s.raise e) := ⟨rfl, fun _ _ _ => rfl, fun _ _ h => h, fun _ => rfl, rfl, rfl, rfl⟩

theorem State.told_ctlDrop : s.Told s.ctlDrop := by
  unfold State.ctlDrop
  refine State.Told.trans ?_ (State.told_setInt _ (.inl rfl) (by decide))
  exact s.told_fab rfl rfl rfl rfl rfl rfl

theorem State.told_reroute (t : FabTx) : s.Told (s.reroute t) := by
  unfold State.reroute
  dsimp only
  split
  · exact .refl s
  · split
    · exact s.told_ctlDrop
    · exact (s.sends_routeTx _ t).told

theorem State.told_partitionSet : s.Told s.partitionSet := by
  unfold State.partitionSet
  refine State.Told.trans ?_ (State.told_setInt _ (.inl rfl) (by decide))
  exact s.told_fab rfl rfl rfl rfl rfl rfl

theorem State.told_setPdelay (p d : Nat) (x : PDelay) : s.Told (s.setPdelay p d x) :=
  ⟨rfl, fun _ _ _ => rfl, fun _ _ h => h, fun _ => rfl, rfl, rfl, rfl⟩

theorem State.told_pdDown (p : Nat) : s.Told (s.pdDown p) :=
  State.Told.foldl (fun a d => by
    dsimp only
    split
    · exact (a.told_setPdelay _ _ _).trans (State.told_setInt _ (.inr rfl) (by decide))
    · exact a.told_setPdelay _ _ _) _ s

end

end Sys2Proof.Machine
end

section
/-!
PROOFS. Fabric ports train, come UP and fall (R232, R233, R245), for O24.
-/

namespace Sys2Proof.Machine

/-! ### DOWN ports train again (R233) -/

/-- Port `p` goes to TRAIN where it is DOWN and may. -/
def State.trained (s : State) (p : Nat) : State :=
  let x := s.fport p
  if x.state = .down ∧ s.portEnabled p ∧ s.fabRuns then
    s.setFport p { x with state := .train, since := none, lastInfo := none, infoSent := none }
  else s

theorem State.fabRefresh_eq (s : State) : s.fabRefresh = ((s.trained 0).trained 1).trained 2 := rfl

section
variable (s : State) (p : Nat)

theorem State.trained_frame : s.trained p = { s with fab := { s.fab with
    port0 := (s.trained p).fab.port0, port1 := (s.trained p).fab.port1, port2 := (s.trained p).fab.port2 } } := by
  unfold State.trained
  dsimp only
  split
  · conv_lhs => rw [State.setFport_frame, State.setFport_fab]
  · rfl

theorem State.trained_portEnabled (q : Nat) : (s.trained p).portEnabled q = s.portEnabled q := by
  rw [State.trained_frame]; rfl

theorem State.trained_fabRuns : (s.trained p).fabRuns = s.fabRuns := by rw [State.trained_frame]; rfl

theorem State.trained_fport_other {p q : Nat} (hp : p < 3) (hq : q < 3) (h : q ≠ p) :
    (s.trained p).fport q = s.fport q := by
  unfold State.trained
  dsimp only
  split
  · exact s.fport_setFport_other _ hp hq h
  · rfl

/-- A port that may train is in TRAIN, any other stays as it is. -/
theorem State.trained_fport (h : p < 3) : (s.fabRefresh.fport p) = (s.trained p).fport p := by
  have same {a b : State} (port : a.fport p = b.fport p) (enabled : a.portEnabled p = b.portEnabled p)
      (runs : a.fabRuns = b.fabRuns) : (a.trained p).fport p = (b.trained p).fport p := by
    unfold State.trained
    dsimp only
    rw [port, enabled, runs]
    split
    · rw [State.fport_setFport_same, State.fport_setFport_same]
    · exact port
  have cases_ : p = 0 ∨ p = 1 ∨ p = 2 := by omega
  rw [State.fabRefresh_eq]
  rcases cases_ with rfl | rfl | rfl
  · rw [State.trained_fport_other _ (by decide) (by decide) (by decide),
      State.trained_fport_other _ (by decide) (by decide) (by decide)]
  · rw [State.trained_fport_other _ (by decide) (by decide) (by decide)]
    exact same (State.trained_fport_other _ (by decide) (by decide) (by decide)) (State.trained_portEnabled _ _ _)
      (State.trained_fabRuns _ _)
  · refine same ?_ ?_ ?_
    · rw [State.trained_fport_other _ (by decide) (by decide) (by decide),
        State.trained_fport_other _ (by decide) (by decide) (by decide)]
    · rw [State.trained_portEnabled, State.trained_portEnabled]
    · rw [State.trained_fabRuns, State.trained_fabRuns]

theorem State.trained_fport_down {s : State} {p : Nat} (down : (s.fport p).state = .down) :
    ((s.trained p).fport p).state = (if s.portEnabled p = true ∧ s.fabRuns = true then .train else .down) ∧
    ((s.trained p).fport p).downCnt = (s.fport p).downCnt := by
  unfold State.trained
  dsimp only
  by_cases may : s.portEnabled p = true ∧ s.fabRuns = true
  · rw [if_pos ⟨down, may⟩, if_pos may, State.fport_setFport_same]
    exact ⟨rfl, rfl⟩
  · rw [if_neg fun all => may all.2, if_neg may]
    exact ⟨down, rfl⟩

theorem State.fabRefresh_frame : s.fabRefresh = { s with fab := { s.fab with
    port0 := s.fabRefresh.fab.port0, port1 := s.fabRefresh.fab.port1, port2 := s.fabRefresh.fab.port2 } } := by
  have trans {a b c : State} (first : b = { a with fab := { a.fab with
      port0 := b.fab.port0, port1 := b.fab.port1, port2 := b.fab.port2 } })
      (second : c = { b with fab := { b.fab with
      port0 := c.fab.port0, port1 := c.fab.port1, port2 := c.fab.port2 } }) : c = { a with fab := { a.fab with
      port0 := c.fab.port0, port1 := c.fab.port1, port2 := c.fab.port2 } } := by
    rw [first] at second
    exact second
  exact trans (trans (s.trained_frame 0) (State.trained_frame _ 1)) (State.trained_frame _ 2)

theorem State.fabRefresh_rb (a i : Nat) : s.fabRefresh.rb a i = s.rb a i := by rw [State.fabRefresh_frame]; rfl

end

/-! ### A port falls (R233, R245) -/

/-- A port that goes DOWN from UP: the fall is counted, and its queues are empty. -/
def FabPort.fallen (x : FabPort) : FabPort :=
  { x with
    state := .down, since := none, lastInfo := none, infoSent := none, downCnt := satAdd x.downCnt 1 16
    timeQ := [], ctlQ := [], bulkQ := [], proxies := [], unacked := [], seenCtl := {}, seenBulk := {} }

/-- The fall is in the port's record and the interrupt bit before the root is told of it and frames are moved. -/
theorem State.told_portLost (s : State) (p : Nat) :
    (((s.setFport p (s.fport p).fallen).switchRoutes p).setInt A.FAB_INT_STATUS 0).Told (s.portLost p) := by
  have moves (a : State) (l : List FabTx) : a.Told (l.foldl (fun (b : State) t => b.reroute t) a) :=
    State.Told.foldl State.told_reroute l a
  unfold State.portLost
  dsimp only
  have told (a : State) (e : Event) (l : List FabTx) :=
    (((a.told_raise e).trans (State.told_tellRoot _ p false)).trans (State.told_pdDown _ p)).trans (moves _ l)
  split
  · exact ((told _ _ _).trans (State.sends_sendBcast _ _ _).told).trans (State.told_partitionSet _)
  · exact told _ _ _

theorem State.portFall_up {s : State} {p : Nat} (up : (s.fport p).state = .up) :
    s.portFall p = (s.portLost p).fabRefresh := by
  unfold State.portFall
  dsimp only
  rw [up]

/-- After its fall a port trains where it may (R233). -/
theorem State.portFall_spec {s : State} {p : Nat} (exists_ : p < 3) (up : (s.fport p).state = .up) :
    ((s.portFall p).fport p).state = (if s.portEnabled p = true ∧ s.fabRuns = true then .train else .down) ∧
    ((s.portFall p).fport p).downCnt = satAdd (s.fport p).downCnt 1 16 ∧
    (s.portFall p).rb A.FAB_INT_STATUS 0 = true := by
  have told := s.told_portLost p
  have port : (s.portLost p).fport p = { (s.fport p).fallen with
      timeQ := ((s.portLost p).fport p).timeQ, ctlQ := ((s.portLost p).fport p).ctlQ
      bulkQ := ((s.portLost p).fport p).bulkQ } := by
    have before : ((((s.setFport p (s.fport p).fallen).switchRoutes p).setInt A.FAB_INT_STATUS 0).fport p) =
        (s.fport p).fallen := s.fport_setFport_same p _
    rw [← before]
    exact told.port p
  have enabled : (s.portLost p).portEnabled p = s.portEnabled p := by
    rw [State.portEnabled, State.rb_eq, told.reg _ (by decide) (by decide), State.setInt_reg_other _ _ (by decide)]
    rfl
  have started : ((s.setFport p (s.fport p).fallen).fab).started = s.fab.started := by rw [State.setFport_fab]
  have runs : (s.portLost p).fabRuns = s.fabRuns := by
    have clk : (s.portLost p).clk = s.clk := by rw [told.frame]; rfl
    rw [State.fabRuns, State.fabRuns, State.locked, State.locked, clk, told.started]
    exact congrArg (· && _) started
  obtain ⟨state, downCnt⟩ := State.trained_fport_down (s := s.portLost p) (p := p) (by rw [port]; rfl)
  rw [enabled, runs] at state
  rw [State.portFall_up up, State.fabRefresh_rb, State.trained_fport _ _ exists_]
  refine ⟨state, downCnt.trans ?_, told.rb _ _ (State.setInt_rb_same _ _ (by decide))⟩
  rw [port]
  rfl

theorem State.portDown_spec {s : State} {p : Nat} (exists_ : p < 3) (up : (s.fport p).state = .up) (lost : Bool) :
    ((s.portDown p lost).fport p).state = (if s.portEnabled p = true ∧ s.fabRuns = true then .train else .down) ∧
    ((s.portDown p lost).fport p).downCnt = satAdd (s.fport p).downCnt 1 16 ∧
    (s.portDown p lost).rb A.FAB_INT_STATUS 0 = true := by
  unfold State.portDown
  dsimp only
  rw [if_neg (Nat.not_le.2 exists_)]
  split
  · exact State.portFall_spec exists_ up
  · split
    · exact State.portFall_spec (s := s.cycleUp _) exists_ up
    · exact State.portFall_spec exists_ up

/-! ### LINKINFO, and a port goes UP (R232, R233) -/

section
variable {s : State} {p : Nat}

theorem State.linkinfo_fport (exists_ : p < 3) (alive : (s.fport p).state ≠ .down) (peerPort peerAddr : Nat) (valid : Bool)
    (serial : Nat) : ∃ since, (s.linkinfo p peerPort peerAddr valid serial).fport p = { s.fport p with
      lastInfo := some s.mgt, since := since
      heard := { port := peerPort % 4, addr := peerAddr % 64, valid := valid, serial := serial % 2 ^ 40 } } := by
  unfold State.linkinfo
  dsimp only
  rw [if_neg (not_or.2 ⟨alive, Nat.not_le.2 exists_⟩), State.fport_setFport_same]
  exact ⟨_, rfl⟩

/-- The block leaves when it is due and no frame is on the wire. -/
theorem State.linkinfoSend_eq (exists_ : p < 3) (alive : (s.fport p).state ≠ .down) :
    ∃ due, s.linkinfoSend p = ((s.goMgt due).goTo (s.fport p).freeAt).setFport p { s.fport p with
      infoSent := some ((s.goMgt due).goTo (s.fport p).freeAt).mgt, infoBlock := s.linkinfoBytes p } := by
  unfold State.linkinfoSend
  dsimp only
  rw [if_neg (not_or.2 ⟨alive, Nat.not_le.2 exists_⟩)]
  exact ⟨_, rfl⟩

theorem State.linkinfoBytes_eq (exists_ : p < 3) : s.linkinfoBytes p = beBytes 0x87 1 ++ beBytes p 1 ++
    beBytes (s.fab.addr.getD 0 % 64 + flag s.fab.addr.isSome 7) 1 ++ beBytes (s.serialNum % 2 ^ 40) 5 := by
  rw [State.linkinfoBytes, Nat.mod_eq_of_lt (by omega)]

/-- A port that comes UP takes the peer's fields from what it heard, and begins its hops anew. -/
def FabPort.risen (x : FabPort) : FabPort :=
  { x with state := .up, peer := x.heard, ctlSeq := 0, bulkSeq := 0, unacked := [], seenCtl := {}, seenBulk := {} }

theorem State.portUpEvent_eq {c l : Nat} (exists_ : p < 3) (train : (s.fport p).state = .train)
    (since : (s.fport p).since = some c) (last : (s.fport p).lastInfo = some l)
    (held : max s.mgt (c + mgtUs 100) ≤ l + mgtUs 40) : s.portUpEvent p =
      (((s.goMgt (max s.mgt (c + mgtUs 100))).setFport p (s.fport p).risen).setInt A.FAB_INT_STATUS 1).tellRoot p true := by
  unfold State.portUpEvent
  dsimp only
  rw [FabPort.risen, since, last]
  exact if_neg (not_or.2 ⟨not_not.2 train, not_or.2 ⟨Nat.not_lt.2 held, Nat.not_le.2 exists_⟩⟩)

end

theorem State.fin_mgt (s : State) : s.fin.mgt = s.mgt := by rw [State.mgt, State.mgt, State.fin_clk, State.fin_now]

theorem portsTrainAndFall : Claims.PortsTrainAndFall := by
  intro s p run exists_
  refine ⟨fun peerPort peerAddr valid serial alive => ⟨_, act_run _ run, ?_⟩, fun alive => ⟨_, act_run _ run, ?_⟩,
    fun c l train since last held => ⟨_, act_run _ run, ?_⟩, fun lost up _ => ⟨_, act_run _ run, ?_⟩⟩ <;> dsimp only
  · obtain ⟨since, heard⟩ := State.linkinfo_fport exists_ alive peerPort peerAddr valid serial
    rw [State.fin_fport, heard]
    exact ⟨rfl, rfl, rfl, rfl⟩
  · obtain ⟨due, sent⟩ := State.linkinfoSend_eq exists_ alive
    rw [State.fin_fport, State.fin_mgt, State.fin_now, sent, State.fport_setFport_same]
    exact ⟨rfl, Nat.le_max_right _ _, State.linkinfoBytes_eq exists_⟩
  · have told := State.told_tellRoot
      (((s.goMgt (max s.mgt (c + mgtUs 100))).setFport p (s.fport p).risen).setInt A.FAB_INT_STATUS 1) p true
    have port := told.port p
    have risen : ((((s.goMgt (max s.mgt (c + mgtUs 100))).setFport p (s.fport p).risen).setInt
        A.FAB_INT_STATUS 1).fport p) = (s.fport p).risen := State.fport_setFport_same _ p _
    rw [risen] at port
    rw [State.fin_fport, State.fin_rb, State.portUpEvent_eq exists_ train since last held, port]
    exact ⟨rfl, rfl, rfl, rfl, rfl, told.rb _ _ (State.setInt_rb_same _ _ (by decide))⟩
  · rw [State.fin_fport, State.fin_rb]
    exact State.portDown_spec exists_ up lost

end Sys2Proof.Machine
end

section
/-!
PROOFS. Frames leave a port by priority: time, control, proxies by turns (R236, R237, R250): O24.
-/

namespace Sys2Proof.Machine

/-! ### The stamping of a time frame (R259 to R261) -/

/-- Port `p` has the time frames that it had, with or without values of Follow_Ups, and `more` bodies after them. -/
def State.TimeJoined (s t : State) (p : Nat) : Prop := ∃ q more, t.fport p = { s.fport p with timeQ := q } ∧
  q.map (·.body) = (s.fport p).timeQ.map (·.body) ++ more

theorem PtpPend.handTo_bodies (e : PtpPend) (l : List FabTx) : (e.handTo l).map (·.body) = l.map (·.body) := by
  induction l with
  | nil => rfl
  | cons t r ih =>
    unfold PtpPend.handTo
    split
    · rfl
    · rw [List.map_cons, List.map_cons, ih]

section
variable {s t : State} {p : Nat}

theorem State.timeJoined_of_fab (h : t.fab = s.fab) : s.TimeJoined t p :=
  ⟨(s.fport p).timeQ, [], State.fport_of_fab h p, (List.append_nil _).symm⟩

theorem State.timeJoined_dropPend (e : PtpPend) : s.TimeJoined (s.dropPend e) p := by
  rcases s.fport_setFport_cases e.port p { s.fport e.port with timeQ := e.handTo (s.fport e.port).timeQ } with
    ⟨here, same⟩ | other
  · exact ⟨e.handTo (s.fport p).timeQ, [], by rw [same]; exact here,
      (e.handTo_bodies _).trans (List.append_nil _).symm⟩
  · exact ⟨(s.fport p).timeQ, [], other, (List.append_nil _).symm⟩

theorem State.timeJoined_pushPend (e : PtpPend) : s.TimeJoined (s.pushPend e) p := by
  unfold State.pushPend
  dsimp only
  split
  · split
    · exact State.timeJoined_dropPend _
    · exact State.timeJoined_of_fab rfl
  · exact State.timeJoined_of_fab rfl

theorem State.timeJoined_enqueue {t : FabTx} (time : t.cls = 0) : s.TimeJoined (s.enqueue p t) p := by
  unfold State.enqueue
  dsimp only
  split
  · exact State.timeJoined_of_fab rfl
  · exact ⟨_, [t.body], s.fport_setFport_same p _, List.map_append⟩

end

theorem State.toMc1_fab (s : State) (d : Nat) (b : List Byte) (stamp path : Int) : (s.toMc1 d b stamp path).fab = s.fab := by
  unfold State.toMc1
  dsimp only
  split <;> rfl

/-- The stamping of a frame that leaves a port takes no frame from the port. -/
theorem State.timeJoined_ptpOut (s : State) (p : Nat) (t : FabTx) : s.TimeJoined (s.ptpOut p t).2 p := by
  have stamped (d : Nat) : (s.egress p d).2.fab = s.fab := rfl
  unfold State.ptpOut
  dsimp only
  split
  · exact State.timeJoined_of_fab rfl
  · split
    · exact State.timeJoined_pushPend (s := (s.egress p _).2) _
    · exact State.timeJoined_of_fab rfl
  · split
    · exact State.timeJoined_of_fab (State.toMc1_fab _ _ _ _ _)
    · exact State.timeJoined_of_fab rfl
  · exact State.timeJoined_of_fab rfl
  · split <;> exact State.timeJoined_of_fab rfl
  · exact State.timeJoined_of_fab rfl
  · split
    · exact State.timeJoined_of_fab rfl
    · exact State.timeJoined_enqueue (s := (s.egress p _).2) rfl

/-! ### The next frame of a port (R236, R237, R250) -/

theorem State.timeFrames_none {s : State} {l : List FabTx} (noTime : l = [] ∨ s.carries 0 = false) :
    (if s.carries 0 = true then l else []) = [] := by
  rcases noTime with none_ | off
  · rw [none_, ite_self]
  · rw [off]; rfl

section
variable {s : State} {p : Nat} (up : s.portUp p = true)
include up

/-- A time frame goes first. -/
theorem State.frameSend_time {f : FabTx} {r : List FabTx} (carried : s.carries 0 = true) (queue : (s.fport p).timeQ = f :: r) :
    let x := ((s.goTo (s.fport p).freeAt).setFport p { s.fport p with timeQ := r }).ptpOut p f
    s.frameSend p = x.2.onWire p (x.2.fport p) x.1 := by
  unfold State.frameSend
  dsimp only
  rw [if_neg (not_not.2 up), if_pos carried, queue]

variable (noTime : (s.fport p).timeQ = [] ∨ s.carries 0 = false) (noRepeat : (s.fport p).again 1 = none)
include noTime noRepeat

/-- Then a control frame, with the next number of the port. -/
theorem State.frameSend_control {f : FabTx} {r : List FabTx} (queue : (s.fport p).ctlQ = f :: r) :
    s.frameSend p = (s.goTo (s.fport p).freeAt).sendAcked p
      { s.fport p with ctlQ := r, ctlSeq := wrapAdd (s.fport p).ctlSeq 1 32 } f (s.fport p).ctlSeq := by
  unfold State.frameSend
  dsimp only
  rw [if_neg (not_not.2 up), State.timeFrames_none noTime, noRepeat, queue]

/-- Then a fragment of the source whose turn it is. -/
theorem State.frameSend_proxy {a : Nat} {q : List Byte} {l : List ProxyQ} (noControl : (s.fport p).ctlQ = [])
    (carried : s.carries 2 = true) (turn : (s.fport p).nextSource = some a)
    (taken : takeFrag a (s.fport p).proxies = some (q, l)) :
    s.frameSend p = (s.goTo (s.fport p).freeAt).onWire p { s.fport p with proxies := l, lastSrc := a } q := by
  unfold State.frameSend
  dsimp only
  rw [if_neg (not_not.2 up), State.timeFrames_none noTime, noRepeat, noControl, if_pos carried, turn]
  dsimp only
  rw [taken]

end

theorem framesLeaveByPriority : Claims.FramesLeaveByPriority := by
  intro s p run up
  refine ⟨fun f r queue carried => ⟨_, act_run _ run, ?_⟩, fun f r noTime noRepeat queue => ⟨_, act_run _ run, ?_⟩,
    fun a q l noTime noRepeat noControl carried turn taken => ⟨_, act_run _ run, ?_⟩⟩ <;> dsimp only
  · obtain ⟨q, more, port, bodies⟩ :=
      ((s.goTo (s.fport p).freeAt).setFport p { s.fport p with timeQ := r }).timeJoined_ptpOut p f
    rw [State.fport_setFport_same] at port bodies
    rw [State.fin_fport, State.frameSend_time up carried queue, State.onWire, State.fport_setFport_same, port]
    exact ⟨⟨more, bodies⟩, rfl, rfl⟩
  · rw [State.fin_fport, State.frameSend_control up noTime noRepeat queue, State.sendAcked, State.onWire,
      State.fport_setFport_same]
    exact ⟨rfl, rfl, rfl, rfl, _, rfl, rfl, rfl, rfl⟩
  · rw [State.fin_fport, State.frameSend_proxy up noTime noRepeat noControl carried turn taken, State.onWire,
      State.fport_setFport_same]
    exact ⟨rfl, rfl, rfl⟩

/-- Settles O24: a port rises and falls before the root is told of it (`State.Told`), and the next frame of a port is one
of `State.frameSend_time`, `State.frameSend_control` and `State.frameSend_proxy`. -/
theorem portsAndPriority : Obligations.PortsAndPriority := ⟨portsTrainAndFall, framesLeaveByPriority⟩

end Sys2Proof.Machine
end

section
/-!
PROOFS. Frames are acknowledged, sent again, lost and forwarded (R235, R237, R238): O25.
-/

namespace Sys2Proof.Machine

/-! ### Acknowledgements (R237) -/

/-- A frame is to be sent again, or after a control frame's last attempt it is lost. -/
theorem State.repeatTx_spec (s : State) (p : Nat) (u : Unacked) :
    if u.tx.cls = 1 ∧ u.tx.tries = 0 then
      ((s.repeatTx p u).fport p).unacked = (s.fport p).unacked.erase u ∧
      (s.repeatTx p u).fab.ctlLost = wrapAdd s.fab.ctlLost 1 32 ∧ (s.repeatTx p u).rb A.FAB_INT_STATUS 9 = true
    else ((s.repeatTx p u).fport p).unacked = { u with ended := none } :: (s.fport p).unacked.erase u := by
  unfold State.repeatTx
  dsimp only
  split
  · have dropped : ((s.setFport p { s.fport p with unacked := (s.fport p).unacked.erase u }).ctlDrop).fport p =
        { s.fport p with unacked := (s.fport p).unacked.erase u } := s.fport_setFport_same p _
    have counted : (s.setFport p { s.fport p with unacked := (s.fport p).unacked.erase u }).fab.ctlLost =
        s.fab.ctlLost := by rw [State.setFport_fab]
    rw [dropped]
    exact ⟨rfl, congrArg (wrapAdd · 1 32) counted, State.setInt_rb_same _ _ (by decide)⟩
  · rw [State.fport_setFport_same]

theorem framesAreAcknowledged : Claims.FramesAreAcknowledged := by
  intro s p cls fseq u run up
  refine ⟨fun owed => ⟨_, act_run _ run, ?_⟩, fun owed => ⟨_, act_run _ run, ?_⟩,
    fun first => ⟨_, act_run _ run, ?_⟩⟩ <;> dsimp only
  · rw [State.fin_fport, State.ackBlock, owed]
    dsimp only
    rw [if_pos up, State.fport_setFport_same]
  · rw [State.fin_fport, State.fin_fab, State.fin_rb, State.nakBlock, owed]
    dsimp only
    rw [if_pos up]
    exact s.repeatTx_spec p u
  · rw [State.fin_fport, State.fin_fab, State.fin_now, State.hopTimeout, first]
    dsimp only
    rw [if_pos up]
    have again := (s.cycleUp (u.ended.getD 0 + mgtUs 20)).repeatTx_spec p u
    have now : ((s.cycleUp (u.ended.getD 0 + mgtUs 20)).repeatTx p u).now =
        (s.cycleUp (u.ended.getD 0 + mgtUs 20)).now := by
      unfold State.repeatTx
      dsimp only
      split <;> rfl
    refine ⟨now ▸ Nat.le_max_right _ _, ?_⟩
    split
    · next last =>
      rw [if_pos last] at again
      obtain ⟨unacked, lost, -⟩ := again
      exact ⟨unacked, lost⟩
    · next more =>
      rw [if_neg more] at again
      exact again

/-! ### A frame arrives (R234, R237) -/

section
variable {s : State} {p : Nat} {b : List Byte} (up : s.portUp p = true)
include up

theorem State.fabReceive_bad (bad : ¬ (lenOk b = true ∧ crcOk b = true ∧ fb b 4 2 = b.length)) :
    s.fabReceive p b = s.badFrame p (fb b 2 1) (fb b 8 4) (!crcOk b) := by
  unfold State.fabReceive
  dsimp only
  rw [if_neg (not_not.2 up), if_pos]
  simpa [and_assoc] using bad

variable (whole : lenOk b = true ∧ crcOk b = true ∧ fb b 4 2 = b.length)
include whole

/-- A good frame of a class without acknowledgement is taken as it is. -/
theorem State.fabReceive_plain (plain : ¬ (fb b 2 1 = 1 ∨ fb b 2 1 = 3)) : s.fabReceive p b = s.stored p b := by
  obtain ⟨len, crc, length⟩ := whole
  unfold State.fabReceive
  dsimp only
  rw [if_neg (not_not.2 up), if_neg (by rw [len, crc, decide_eq_true length]; decide),
    if_neg fun h => plain (.inl h.1), if_neg plain]

/-- A good frame that is acknowledged: seen before, refused for want of room, or stored. -/
theorem State.fabReceive_acked (acked : fb b 2 1 = 1 ∨ fb b 2 1 = 3)
    (mc1 : fb b 2 1 = 1 → s.forMc1 b = true → s.sys.core1 ≠ .restarting) :
    s.fabReceive p b =
      if ((s.fport p).seenOf (fb b 2 1)).has (fb b 8 4) then
        s.setFport p { s.fport p with lastAck := some (true, fb b 2 1, fb b 8 4) }
      else if s.classFull (fb b 2 1) then
        s.setFport p { s.fport p with lastAck := some (false, fb b 2 1, fb b 8 4) }
      else
        (s.setFport p { (s.fport p).see (fb b 2 1) (fb b 8 4) with
          lastAck := some (true, fb b 2 1, fb b 8 4) }).stored p b := by
  obtain ⟨len, crc, length⟩ := whole
  unfold State.fabReceive
  dsimp only
  rw [if_neg (not_not.2 up), if_neg (by rw [len, crc, decide_eq_true length]; decide),
    if_neg fun h => mc1 h.1 h.2.1 h.2.2, if_pos acked]

end

/-! ### A frame for another device goes on (R235) -/

section
variable {s : State} {p : Nat} {b : List Byte}

theorem State.stored_handle (carried : s.carries (fb b 2 1) = true) (other : fb b 2 1 ≠ 0) :
    s.stored p b = s.handle p b := by
  unfold State.stored
  dsimp only
  rw [if_neg (not_not.2 carried), if_neg other]

theorem testBit_7_of_byte {n : Nat} (h : n < 256) : n.testBit 7 = decide (128 ≤ n) := by
  rw [Nat.testBit_eq_decide_div_mod_eq, decide_eq_decide]
  omega

theorem testBit_6_of_small {n : Nat} (h : n < 128) : n.testBit 6 = decide (64 ≤ n) := by
  rw [Nat.testBit_eq_decide_div_mod_eq, decide_eq_decide]
  omega

/-- Neither LOCAL nor a broadcast, and for another address. -/
theorem State.handle_forward {a : Nat} (addr : s.fab.addr = some a) (small : fb b 0 1 < 64) (other : fb b 0 1 ≠ a) :
    s.handle p b = s.forward b := by
  unfold State.handle
  dsimp only
  rw [testBit_7_of_byte (by omega), if_neg (by simp; omega), addr]
  dsimp only
  rw [testBit_6_of_small (by omega), if_neg (by simp; omega), Nat.mod_eq_of_lt small, if_neg other]

theorem State.forward_spent (spent : fb b 3 1 ≤ 1) : s.forward b = s.ttlDrop := by
  have none_ : stepTtl b = none := by rw [stepTtl]; exact if_pos spent
  unfold State.forward
  dsimp only
  rw [none_]

theorem State.forward_stepped {b1 : List Byte} (stepped : stepTtl b = some b1) (small : fb b 0 1 < 64)
    (notProxy : fb b 2 1 ≠ 2) : s.forward b = s.routeTx (fb b 0 1) { cls := fb b 2 1, body := b1 } := by
  unfold State.forward
  dsimp only
  rw [stepped, Nat.mod_eq_of_lt small]
  exact if_neg notProxy

end

/-- What the receipt of an acknowledged frame notes of a port is not its queues, nor its state. -/
theorem FabPort.see_queues (x : FabPort) (cls n : Nat) :
    (x.see cls n).ctlQ = x.ctlQ ∧ (x.see cls n).bulkQ = x.bulkQ ∧ (x.see cls n).state = x.state := by
  unfold FabPort.see
  split <;> exact ⟨rfl, rfl, rfl⟩

theorem framesAreForwarded : Claims.FramesAreForwarded := by
  intro s p b run up
  refine ⟨fun bad => ⟨_, act_run _ run, ?_⟩, fun len crc length acked mc1 => ?_⟩
  · dsimp only
    rw [State.fin_fport, State.fabReceive_bad up bad, State.badFrame, State.fport_setFport_same]
    refine ⟨rfl, ?_⟩
    dsimp only
    simp only [Bool.not_eq_true']
  have received := State.fabReceive_acked up ⟨len, crc, length⟩ acked mc1
  refine ⟨fun seen => ⟨_, act_run _ run, ?_⟩, fun new full => ⟨_, act_run _ run, ?_⟩,
    fun new room carried a addr small other => ?_⟩
  · dsimp only
    rw [State.fin_fport, received, if_pos seen, State.fport_setFport_same]
  · dsimp only
    rw [State.fin_fport, received, new, if_neg Bool.false_ne_true, if_pos full, State.fport_setFport_same]
  rw [new, if_neg Bool.false_ne_true, room, if_neg Bool.false_ne_true] at received
  obtain ⟨ctl, bulk, state⟩ := (s.fport p).see_queues (fb b 2 1) (fb b 8 4)
  generalize seen : { (s.fport p).see (fb b 2 1) (fb b 8 4) with lastAck := some (true, fb b 2 1, fb b 8 4) } = x at received
  have fab := s.setFport_fab p x
  have port (q : Nat) : ((s.setFport p x).fport q).ctlQ = (s.fport q).ctlQ ∧
      ((s.setFport p x).fport q).bulkQ = (s.fport q).bulkQ ∧ ((s.setFport p x).fport q).state = (s.fport q).state := by
    rcases s.fport_setFport_cases p q x with ⟨here, same⟩ | elsewhere
    · rw [here, same, ← seen]
      exact ⟨ctl, bulk, state⟩
    · rw [elsewhere]
      exact ⟨rfl, rfl, rfl⟩
  have carried' : (s.setFport p x).carries (fb b 2 1) = true := carried
  have addr' : (s.setFport p x).fab.addr = some a := by rw [fab]; exact addr
  rw [State.stored_handle carried' (by omega), State.handle_forward addr' small other] at received
  refine ⟨fun spent => ⟨_, act_run _ run, ?_⟩, fun ttl q route reach active => ⟨_, act_run _ run, fun b1 stepped => ?_⟩⟩
  · dsimp only
    rw [State.fin_fab, State.fin_rb, received, State.forward_spent spent]
    refine ⟨?_, State.setInt_rb_same _ _ (by decide)⟩
    have kept : (s.setFport p x).fab.ttlDrop = s.fab.ttlDrop := by rw [fab]
    exact congrArg (wrapAdd · 1 32) kept
  · have route' : (s.setFport p x).fab.route (fb b 0 1) = q := by rw [fab]; exact route
    obtain ⟨ctlQ, bulkQ, state'⟩ := port q.active
    have active' : (s.setFport p x).portUp q.active = true := (State.portUp_of_state state').trans active
    rw [State.fin_fport, received, State.forward_stepped stepped small (by omega),
      State.routeTx_reach _ (by rw [route']; exact reach) (by rw [route']; exact active'), route', ← ctlQ, ← bulkQ]
    split
    · next control => exact State.enqueue_control active' control
    · next notControl => exact State.enqueue_bulk active' (acked.resolve_left notControl)

/-- Settles O25: acknowledgements and timeouts by `State.repeatTx_spec`, a frame that arrives by `State.fabReceive_acked`,
and one that goes on by `State.forward_spent` and `State.forward_stepped`. -/
theorem hopsAndForwarding : Obligations.HopsAndForwarding := ⟨framesAreAcknowledged, framesAreForwarded⟩

end Sys2Proof.Machine
end

section
/-!
PROOFS. A frame that a device hears reaches its handler (R234, R235, R237): what its receipt leaves of the device.
-/

namespace Sys2Proof.Machine

/-- The receipt of a frame at port `p`: the ports keep their states and `p` its control frames, and besides the ports only
the accepted messages and counts of dropped frames have changed. -/
structure State.Received (p : Nat) (s t : State) : Prop where
  frame : t = { s with fab := t.fab, regs := t.regs, rwc := t.rwc }
  fab : t.fab = { s.fab with
    port0 := t.fab.port0, port1 := t.fab.port1, port2 := t.fab.port2, mids := t.fab.mids
    ttlDrop := t.fab.ttlDrop, prxDrop := t.fab.prxDrop }
  reg : ∀ a, a ≠ A.FAB_INT_STATUS → t.reg a = s.reg a
  state : ∀ q, (t.fport q).state = (s.fport q).state
  ctlQ : (t.fport p).ctlQ = (s.fport p).ctlQ

theorem State.Received.refl (p : Nat) (s : State) : State.Received p s s :=
  ⟨rfl, rfl, fun _ _ => rfl, fun _ => rfl, rfl⟩

theorem State.Received.trans {p : Nat} {s t u : State} (first : State.Received p s t) (second : State.Received p t u) :
    State.Received p s u := by
  obtain ⟨frame, fab, reg, state, ctlQ⟩ := first
  obtain ⟨frame', fab', reg', state', ctlQ'⟩ := second
  refine ⟨?_, ?_, fun a h => (reg' a h).trans (reg a h), fun q => (state' q).trans (state q), ctlQ'.trans ctlQ⟩
  · rw [frame] at frame'
    exact frame'
  · rw [fab] at fab'
    exact fab'

theorem State.Received.foldl {p : Nat} {β : Type} {f : State → β → State}
    (h : ∀ (a : State) (x : β), State.Received p a (f a x)) (l : List β) (s : State) :
    State.Received p s (l.foldl f s) := by
  induction l generalizing s with
  | nil => exact .refl p s
  | cons x l ih => exact (h s x).trans (ih (f s x))

theorem State.Received.rb {p : Nat} {s t : State} (h : State.Received p s t) {a : Nat} (other : a ≠ A.FAB_INT_STATUS)
    (i : Nat) : t.rb a i = s.rb a i := by rw [State.rb_eq, State.rb_eq, h.reg a other]

theorem State.Received.portUp {p : Nat} {s t : State} (h : State.Received p s t) (q : Nat) : t.portUp q = s.portUp q :=
  State.portUp_of_state (h.state q)

section
variable {s : State} {p : Nat}

/-- A port that keeps its state, and at `p` its control frames. -/
theorem State.received_setFport {q : Nat} {x : FabPort} (state : x.state = (s.fport q).state)
    (ctlQ : x.ctlQ = (s.fport q).ctlQ ∨ (p < 3 ∧ q < 3 ∧ p ≠ q)) : State.Received p s (s.setFport q x) := by
  have fab := s.setFport_fab q x
  refine ⟨rfl, ?_, fun _ _ => rfl, fun r => ?_, ?_⟩
  · conv_lhs => rw [fab]
    rw [fab]
  · rcases s.fport_setFport_cases q r x with ⟨here, same⟩ | other
    · rw [here, same, state]
    · rw [other]
  · rcases ctlQ with same | ⟨hp, hq, apart⟩
    · rcases s.fport_setFport_cases q p x with ⟨here, eq⟩ | other
      · rw [here, eq, same]
      · rw [other]
    · rw [s.fport_setFport_other x hq hp apart]

theorem State.received_setInt (i : Nat) : State.Received p s (s.setInt A.FAB_INT_STATUS i) :=
  ⟨rfl, rfl, fun _ h => s.setInt_reg_other i h, fun _ => rfl, rfl⟩

theorem State.received_ttlDrop : State.Received p s s.ttlDrop := by
  unfold State.ttlDrop
  refine State.Received.trans ?_ (State.received_setInt 8)
  exact ⟨rfl, rfl, fun _ _ => rfl, fun _ => rfl, rfl⟩

theorem State.received_proxyDrop (a : Nat) : State.Received p s (s.proxyDrop a) := by
  unfold State.proxyDrop
  refine State.Received.trans ?_ (State.received_setInt 10)
  exact ⟨rfl, rfl, fun _ _ => rfl, fun _ => rfl, rfl⟩

theorem State.received_midKeep (src mid : Nat) : State.Received p s (s.midKeep src mid) :=
  ⟨rfl, rfl, fun _ _ => rfl, fun _ => rfl, rfl⟩

theorem State.received_enqueue {q : Nat} (hp : p < 3) (apart : p ≠ q) (t : FabTx) : State.Received p s (s.enqueue q t) := by
  unfold State.enqueue
  dsimp only
  split
  · exact .refl p s
  · next up =>
    have other {P : Prop} : P ∨ (p < 3 ∧ q < 3 ∧ p ≠ q) := .inr ⟨hp, State.portUp_exists (not_not.1 up), apart⟩
    split
    · exact State.received_setFport rfl other
    · split <;> exact State.received_setFport rfl other

theorem State.received_treeTx (hp : p < 3) (t : FabTx) : State.Received p s (s.treeTx p t) :=
  State.Received.foldl (fun a q => by
    split
    · exact .refl p a
    · next apart => exact State.received_enqueue hp (Ne.symm apart) t) _ s

theorem State.received_proxyQueue (q : Nat) (b : List Byte) : State.Received p s (s.proxyQueue q b) := by
  unfold State.proxyQueue
  dsimp only
  split
  · exact .refl p s
  · split
    · split
      · exact State.received_setFport rfl (.inl rfl)
      · refine State.Received.trans ?_ (State.received_proxyDrop _)
        exact State.received_setFport rfl (.inl rfl)
    · exact State.received_setFport rfl (.inl rfl)

theorem State.received_forwardBcast (hp : p < 3) (b : List Byte) : State.Received p s (s.forwardBcast p b) := by
  unfold State.forwardBcast
  split
  · exact State.received_ttlDrop
  · split
    · exact State.Received.foldl (fun a q => by
        split
        · exact .refl p a
        · exact State.received_proxyQueue q _) _ s
    · exact State.received_treeTx hp _

theorem State.proxyQueue_mids (q : Nat) (b : List Byte) : (s.proxyQueue q b).fab.mids = s.fab.mids := by
  unfold State.proxyQueue
  dsimp only
  split
  · rfl
  · split
    · split
      · exact State.setFport_mids _
      · exact State.setFport_mids (s := s) _
    · exact State.setFport_mids _

theorem State.forwardBcast_mids (b : List Byte) : (s.forwardBcast p b).fab.mids = s.fab.mids := by
  unfold State.forwardBcast
  split
  · rfl
  · split
    · exact foldl_keeps (·.fab.mids) _ _ s fun a q => by
        split
        · rfl
        · exact State.proxyQueue_mids _ _
    · exact State.treeTx_mids _

end

/-! ### A frame that is heard -/

section
variable {s : State} {p : Nat} {b : List Byte}

/-- A device delivers what is LOCAL, for its own address, or a broadcast from a tree port (R235). -/
theorem State.handle_us (hp : p < 3) (forUs : s.forUs p b) :
    ∃ t, State.Received p s t ∧ t.fab.mids = s.fab.mids ∧ s.handle p b = t.deliver p b := by
  obtain ⟨-, dst⟩ := forUs
  unfold State.handle
  dsimp only
  rw [testBit_7_of_byte (fb_one_lt b 0)]
  by_cases isLocal : 128 ≤ fb b 0 1
  · rw [if_pos (decide_eq_true isLocal)]
    exact ⟨s, .refl p s, rfl, rfl⟩
  · obtain ⟨a, addr, dst⟩ := dst.resolve_left isLocal
    rw [if_neg (by simpa using isLocal), addr, testBit_6_of_small (by omega)]
    dsimp only
    rcases dst with ⟨own, small⟩ | ⟨big, -, tree⟩
    · rw [if_neg (by simp; omega), if_pos (by omega)]
      exact ⟨s, .refl p s, rfl, rfl⟩
    · rw [if_pos (decide_eq_true big), if_pos tree]
      exact ⟨s.forwardBcast p b, State.received_forwardBcast hp b, State.forwardBcast_mids b, rfl⟩

/-- A control message that is new from its source comes to its handler (R237). -/
theorem State.deliver_control (control : fb b 2 1 = 1)
    (new : 64 ≤ fb b 1 1 ∨ s.midSeen (fb b 1 1) (fb b 12 2) = false) :
    ∃ t, State.Received p s t ∧ s.deliver p b = t.control p b := by
  unfold State.deliver
  dsimp only
  rw [if_pos control]
  split
  · exact ⟨s, .refl p s, rfl⟩
  · next near =>
    refine ⟨s.midKeep (fb b 1 1) (fb b 12 2), State.received_midKeep _ _, ?_⟩
    rw [new.resolve_left fun far => near (.inr far)]
    rfl

theorem State.receiveIf_fits {cls msg : Nat} (isCls : fb b 2 1 = cls) (isMsg : fb b 6 2 = msg) :
    s.receiveIf p b cls (some msg) = s.fabReceive p b := by
  unfold State.receiveIf
  dsimp only
  rw [if_pos (by rw [isCls, isMsg]; simp)]

/-- A frame that is heard, of another class than time, is delivered; MC1 takes no message while it restarts (R239). -/
theorem State.receive_heard {cls msg : Nat} (hears : s.hears p b cls msg) (other : cls ≠ 0)
    (mc1 : cls = 1 → s.forMc1 b = true → s.sys.core1 ≠ .restarting) :
    ∃ t, State.Received p s t ∧ t.fab.mids = s.fab.mids ∧ fb b 2 1 = cls ∧ fb b 6 2 = msg ∧
      s.fabReceive p b = t.deliver p b := by
  obtain ⟨⟨up, len, crc, length, isCls, isMsg, carries, fresh⟩, forUs⟩ := hears
  have hp := State.portUp_exists up
  by_cases acked : cls = 1 ∨ cls = 3
  · obtain ⟨unseen, room⟩ := fresh acked
    obtain ⟨-, -, state⟩ := (s.fport p).see_queues cls (fb b 8 4)
    have queues := ((s.fport p).see_queues cls (fb b 8 4)).1
    have received := State.fabReceive_acked up ⟨len, crc, length⟩ (isCls ▸ acked) (isCls ▸ mc1)
    rw [isCls, unseen, if_neg Bool.false_ne_true, room, if_neg Bool.false_ne_true] at received
    generalize seen : { (s.fport p).see cls (fb b 8 4) with lastAck := some (true, cls, fb b 8 4) } = x at received
    have first : State.Received p s (s.setFport p x) :=
      State.received_setFport (by rw [← seen]; exact state) (.inl (by rw [← seen]; exact queues))
    obtain ⟨t, second, mids, handled⟩ := State.handle_us (s := s.setFport p x) hp (by
      rw [State.forUs, State.midSeen, State.setFport_mids, State.setFport_addr, State.setFport_tree]
      exact forUs)
    refine ⟨t, first.trans second, mids.trans (State.setFport_mids x), isCls, isMsg, ?_⟩
    rw [received, State.stored_handle (isCls ▸ carries) (isCls ▸ other), handled]
  · obtain ⟨t, received, mids, handled⟩ := State.handle_us hp forUs
    refine ⟨t, received, mids, isCls, isMsg, ?_⟩
    rw [State.fabReceive_plain up ⟨len, crc, length⟩ (isCls ▸ acked),
      State.stored_handle (isCls ▸ carries) (isCls ▸ other), handled]

/-- A control message that is heard comes to `State.control`. -/
theorem State.control_heard {msg : Nat} (hears : s.hears p b 1 msg)
    (mc1 : s.forMc1 b = true → s.sys.core1 ≠ .restarting) :
    ∃ t, State.Received p s t ∧ fb b 2 1 = 1 ∧ fb b 6 2 = msg ∧ s.fabReceive p b = t.control p b := by
  obtain ⟨t, received, mids, isCls, isMsg, eq⟩ := State.receive_heard hears (by decide) fun _ => mc1
  obtain ⟨-, new, -⟩ := hears
  obtain ⟨u, received', eq'⟩ := State.deliver_control (s := t) (p := p) isCls (by
    rw [State.midSeen, mids]
    exact new isCls)
  exact ⟨u, received.trans received', isCls, isMsg, eq.trans eq'⟩

/-- Messages below 0x0100 are not MC1's (R239). -/
theorem State.forMc1_low {msg : Nat} (isMsg : fb b 6 2 = msg) (low : msg < 0x100) : s.forMc1 b = false := by
  rw [State.forMc1, isMsg, decide_eq_false (by omega : ¬ 0x100 ≤ msg), Bool.and_false, Bool.false_and]

/-- A control message of the device itself that is heard comes to `State.control`. -/
theorem State.receiveIf_control {msg : Nat} (hears : s.hears p b 1 msg) (low : msg < 0x100) :
    ∃ t, State.Received p s t ∧ fb b 6 2 = msg ∧ s.receiveIf p b 1 (some msg) = t.control p b := by
  have notMc1 (mc1 : s.forMc1 b = true) : s.sys.core1 ≠ .restarting := by
    obtain ⟨⟨-, -, -, -, -, isMsg, -⟩, -⟩ := hears
    rw [State.forMc1_low isMsg low] at mc1
    cases mc1
  obtain ⟨t, received, isCls, isMsg, eq⟩ := State.control_heard hears notMc1
  exact ⟨t, received, isMsg, (State.receiveIf_fits isCls isMsg).trans eq⟩

end

/-! ### The handler of a control message (R239) -/

section
variable (s : State) {p : Nat} {b : List Byte}

theorem State.control_probe (msg : fb b 6 2 = 1) : s.control p b = s.probeMsg p b := by
  unfold State.control; rw [msg]; rfl

theorem State.control_report (msg : fb b 6 2 = 2) : s.control p b = s.reportMsg p b := by
  unfold State.control; rw [msg]; rfl

theorem State.control_assign (msg : fb b 6 2 = 3) : s.control p b = s.assignMsg b := by
  unfold State.control; rw [msg]; rfl

theorem State.control_assignAck (msg : fb b 6 2 = 4) : s.control p b = s.assignAck b := by
  unfold State.control; rw [msg]; rfl

theorem State.control_linkEvent (msg : fb b 6 2 = 5) : s.control p b = s.linkEventMsg b := by
  unfold State.control; rw [msg]; rfl

theorem State.control_partition (msg : fb b 6 2 = 6) : s.control p b = s.partitionSet := by
  unfold State.control; rw [msg]; rfl

theorem State.control_summary (msg : fb b 6 2 = 0x20) :
    s.control p b = s.storeSummary (fb b 1 1 % 64) ((b.drop 16).take 36) := by
  unfold State.control; rw [msg]; rfl

end

end Sys2Proof.Machine
end

section
/-!
PROOFS. Discovery explores, and roots begin and yield (R240, R241): O26.
-/

namespace Sys2Proof.Machine

/-! ### The devices that a root knows -/

/-- A list of nodes that a pass over `l` builds has the serial numbers of `l`, if each step adds that of its node. -/
theorem foldl_serials {α : Type} {f : α × List DiscNode → DiscNode → α × List DiscNode}
    (step : ∀ acc n, (f acc n).2.map (·.serial) = acc.2.map (·.serial) ++ [n.serial]) (l : List DiscNode)
    (acc : α × List DiscNode) :
    (l.foldl f acc).2.map (·.serial) = acc.2.map (·.serial) ++ l.map (·.serial) := by
  induction l generalizing acc with
  | nil => simp
  | cons n l ih => rw [List.foldl_cons, ih, step, List.map_cons, List.append_assoc]; rfl

theorem keepAddrs_serials (own : Nat) (l : List DiscNode) : (keepAddrs own l).map (·.serial) = l.map (·.serial) :=
  foldl_serials (fun acc n => by
    dsimp only
    split
    · split <;> exact List.map_append
    · exact List.map_append) l _

theorem fillAddrs_serials (l : List DiscNode) : (fillAddrs l).map (·.serial) = l.map (·.serial) :=
  foldl_serials (fun acc n => by
    split
    · exact List.map_append
    · split <;> exact List.map_append) l _

theorem Disc.mod_serials (d : Disc) (n : Nat) {f : DiscNode → DiscNode} (h : ∀ x, (f x).serial = x.serial) :
    (d.mod n f).nodes.map (·.serial) = d.nodes.map (·.serial) := by
  rw [Disc.mod, List.map_map]
  refine List.map_congr_left fun x _ => ?_
  dsimp only [Function.comp_apply]
  split
  · exact h x
  · rfl

theorem Disc.link_serials (d : Disc) (a p b q : Nat) :
    (d.link a p b q).nodes.map (·.serial) = d.nodes.map (·.serial) := by
  refine (Disc.mod_serials _ _ ?_).trans (Disc.mod_serials _ _ ?_) <;> exact fun _ => rfl

section
variable (s : State)

/-- Sending an ASSIGN counts it, or ends the discovery. -/
theorem State.assignSend_disc : s.assignSend.fab.disc = { s.fab.disc with
    tries := s.assignSend.fab.disc.tries, busy := s.assignSend.fab.disc.busy
    failed := s.assignSend.fab.disc.failed } := by
  unfold State.assignSend
  dsimp only
  split
  · split
    · rfl
    · split
      · rfl
      · rw [(State.sends_sendLocal _ _ _ _).disc]
  · split
    · rfl
    · split <;> rfl

/-- New tables wait to be sent; what discovery has found stays. -/
theorem State.newTables_disc : s.newTables.fab.disc = { s.fab.disc with
    assign := s.newTables.fab.disc.assign, tries := s.newTables.fab.disc.tries
    busy := s.newTables.fab.disc.busy, failed := s.newTables.fab.disc.failed } := by
  unfold State.newTables
  dsimp only
  split
  · rfl
  · rw [State.assignSend_disc]

theorem State.discFinish_serials :
    s.discFinish.fab.disc.nodes.map (·.serial) = s.fab.disc.nodes.map (·.serial) := by
  unfold State.discFinish
  extract_lets d nodes above d1 s1
  rw [State.newTables_disc]
  have same : nodes.map (·.serial) = d.nodes.map (·.serial) := by
    unfold nodes
    split
    · rw [fillAddrs_serials, List.map_map]; rfl
    · rw [fillAddrs_serials, keepAddrs_serials]
  refine Eq.trans ?_ same
  have taken : d1.nodes.map (·.serial) = nodes.map (·.serial) := by
    unfold d1
    rw [List.map_map]; rfl
  split <;> exact taken

theorem State.probeSend_disc (x : Probe) :
    (s.probeSend x).fab.disc = { s.fab.disc with probe := some { x with at_ := s.mgt } } := by
  unfold State.probeSend
  dsimp only
  split
  · rfl
  · rw [(State.sends_sendLocal _ _ _ _).disc]

theorem State.discNext_serials : s.discNext.fab.disc.nodes.map (·.serial) = s.fab.disc.nodes.map (·.serial) := by
  unfold State.discNext
  dsimp only
  split
  · rfl
  · split
    · rw [State.discFinish_serials]
    · rw [State.probeSend_disc]

theorem State.discFinish_probe : s.discFinish.fab.disc.probe = s.fab.disc.probe := by
  unfold State.discFinish
  extract_lets d nodes above d1 s1
  rw [State.newTables_disc]
  split <;> rfl

/-- A discovery that has no probe on the way sends at most a first one. -/
theorem State.discNext_probe (none_ : s.fab.disc.probe = none) {y : Probe} (sent : s.discNext.fab.disc.probe = some y) :
    y.tries = 1 := by
  unfold State.discNext at sent
  dsimp only at sent
  split at sent
  · rw [none_] at sent; cases sent
  · split at sent
    · rw [State.discFinish_probe] at sent
      cases none_.symm.trans sent
    · rw [State.probeSend_disc] at sent
      cases sent
      rfl

end

/-! ### PROBE and REPORT (R240, R241) -/

section
variable {s : State}

/-- A conflict of roots changes nothing that a REPORT tells but the role and the rank. -/
theorem State.conflict_frame (k n : Nat) : s.conflict k n = { s with
    fab := { s.fab with role := (s.conflict k n).fab.role, rank := (s.conflict k n).fab.rank
                        map := (s.conflict k n).fab.map, disc := (s.conflict k n).fab.disc }
    regs := (s.conflict k n).regs, rwc := (s.conflict k n).rwc, evl := (s.conflict k n).evl } := by
  unfold State.conflict
  split <;> rfl

/-- A newer root makes a root yield (R241). -/
theorem State.conflict_newer {k n : Nat} (newer : s.fab.role = .root ∧ (s.fab.rank < k ∨ (s.fab.rank = k ∧ n < s.serialNum))) :
    s.conflict k n = s.rootYield := by
  unfold State.conflict
  exact if_pos newer

theorem State.conflict_older {k n : Nat}
    (older : ¬ (s.fab.role = .root ∧ (s.fab.rank < k ∨ (s.fab.rank = k ∧ n < s.serialNum)))) : s.conflict k n = s := by
  unfold State.conflict
  exact if_neg older

theorem State.rootYield_rb : s.rootYield.rb A.FAB_INT_STATUS 6 = true :=
  State.setInt_rb_same _ _ (by decide)

theorem State.sendLocal_ctlQ {p : Nat} (up : s.portUp p = true) (msg : Nat) (payload : List Byte) :
    ((s.sendLocal p msg payload).fport p).ctlQ =
      (s.fport p).ctlQ ++ [{ cls := 1, body := mkFrame 0x80 s.fab.src 1 msg s.fab.mid s.fab.gen payload }] :=
  State.enqueue_control (s := s.nextMid.2) up rfl

/-- A PROBE that has no hop left is answered where it came in. -/
theorem State.probeMsg_end {p : Nat} {b : List Byte} (arrived : fb b 16 1 = 0) : ∃ tail, s.probeMsg p b =
    (s.conflict (fb b 41 1) (fb b 33 8)).sendLocal p 0x02
      (beBytes (s.conflict (fb b 41 1) (fb b 33 8)).serialNum 8 ++ tail) := by
  unfold State.probeMsg
  dsimp only
  rw [if_pos arrived]
  simp only [List.append_assoc]
  exact ⟨_, rfl⟩

/-- A REPORT that answers the probe in progress enters its device (R240). -/
theorem State.reportAt_node (x : Probe) (b : List Byte) :
    ∃ y ∈ (s.reportAt x b).fab.disc.nodes, y.serial = fb b 16 8 := by
  unfold State.reportAt
  extract_lets d0 d n q known a ports d1 d2 more
  rw [← List.mem_map, State.discNext_serials]
  have entered : n ∈ d1.nodes.map (·.serial) := by
    unfold d1
    split
    · next isKnown =>
      obtain ⟨y, found⟩ := Option.isSome_iff_exists.1 isKnown
      exact List.mem_map.2 ⟨y, List.mem_of_find?_eq_some found, by simpa using List.find?_some found⟩
    · exact List.mem_map.2 ⟨_, List.mem_append_right _ (List.mem_singleton_self _), rfl⟩
  have linked : n ∈ d2.nodes.map (·.serial) := by
    unfold d2
    rw [Disc.link_serials]
    exact entered
  dsimp only
  split <;> exact linked

theorem State.reportMsg_end {p : Nat} {b : List Byte} {x : Probe} (arrived : fb b 28 16 % 4 = 3)
    (older : ¬ (s.fab.role = .root ∧ (s.fab.rank < fb b 25 1 ∨ (s.fab.rank = fb b 25 1 ∧ fb b 16 8 < s.serialNum))))
    (probe : s.fab.disc.probe = some x) (way : x.path.head? = some p) : s.reportMsg p b = s.reportAt x b := by
  have last : hopOf (fb b 28 16) 0 = 3 := by
    rw [hopOf, field, Nat.shiftRight_zero]
    exact arrived
  unfold State.reportMsg
  dsimp only
  rw [State.conflict_older older, if_neg (not_not.2 last), probe]
  exact if_pos way

end

theorem discoveryExplores : Claims.DiscoveryExplores := by
  intro s p b run
  refine ⟨fun hears arrived => ⟨_, act_run _ run, ?_⟩, fun x hears arrived older probe way => ⟨_, act_run _ run, ?_⟩,
    fun x probe => ⟨_, act_run _ run, ?_⟩⟩ <;> dsimp only
  · obtain ⟨t, received, isMsg, eq⟩ := State.receiveIf_control hears (by decide)
    obtain ⟨⟨up, -⟩, -⟩ := hears
    obtain ⟨tail, answer⟩ := State.probeMsg_end (s := t) (p := p) arrived
    have kept := State.conflict_frame (s := t) (fb b 41 1) (fb b 33 8)
    have port : (t.conflict (fb b 41 1) (fb b 33 8)).fport p = t.fport p := by rw [kept]; rfl
    have up' : (t.conflict (fb b 41 1) (fb b 33 8)).portUp p = true := by
      rw [State.portUp_of_state (congrArg FabPort.state port), received.portUp, up]
    have mid : (t.conflict (fb b 41 1) (fb b 33 8)).fab.mid = s.fab.mid := by rw [kept, received.fab]
    have serial : (t.conflict (fb b 41 1) (fb b 33 8)).serialNum = s.serialNum := by rw [kept, received.frame]; rfl
    rw [State.fin_fport, State.fin_fab, State.fin_rb, eq, t.control_probe isMsg, answer, serial]
    have queue := State.sendLocal_ctlQ up' 0x02 (beBytes s.serialNum 8 ++ tail)
    rw [port, received.ctlQ, mid] at queue
    refine ⟨⟨_, _, tail, queue⟩, fun newer => ?_⟩
    have newer' : t.fab.role = .root ∧
        (t.fab.rank < fb b 41 1 ∨ (t.fab.rank = fb b 41 1 ∧ fb b 33 8 < t.serialNum)) := by
      have sameSerial : t.serialNum = s.serialNum := by rw [received.frame]; rfl
      rw [sameSerial, received.fab]
      exact newer
    rw [State.conflict_newer newer']
    have told := (t.rootYield.sends_sendLocal p 0x02 (beBytes s.serialNum 8 ++ tail)).told
    exact ⟨told.role, told.rank, told.rb _ _ State.rootYield_rb⟩
  · obtain ⟨t, received, isMsg, eq⟩ := State.receiveIf_control hears (by decide)
    rw [State.fin_fab, eq, t.control_report isMsg, State.reportMsg_end arrived ?_ (by rw [received.fab]; exact probe) way]
    · exact State.reportAt_node x b
    · have sameSerial : t.serialNum = s.serialNum := by rw [received.frame]; rfl
      rw [sameSerial, received.fab]
      exact older
  · rw [State.fin_fab, State.fin_now, State.probeTimeout, probe]
    dsimp only
    have later : s.mgtInstant (x.at_ + mgtUs 100 + 1) ≤ (s.cycleUp (x.at_ + mgtUs 100)).now := Nat.le_max_right _ _
    split
    · next again =>
      have told := (s.cycleUp (x.at_ + mgtUs 100)).told_probeSend { x with tries := x.tries + 1 }
      rw [State.probeSend_disc, told.frame]
      exact ⟨later, fun _ => ⟨_, rfl⟩, fun gone => absurd gone (by omega)⟩
    · next last =>
      generalize lapsed : { s.cycleUp (x.at_ + mgtUs 100) with fab := { (s.cycleUp (x.at_ + mgtUs 100)).fab with
        disc := { (s.cycleUp (x.at_ + mgtUs 100)).fab.disc with probe := none } } } = t
      have now : t.discNext.now = (s.cycleUp (x.at_ + mgtUs 100)).now := by rw [t.told_discNext.frame, ← lapsed]
      rw [now]
      exact ⟨later, fun again => absurd again last, fun _ y => t.discNext_probe (by rw [← lapsed])⟩

/-! ### DISC_GO and YIELD (R240, R241) -/

/-- The RW bits of `FAB_CTRL`: PORT_EN (R269). -/
def fabCtrlBits : Word := 0x70

theorem homeMask_FAB_CTRL : homeMask A.FAB_CTRL = fabCtrlBits.toNat := by decide

section
variable (s : State)

theorem State.setFport_role (p : Nat) (x : FabPort) : (s.setFport p x).fab.role = s.fab.role := by rw [State.setFport_fab]

theorem State.fabRefresh_role : s.fabRefresh.fab.role = s.fab.role := by rw [State.fabRefresh_frame]

theorem State.portFall_role (p : Nat) : (s.portFall p).fab.role = s.fab.role := by
  unfold State.portFall
  dsimp only
  split
  · rfl
  · rw [State.fabRefresh_role, State.setFport_role]
  · rw [State.fabRefresh_role, (s.told_portLost p).role]
    exact s.setFport_role p _

/-- Ports that fall leave the role. -/
theorem State.fabCheck_role : s.fabCheck.fab.role = s.fab.role := by
  unfold State.fabCheck
  rw [State.fabRefresh_role]
  exact foldl_keeps (·.fab.role) _ _ s fun a p => by
    split
    · exact a.portFall_role p
    · rfl

theorem State.discStart_role (rank : Nat) (fresh : Bool) :
    (s.discStart rank fresh).fab.role = .root ∧ (s.discStart rank fresh).fab.rank = rank := by
  unfold State.discStart
  have told := State.told_discNext { s with fab := { s.fab with
    role := .root, rank := rank, parent := 3
    disc := { busy := true, fresh := fresh
              nodes := [{ serial := s.serialNum, had := s.fab.addr, addr := s.fab.addr, ports := s.portsByte }]
              todo := s.upPorts.map (fun p => (s.serialNum, p)) } } }
  exact ⟨told.role, told.rank⟩

end

theorem rootsBeginAndYield : Claims.RootsBeginAndYield := by
  intro s who w run
  refine ⟨⟨_, act_run _ run, ?_⟩, fun noGo root => ⟨_, act_run _ run, ?_⟩⟩ <;> dsimp only
  · rw [State.fin_fab, State.poke_FAB_CTRL, State.wroteBy_fab, State.standing_force homeMask_FAB_CTRL (by decide)]
    unfold State.fabCtrlWrite State.fabCtrlActs
    rw [wbit_force_same _ (by decide), if_pos rfl]
    exact State.discStart_role _ _ _
  · rw [State.fin_fab, State.fin_rb, State.poke_FAB_CTRL, State.wroteBy_fab, State.wroteBy_rb,
      State.standing_force homeMask_FAB_CTRL (by decide)]
    unfold State.fabCtrlWrite State.fabCtrlActs
    have root' (n : Nat) : (s.setRn A.FAB_CTRL n).fabCheck.fab.role = .root := (State.fabCheck_role _).trans root
    rw [wbit_force_same _ (by decide), wbit_force_other _ (by decide) (by decide),
      State.wbit_standing homeMask_FAB_CTRL (by decide), noGo, if_neg Bool.false_ne_true, if_pos ⟨rfl, root' _⟩]
    exact ⟨rfl, rfl, rfl, rfl, State.rootYield_rb⟩

/-- Settles O26: a device that is reported stays in the graph by `State.discNext_serials`, and the roles by
`State.conflict_newer`, `State.discStart_role` and `State.fabCheck_role`. -/
theorem discoveryAndRoots : Obligations.DiscoveryAndRoots := ⟨discoveryExplores, rootsBeginAndYield⟩

end Sys2Proof.Machine
end

section
/-!
PROOFS. Addresses, routes and links as the root assigns them (R243 to R246): O27.
-/

namespace Sys2Proof.Machine

/-! ### Links of the graph (R245) -/

theorem Disc.node_mod (d : Disc) (m n : Nat) {f : DiscNode → DiscNode} (h : ∀ x, (f x).serial = x.serial) :
    (d.mod m f).node n = (d.node n).map fun x => if x.serial = m then f x else x := by
  rw [Disc.mod, Disc.node, List.find?_map, Disc.node]
  congr 2
  funext x
  dsimp only [Function.comp_apply]
  split
  · rw [h]
  · rfl

/-- A cut leaves no link at the port that it names. -/
theorem Disc.cut_node {d : Disc} {n : Nat} {y : DiscNode} (found : d.node n = some y) (p : Nat) :
    ∃ z, (d.cut n p).node n = some z ∧ ∀ l ∈ z.links, l.1 ≠ p := by
  have serial : y.serial = n := by simpa using List.find?_some found
  unfold Disc.cut
  rw [found]
  dsimp only
  split
  · next none_ => exact ⟨y, found, fun l mem => by simpa using List.find?_eq_none.1 none_ l mem⟩
  · rw [Disc.node_mod, Disc.node_mod, found]
    · refine ⟨_, rfl, fun l mem => ?_⟩
      dsimp only at mem
      rw [if_pos serial] at mem
      have kept : l ∈ y.links.filter fun z => z.1 ≠ p := by
        split at mem
        · exact List.mem_of_mem_filter mem
        · exact mem
      simpa using List.of_mem_filter kept
    all_goals exact fun _ => rfl

section
variable {s : State}

/-- A link that fell is cut, whether or not tables follow at once. -/
theorem State.rootLink_down {n : Nat} {y : DiscNode} (root : s.fab.role = .root) (found : s.fab.disc.node n = some y)
    (p : Nat) : ∃ z, (s.rootLink n p false).fab.disc.node n = some z ∧ ∀ l ∈ z.links, l.1 ≠ p := by
  have cut : (s.rootLink n p false).fab.disc.nodes = (s.fab.disc.cut n p).nodes := by
    unfold State.rootLink
    dsimp only
    rw [if_neg (by rw [found, root]; simp), if_neg Bool.false_ne_true]
    split
    · rfl
    · rw [State.newTables_disc]
  rw [Disc.node, cut]
  exact Disc.cut_node found p

/-! ### Tables (R243, R244) -/

theorem State.assignSend_assign (s : State) : s.assignSend.fab.disc.assign = s.fab.disc.assign := by
  rw [State.assignSend_disc]

theorem State.assignPop_assign (s : State) (lost : Bool) :
    (s.assignPop lost).fab.disc.assign = s.fab.disc.assign.drop 1 := by
  rw [State.assignPop, State.assignSend_assign]

/-- An ASSIGN that is sent counts one attempt more. -/
theorem State.assignSend_tries {a : Nat} {r : List Nat} (waits : s.fab.disc.assign = a :: r)
    (known : ∃ n ∈ s.fab.disc.nodes, n.addr = some a) :
    s.assignSend.fab.disc.tries = s.fab.disc.tries + 1 := by
  obtain ⟨n, mem, addr⟩ := known
  unfold State.assignSend
  dsimp only
  rw [waits]
  dsimp only
  split
  · next none_ => exact absurd addr (by simpa using List.find?_eq_none.1 none_ n mem)
  · split
    · rfl
    · rw [(State.sends_sendLocal _ _ _ _).disc]

/-- A member takes the tables of an ASSIGN that has reached it, and acknowledges it. -/
theorem State.assignMsg_end {b : List Byte} (arrived : assignHops b = 0) (member : s.fab.role ≠ .root) :
    ∃ t, State.Sends t (s.assignMsg b) ∧ t.rb A.FAB_INT_STATUS 4 = true ∧ t.fab = { s.fab with
      addr := some (fb b 16 1 % 64), gen := fb b 17 1, rootAddr := fb b 18 1 % 64, tree := fb b 19 1 % 8
      parent := fb b 19 1 / 16 % 4, routes := assignRoutes b, partitioned := false, role := .member } := by
  unfold State.assignMsg
  dsimp only
  rw [if_neg (not_not.2 arrived), if_neg member]
  exact ⟨_, State.sends_sendCtl _ _ _ _, State.setInt_rb_same _ _ (by decide), rfl⟩

theorem State.assignMsg_on {b : List Byte} (more : assignHops b ≠ 0) : s.Sends (s.assignMsg b) := by
  unfold State.assignMsg
  dsimp only
  rw [if_pos more]
  exact s.sends_resendLocal _ _

theorem State.assignAck_first {b : List Byte} {r : List Nat} (root : s.fab.role = .root)
    (waits : s.fab.disc.assign = fb b 16 1 :: r) (gen : fb b 17 1 = s.fab.gen) : s.assignAck b = s.assignPop false := by
  unfold State.assignAck
  exact if_pos ⟨root, by rw [waits]; rfl, gen⟩

theorem State.assignTimeout_eq {a : Nat} {r : List Nat} (root : s.fab.role = .root) (waits : s.fab.disc.assign = a :: r) :
    s.assignTimeout =
      if s.fab.disc.tries < 8 then (s.cycleUp s.mgt).assignSend else (s.cycleUp s.mgt).assignPop true := by
  unfold State.assignTimeout
  exact if_neg (not_or.2 ⟨not_not.2 root, by rw [waits]; exact List.cons_ne_nil _ _⟩)

theorem State.linkEventMsg_known {b : List Byte} {n : Nat} (known : s.fab.serialAt (fb b 1 1 % 64) = some n)
    (fell : fb b 17 1 = 0) : s.linkEventMsg b = s.rootLink n (fb b 16 1 % 4) false := by
  unfold State.linkEventMsg
  rw [known, fell]
  rfl

end

/-- Settles O27: the messages come to their handlers by `State.receiveIf_control`, tables by `State.assignMsg_end`, the
attempts of the root by `State.assignSend_tries`, and a link that fell by `State.rootLink_down`. -/
theorem tablesAreAssigned : Obligations.TablesAreAssigned := by
  intro s p b run
  refine ⟨fun hears arrived member => ⟨_, act_run _ run, ?_⟩, fun r hears root waits gen => ⟨_, act_run _ run, ?_⟩,
    fun a r root waits => ⟨fun spent => ⟨_, act_run _ run, ?_⟩, fun more known => ⟨_, act_run _ run, ?_⟩⟩,
    fun _ hears more => ⟨_, act_run _ run, ?_⟩, fun n y hears root serial found fell => ⟨_, act_run _ run, ?_⟩,
    fun hears => ⟨_, act_run _ run, ?_⟩⟩ <;> dsimp only
  · obtain ⟨t, received, isMsg, eq⟩ := State.receiveIf_control hears (by decide)
    obtain ⟨u, sent, bit, fab⟩ := State.assignMsg_end (s := t) arrived (by rw [received.fab]; exact member)
    rw [State.fin_fab, State.fin_rb, eq, t.control_assign isMsg, sent.rb, sent.frame, fab]
    exact ⟨rfl, rfl, rfl, rfl, rfl, rfl, rfl, rfl, bit⟩
  · obtain ⟨t, received, isMsg, eq⟩ := State.receiveIf_control hears (by decide)
    have waits' : t.fab.disc.assign = fb b 16 1 :: r := by rw [received.fab]; exact waits
    rw [State.fin_fab, eq, t.control_assignAck isMsg, State.assignAck_first (by rw [received.fab]; exact root) waits'
      (by rw [received.fab]; exact gen), State.assignPop_assign, waits']
    rfl
  · have waits' : (s.cycleUp s.mgt).fab.disc.assign = a :: r := waits
    rw [State.fin_fab, State.assignTimeout_eq root waits, if_neg (Nat.not_lt.2 spent), State.assignPop_assign, waits']
    rfl
  · rw [State.fin_fab, State.assignTimeout_eq root waits, if_pos more, State.assignSend_assign,
      State.assignSend_tries (s := s.cycleUp s.mgt) waits known]
    exact ⟨waits, rfl⟩
  · obtain ⟨t, received, isMsg, eq⟩ := State.receiveIf_control hears (by decide)
    rw [State.fin_fab, eq, t.control_assign isMsg, (State.assignMsg_on more).frame, received.fab]
    exact ⟨rfl, rfl, rfl⟩
  · obtain ⟨t, received, isMsg, eq⟩ := State.receiveIf_control hears (by decide)
    rw [State.fin_fab, eq, t.control_linkEvent isMsg,
      State.linkEventMsg_known (by rw [received.fab]; exact serial) fell]
    exact State.rootLink_down (by rw [received.fab]; exact root) (by rw [received.fab]; exact found) _
  · obtain ⟨t, received, isMsg, eq⟩ := State.receiveIf_control hears (by decide)
    rw [State.fin_fab, State.fin_rb, eq, t.control_partition isMsg]
    exact ⟨rfl, State.setInt_rb_same _ _ (by decide)⟩

end Sys2Proof.Machine
end

section
/-!
PROOFS. Messages, proxies and bulk data reach their place (R239, R249, R251, R304, R347): O28.
-/

namespace Sys2Proof.Machine

/-! ### Events that are entered leave the rig summaries (R341 to R343, R347) -/

section
variable (e : Evl)

theorem Evl.coalesce?_rigSum {ev : Event} {e1 : Evl} (h : e.coalesce? ev = some e1) : e1.rigSum = e.rigSum := by
  unfold Evl.coalesce? at h
  split at h
  · cases h
  · dsimp only at h
    split at h
    · cases h
      dsimp only [Evl.mark]
      split <;> rfl
    · cases h

theorem Evl.mergeFault_rigSum (ev : Event) : (e.mergeFault ev).rigSum = e.rigSum := by
  unfold Evl.mergeFault
  extract_lets pick
  clear_value pick
  split <;> rfl

theorem Evl.place_rigSum (time : Nat) (ev : Event) : (e.place time ev).rigSum = e.rigSum := by
  unfold Evl.place
  dsimp only
  split <;> split <;> rfl

theorem Evl.count_rigSum (v : Sev) : (e.count v).rigSum = e.rigSum := by cases v <;> rfl

theorem Evl.enter_rigSum (time : Nat) (ev : Event) : (e.enter time ev).rigSum = e.rigSum := by
  unfold Evl.enter
  dsimp only
  refine Eq.trans ?_ (e.count_rigSum ev.sev)
  split
  · next same => exact Evl.coalesce?_rigSum _ same
  · split
    · exact Evl.place_rigSum _ _ _
    · split
      · exact Evl.mergeFault_rigSum _ _
      · rfl

theorem Evl.flush_rigSum (time : Nat) : (e.flush time).rigSum = e.rigSum := by
  unfold Evl.flush
  have kept (l : List Event) (a : Evl) : (l.foldl (fun b ev => b.enter time ev) a).rigSum = a.rigSum := by
    induction l generalizing a with
    | nil => rfl
    | cons ev l ih => rw [List.foldl_cons, ih, Evl.enter_rigSum]
  exact kept _ _

theorem Evl.close_rigSum (mgt time : Nat) : (e.close mgt time).rigSum = e.rigSum := by
  unfold Evl.close
  dsimp only
  rw [Evl.flush_rigSum]
  dsimp only [Evl.opened]
  split <;> rfl

theorem Evl.request_keeps (before : Word) (enable holdMs mgt : Nat) :
    (e.request before enable holdMs mgt).rigSum = e.rigSum ∧
    (e.request before enable holdMs mgt).intStatus = e.intStatus := by
  unfold Evl.request
  dsimp only
  split
  · exact ⟨rfl, rfl⟩
  · split <;> exact ⟨rfl, rfl⟩

end

section
variable (s : State)

theorem State.fin_evl : s.fin.evl = { s.entered with intStatus := s.evl.intStatus ||| s.entered.intStatus }.request
    s.evl.intStatus (s.rn A.EVL_INT_EN) (s.rf A.EVL_CTRL 8 8) s.mgt := by
  unfold State.fin
  dsimp only
  split <;> rfl

theorem State.fin_rigSum : s.fin.evl.rigSum = s.evl.rigSum := by
  rw [State.fin_evl, (Evl.request_keeps _ _ _ _ _).1]
  dsimp only [State.entered]
  split
  · rfl
  · rw [Evl.close_rigSum]

/-- The end of a command sets bits of `EVL_INT_STATUS` and clears none. -/
theorem State.fin_evlInt {i : Nat} (set_ : s.evl.intStatus.getLsbD i = true) :
    s.fin.evl.intStatus.getLsbD i = true := by
  rw [State.fin_evl, (Evl.request_keeps _ _ _ _ _).2, BitVec.getLsbD_or, set_, Bool.true_or]

end

/-! ### Messages to firmware and summaries (R239, R347) -/

theorem rdBytes_wrLE_above (m : Memory) {a b : Nat} (k v n : Nat) (h : b + n ≤ a) :
    rdBytes (wrLE m a k v) b n = rdBytes m b n := by
  induction n generalizing b with
  | zero => rfl
  | succ n ih => rw [rdBytes, rdBytes, rdByte_wrLE_other _ _ _ _ (.inl (by omega)), ih (by omega)]

section
variable {s : State} {p : Nat} {b : List Byte}

theorem State.control_firmware (low : 0x100 ≤ fb b 6 2) (high : fb b 6 2 ≤ 0x1FF) :
    s.control p b = { s with fab := { s.fab with toMc1 := s.fab.toMc1 ++ [b] } } := by
  unfold State.control
  dsimp only
  split
  case h_12 => exact if_pos ⟨low, high⟩
  all_goals omega

theorem State.receiveIf_any {cls : Nat} (isCls : fb b 2 1 = cls) : s.receiveIf p b cls none = s.fabReceive p b := by
  unfold State.receiveIf
  dsimp only
  rw [if_pos (by rw [isCls]; simp)]

/-- A summary is stored whole, and its status bit is set. -/
theorem State.storeSummary_stored {src : Nat} {body : List Byte} (window : s.rb A.EVL_SUM_CTRL 2 = true)
    (whole : body.length = 36) : rdBytes (s.storeSummary src body).evl.rigSum (64 * (src % 64)) 36 = body ∧
      (s.storeSummary src body).evl.intStatus.getLsbD 5 = true := by
  unfold State.storeSummary
  rw [if_pos window]
  refine ⟨?_, ?_⟩
  · refine Eq.trans (rdBytes_wrLE_above _ _ _ _ (by omega)) ?_
    rw [List.take_left' whole]
    have back := rdBytes_wrBytes s.evl.rigSum (64 * (src % 64)) body
    rwa [whole] at back
  · exact (BitVec.getLsbD_or ..).trans (by simp [mkWord])

/-! ### Bulk data (R304) -/

theorem State.deliver_bulkWrite (isCls : fb b 2 1 = 3) (isMsg : fb b 6 2 = 1) : s.deliver p b = s.bulkWrite b := by
  unfold State.deliver
  dsimp only
  rw [isCls, isMsg]
  rfl

theorem State.deliver_bulkEnd (isCls : fb b 2 1 = 3) (isMsg : fb b 6 2 = 2) : s.deliver p b = s.bulkEnd b := by
  unfold State.deliver
  dsimp only
  rw [isCls, isMsg]
  rfl

theorem State.deliver_proxy (isCls : fb b 2 1 = 2) (isMsg : fb b 6 2 = 1) : s.deliver p b = s.proxySink b := by
  unfold State.deliver
  dsimp only
  rw [isCls, isMsg]
  rfl

/-- A bulk write that the window allows goes to DRAM, any other is counted. -/
theorem State.bulkWrite_spec :
    if s.bulkFrom b = true ∧ (fb b 24 2 ≤ 2048 ∧ fb b 24 2 % 8 = 0 ∧ 28 + fb b 24 2 + 4 ≤ b.length) ∧
        fb b 16 4 + fb b 24 2 ≤ s.rn A.SYS_BULK_LEN then
      s.bulkWrite b = { s with
        dram := wrBytes s.dram (s.rn A.SYS_BULK_BASE / 0x100000 * 0x100000 + fb b 16 4) ((b.drop 28).take (fb b 24 2))
        sys := { s.sys with bulkBytes := s.sys.bulkBytes + fb b 24 2 } }
    else s.bulkWrite b = { s with sys := { s.sys with bulkRej := satAdd s.sys.bulkRej 1 14 } } := by
  unfold State.bulkWrite
  dsimp only
  split
  · next may =>
    obtain ⟨src, ⟨short, whole, inside⟩, window⟩ := may
    exact if_pos ⟨src, by simp [short, whole, inside], window⟩
  · next mayNot =>
    refine if_neg fun ⟨src, fits, window⟩ => mayNot ⟨src, ?_, window⟩
    simpa [and_assoc] using fits

/-! ### Proxy fragments (R251) -/

/-- The STATE bytes and the data of a fragment go to DRAM. -/
theorem State.rxStates_frame (a : Nat) (l : List ProxyRx) (s : State) :
    ∃ m, l.foldl (fun (t : State) o => t.rxState a o.pseq 2) s = { s with dram := m } := by
  induction l generalizing s with
  | nil => exact ⟨s.dram, rfl⟩
  | cons o l ih =>
    obtain ⟨m, eq⟩ := ih (s.rxState a o.pseq 2)
    exact ⟨m, eq⟩

/-- Fragment 0 at an open sink: its receive begins, or with the one fragment of its proxy ends. -/
theorem State.proxySink_first (sink : s.rb A.FAB_PRX_CTRL 7 = true) (good : s.fab.cfgErr = false) (first : fb b 32 2 = 0) :
    ∃ m others, s.proxySink b =
      if 1 = fb b 34 2 then
        { s with
          dram := wrLE (wrByte m (s.rxSlot (fb b 16 1 % 64) (fb b 28 4) + 0x0C) 1)
            (s.rxSlot (fb b 16 1 % 64) (fb b 28 4) + 0x3C) 4 (fb b 28 4)
          fab := { s.fab with
            rx := others
            prxRecv := smod (fun _ => 0) s.fab.prxRecv (fb b 16 1 % 64) (fun n => wrapAdd n 1 16) } }.setInt
              A.FAB_INT_STATUS 11
      else { s with dram := m, fab := { s.fab with rx := others ++
        [{ source := fb b 16 1 % 64, pseq := fb b 28 4, next := 1, frags := fb b 34 2, good := true }] } } := by
  unfold State.proxySink
  extract_lets a pseq frag frags data isFirst old others x s0 s1 good' s2
  rw [if_neg (not_not.2 sink), if_neg (by rw [good]; exact Bool.false_ne_true)]
  have begins : isFirst = true := decide_eq_true first
  have fresh : x = { source := a, pseq := pseq, next := 0, frags := frags, good := true } := by
    unfold x
    rw [begins, if_pos rfl]
  have inOrder : good' = true := by
    unfold good'
    rw [fresh, Bool.true_and]
    exact decide_eq_true first
  have one : frag + 1 = 1 := by unfold frag; rw [first]
  obtain ⟨m, frame⟩ : ∃ m, s1 = { s with dram := m } := by
    obtain ⟨m, states⟩ := State.rxStates_frame a old s
    unfold s1 s0
    rw [begins, if_pos rfl, states]
    exact ⟨_, rfl⟩
  clear_value s1
  subst frame
  refine ⟨m, others, ?_⟩
  unfold s2
  rw [fresh, inOrder, one]
  rfl

end

theorem messagesAreDelivered : Claims.MessagesAreDelivered := by
  intro s p b run
  refine ⟨fun m hears low high runs => ⟨_, act_run _ run, ?_⟩, fun hears window whole => ⟨_, act_run _ run, ?_⟩,
    fun hears => ⟨_, act_run _ run, ?_⟩, fun hears src => ⟨_, act_run _ run, ?_⟩,
    fun hears sink good first more => ⟨_, act_run _ run, ?_⟩, fun hears sink good first one => ⟨_, act_run _ run, ?_⟩⟩ <;>
    dsimp only
  · obtain ⟨t, received, isCls, isMsg, eq⟩ := State.control_heard hears fun _ => runs
    rw [State.fin_fab, if_pos (by omega), State.receiveIf_any isCls, eq,
      State.control_firmware (isMsg ▸ low) (isMsg ▸ high), received.fab]
  · obtain ⟨t, received, isMsg, eq⟩ := State.receiveIf_control hears (by decide)
    obtain ⟨sum, bit⟩ := State.storeSummary_stored (s := t) (src := fb b 1 1 % 64) (body := (b.drop 16).take 36)
      ((received.rb (by decide) 2).trans window) (by simp [whole])
    rw [Nat.mod_mod] at sum
    rw [State.fin_rigSum, eq, t.control_summary isMsg]
    exact ⟨sum, State.fin_evlInt _ bit⟩
  · obtain ⟨t, received, -, isCls, isMsg, eq⟩ := State.receive_heard hears (by decide) fun h => absurd h (by decide)
    have written := t.bulkWrite_spec (b := b)
    have src : t.bulkFrom b = s.bulkFrom b := by
      rw [State.bulkFrom, State.bulkFrom, received.rb (by decide), State.rf_eq, State.rf_eq, received.reg _ (by decide)]
    have len : t.rn A.SYS_BULK_LEN = s.rn A.SYS_BULK_LEN := by
      rw [State.rn_eq, State.rn_eq, received.reg _ (by decide)]
    have base : t.rn A.SYS_BULK_BASE = s.rn A.SYS_BULK_BASE := by
      rw [State.rn_eq, State.rn_eq, received.reg _ (by decide)]
    have dram : t.dram = s.dram := by rw [received.frame]
    have sys : t.sys = s.sys := by rw [received.frame]
    rw [src, len, base, sys] at written
    rw [State.receiveIf_fits isCls isMsg, eq, State.deliver_bulkWrite isCls isMsg, State.fin_dram, State.fin_sys]
    split
    · next may =>
      rw [if_pos may] at written
      rw [written, ← dram]
      exact ⟨rfl, rfl, rfl⟩
    · next mayNot =>
      rw [if_neg mayNot] at written
      rw [written]
      exact ⟨dram, rfl, rfl⟩
  · obtain ⟨t, received, -, isCls, isMsg, eq⟩ := State.receive_heard hears (by decide) fun h => absurd h (by decide)
    have src' : t.bulkFrom b = true := by
      rw [State.bulkFrom, received.rb (by decide), State.rf_eq, received.reg _ (by decide)]
      exact src
    rw [State.receiveIf_fits isCls isMsg, eq, State.deliver_bulkEnd isCls isMsg, State.fin_sys, State.fin_fab,
      State.fin_rb, State.bulkEnd, if_pos src']
    refine ⟨rfl, ?_, State.setInt_rb_same _ _ (by decide)⟩
    have kept : t.fab.toMc0 = s.fab.toMc0 := by rw [received.fab]
    rw [← kept]
    rfl
  · obtain ⟨t, received, -, isCls, isMsg, eq⟩ := State.receive_heard hears (by decide) fun h => absurd h (by decide)
    obtain ⟨m, others, sunk⟩ := State.proxySink_first (s := t) (b := b) ((received.rb (by decide) 7).trans sink)
      (by rw [received.fab]; exact good) first
    rw [if_neg (by omega)] at sunk
    rw [State.receiveIf_any isCls, eq, State.deliver_proxy isCls isMsg, State.fin_fab, sunk]
    exact ⟨_, List.mem_append_right _ (List.mem_singleton_self _), rfl, rfl, rfl, rfl, rfl⟩
  · obtain ⟨t, received, -, isCls, isMsg, eq⟩ := State.receive_heard hears (by decide) fun h => absurd h (by decide)
    obtain ⟨m, others, sunk⟩ := State.proxySink_first (s := t) (b := b) ((received.rb (by decide) 7).trans sink)
      (by rw [received.fab]; exact good) first
    have slot : t.rxSlot (fb b 16 1 % 64) (fb b 28 4) = s.rxSlot (fb b 16 1 % 64) (fb b 28 4) := by
      rw [State.rxSlot, State.rxSlot, received.fab]
    rw [if_pos one.symm, slot] at sunk
    rw [State.receiveIf_any isCls, eq, State.deliver_proxy isCls isMsg, State.fin_dram, State.fin_rb, sunk]
    refine ⟨?_, State.setInt_rb_same _ _ (by decide)⟩
    exact (rdByte_wrLE_other _ _ _ _ (.inl (by omega))).trans (rdByte_wrByte_same _ _ _)

/-! ### The bulk window (R304) -/

/-- The RW bits of `SYS_BULK_CTRL`: EN and SRC (R325). -/
def bulkCtrlBits : Word := 0x3F01

theorem homeMask_SYS_BULK_CTRL : homeMask A.SYS_BULK_CTRL = bulkCtrlBits.toNat := by decide

/-- EN opens the window where its area may lie, and else only the other bits are stored. -/
theorem State.bulkCtrlWrite_enable (s : State) (v : Word) (enable : wbit v 0 = true) :
    let a := s.rn A.SYS_BULK_BASE / 0x100000 * 0x100000
    let n := s.rn A.SYS_BULK_LEN
    let good := areaOk a n = true ∧ s.clearOfR190 a n = true ∧ apart a n s.fab.prxBase 0x40000000 = true ∧
      apart a n s.fab.fwdBase 0x6000000 = true
    let t := s.bulkCtrlWrite v
    (good → t.rb A.SYS_BULK_CTRL 0 = true ∧ t.sys.bulkDone = false ∧ t.sys.bulkCfgErr = false) ∧
    (¬ good → t.rb A.SYS_BULK_CTRL 0 = false ∧ t.sys.bulkCfgErr = true) := by
  intro a n good t
  have base : (s.setRn A.SYS_BULK_CTRL (v.toNat &&& 0x3F01)).rn A.SYS_BULK_BASE = s.rn A.SYS_BULK_BASE := by
    rw [State.rn_eq, State.setRn_eq, State.setReg_reg_other _ _ (by decide)]; rfl
  have len : (s.setRn A.SYS_BULK_CTRL (v.toNat &&& 0x3F01)).rn A.SYS_BULK_LEN = s.rn A.SYS_BULK_LEN := by
    rw [State.rn_eq, State.setRn_eq, State.setReg_reg_other _ _ (by decide)]; rfl
  have stored (u : State) (m : Nat) : (u.setRn A.SYS_BULK_CTRL (v.toNat &&& m)).rb A.SYS_BULK_CTRL 0 = m.testBit 0 := by
    rw [State.rb_eq, State.setRn_eq, State.setReg_reg_same, mkWord_and_toNat, Nat.testBit_and]
    rw [wbit] at enable
    rw [enable, Bool.true_and]
  have open_ : t = if good then
      { s.setRn A.SYS_BULK_CTRL (v.toNat &&& 0x3F01) with sys := { s.sys with bulkDone := false, bulkCfgErr := false } }
      else { (s.setRn A.SYS_BULK_CTRL (v.toNat &&& 0x3F01)).setRn A.SYS_BULK_CTRL (v.toNat &&& 0x3F00) with
        sys := { s.sys with bulkDone := false, bulkCfgErr := true } } := by
    unfold t State.bulkCtrlWrite
    dsimp only
    rw [if_neg (not_not.2 enable), base, len]
    by_cases ok : good
    · rw [if_pos ok, if_pos]
      · rfl
      · obtain ⟨area, clear, prx, fwd⟩ := ok
        simp only [Bool.and_eq_true]
        exact ⟨⟨⟨area, clear⟩, prx⟩, fwd⟩
    · rw [if_neg ok, if_neg]
      · rfl
      · simp only [Bool.and_eq_true]
        exact fun ⟨⟨⟨area, clear⟩, prx⟩, fwd⟩ => ok ⟨area, clear, prx, fwd⟩
  refine ⟨fun ok => ?_, fun bad => ?_⟩
  · rw [open_, if_pos ok]
    exact ⟨stored s 0x3F01, rfl, rfl⟩
  · rw [open_, if_neg bad]
    exact ⟨stored _ 0x3F00, rfl⟩

/-- A write without EN shuts the window. -/
theorem State.bulkCtrlWrite_shut (s : State) {v : Word} (off : wbit v 0 = false) :
    (s.bulkCtrlWrite v).rb A.SYS_BULK_CTRL 0 = false := by
  rw [State.bulkCtrlWrite, if_pos (by rw [off]; decide), State.rb_eq, State.setRn_eq, State.setReg_reg_same,
    mkWord_and_toNat, Nat.testBit_and]
  rw [wbit] at off
  rw [off, Bool.false_and]

/-- A writer whom a later one of the cycle outranks leaves that one's EN. -/
theorem State.standing_bulkCtrl_outranked {s : State} {who : Who} (w : Word)
    (later : s.outranked who A.SYS_BULK_CTRL = true) :
    wbit (s.standing who A.SYS_BULK_CTRL w) 0 = s.rb A.SYS_BULK_CTRL 0 := by
  rw [State.standing_eq homeMask_SYS_BULK_CTRL, if_pos later, wbit, BitVec.toNat_or, Nat.testBit_or, testBit_and_not,
    BitVec.toNat_and, Nat.testBit_and, State.rb_eq]
  have mask : bulkCtrlBits.toNat.testBit 0 = true := by decide
  rw [mask, Bool.and_true, Bool.not_true, Bool.and_false, Bool.false_or]

/-- The refusal of a host write is not on record as a write of the register (R290, R294). -/
theorem State.denied_wroteBy (s : State) :
    (s.denied clsSYS .host A.SYS_BULK_CTRL).wroteBy s .host A.SYS_BULK_CTRL = s.denied clsSYS .host A.SYS_BULK_CTRL := by
  have kept : (s.denied clsSYS .host A.SYS_BULK_CTRL).reg A.SYS_BULK_CTRL = s.reg A.SYS_BULK_CTRL :=
    State.setInt_reg_other _ _ (by decide)
  unfold State.wroteBy
  exact if_pos ⟨by decide, .inr ⟨by decide, kept⟩⟩

theorem bulkWindowOpens : Claims.BulkWindowOpens := by
  intro s w run a n good
  have write {who : Who} (firmware : who ≠ .host) : s.poke who A.SYS_BULK_CTRL (force w 0) =
      (s.bulkCtrlWrite (s.standing who A.SYS_BULK_CTRL (force w 0))).wroteBy s who A.SYS_BULK_CTRL := by
    rw [State.poke_SYS_BULK_CTRL, if_neg firmware]
  obtain ⟨opens, stays⟩ := s.bulkCtrlWrite_enable (force w 0) (wbit_force_same w (by decide))
  refine ⟨fun who firmware first ok => ⟨_, act_run _ run, ?_⟩, fun who firmware first bad => ⟨_, act_run _ run, ?_⟩,
    fun who firmware later => ⟨_, act_run _ run, fun shut => ?_⟩, ?_⟩
  · dsimp only
    rw [State.fin_rb, State.fin_sys, write firmware, State.wroteBy_rb, State.wroteBy_frame, State.standing_of_first first]
    exact opens ok
  · dsimp only
    rw [State.fin_rb, State.fin_sys, write firmware, State.wroteBy_rb, State.wroteBy_frame, State.standing_of_first first]
    exact stays bad
  · rw [State.fin_rb, write firmware, State.wroteBy_rb]
    exact s.bulkCtrlWrite_shut ((State.standing_bulkCtrl_outranked _ later).trans shut)
  · refine (act_run _ run).trans ?_
    rw [State.poke_SYS_BULK_CTRL, if_pos rfl, State.denied_wroteBy]

/-- Settles O28: frames come to their handlers by `State.receive_heard`, bulk data to DRAM by `State.bulkWrite_spec`, and
the window opens by `State.bulkCtrlWrite_enable`. -/
theorem messagesAndBulk : Obligations.MessagesAndBulk := ⟨messagesAreDelivered, bulkWindowOpens⟩

end Sys2Proof.Machine
end

section
/-!
PROOFS. Time reads latch for their reader, and captures queue (R254, R268, R434, R436): O30.
-/

namespace Sys2Proof.Machine

/-! ### Reads that answer (R434, R436) -/

section
variable (s : State)

theorem State.fin_answers (who : Who) (v : Nat) : s.fin.answers who v ↔ s.answers who v := by
  cases who <;> simp only [State.answers, State.fin_sys]

theorem State.fetch_answers (r : Reader) (a : Nat) :
    (s.fetch r a).answers r.who (s.readPart r.who (s.aperture r.who 0) (a + r.off.val) r.size).1 := by
  unfold State.fetch State.answers
  cases r.who <;> rfl

theorem State.fetch_time (r : Reader) (a : Nat) :
    (s.fetch r a).time = (s.readPart r.who (s.aperture r.who 0) (a + r.off.val) r.size).2.time := rfl

theorem State.fetch_mgt (r : Reader) (a : Nat) :
    (s.fetch r a).mgt = (s.readPart r.who (s.aperture r.who 0) (a + r.off.val) r.size).2.mgt := rfl

/-- A read of a register outside the DRAM window addresses bytes of its word, in any width. -/
theorem State.readPart_reg (r : Reader) (base : Nat) {a : Nat} (aligned : a % 4 = 0) (low : a < 0x10000000) :
    s.readPart r.who base (a + r.off.val) r.size = (partOf r (s.readReg r.who a).1, (s.readReg r.who a).2) := by
  have below := r.off.isLt
  have word : (a + r.off.val) / 4 * 4 = a := by omega
  have bytes : (a + r.off.val) % 4 = r.off.val := by omega
  have dram : inDramWin a = false := by simp [inDramWin]; omega
  have read : s.readWord r.who base (a + r.off.val) = s.readReg r.who a := by
    rw [State.readWord, word, dram]
    rfl
  simp only [State.readPart, read, bytes, partOf]

theorem State.readReg_tbSecLo (who : Who) (k : Fin 4) : s.readReg who (tbReg k 0x0C) = s.tbSecLoRead who k := by
  have below := k.isLt
  have place : (tbReg k 0x0C - 0x320000) / 64 = k.val := by unfold tbReg; omega
  unfold State.readReg
  rw [if_neg (by unfold tbReg A.SYS_ALARM_FIFO; omega), if_pos (by unfold tbReg; omega), place]

theorem State.readReg_capPop (who : Who) (x : Fin 3) : s.readReg who (capReg x 8) = s.capturePop who x := by
  have below := x.isLt
  have place : (capReg x 8 - 0x320600) / 32 = x.val := by unfold capReg; omega
  unfold State.readReg
  rw [if_neg (by unfold capReg A.SYS_ALARM_FIFO; omega), if_neg (by unfold capReg; omega),
    if_pos (by unfold capReg; omega), place]

/-! ### What a read leaves (R254, R268) -/

/-- A read of the low seconds keeps the value for its reader, and the time base goes on. -/
theorem State.tbSecLoRead_spec (who : Who) (k : Nat) :
    (s.tbSecLoRead who k).1 = tbSec (s.tbNow k) % 2 ^ 32 ∧
    ((s.tbSecLoRead who k).2.tb k).latched who = s.tbNow k ∧
    ((s.tbSecLoRead who k).2.tb k).at s.mgt = s.tbNow k ∧ (s.tbSecLoRead who k).2.mgt = s.mgt := by
  refine ⟨rfl, ?_, ?_, rfl⟩
  · unfold State.tbSecLoRead
    dsimp only
    rw [State.setTb_tb_same]
    cases who <;> rfl
  · unfold State.tbSecLoRead
    dsimp only
    rw [State.setTb_tb_same]
    cases who <;> rfl

theorem State.setCap_cap_same (x : Nat) (c : Cap) : (s.setCap x c).time.cap x = c := by
  unfold State.setCap TimeBlk.cap
  dsimp only
  split
  · rfl
  · split <;> rfl

/-- A pop takes the oldest entry for its reader. -/
theorem State.capturePop_spec (who : Who) (x : Nat) :
    ((s.capturePop who x).2.time.cap x).queue = (s.time.cap x).queue.drop 1 ∧
    ((s.capturePop who x).2.time.cap x).popped who = (s.time.cap x).queue.head? ∧
    ∀ e, (s.time.cap x).queue.head? = some e → (s.capturePop who x).1 = tbSec (e.val * 65536) % 2 ^ 32 := by
  unfold State.capturePop
  dsimp only
  rw [State.setCap_cap_same]
  refine ⟨?_, ?_, fun e head => by rw [head]⟩ <;> cases who <;> rfl

end

theorem timeReadsLatch : Claims.TimeReadsLatch := by
  intro s r run
  refine ⟨fun k => ⟨_, act_run _ run, ?_⟩, fun x => ⟨_, act_run _ run, ?_⟩⟩ <;> dsimp only
  · have below := k.isLt
    have part := s.readPart_reg r (s.aperture r.who 0) (a := tbReg k 0x0C) (by unfold tbReg; omega) (by unfold tbReg; omega)
    have answer := s.fetch_answers r (tbReg k 0x0C)
    obtain ⟨value, latched, goesOn, mgt⟩ := s.tbSecLoRead_spec r.who k
    have time := s.fetch_time r (tbReg k 0x0C)
    have sameMgt := s.fetch_mgt r (tbReg k 0x0C)
    rw [part, s.readReg_tbSecLo] at answer time sameMgt
    dsimp only at answer time sameMgt
    rw [value] at answer
    rw [State.fin_answers, State.tb_of_time ((State.fin_time _).trans time), State.fin_mgt, sameMgt, mgt]
    exact ⟨answer, latched, goesOn⟩
  · have below := x.isLt
    have part := s.readPart_reg r (s.aperture r.who 0) (a := capReg x 8) (by unfold capReg; omega) (by unfold capReg; omega)
    have answer := s.fetch_answers r (capReg x 8)
    obtain ⟨queue, popped, value⟩ := s.capturePop_spec r.who x
    have time := s.fetch_time r (capReg x 8)
    rw [part, s.readReg_capPop] at answer time
    dsimp only at answer time
    rw [State.fin_time, time]
    refine ⟨queue, popped, fun e head => ?_⟩
    rw [value e head] at answer
    exact (State.fin_answers _ _ _).2 answer

/-! ### Edges and CLEAR (R268) -/

section
variable {s : State} {x edge : Nat} {falling : Bool}

theorem State.captureEdge_off (off : (s.rn (capReg x 0)).testBit 0 = false) :
    s.captureEdge x edge falling = s.goTo edge := by
  have off' : ((s.goTo edge).rn (capReg x 0)).testBit 0 = false := off
  unfold State.captureEdge
  dsimp only
  rw [off', Bool.false_and, if_pos Bool.false_ne_true]

section
variable (on : (s.rn (capReg x 0)).testBit 0 = true)
  (edgeFits : field (s.rn (capReg x 0)) 3 2 = 2 ∨ (field (s.rn (capReg x 0)) 3 2 = 0 ∧ falling = false) ∨
    (field (s.rn (capReg x 0)) 3 2 = 1 ∧ falling = true))
include on edgeFits

/-- An edge that counts meets a queue of eight, or joins the queue with a stamp that is drawn. -/
theorem State.captureEdge_on : ∃ (t : State) (v : Nat), t.time = s.time ∧ s.captureEdge x edge falling =
    if 8 ≤ (s.time.cap x).queue.length then
      (t.setCap x { s.time.cap x with ovf := satAdd (s.time.cap x).ovf 1 16 }).setInt A.TIME_INT_STATUS 6
    else
      let u := t.setCap x { s.time.cap x with queue := (s.time.cap x).queue ++ [{ val := v, falling := falling }] }
      if (s.time.cap x).queue = [] then u.setInt A.TIME_INT_STATUS 7 else u := by
  have same : (s.goTo edge).rn (capReg x 0) = s.rn (capReg x 0) := rfl
  have hit : ((s.rn (capReg x 0)).testBit 0 && (field (s.rn (capReg x 0)) 3 2 = 2 ||
      (field (s.rn (capReg x 0)) 3 2 = 0 && !falling) || (field (s.rn (capReg x 0)) 3 2 = 1 && falling))) = true := by
    rcases edgeFits with both | ⟨rises, rfl⟩ | ⟨falls, rfl⟩
    · simp [on, both]
    · simp [on, rises]
    · simp [on, falls]
  unfold State.captureEdge
  dsimp only
  rw [same, if_neg (not_not.2 hit)]
  have cap : (s.goTo edge).time.cap x = s.time.cap x := rfl
  rw [cap]
  by_cases full : 8 ≤ (s.time.cap x).queue.length
  · exact ⟨s.goTo edge, 0, rfl, by rw [if_pos full, if_pos full]⟩
  · exact ⟨(s.goTo edge).draw.2, _, rfl, (if_neg full).trans (if_neg full).symm⟩

end

end

/-- The RW bits of `TIME_CAPx_CTRL`: EN, TB and EDGE (R270). -/
def capCtrlBits : Word := 0x1F

theorem homeMask_capCtrl (x : Fin 3) : homeMask (capReg x 0) = capCtrlBits.toNat := by revert x; decide

theorem State.flushed_time (t s : State) (who : Who) (a : Nat) : ((t.rigFlush.wroteBy s who a).fin).time = t.time := by
  rw [State.fin_time, State.wroteBy_frame, t.rigFrame_rigFlush.time]

/-- CLEAR empties the queue, and the RW bits are stored. -/
theorem State.capCtrlWrite_clear (s : State) (x : Nat) (v : Word) :
    ((s.capCtrlWrite x (force v 5)).time.cap x).queue = [] ∧
    ((s.capCtrlWrite x (force v 5)).time.cap x).ovf = (s.time.cap x).ovf ∧
    (s.capCtrlWrite x (force v 5)).rn (capReg x 0) = wfield v 0 5 := by
  have bits : (force v 5).toNat &&& 0x1F = wfield v 0 5 := by
    have low : v.toNat &&& 0x1F = v.toNat % 2 ^ 5 := Nat.and_two_pow_sub_one_eq_mod _ 5
    rw [force_toNat v (by decide), Nat.and_or_distrib_right, low]
    exact Nat.or_zero _
  unfold State.capCtrlWrite
  dsimp only
  rw [wbit_force_same v (by decide), if_pos rfl, State.setCap_cap_same]
  refine ⟨rfl, rfl, ?_⟩
  have stored : (s.setRn (capReg x 0) ((force v 5).toNat &&& 0x1F)).rn (capReg x 0) = (force v 5).toNat &&& 0x1F := by
    rw [State.rn_eq, State.setRn_eq, State.setReg_reg_same, mkWord_and_toNat]
  exact stored.trans bits

theorem capturesQueue : Claims.CapturesQueue := by
  intro s x run
  refine ⟨fun edge falling => ⟨fun on fits => ⟨fun room => ⟨_, act_run _ run, ?_⟩, fun full => ⟨_, act_run _ run, ?_⟩⟩,
    fun off => ⟨_, act_run _ run, ?_⟩⟩, fun who w => ⟨_, act_run _ run, ?_⟩⟩ <;> dsimp only
  · obtain ⟨t, v, -, taken⟩ := State.captureEdge_on (edge := edge) on fits
    rw [if_neg (Nat.not_le.2 room)] at taken
    have cap := t.setCap_cap_same x
      { s.time.cap x with queue := (s.time.cap x).queue ++ [{ val := v, falling := falling }] }
    have queue := congrArg Cap.queue cap
    rw [State.fin_time, State.fin_rb, taken]
    refine ⟨{ val := v, falling := falling }, ?_, rfl, fun empty => ?_⟩
    · dsimp only
      split <;> exact queue
    · dsimp only
      rw [if_pos empty]
      exact State.setInt_rb_same _ _ (by decide)
  · obtain ⟨t, v, -, taken⟩ := State.captureEdge_on (edge := edge) on fits
    rw [if_pos full] at taken
    have cap := t.setCap_cap_same x { s.time.cap x with ovf := satAdd (s.time.cap x).ovf 1 16 }
    have queue := congrArg Cap.queue cap
    have ovf := congrArg Cap.ovf cap
    rw [State.fin_time, State.fin_rb, taken]
    exact ⟨queue, ovf, State.setInt_rb_same _ _ (by decide)⟩
  · rw [State.fin_time, State.captureEdge_off off]
    rfl
  · obtain ⟨queue, ovf, stored⟩ := s.capCtrlWrite_clear x (s.standing who (capReg x 0) w)
    have below := x.isLt
    rw [State.poke_TIME_CAP_CTRL, State.flushed_time, State.rn_eq,
      State.flushed_reg _ _ _ (by unfold capReg A.PLAN_INT_STATUS; omega),
      State.standing_force (homeMask_capCtrl x) (by decide)]
    exact ⟨queue, ovf, stored⟩

/-- Settles O30: a read comes to its register by `State.readPart_reg`, edges by `State.captureEdge_on`, and CLEAR by
`State.capCtrlWrite_clear`. -/
theorem timeReadsAndCaptures : Obligations.TimeReadsAndCaptures := ⟨timeReadsLatch, capturesQueue⟩

end Sys2Proof.Machine
end

section
/-!
PROOFS. Pulse generators arm and fire, and time bases are compared (R265, R266): O31.
-/

namespace Sys2Proof.Machine

/-! ### One generator -/

theorem State.setTpo_tpo_same (s : State) (i : Nat) (x : Tpo) : (s.setTpo i x).tpo i = x := sget_sput_same _ _ _ _

theorem State.tpo_of_time {s t : State} (h : t.time = s.time) (i : Nat) : t.tpo i = s.tpo i := by
  rw [State.tpo, State.tpo, h]

section
variable (s : State) (i : Nat)

/-- Placing a generator moves its next edge alone, and not its count where nothing has jumped. -/
theorem State.placeTpo_tpo (how : Jump) : ∃ m missed lateAt,
    (s.placeTpo i how).tpo i = { s.tpo i with m := m, missed := missed, lateAt := lateAt } ∧
    (how = .none_ → m = (s.tpo i).m) := by
  unfold State.placeTpo
  extract_lets t b cyclic next cur m late skip t1 past t2 s1
  have first : t1 = { t with m := t1.m, missed := t1.missed } := by
    unfold t1
    split <;> rfl
  have still (none_ : how = .none_) : t1.m = t.m := by
    unfold t1
    rw [if_neg fun moves => moves.2 none_]
  split
  · exact ⟨_, _, _, rfl, fun _ => rfl⟩
  · split
    · exact ⟨t.m, t.missed, none, s.setTpo_tpo_same i _, fun _ => rfl⟩
    · have second : t2 = { t with m := t1.m, missed := t1.missed, lateAt := t2.lateAt } := by
        unfold t2
        rw [first]
      have placed : s1.tpo i = { t with m := t1.m, missed := t1.missed, lateAt := t2.lateAt } := by
        rw [← second]
        exact s.setTpo_tpo_same i t2
      split <;> exact ⟨t1.m, t1.missed, t2.lateAt, placed, still⟩

theorem State.placeTpo_reg (how : Jump) {a : Nat} (other : a ≠ A.TIME_INT_STATUS) :
    (s.placeTpo i how).reg a = s.reg a := by
  unfold State.placeTpo
  extract_lets t b cyclic next cur m late skip t1 past t2 s1
  split
  · rfl
  · split
    · rfl
    · split
      · exact s1.setInt_reg_other 5 other
      · rfl

end

/-! ### ARM_GO and DISARM (R266) -/

/-- The RW bits of `TIME_TPOi_CTRL`: MODE, TB, and IDLE or OUT (R270). -/
def tpoCtrlBits (i : Nat) : Word := if i ≤ 3 then 0x7C else 0x3C

theorem homeMask_tpoCtrl (i : Fin 8) : homeMask (tpoReg i 0) = (tpoCtrlBits i).toNat := by revert i; decide

theorem tpoCtrlBits_go (i : Fin 8) : mkWord (2 ^ 0) &&& ~~~tpoCtrlBits i = mkWord (2 ^ 0) ∧
    mkWord (2 ^ 1) &&& ~~~tpoCtrlBits i = mkWord (2 ^ 1) ∧ (tpoCtrlBits i).toNat.testBit 1 = false := by
  revert i; decide

theorem tpoCtrlBits_testBit (i : Nat) : ∀ k ∈ [2, 3, 4], (tpoCtrlBits i).toNat.testBit k = true := by
  unfold tpoCtrlBits
  split <;> decide

theorem tpoReg_apart (i : Fin 8) (off : Nat) (low : off < 0x40) :
    tpoReg i off ≠ A.PLAN_INT_STATUS ∧ tpoReg i off ≠ A.TIME_INT_STATUS := by
  have below := i.isLt
  constructor <;> unfold tpoReg <;> simp only [A.PLAN_INT_STATUS, A.TIME_INT_STATUS] <;> omega

section
variable (s : State) (i : Nat) (v : Word)

/-- A write stores the RW bits before its commands act. -/
def State.tpoStored : State := s.setRn (tpoReg i 0) (v.toNat &&& (if i ≤ 3 then 0x7C else 0x3C))

theorem State.tpoStored_rn : (s.tpoStored i v).rn (tpoReg i 0) = v.toNat &&& (tpoCtrlBits i).toNat := by
  have mask : (if i ≤ 3 then 0x7C else 0x3C : Nat) = (tpoCtrlBits i).toNat := by unfold tpoCtrlBits; split <;> rfl
  rw [State.rn_eq, State.tpoStored, State.setRn_eq, State.setReg_reg_same, mkWord_and_toNat, mask]

theorem State.tpoStored_rn_other {off : Nat} (other : off ≠ 0) :
    (s.tpoStored i v).rn (tpoReg i off) = s.rn (tpoReg i off) := by
  rw [State.rn_eq, State.tpoStored, State.setRn_eq, State.setReg_reg_other _ _ (by unfold tpoReg; omega)]
  rfl

theorem State.tpoStored_bit {k : Nat} (kept : k ∈ [2, 3, 4]) :
    ((s.tpoStored i v).rn (tpoReg i 0)).testBit k = wbit v k := by
  rw [State.tpoStored_rn, Nat.testBit_and, tpoCtrlBits_testBit i k kept, Bool.and_true, wbit]

theorem State.tpoStored_cyclic : (s.tpoStored i v).tpoCyclic i = wbit v 2 := s.tpoStored_bit i v (by decide)

theorem State.tpoStored_tb : (s.tpoStored i v).tpoTb i = wfield v 3 2 := by
  have same : field ((s.tpoStored i v).rn (tpoReg i 0)) 3 2 = field v.toNat 3 2 := by
    refine Nat.eq_of_testBit_eq fun k => ?_
    rw [field, field, Nat.testBit_mod_two_pow, Nat.testBit_mod_two_pow, Nat.testBit_shiftRight, Nat.testBit_shiftRight]
    by_cases low : k < 2
    · have here : 3 + k ∈ [2, 3, 4] := by simp; omega
      rw [s.tpoStored_bit i v here, wbit]
    · simp [low]
  exact same

/-- What R266 asks of a generator that is armed. -/
def TpoGood (width per : Nat) (cyclic : Bool) : Prop :=
  10 ≤ width ∧ (cyclic = true → 100 * nsUnit ≤ per ∧ (width + 10) * nsUnit ≤ per)

/-- The start instant and the period that are written. -/
def State.tpoStart : Nat := tbOf (field (s.rn (tpoReg i 0x08)) 0 16 * 2 ^ 32 + s.rn (tpoReg i 0x0C))
  (field (s.rn (tpoReg i 0x10)) 0 30) (field (s.rn (tpoReg i 0x14)) 0 16 * 65536)

/-- The period that is written. -/
def State.tpoPer : Nat :=
  tbOf (s.rn (tpoReg i 0x18)) (field (s.rn (tpoReg i 0x1C)) 0 30) (field (s.rn (tpoReg i 0x20)) 0 16 * 65536)

theorem State.armTpo_eq (who : Who) : s.armTpo i who =
    if (s.rn (tpoReg i 0x24) < 10 ∨ (s.tpoCyclic i = true ∧
      (s.tpoPer i < 100 * nsUnit ∨ s.tpoPer i < (s.rn (tpoReg i 0x24) + 10) * nsUnit))) then
      s.ignored clsTIME who (tpoReg i 0)
    else (s.setTpo i { s.tpo i with
      armed := true, start := s.tpoStart i, per := s.tpoPer i, width := s.rn (tpoReg i 0x24), m := 0
      lateAt := none }).placeTpo i .arm := by
  unfold State.armTpo
  dsimp only
  simp only [decide_eq_true_eq]
  rfl

/-- A generator that R266 allows is armed with what is written; it follows the MODE and TB of its register. -/
theorem State.armTpo_good (who : Who) (j : Fin 8) (good : TpoGood (s.rn (tpoReg j 0x24)) (s.tpoPer j) (s.tpoCyclic j)) :
    ((s.armTpo j who).tpo j).armed = true ∧ (s.armTpo j who).rn (tpoReg j 0) = s.rn (tpoReg j 0) ∧
    ((s.armTpo j who).tpo j).start = s.tpoStart j ∧ ((s.armTpo j who).tpo j).per = s.tpoPer j ∧
    ((s.armTpo j who).tpo j).width = s.rn (tpoReg j 0x24) := by
  obtain ⟨wide, long⟩ := good
  rw [State.armTpo_eq, if_neg]
  · obtain ⟨m, missed, lateAt, placed, -⟩ := (s.setTpo j { s.tpo j with
      armed := true, start := s.tpoStart j, per := s.tpoPer j, width := s.rn (tpoReg j 0x24), m := 0
      lateAt := none }).placeTpo_tpo j .arm
    rw [State.setTpo_tpo_same] at placed
    have reg := State.placeTpo_reg (s.setTpo j { s.tpo j with
      armed := true, start := s.tpoStart j, per := s.tpoPer j, width := s.rn (tpoReg j 0x24), m := 0
      lateAt := none }) j .arm (tpoReg_apart j 0 (by decide)).2
    rw [placed]
    exact ⟨rfl, congrArg BitVec.toNat reg, rfl, rfl, rfl⟩
  · rintro (narrow | ⟨cyclic, short⟩)
    · exact absurd wide (Nat.not_le.2 narrow)
    · obtain ⟨per, room⟩ := long cyclic
      omega

theorem State.armTpo_bad (who : Who) (bad : ¬ TpoGood (s.rn (tpoReg i 0x24)) (s.tpoPer i) (s.tpoCyclic i)) :
    (s.armTpo i who).tpo i = s.tpo i := by
  rw [State.armTpo_eq, if_pos]
  · rfl
  · by_contra fine
    obtain ⟨wide, long⟩ := not_or.1 fine
    refine bad ⟨Nat.not_lt.1 wide, fun cyclic => ?_⟩
    obtain ⟨per, room⟩ := not_or.1 fun short => long ⟨cyclic, short⟩
    exact ⟨Nat.not_lt.1 per, Nat.not_lt.1 room⟩

end

/-! ### A generator fires (R266, R267) -/

theorem State.trigger_time (s : State) (f : TrigFrom) (e : Nat) (blocked : Bool) : (s.trigger f e blocked).time = s.time := by
  rcases s.trigger_cases f e blocked with ⟨-, eq⟩ | eq | eq <;> rw [eq]
  · exact State.targetsAtTrigger_keeps (·.time) (fun a => by rw [State.endCommit_frame]) (fun _ => rfl) s _
  · rfl

theorem State.tpoPulse_time (s : State) (i : Nat) : (s.tpoPulse i).time = s.time := by
  unfold State.tpoPulse
  split
  · split <;> rfl
  · rfl

/-- A generator that fires is marked, counted and goes on only when cyclic. -/
theorem State.tpoFire_spec {s : State} {i : Nat} (armed : (s.tpo i).armed = true) (runs : (s.tb (s.tpoTb i)).run = true)
    (blocked : Bool) :
    ((s.tpoFire i blocked).tpo i).fired = true ∧ ((s.tpoFire i blocked).tpo i).count = wrapAdd (s.tpo i).count 1 32 ∧
    ((s.tpoFire i blocked).tpo i).armed = s.tpoCyclic i ∧ ((s.tpoFire i blocked).tpo i).m = (s.tpo i).m + 1 := by
  unfold State.tpoFire
  extract_lets t k b cyclic n s1 v onTime back edge t1 s2 s3 s4
  rw [if_neg (not_or.2 ⟨not_not.2 armed, not_not.2 runs⟩),
    State.tpo_of_time ((State.tpoPulse_time _ i).trans (State.trigger_time s4 _ _ _))]
  have fired : s3.tpo i = t1 := by
    have noted : s2.tpo i = t1 := s1.setTpo_tpo_same i t1
    unfold s3
    split <;> exact noted
  have placed : ∃ missed lateAt, s4.tpo i = { t1 with missed := missed, lateAt := lateAt } := by
    unfold s4
    split
    · obtain ⟨m, missed, lateAt, placed, same⟩ := s3.placeTpo_tpo i .none_
      rw [fired] at placed same
      exact ⟨missed, lateAt, by rw [placed, same rfl]⟩
    · exact ⟨_, _, fired⟩
  obtain ⟨missed, lateAt, placed⟩ := placed
  rw [placed]
  exact ⟨rfl, rfl, rfl, rfl⟩

/-! ### A write of `TIME_TPOi_CTRL` -/

section
variable (s : State) (i : Nat) (v : Word) (who : Who)

theorem State.tpoStored_start : (s.tpoStored i v).tpoStart i = s.tpoStart i := by
  have same {off : Nat} (other : off ≠ 0) := s.tpoStored_rn_other i v other
  rw [State.tpoStart, State.tpoStart, same (by decide), same (by decide), same (by decide), same (by decide)]

theorem State.tpoStored_per : (s.tpoStored i v).tpoPer i = s.tpoPer i := by
  have same {off : Nat} (other : off ≠ 0) := s.tpoStored_rn_other i v other
  rw [State.tpoPer, State.tpoPer, same (by decide), same (by decide), same (by decide)]

theorem State.tpoCtrlWrite_arm (noDisarm : wbit v 1 = false) :
    s.tpoCtrlWrite i who (force v 0) = (s.tpoStored i (force v 0)).armTpo i who := by
  unfold State.tpoCtrlWrite
  dsimp only
  rw [wbit_force_other v (by decide) (by decide), noDisarm, if_neg Bool.false_ne_true, wbit_force_same v (by decide),
    if_pos rfl]
  rfl

theorem State.tpoCtrlWrite_disarm : s.tpoCtrlWrite i who (force v 1) = (s.tpoStored i (force v 1)).disarmTpo i := by
  unfold State.tpoCtrlWrite
  dsimp only
  rw [wbit_force_same v (by decide), if_pos rfl]
  rfl

end

theorem State.flushed_tpo (t s : State) (who : Who) (a i : Nat) : ((t.rigFlush.wroteBy s who a).fin).tpo i = t.tpo i :=
  State.tpo_of_time (State.flushed_time t s who a) i

theorem pulsesAreArmedAndFire : Claims.PulsesAreArmedAndFire := by
  intro s i run
  obtain ⟨arms, disarms, apart⟩ := tpoCtrlBits_go i
  refine ⟨fun who w noDisarm => ?_, fun who w => ⟨_, act_run _ run, ?_⟩, fun armed runs => ⟨_, act_run _ run, ?_⟩⟩
  · have noDisarm' : wbit (s.standing who (tpoReg i 0) w) 1 = false :=
      (State.wbit_standing (homeMask_tpoCtrl i) apart s who w).trans noDisarm
    have written := s.poke_TIME_TPO_CTRL who i (force w 0)
    rw [State.standing_force (homeMask_tpoCtrl i) arms] at written
    generalize s.standing who (tpoReg i 0) w = v at noDisarm' written ⊢
    rw [s.tpoCtrlWrite_arm i v who noDisarm'] at written
    have bit : wbit (force v 0) 2 = wbit v 2 := wbit_force_other v (by decide) (by decide)
    have tb : wfield (force v 0) 3 2 = wfield v 3 2 := wfield_force_above v 2 (by decide) (by decide)
    have width := s.tpoStored_rn_other i (force v 0) (off := 0x24) (by decide)
    have asked : TpoGood ((s.tpoStored i (force v 0)).rn (tpoReg i 0x24)) ((s.tpoStored i (force v 0)).tpoPer i)
        ((s.tpoStored i (force v 0)).tpoCyclic i) ↔ TpoGood (s.rn (tpoReg i 0x24)) (s.tpoPer i) (wbit v 2) := by
      rw [width, State.tpoStored_per, State.tpoStored_cyclic, bit]
    refine ⟨fun good => ⟨_, act_run _ run, ?_⟩, fun bad => ⟨_, act_run _ run, ?_⟩⟩
    · obtain ⟨armed, ctrl, start, per, wide⟩ :=
        (s.tpoStored i (force v 0)).armTpo_good who i (asked.2 good)
      rw [State.tpoStored_start] at start
      rw [State.tpoStored_per] at per
      rw [width] at wide
      have cyclic := (congrArg (·.testBit 2) ctrl).trans ((s.tpoStored_cyclic i (force v 0)).trans bit)
      have follows := (congrArg (field · 3 2) ctrl).trans ((s.tpoStored_tb i (force v 0)).trans tb)
      have reg := State.flushed_reg ((s.tpoStored i (force v 0)).armTpo i who) s who (a := tpoReg i 0)
        (tpoReg_apart i 0 (by decide)).1
      rw [written, State.flushed_tpo, State.tpoCyclic, State.rb_eq, State.tpoTb, State.rf_eq, reg]
      exact ⟨armed, cyclic, follows, start, per, wide⟩
    · dsimp only
      rw [written, State.flushed_tpo, State.armTpo_bad _ _ _ fun good => bad (asked.1 good)]
      rfl
  · have disarmed : ((s.tpoStored i (force (s.standing who (tpoReg i 0) w) 1)).disarmTpo i).tpo i =
        { s.tpo i with armed := false, lateAt := none } := State.setTpo_tpo_same _ _ _
    have written := s.poke_TIME_TPO_CTRL who i (force w 1)
    rw [State.standing_force (homeMask_tpoCtrl i) disarms, State.tpoCtrlWrite_disarm] at written
    dsimp only
    rw [written, State.flushed_tpo, disarmed]
    exact ⟨rfl, rfl, rfl⟩
  · dsimp only
    rw [State.tpo_of_time (State.fin_time _)]
    exact State.tpoFire_spec armed runs _

/-! ### The cross-check (R265) -/

theorem State.fin_tbNow (s : State) (k : Nat) : s.fin.tbNow k = s.tbNow k := by
  rw [State.tbNow, State.tbNow, State.tb_of_time s.fin_time, State.fin_mgt]

theorem State.tbNow_congr {s t : State} (tbs : t.time.tbs = s.time.tbs) (mgt : t.mgt = s.mgt) (k : Nat) :
    t.tbNow k = s.tbNow k := by
  rw [State.tbNow, State.tbNow, State.tb, State.tb, tbs, mgt]

/-- A difference of time bases 0 and 1 is stored. -/
def State.sampled (s : State) (d : Int) : State := { s with time := { s.time with xchk := d, xchkValid := true } }

/-- The sample is taken at a later instant, and judged there. -/
theorem State.xchkSample_eq {s : State} (run0 : (s.tb 0).run = true) (run1 : (s.tb 1).run = true) : ∃ n d e,
    d = tbDiff ((s.goMgt n).tbNow 0) ((s.goMgt n).tbNow 1) ∧
    s.xchkSample = if s.rn A.TIME_XCHK_LIMIT * nsUnit < d.natAbs then
      (((s.goMgt n).sampled d).setInt A.TIME_INT_STATUS 3).raise e
    else (s.goMgt n).sampled d := by
  unfold State.xchkSample
  extract_lets t0 n s1 d _ s2
  rw [if_neg (not_not.2 ⟨run0, run1⟩)]
  exact ⟨n, d, _, rfl, rfl⟩

theorem crossCheckSamples : Claims.CrossCheckSamples := by
  intro s run run0 run1
  refine ⟨_, act_run _ run, ?_⟩
  obtain ⟨n, d, e, value, sample⟩ := State.xchkSample_eq run0 run1
  generalize (s.goMgt n) = u at value sample
  rw [State.fin_time, State.fin_tbNow, State.fin_tbNow, State.fin_rb, sample]
  have now {t : State} (tbs : t.time.tbs = u.time.tbs) (mgt : t.mgt = u.mgt) : d = tbDiff (t.tbNow 0) (t.tbNow 1) := by
    rw [value, State.tbNow_congr tbs mgt, State.tbNow_congr tbs mgt]
  split
  · exact ⟨rfl, now rfl rfl, fun _ => State.setInt_rb_same _ _ (by decide)⟩
  · next near => exact ⟨rfl, now rfl rfl, fun far => absurd far near⟩

/-- Settles O31: a generator is armed by `State.armTpo_good`, refused by `State.armTpo_bad` and fires by
`State.tpoFire_spec`. -/
theorem pulsesAndCrossCheck : Obligations.PulsesAndCrossCheck := ⟨pulsesAreArmedAndFire, crossCheckSamples⟩

end Sys2Proof.Machine
end

section
/-!
PROOFS. PTP messages reach their handlers (R257), and peer-delay exchanges begin, are answered, end and fail (R261): O33.
-/

namespace Sys2Proof.Machine

/-! ### A PTP message that is heard -/

section
variable {s : State} {p : Nat} {b : List Byte} {d : Nat}

theorem State.receivePtp_heard (hears : s.hearsPtp p b d) {k : Nat → Bool} (fits : k (ptpType b) = true) :
    s.receivePtp p b k = s.ptpReceive p b := by
  obtain ⟨up, len, crc, length, time, carried, -, -⟩ := hears
  have port := State.portUp_exists up
  unfold State.receivePtp
  rw [if_neg (not_not.2 ⟨time, fits⟩), if_neg (by omega), State.fabReceive_plain up ⟨len, crc, length⟩ (by omega)]
  unfold State.stored
  dsimp only
  rw [time, if_neg (not_not.2 carried)]
  rfl

theorem State.Sends.heard {s t : State} (h : s.Sends t) : s.Heard t := by
  unfold State.Heard
  conv_lhs => rw [h.frame]
  conv_rhs => rw [h.frame]

section
variable (us : 128 ≤ fb b 0 1 ∨ ∃ a, s.fab.addr = some a ∧
  (fb b 0 1 = a ∧ a < 64 ∨ (64 ≤ fb b 0 1 ∧ fb b 0 1 < 128 ∧ s.fab.tree.testBit p = true)))
include us

/-- A frame for this device is delivered here. -/
theorem State.ptp_here : ((fb b 0 1).testBit 7 || (((fb b 0 1).testBit 6 && !(fb b 0 1).testBit 7) && s.fab.addr.isSome) ||
    decide (some (fb b 0 1 % 64) = s.fab.addr)) = true := by
  rw [testBit_7_of_byte (fb_one_lt b 0)]
  rcases us with loc | ⟨a, addr, ⟨same, small⟩ | ⟨big, small, -⟩⟩
  · rw [decide_eq_true loc, Bool.true_or, Bool.true_or]
  · have own : some (fb b 0 1 % 64) = s.fab.addr := by rw [addr, Nat.mod_eq_of_lt (by omega), same]
    rw [decide_eq_true own, Bool.or_true]
  · rw [testBit_6_of_small small, decide_eq_true big, decide_eq_false (by omega), addr]
    rfl

/-- A frame for this device is neither a broadcast off the tree nor one that waits for an address. -/
theorem State.ptp_goesOn (own : Bool) :
    ¬ ((((fb b 0 1).testBit 6 && !(fb b 0 1).testBit 7) = true ∧ ¬ own = true ∧ ¬ s.fab.tree.testBit p = true) ∨
      (¬ (fb b 0 1).testBit 7 = true ∧ s.fab.addr.isNone = true)) := by
  rw [testBit_7_of_byte (fb_one_lt b 0)]
  rintro (⟨isBcast, -, noTree⟩ | ⟨notLocal, noAddr⟩)
  · rcases us with loc | ⟨a, addr, ⟨same, small⟩ | ⟨-, -, tree⟩⟩
    · simp [loc] at isBcast
    · rw [testBit_6_of_small (by omega), decide_eq_false (by omega)] at isBcast
      cases isBcast
    · exact noTree tree
  · rcases us with loc | ⟨a, addr, -⟩
    · exact notLocal (decide_eq_true loc)
    · rw [addr] at noAddr; cases noAddr

end

/-- What the type of a message asks of a device that hears it (R257): its stamp and its measure, a delivery to MC1, an
answer, or its drop. What is passed on changes the fabric alone. -/
theorem State.ptpReceive_cases (hears : s.hearsPtp p b d) :
    (ptpType b = 0 → (s.syncIn p d b).1.Heard (s.ptpReceive p b)) ∧
    (ptpType b = 8 ∨ ptpType b = 11 ∨ ptpType b = 12 ∨ ptpType b = 13 →
      (s.toMc1 d b 0 0).Heard (s.ptpReceive p b)) ∧
    (ptpType b = 1 ∨ ptpType b = 9 → s.ptpReceive p b = s.ptpDrop b) ∧
    (128 ≤ fb b 0 1 →
      (ptpType b = 2 → s.ptpReceive p b = s.pdAnswer p d b) ∧
      (ptpType b = 3 → s.ptpReceive p b = s.pdResp p d b) ∧
      (ptpType b = 10 → s.ptpReceive p b = s.pdFollow p d b)) := by
  obtain ⟨up, -, -, -, -, -, accept, us⟩ := hears
  have port := State.portUp_exists up
  unfold State.ptpReceive
  extract_lets dst local_ bcast own pass here
  rw [accept]
  dsimp only
  have notOwn : own = false := decide_eq_false (by omega)
  have isLocal : local_ = decide (128 ≤ fb b 0 1) := testBit_7_of_byte (fb_one_lt b 0)
  have passes (a : State) (t : FabTx) : a.Heard (pass a t) := by
    unfold pass
    split
    · rfl
    · rw [notOwn, if_neg Bool.false_ne_true]
      split
      · rfl
      · split
        · exact State.heard_treeTx _
        · split
          · rfl
          · exact (a.sends_routeTx _ _).heard
  have isHere : here = true := State.ptp_here us
  have goesOn := State.ptp_goesOn us own
  rw [if_neg goesOn, notOwn, isHere]
  refine ⟨fun type => ?_, fun type => ?_, fun type => ?_, fun loc => ⟨fun type => ?_, fun type => ?_, fun type => ?_⟩⟩
  · rw [type]
    exact passes _ _
  · rcases type with type | type | type | type <;> rw [type] <;> exact passes _ _
  · rcases type with type | type <;> rw [type] <;> rfl
  all_goals
    rw [type, isLocal, decide_eq_true loc]
    rfl

end

/-! ### One exchange (R261) -/

theorem State.setPdelay_same (s : State) (p d : Nat) (x : PDelay) : (s.setPdelay p d x).pdelay p d = x :=
  sget_sput_same _ _ _ _

theorem State.pdelay_of_time {s t : State} (h : t.time = s.time) (p d : Nat) : t.pdelay p d = s.pdelay p d := by
  rw [State.pdelay, State.pdelay, h]

section
variable (s : State) (p d : Nat)

/-- A failed exchange is counted, and none is in progress; the third in a row takes the validity. -/
theorem State.pdFail_spec : ((s.pdFail p d).pdelay p d).seq = (s.pdelay p d).seq ∧
    ((s.pdFail p d).pdelay p d).fails = satAdd (s.pdelay p d).fails 1 8 ∧
    ((s.pdFail p d).pdelay p d).busy = false ∧
    (2 ≤ (s.pdelay p d).consec → ((s.pdFail p d).pdelay p d).valid = false) := by
  unfold State.pdFail
  extract_lets x c y s1
  have failed : s1.pdelay p d = y := s.setPdelay_same p d y
  have same : (if x.valid = true ∧ ¬ y.valid = true then s1.setInt A.TIME_INT_STATUS 8 else s1).pdelay p d = y := by
    split <;> exact failed
  rw [same]
  refine ⟨rfl, rfl, rfl, fun third => ?_⟩
  have many : ¬ c < 3 := by unfold c x; omega
  unfold y
  rw [decide_eq_false many, Bool.and_false]

theorem State.pdFail_fab : (s.pdFail p d).fab = s.fab := by
  unfold State.pdFail
  dsimp only
  split <;> rfl

theorem State.pdDue_frame : s.pdDue p d = { s with now := (s.pdDue p d).now } := by
  unfold State.pdDue
  split
  · dsimp only
    split <;> rfl
  · rfl

/-- An exchange that may be complete keeps its times, and if it is, no failure counts. -/
theorem State.pdComplete_keeps : ((s.pdComplete p d).pdelay p d).t2 = (s.pdelay p d).t2 ∧
    ((s.pdComplete p d).pdelay p d).t3 = (s.pdelay p d).t3 ∧ ((s.pdComplete p d).pdelay p d).t4 = (s.pdelay p d).t4 ∧
    ((s.pdComplete p d).pdelay p d).turn = (s.pdelay p d).turn ∧
    ((s.pdelay p d).t1.isSome = true → (s.pdelay p d).t4.isSome = true → (s.pdelay p d).turn.isSome = true →
      ((s.pdComplete p d).pdelay p d).consec = 0) := by
  unfold State.pdComplete
  dsimp only
  split
  · rw [State.setPdelay_same]
    exact ⟨rfl, rfl, rfl, rfl, fun _ _ _ => rfl⟩
  · next missing =>
    refine ⟨rfl, rfl, rfl, rfl, fun t1 t4 turn => ?_⟩
    obtain ⟨a, t1⟩ := Option.isSome_iff_exists.1 t1
    obtain ⟨b, t4⟩ := Option.isSome_iff_exists.1 t4
    obtain ⟨c, turn⟩ := Option.isSome_iff_exists.1 turn
    exact absurd turn (missing a b c t1 t4)

variable {s p d}

/-- A request takes the next number and joins the time frames of its port. -/
theorem State.pdSend_spec (up : s.portUp p = true) (on : s.domOn d = true) (domain : d < 2) :
    ((s.pdSend p d).pdelay p d).seq = wrapAdd (s.pdelay p d).seq 1 16 ∧
    ((s.pdSend p d).pdelay p d).lastReq = some (s.pdSend p d).mgt ∧ ((s.pdSend p d).pdelay p d).t1 = none ∧
    ∃ x, ((s.pdSend p d).fport p).timeQ = (s.fport p).timeQ ++ [x] ∧ x.work = .pdReq d := by
  unfold State.pdSend
  rw [if_neg (not_not.2 ⟨up, on, domain⟩)]
  extract_lets s0 s1 x seq s2 m
  have due : s0 = { s with now := s0.now } := s.pdDue_frame p d
  have fab : s1.fab = s.fab := by
    have same : s0.fab = s.fab := by rw [due]
    unfold s1
    split
    · rw [State.pdFail_fab, same]
    · exact same
  have number : x.seq = (s.pdelay p d).seq := by
    have same : s0.pdelay p d = s.pdelay p d := State.pdelay_of_time (by rw [due]) p d
    unfold x s1
    split
    · rw [(s0.pdFail_spec p d).1, same]
    · rw [same]
  have port : s2.fport p = s.fport p := State.fport_of_fab fab p
  have up2 : s2.portUp p = true := (State.portUp_of_state (by rw [port])).trans up
  have sent := s2.sends_enqueue p { cls := 0, body := s2.ptpLocal m, work := .pdReq d }
  have asked : (s2.enqueue p { cls := 0, body := s2.ptpLocal m, work := .pdReq d }).pdelay p d = { x with
      seq := seq, lastReq := some s1.mgt, t1 := none, t2 := none, t3 := none, t4 := none, turn := none } :=
    (State.pdelay_of_time sent.time p d).trans (s1.setPdelay_same p d _)
  have mgt : (s2.enqueue p { cls := 0, body := s2.ptpLocal m, work := .pdReq d }).mgt = s1.mgt := by
    rw [sent.frame]; rfl
  rw [asked, mgt, State.enqueue_time up2 rfl, port]
  exact ⟨by unfold seq; rw [number], rfl, rfl, _, rfl, rfl⟩

variable {b : List Byte}

theorem State.pdAnswer_spec (up : s.portUp p = true) : ∃ x t2,
    ((s.pdAnswer p d b).fport p).timeQ = (s.fport p).timeQ ++ [x] ∧ x.work = .pdResp d (s.rb (domReg d 0) 9) t2 := by
  unfold State.pdAnswer
  dsimp only
  rw [State.enqueue_time (s := (s.ingress p d).2) up rfl]
  exact ⟨_, _, rfl, rfl⟩

section
variable (ours : s.answersUs p d b)
include ours

/-- A response to the exchange in progress is stamped; with its turnaround it ends the exchange. -/
theorem State.pdResp_spec (sent : (s.pdelay p d).t1.isSome = true) :
    ((s.pdResp p d b).pdelay p d).t4.isSome = true ∧
    (ptpTwoStep b = true → ((s.pdResp p d b).pdelay p d).t2 = some (ptpTime b 50 - ptpCf b)) ∧
    (ptpTwoStep b = false → ((s.pdResp p d b).pdelay p d).turn = some (ptpCf b) ∧
      ((s.pdResp p d b).pdelay p d).consec = 0) := by
  obtain ⟨busy, seq, port⟩ := ours
  have mine : ((s.pdelay p d).busy && (s.pdelay p d).t1.isSome && decide (ptpSeq b = (s.pdelay p d).seq) &&
      decide ((b.drop 60).take 10 = s.portId p)) = true := by
    rw [busy, sent, decide_eq_true seq, decide_eq_true port]
    rfl
  unfold State.pdResp
  dsimp only
  rw [if_neg (not_not.2 mine)]
  by_cases two : ptpTwoStep b = true
  · rw [if_pos two, State.setPdelay_same]
    exact ⟨rfl, fun _ => rfl, fun one => absurd two (by rw [one]; exact Bool.false_ne_true)⟩
  · rw [if_neg two]
    generalize (s.ingress p d).1 = t4
    generalize (s.ingress p d).2 = s1
    have stamped := s1.setPdelay_same p d { s.pdelay p d with t4 := some (tenths t4), turn := some (ptpCf b) }
    obtain ⟨-, -, t4', turn, consec⟩ :=
      (s1.setPdelay p d { s.pdelay p d with t4 := some (tenths t4), turn := some (ptpCf b) }).pdComplete_keeps p d
    rw [stamped] at t4' turn consec
    rw [t4', turn]
    exact ⟨rfl, fun yes => absurd yes two, fun _ => ⟨rfl, consec sent rfl rfl⟩⟩

/-- The follow-up of a response brings the turnaround. -/
theorem State.pdFollow_spec {t2 : Int} (stamped : (s.pdelay p d).t2 = some t2) :
    ((s.pdFollow p d b).pdelay p d).t3 = some (ptpTime b 50 + ptpCf b) ∧
    ((s.pdFollow p d b).pdelay p d).turn = some (ptpTime b 50 + ptpCf b - t2) := by
  obtain ⟨busy, seq, port⟩ := ours
  have mine : ((s.pdelay p d).busy && decide (ptpSeq b = (s.pdelay p d).seq) &&
      decide ((b.drop 60).take 10 = s.portId p)) = true := by
    rw [busy, decide_eq_true seq, decide_eq_true port]
    rfl
  unfold State.pdFollow
  dsimp only
  rw [stamped]
  dsimp only
  rw [if_pos mine]
  generalize taken : { s.pdelay p d with
    t2 := some t2, t3 := some (ptpTime b 50 + ptpCf b), turn := some (ptpTime b 50 + ptpCf b - t2) } = y
  obtain ⟨-, t3, -, turn, -⟩ := (s.setPdelay p d y).pdComplete_keeps p d
  rw [State.setPdelay_same, ← taken] at t3 turn
  rw [← taken]
  exact ⟨t3, turn⟩

end

theorem State.fin_pdelay (s : State) (p d : Nat) : s.fin.pdelay p d = s.pdelay p d := State.pdelay_of_time s.fin_time p d

end

/-- Settles O33: messages come to the exchange by `State.ptpReceive_cases`; it begins by `State.pdSend_spec`, goes on by
`State.pdResp_spec` and `State.pdFollow_spec`, and fails by `State.pdFail_spec`. -/
theorem peerDelaysAreMeasured : Obligations.PeerDelaysAreMeasured := by
  intro s p d b run
  refine ⟨fun up on domain => ⟨_, act_run _ run, ?_⟩, fun hears loc _ => ?_, fun busy => ⟨_, act_run _ run, ?_⟩⟩
  · dsimp only
    rw [State.fin_pdelay, State.fin_mgt, State.fin_fport]
    exact State.pdSend_spec up on domain
  · obtain ⟨-, -, -, exchange⟩ := State.ptpReceive_cases hears
    obtain ⟨request, response, followUp⟩ := exchange loc
    refine ⟨fun type => ⟨_, act_run _ run, ?_⟩, fun type ours sent => ⟨_, act_run _ run, ?_⟩,
      fun type ours t2 stamped => ⟨_, act_run _ run, ?_⟩⟩ <;> dsimp only
    · rw [State.fin_fport, State.receivePtp_heard hears (decide_eq_true type), request type]
      exact State.pdAnswer_spec hears.1
    · rw [State.fin_pdelay, State.receivePtp_heard hears (decide_eq_true type), response type]
      exact State.pdResp_spec ours sent
    · rw [State.fin_pdelay, State.receivePtp_heard hears (decide_eq_true type), followUp type]
      exact State.pdFollow_spec ours stamped
  · have same : (s.pdDue p d).pdelay p d = s.pdelay p d := State.pdelay_of_time (by rw [State.pdDue_frame]) p d
    obtain ⟨-, fails, idle, invalid⟩ := (s.pdDue p d).pdFail_spec p d
    rw [same] at fails invalid
    dsimp only
    rw [State.fin_pdelay, State.pdTimeout, if_pos busy]
    exact ⟨fails, idle, invalid⟩

end Sys2Proof.Machine
end

section
/-!
PROOFS. PTP messages are measured and handed on, and domains are lost (R257, R259, R260, R262): O32.
-/

namespace Sys2Proof.Machine

/-! ### A new source of the time bases leaves the domains (R264) -/

/-- Time bases and registers have changed, and interrupt bits of the TIME block are set but not cleared. -/
structure State.Resourced (s t : State) : Prop where
  frame : t = { s with time := { s.time with tbs := t.time.tbs }, regs := t.regs, rwc := t.rwc }
  rb : ∀ i, s.rb A.TIME_INT_STATUS i = true → t.rb A.TIME_INT_STATUS i = true

theorem State.Resourced.trans {s t u : State} (first : s.Resourced t) (second : t.Resourced u) : s.Resourced u := by
  obtain ⟨frame, rb⟩ := first
  obtain ⟨frame', rb'⟩ := second
  refine ⟨?_, fun i h => rb' i (rb i h)⟩
  rw [frame] at frame'
  exact frame'

section
variable (s : State)

theorem State.resourced_setTb (k : Nat) (t : TimeBase) : s.Resourced (s.setTb k t) := ⟨rfl, fun _ h => h⟩

theorem State.resourced_setInt {i : Nat} (hi : i < 32) : s.Resourced (s.setInt A.TIME_INT_STATUS i) :=
  ⟨rfl, fun _ h => s.setInt_rb _ hi h⟩

theorem State.resourced_setRn {k off : Nat} (inc : off = 0x18 ∨ off = 0x1C) (_base : k < 4) (n : Nat) :
    s.Resourced (s.setRn (tbReg k off) n) := by
  refine ⟨rfl, fun i h => ?_⟩
  rw [State.rb_eq, State.setRn_eq, State.setReg_reg_other _ _ (by unfold tbReg A.TIME_INT_STATUS; omega)]
  exact h

theorem State.resourced_tbIncUse (k : Nat) : s.Resourced (s.tbIncUse k) := by
  unfold State.tbIncUse
  extract_lets t inc
  split
  · exact ⟨rfl, fun _ h => h⟩
  · exact s.resourced_setTb _ _

theorem State.resourced_resourceTb {k : Nat} (base : k < 4) : s.Resourced (s.resourceTb k) := by
  unfold State.resourceTb
  extract_lets t src s2 s1
  refine State.Resourced.trans ?_ (State.resourced_tbIncUse s1 k)
  have switched : s.Resourced s2 := (s.resourced_setTb k _).trans (State.resourced_setInt _ (by decide))
  unfold s1
  split
  · exact ⟨rfl, fun _ h => h⟩
  · split
    · exact ((switched.trans (s2.resourced_setTb k _)).trans (State.resourced_setRn _ (.inl rfl) base _)).trans
        (State.resourced_setRn _ (.inr rfl) base _)
    · exact switched

theorem State.resourced_resource : s.Resourced s.resource :=
  ((s.resourced_resourceTb (by decide)).trans (State.resourced_resourceTb _ (by decide))).trans
    (State.resourced_resourceTb _ (by decide))

end

/-! ### Domains (R262, R263) -/

theorem State.dom_of_time {s t : State} (dom0 : t.time.dom0 = s.time.dom0) (dom1 : t.time.dom1 = s.time.dom1) (d : Nat) :
    t.dom d = s.dom d := by rw [State.dom, State.dom, dom0, dom1]

section
variable (s : State) (d : Nat)

theorem State.setDom_same (x : Domain) : (s.setDom d x).dom d = x := by
  unfold State.setDom State.dom
  dsimp only
  split <;> rfl

theorem State.domMove_dom (x : Domain) (mark : Bool) : (s.domMove d x mark).dom d = x := by
  unfold State.domMove
  have kept (a : State) : a.resource.dom d = a.dom d := by
    have frame := a.resourced_resource.frame
    exact State.dom_of_time (by rw [frame]) (by rw [frame]) d
  rw [kept]
  split <;> exact s.setDom_same d x

/-- What a Sync measures stays through the state machine: its path, its port and its time. -/
def Domain.Measured (x : Domain) (p : Int) (port at_ : Nat) : Prop := x.last = p ∧ x.inPort = port ∧ x.lastSync = at_

theorem State.domCount_measured {x : Domain} {q : Int} {port at_ : Nat} (measured : x.Measured q port at_) (p : Int) :
    ((s.domCount d x p).dom d).Measured q port at_ := by
  unfold State.domCount
  extract_lets n sum mean y
  split
  · rw [State.setDom_same]; exact measured
  · split
    · split
      · rw [State.setDom_same]; exact measured
      · rw [State.domMove_dom]; exact measured
    · split
      · rw [State.domMove_dom]; exact measured
      · rw [State.setDom_same]; exact measured
    · rw [State.setDom_same]; exact measured
    · rw [State.setDom_same]; exact measured

theorem State.domSync_measured {d : Nat} (enabled : (s.dom d).state ≠ .disabled) (port : Nat) (p : Int) :
    ((s.domSync d port p).dom d).Measured p port s.mgt := by
  unfold State.domSync
  extract_lets x0 x step fresh
  have taken : x.Measured p port s.mgt := ⟨rfl, rfl, rfl⟩
  have anew : fresh.Measured p port s.mgt := ⟨rfl, rfl, rfl⟩
  split
  · next disabled => exact absurd disabled enabled
  · have anew' : Domain.Measured { fresh with state := .unqualified } p port s.mgt := anew
    exact (s.domMove d { fresh with state := .unqualified } false).domCount_measured d anew' p
  · split
    · rw [State.setDom_same]; exact anew
    · exact s.domCount_measured d taken p
  · split
    · have moved := s.domMove_dom d { fresh with
        state := .disqualified, disqLeft := 8, disqCnt := wrapAdd x.disqCnt 1 32 } true
      have same (a : State) (e : Event) : (a.raise e).dom d = a.dom d := rfl
      rw [State.warn, same, moved]
      exact anew
    · exact s.domCount_measured d taken p
  · split
    · rw [State.setDom_same]; exact anew
    · exact s.domCount_measured d taken p

/-! ### What MC1 is handed (R257) -/

theorem State.toMc1_runs (runs : s.sys.core1 ≠ .restarting) (b : List Byte) (stamp path : Int) :
    ∃ y, (s.toMc1 d b stamp path).time.toMc1 = s.time.toMc1 ++ [y] ∧ y.msg = ptpMsg b ∧ y.state = (s.dom d).state := by
  unfold State.toMc1
  dsimp only
  rw [if_neg runs]
  exact ⟨_, rfl, rfl, rfl⟩

/-- A delivery, and one that is lost, leave the domain but for its count. -/
theorem State.toMc1_dom (b : List Byte) (stamp path : Int) :
    ∃ e2e, (s.toMc1 d b stamp path).dom d = { s.dom d with e2e := e2e } := by
  unfold State.toMc1
  dsimp only
  split
  · exact ⟨_, s.setDom_same d _⟩
  · exact ⟨_, rfl⟩

/-- A Sync that comes in is measured with the delay of its link, and marked where the domain is not QUALIFIED. -/
theorem State.syncIn_spec {d : Nat} (enabled : (s.dom d).state ≠ .disabled) (p : Nat) (b : List Byte) :
    let x := (s.syncIn p d b).1.dom d
    x.Measured (linkSum b + s.linkDelay p d) p s.mgt ∧ x.suspect = decide (x.state ≠ .qualified) := by
  intro x
  have measured := (s.ingress p d).2.domSync_measured (d := d) enabled p (linkSum b + s.linkDelay p d)
  obtain ⟨e2e, handed⟩ := (((s.ingress p d).2.domSync d p (linkSum b + s.linkDelay p d)).setDom d
    { ((s.ingress p d).2.domSync d p (linkSum b + s.linkDelay p d)).dom d with
      suspect := decide ((((s.ingress p d).2.domSync d p (linkSum b + s.linkDelay p d)).dom d).state ≠ .qualified) }).toMc1_dom
    d (reCrc (setBytes b 8 (beBytes (unsext (linkSum b + s.linkDelay p d) 64) 8))) (tenths (s.ingress p d).1)
    (linkSum b + s.linkDelay p d)
  rw [State.setDom_same] at handed
  have eq : x = _ := handed
  rw [eq]
  exact ⟨measured, rfl⟩

end

theorem State.fin_dom (s : State) (d : Nat) : s.fin.dom d = s.dom d :=
  State.dom_of_time (by rw [State.fin_time]) (by rw [State.fin_time]) d

theorem syncsAreMeasured : Claims.SyncsAreMeasured := by
  intro s p b d run _ hears
  obtain ⟨sync, handed, dropped, -⟩ := State.ptpReceive_cases hears
  refine ⟨fun type enabled => ⟨_, act_run _ run, ?_⟩, fun type runs => ⟨_, act_run _ run, ?_⟩,
    fun type runs => ⟨_, act_run _ run, ?_⟩, fun type => ⟨_, act_run _ run, ?_⟩⟩ <;> dsimp only
  · obtain ⟨⟨last, port, at_⟩, suspect⟩ := s.syncIn_spec enabled p b
    have same : (s.ptpReceive p b).dom d = (s.syncIn p d b).1.dom d := by
      have frame := sync type
      unfold State.Heard at frame
      exact State.dom_of_time (by rw [frame]) (by rw [frame]) d
    rw [State.fin_dom, State.receivePtp_heard hears (decide_eq_true type), same]
    exact ⟨at_, port, last, suspect⟩
  · have frame := handed (.inl type)
    unfold State.Heard at frame
    rw [State.fin_time, State.receivePtp_heard hears (decide_eq_true type), frame]
    exact s.toMc1_runs d runs b 0 0
  · have frame := handed (.inr type)
    unfold State.Heard at frame
    rw [State.fin_time, State.receivePtp_heard hears (decide_eq_true (by omega)), frame]
    exact s.toMc1_runs d runs b 0 0
  · obtain ⟨-, -, -, -, -, -, accept, -⟩ := id hears
    have domain : s.ptpDomain b = some d := by
      unfold State.ptpAccept at accept
      split at accept
      · next found =>
        split at accept
        · rw [found, Option.some.inj accept]
        · cases accept
      · cases accept
    have counted : s.ptpDrop b = s.setDom d { s.dom d with e2e := satAdd (s.dom d).e2e 1 16 } := by
      unfold State.ptpDrop
      rw [domain]
      rfl
    rw [State.fin_dom, State.fin_time, State.receivePtp_heard hears (by simpa using type), dropped type, counted,
      State.setDom_same]
    refine ⟨rfl, ?_⟩
    unfold State.setDom
    dsimp only
    split <;> rfl

theorem ptpEntriesAndDomainsExpire : Claims.PtpEntriesAndDomainsExpire := by
  intro s run
  refine ⟨fun e r waits => ⟨_, act_run _ run, ?_⟩, fun d domain enabled found => ⟨_, act_run _ run, ?_⟩⟩ <;> dsimp only
  · have evicted : s.pendEvict = (s.cycleUp (e.at_ + 400000000)).dropPend e := by
      unfold State.pendEvict
      rw [waits]
    have port : ((s.cycleUp (e.at_ + 400000000)).dropPend e).fport e.port = { s.fport e.port with
        timeQ := e.handTo (s.fport e.port).timeQ } := State.fport_setFport_same _ e.port _
    have rest : ((s.cycleUp (e.at_ + 400000000)).dropPend e).time.pend = s.time.pend.erase e := rfl
    rw [State.fin_time, State.fin_now, State.fin_fport, evicted, port, rest, waits, List.erase_cons_head]
    exact ⟨rfl, Nat.le_max_right _ _, rfl⟩
  · rw [State.fin_dom, State.fin_rb, State.domLost, if_neg (not_or.2 ⟨enabled, found⟩), State.domMove_dom]
    refine ⟨rfl, rfl, ?_⟩
    unfold State.domMove
    dsimp only
    rw [if_pos rfl]
    exact (State.resourced_resource _).rb d (State.setInt_rb_same _ _ (by omega))

/-- Settles O32: a Sync is measured by `State.syncIn_spec`, what MC1 takes by `State.toMc1_runs`, and the loss of a domain
by `State.domMove_dom`. -/
theorem syncsAndDomains : Obligations.SyncsAndDomains := ⟨syncsAreMeasured, ptpEntriesAndDomainsExpire⟩

end Sys2Proof.Machine
end
